-- ==== Sys2Proof/Word.lean ====
section
/-! DEFINITION. The byte and the byte string of the model (R7, R36). -/
namespace Sys2Proof

/-- One byte. -/
abbrev Byte := BitVec 8

/-- A byte string, first byte first. -/
abbrev Bytes := List Byte

end Sys2Proof
end

