-- ==== Sys2Proof/Syntax.lean ====
section
/-! DEFINITION. The commands: one constructor per row of spec/opcode_table.json. A command is a step that comes about at the
block: an access of its dictionary, an event on a lane, a pin or a clock, the end of a period, or a step an engine of
the part takes. Operands name the instance and carry what the outside world supplies (a value written, the bytes of a frame, the
moment an event happens). -/
namespace Sys2Proof

/-- The path an access arrives on; it fixes the role (R45). -/
inductive Path where
  | host | oob | field | cluster
  deriving DecidableEq, Repr

/-- A write of one object: the path, the type code and length given, and the value (R36). -/
structure Wr where
  path : Path
  ty : Nat
  len : Nat
  value : Nat
  deriving DecidableEq, Repr

/-- The blocks that hold a CAUSE register: pair n, carrier n, table 4q+t, buffer block q, calendar s (R159, R207, R262, R342,
R365). -/
inductive CauseBlock where
  | pair (n : Nat) | carrier (n : Nat) | table (k : Nat) | buffer (q : Nat) | calendar (s : Nat)
  deriving DecidableEq, Repr

/-- What a table-DMA descriptor names (R286): HOST_ADDR, COUNT, TABLE, FIRST, SET_AN. -/
structure DmaDesc where
  addr : Nat
  count : Nat
  table : Nat
  first : Nat
  setAn : Bool
  deriving DecidableEq, Repr

/-- The client frames in the bits of one carrier frame (R202, R446): how many begin and how many end in it, and the octets of each; the
bits up to the end of the frame that was open before, and those of the frame still open at the end. -/
structure ClientUse where
  begins : Nat
  ends : Nat
  octetsIn : Nat
  octetsOut : Nat
  head : Nat
  tail : Nat
  deriving DecidableEq, Repr

/-- What a client's decoded stream brings (R174): a 64b/66b block, control or data, of eight bytes; an alignment marker; a recovered bit of
a constant-bit-rate client. -/
inductive ClientItem where
  | block (control : Bool) (b : List Byte)
  | marker
  | bit (v : Bool)
  deriving DecidableEq, Repr

/-- The commands. -/
inductive Instr where
  /-- R36: A write to a dictionary object that has no row of its own is checked for role, type, range and state, then takes effect atomically or is refused with an abort. -/
  | dictionaryWrite (i : Nat) (j : Nat) (t : Nat) (w : Wr)
  /-- R51: The BOOT write of PROT_SEAL ends the BOOT role, freezes 0x1300-0x13FF and raises E2. -/
  | protSeal (w : Wr)
  /-- R54: A HOST write to the BAR0 aperture is staged and commits the object when its last byte arrives, or is discarded with TYPE_MISMATCH. -/
  | bar0Write (off : Nat) (len : Nat) (v : Nat) (t : Nat)
  /-- R54: A BAR0 read that includes byte 0, or that finds no matching capture, captures the whole value of its entry. -/
  | bar0ReadCapture (off : Nat) (len : Nat) (t : Nat)
  /-- R57: A HOST access to BAR2 is allowed if the protection map grants the right on the governing index; otherwise it is denied, counted in HOST_DENIED and raises E86. -/
  | bar2Access (o : Nat) (len : Nat) (write : Bool) (v : Nat)
  /-- R58: The host advances its own index of a punt, inject or table-DMA ring, which acts as the doorbell. -/
  | ringDoorbell (r : Nat) (v : Nat)
  /-- R58: CTRL.FLUSH of an inject ring discards the unconsumed descriptors and clears itself. -/
  | ringFlush (p : Nat)
  /-- R59: The device writes a punted frame into the next posted punt buffer, sets DONE and advances PROD, with write-back and an optional interrupt. -/
  | punt (q : Nat) (p : Nat) (addr : Nat) (size : Nat)
  /-- R60: The device consumes an inject descriptor and either rejects it with E88 or passes the frame to the INJECT_HOST requester. -/
  | injectDescriptor (p : Nat) (len : Nat) (port : Nat) (cls : Nat) (flags : Nat) (chan : Nat) (data : List Byte) (t : Nat)
  /-- R61: Clearing a vector mask or the Function Mask sends the messages recorded in the pending-bit array. -/
  | msixMaskClear (v : Option Nat)
  /-- R61: Setting MSI-X Enable with the Function Mask clear sends one message for each routed group that has a pending event. -/
  | msixEnable (on : Bool) (fmask : Bool)
  /-- R66: A DAP message received whole is checked for version, MAC, session and sequence, then acted on or discarded. -/
  | dapMessage (field : Bool) (peer : Nat) (m : List Byte) (t : Nat)
  /-- R68: The DAP READ operation returns the abort code and value of one object. -/
  | read (field : Bool) (peer : Nat) (sid : Nat) (seq : Nat) (i : Nat) (j : Nat) (t : Nat)
  /-- R68: The DAP WRITE operation writes one object and returns its abort code. -/
  | write (field : Bool) (peer : Nat) (sid : Nat) (seq : Nat) (i : Nat) (j : Nat) (ty : Nat) (len : Nat) (v : Nat) (t : Nat)
  /-- R69: The DAP READ_BLOCK operation reads successive subindices until COUNT or the message size is reached. -/
  | readBlock (field : Bool) (peer : Nat) (sid : Nat) (seq : Nat) (i : Nat) (j : Nat) (n : Nat) (t : Nat)
  /-- R69: The DAP WRITE_BLOCK operation writes successive subindices and stops at the first refused entry. -/
  | writeBlock (field : Bool) (peer : Nat) (sid : Nat) (seq : Nat) (i : Nat) (j : Nat) (n : Nat) (values : List Byte) (t : Nat)
  /-- R68: The DAP EXEC operation acts on an EXEC object and returns the abort code and result. -/
  | exec (field : Bool) (peer : Nat) (sid : Nat) (seq : Nat) (i : Nat) (j : Nat) (ty : Nat) (len : Nat) (v : Nat) (t : Nat)
  /-- R71: A client ABORT cancels a segmented message in reassembly, or the remaining segments of a response. -/
  | abort (field : Bool) (peer : Nat) (sid : Nat) (seq : Nat) (q : Nat) (t : Nat)
  /-- R70: An EXEC not completed within 10 ms is answered with ABORT 0x0000 and FLAGS.PENDING set. -/
  | execPendingReply (field : Bool) (sid : Nat) (seq : Nat)
  /-- R63: SESSION_OPEN under the base key allocates a session ID and device nonce and derives the session key, or is refused with BUSY. -/
  | sessionOpen (field : Bool) (peer : Nat) (seq : Nat) (nonce : Nat) (t : Nat)
  /-- R64: SESSION_CLOSE closes the named DAP session. -/
  | sessionClose (field : Bool) (peer : Nat) (sid : Nat) (seq : Nat) (id : Nat) (t : Nat)
  /-- R64: A session with no authenticated request for SESSION_IDLE_TIME closes. -/
  | sessionIdleTimeout (id : Nat)
  /-- R467: At the end of a holdoff one merged NOTIFY is sent for raises that fell within it, and NOTIFY_MERGED is counted. -/
  | notifyHoldoffEnd (id : Nat) (e : Nat)
  /-- R73: A datagram on the management port is answered as ARP, ICMP echo or DAP, and ignored otherwise. -/
  | udpDatagram (kind : Nat) (dst : Nat) (port : Nat) (peer : Nat) (data : List Byte) (t : Nat)
  /-- R77: The management port link changes state and raises E85. -/
  | mgmtLinkChange
  /-- R75: A received CAN FD segment is added to the reassembly, or it discards the reassembly or starts a new one. -/
  | canSegment (ident : Nat) (data : List Byte) (t : Nat)
  /-- R75: More than 10 ms between segments discards the reassembly without an answer. -/
  | canReassemblyTimeout
  /-- R74: The CAN FD port enters error passive and raises E84. -/
  | errorPassive
  /-- R74: The CAN FD port goes bus-off, raises E83 and recovers by the ISO 11898-1 procedure. -/
  | busOff
  /-- R82: A write of BEHAVIOUR_LEVEL is accepted only while every pair is OFF, and only if the strap allows it. -/
  | behaviourLevel (w : Wr)
  /-- R83: A write of PORT_COMPAT selects level 1 for a pair while its PORT_MODE is OFF. -/
  | portCompat (n : Nat) (w : Wr)
  /-- R92: A PORT_WIDTH write checks the anchor and absorption, and returns absorbed pairs' objects to their defaults. -/
  | portWidth (n : Nat) (w : Wr)
  /-- R93: A write of PORT_MODE from OFF runs the six formation checks, takes the lanes, wakes needed domains and starts TRAINING. -/
  | portMode (n : Nat) (w : Wr)
  /-- R94: A write of OFF releases the lanes at the end of the frame in transit, idles the transmitters and discards queued frames. -/
  | portModeOff (n : Nat) (w : Wr)
  /-- R97: Signal detect held for 1 µs moves a lane from SIGNAL_WAIT to CDR_LOCK. -/
  | signalDetect (l : Nat)
  /-- R97: Clock recovery locks and the lane enters ADAPT, or it falls back to SIGNAL_WAIT after 20 µs. -/
  | cdrLock (l : Nat)
  /-- R97: Clock recovery not locked within 20 µs returns the lane to SIGNAL_WAIT. -/
  | cdrLockTimeout (l : Nat)
  /-- R97: Receiver adaptation or link training completes and the lane becomes LOCKED. -/
  | adaptComplete (l : Nat)
  /-- R99: A lane loses signal detect or CDR lock, restarts at SIGNAL_WAIT and puts an UP side in DEFECT. -/
  | laneLockLost (l : Nat)
  /-- R100: The side's first lock step locks on block, alignment marker or codeword, and decides the receive polarity. -/
  | firstLock (l : Nat) (want : List Byte) (got : List Byte)
  /-- R104: A side's lanes are ordered and deskewed within 180 ns, RX_LANE_MAP is set and the side reaches UP. -/
  | sideAligned (side : Nat) (nums : List (List Nat)) (skew : List Nat)
  /-- R99: Local or Remote Fault ordered sets or hi_ber put an Ethernet side in DEFECT. -/
  | linkFaultReceived (side : Nat) (f : Nat)
  /-- R106: A carrier lane's codeword hunt locks after 3 correctable codewords, or loses lock after 8 uncorrectable ones. -/
  | codewordLock (l : Nat) (syms : List Nat) (ok : Bool)
  /-- R108: A write of PRBS_PATTERN starts or stops the lane's generator. -/
  | prbsPattern (l : Nat) (w : Wr)
  /-- R108: A write of PRBS_CHECK starts or stops the lane's checker. -/
  | prbsCheck (l : Nat) (w : Wr)
  /-- R110: The PRBS checker locks after 64 error-free bits, or loses lock and re-seeds after 512 errors in 2,048 bits. -/
  | prbsLock (l : Nat) (bits : List Bool)
  /-- R110: PRBS_CLEAR zeroes PRBS_ERRORS, PRBS_BITS and EVER_LOST. -/
  | prbsClear (l : Nat) (w : Wr)
  /-- R111: PRBS_INSERT makes the generator invert k single bits spaced at least 1,024 bits apart. -/
  | prbsInsert (l : Nat) (w : Wr)
  /-- R112: Writing 1 to PORT_POWER or SYS_POWER puts that side in electrical idle after the frame in transit. -/
  | portPowerIdle (side : Nat) (w : Wr)
  /-- R113: Writing 0 to PORT_POWER or SYS_POWER sends a training burst and relocks with stored adaptation. -/
  | fastExit (side : Nat) (w : Wr)
  /-- R114: No relock within 50 µs of signal detect makes the receiver use full adaptation. -/
  | fastRelockTimeout (l : Nat)
  /-- R114: A side idle longer than IDLE_RETAIN_LIMIT discards its stored adaptation. -/
  | idleRetainExpiry (side : Nat)
  /-- R122: A frame from a system port is parsed, classified by TCAM and E-table, and enqueued, sent on the through path or dropped. -/
  | egressFrame (n : Nat) (b : List Byte) (fcsOk : Bool) (t : Nat) (flips : List (Nat × Nat))
  /-- R124: In SA fetch the E-slice binds the active AN's SA, assigns and increments the PN, or drops the frame. -/
  | egressSaFetch (k : Nat) (t : Nat) (flips : List (Nat × Nat))
  /-- R138: A frame from a line port has its SecTAG checked and is classified by TCAM and I-table to a channel, learned, punted or dropped. -/
  | ingressFrame (n : Nat) (b : List Byte) (fcsOk : Bool) (t : Nat) (flips : List (Nat × Nat))
  /-- R143: When verification completes the frame's verdict is formed, counters and N and L are updated, and the FCS is released or stomped. -/
  | verdict (k : Nat) (t : Nat)
  /-- R159: CAUSE_CLEAR clears the named sticky cause bits; a condition in the same cycle leaves the bit set and raises the event again. -/
  | causeClear (b : CauseBlock) (again : Nat) (w : Wr)
  /-- R159: A write of CAUSE_ENABLE with a 1 over a cause bit already set raises the event. -/
  | causeEnable (b : CauseBlock) (w : Wr)
  /-- R168: Each carrier frame period the mapper justifies, the E-slice encrypts the payload under the current epoch key and the striper sends it. -/
  | carrierFrameTx (n : Nat) (adj : Int) (client : List ClientItem) (use : ClientUse)
  /-- R181: A received lane word is searched for the FAW, confirms or drops candidates, and counts errored words toward M_LOSE. -/
  | laneWordRx (l : Nat) (pos : Nat) (b : List Byte) (mfi0 : Nat) (parity : Option Nat) (skew : List Nat)
  /-- R178: The overhead of a received carrier frame is decoded: pointer or JC vote, epoch key choice and demapping. -/
  | carrierFrameRx (n : Nat) (b : List Byte) (use : ClientUse)
  /-- R198: In cycle L_TAG + 6 a carrier frame's verdict is formed against tag, counter record, epoch and client. -/
  | carrierVerdict (n : Nat)
  /-- R185: A carrier lane without signal detect or transitions for 1 µs declares LOS. -/
  | losDeclare (n : Nat)
  /-- R185: Every lane with signal detect and transitions for 100 µs clears LOS. -/
  | losClear (n : Nat)
  /-- R185: OOF persisting for LOF_TIME declares LOF. -/
  | lofDeclare (n : Nat)
  /-- R185: OOF absent for LOF_TIME clears LOF. -/
  | lofClear (n : Nat)
  /-- R191: When the side reaches UP, or on 3 START cells while RUNNING, the carrier enters KEYING and proposes an epoch. -/
  | carrierStart (n : Nat)
  /-- R191: With START_ACK received twice and both keys loaded, the carrier writes EPOCH_HIGH and starts keyed frames. -/
  | carrierRunning (n : Nat)
  /-- R193: A carrier key derivation completes and loads a transmit or receive key register. -/
  | carrierKeyLoaded (n : Nat)
  /-- R193: LOAD_NEXT submits the derivations of the next transmit and receive keys. -/
  | loadNext (n : Nat) (w : Wr)
  /-- R194: SWITCH_NOW requests a changeover at the next frame boundary, or is refused with STATE if not allowed. -/
  | switchNow (n : Nat) (w : Wr)
  /-- R194: A write of SWITCH_AT_TIME enters a carrier changeover in the schedule queue. -/
  | switchAtTime (n : Nat) (w : Wr)
  /-- R192: EPOCH_HIGH_CLEAR from BOOT sets the anchor's EPOCH_HIGH to 0. -/
  | epochHighClear (n : Nat) (w : Wr)
  /-- R44: A write of ZEROISE with 0x5A45_524F starts zeroisation. -/
  | zeroise (w : Wr)
  /-- R253: ZEROISE_N held low for 1 µs with main power present starts zeroisation. -/
  | zeroiseN (low : Bool)
  /-- R254: By 40 µs every key store is cleared, VAULT_STATE reads ZEROISED, ZEROISE_COUNT rises and E49 is raised. -/
  | zeroisationComplete
  /-- R65: By 100 µs each session is sent a NOTIFY, then session and base keys are erased and sessions closed. -/
  | dapZeroiseClose
  /-- R257: ZEROISE_CLEAR with the CLEAR right begins leaving the ZEROISED state. -/
  | zeroiseClear (w : Wr)
  /-- R257: The clear loads the entry key, reseeds, draws a sealing key, empties slots and SAs, sets NORMAL and raises E50. -/
  | zeroiseClearComplete
  /-- R212: ERASE overwrites a vault slot and every cached copy and sets it EMPTY. -/
  | erase (slot : Nat) (w : Wr)
  /-- R209: A BOOT write of USAGE sets the usage of an EMPTY slot. -/
  | usage (slot : Nat) (w : Wr)
  /-- R216: DRBG_RESEED re-runs the health tests and re-instantiates the generator. -/
  | drbgReseed (ok : Bool) (w : Wr)
  /-- R216: The generator reseeds itself after 2^20 requests or 1 s. -/
  | drbgAutoReseed
  /-- R216: A failed continuous health test sets DRBG_STATE FAILED and raises E51. -/
  | drbgHealthFail
  /-- R217: A key-bus transfer of ten beats carries a key to a root cache or SA store, or is discarded on a CRC failure. -/
  | keyBusTransfer (p : Nat) (ok : Bool)
  /-- R223: A DERIVE_SA job derives a channel SA's key, salt and H from a CHANNEL_KDF slot. -/
  | deriveSa (win : Nat) (p : Path) (core : Nat)
  /-- R223: A REKEY_BATCH job derives the SA at the given key number for each DERIVED channel in a range. -/
  | rekeyBatch (win : Nat) (p : Path) (core : Nat)
  /-- R225: After other queued jobs run, the batch continues with its next SA. -/
  | rekeyBatchContinue (p : Nat)
  /-- R220: A ROOT_LOAD job fetches a slot into a planisher's root cache. -/
  | rootLoad (win : Nat) (p : Path) (core : Nat)
  /-- R215: An UNWRAP_BLOB job checks and unwraps a root-key blob into an EMPTY slot, or fails with E52. -/
  | unwrapBlob (win : Nat) (p : Path) (core : Nat)
  /-- R223: An MKA_KEYS job derives ICK and KEK into an MKA context. -/
  | mkaKeys (win : Nat) (p : Path) (core : Nat)
  /-- R223: An MKA_ICV job computes or verifies an MKPDU ICV. -/
  | mkaIcv (win : Nat) (p : Path) (core : Nat)
  /-- R223: A RANDOM_SAK job draws a fresh SAK into a context and wraps it under the KEK. -/
  | randomSak (win : Nat) (p : Path) (core : Nat)
  /-- R223: An UNWRAP_SAK job unwraps a SAK into a context. -/
  | unwrapSak (win : Nat) (p : Path) (core : Nat)
  /-- R223: A HASHKEY job loads a context SAK into an SA with H and salt. -/
  | hashkey (win : Nat) (p : Path) (core : Nat)
  /-- R252: A TEST_LOAD job loads a fixed test key into an SA. -/
  | testLoad (win : Nat) (p : Path) (core : Nat)
  /-- R225: A planisher takes the job at its queue head and starts executing it. -/
  | jobStart (p : Nat)
  /-- R224: A job ends with its result, its target SA becomes READY or EMPTY, and the planisher event is raised. -/
  | jobComplete (p : Nat) (mem : Option (List Byte))
  /-- R226: CANCEL removes a QUEUED job, or stops a running REKEY_BATCH after its current SA. -/
  | cancel (win : Nat) (w : Wr)
  /-- R233: The SA-store CONFIGURE operation writes the fields of an EMPTY SA. -/
  | configure (win : Nat) (p : Path)
  /-- R233: The SA-store READ operation copies an SA view to VIEW0-VIEW4. -/
  | saRead (win : Nat) (p : Path)
  /-- R233: SET_THRESHOLD writes PN_THRESHOLD and re-arms it at level 2. -/
  | setThreshold (win : Nat) (p : Path)
  /-- R233: SET_PN sets NEXT_PN of a READY TX SA, or raises L and N of an RX SA. -/
  | setPn (win : Nat) (p : Path)
  /-- R233: The SA-store ERASE operation erases key, H and salt and sets the SA EMPTY. -/
  | saErase (win : Nat) (p : Path)
  /-- R234: NOTE_POP moves the oldest SA-store notification to NOTE. -/
  | notePop (q : Nat) (w : Wr)
  /-- R243: SCHED_SUBMIT enters a scheduled changeover in the schedule queue, replacing any earlier one of the channel. -/
  | schedSubmit (q : Nat) (w : Wr)
  /-- R234: SCHED_CANCEL removes a channel's scheduled changeover. -/
  | schedCancel (q : Nat) (w : Wr)
  /-- R242: The changeover port serves one trigger per cycle, checks it and atomically switches ACTIVE_AN, activating and retiring SAs. -/
  | changeover (q : Nat)
  /-- R231: A RETIRING TX SA becomes EMPTY once no frame bound to it remains in the E-slice. -/
  | txRetire (i : Nat)
  /-- R246: A RETIRING RX SA becomes EMPTY with a RETIRED notification once RETIRE_DELAY has passed. -/
  | retireDelayExpiry (i : Nat)
  /-- R248: CTX_ERASE erases the selected MKA context. -/
  | ctxErase (w : Wr)
  /-- R249: Setting ENABLE on an MKA binding claims its pair and starts Dymbiloth's MKA for it. -/
  | mkaBindingEnable (b : Nat) (w : Wr)
  /-- R284: The window LOOKUP operation searches a table as the data path does, without setting ACTIVITY. -/
  | lookup (n : Nat) (p : Path)
  /-- R277: The window INSERT operation places a new exact-match entry by cuckoo insertion or in the stash. -/
  | insert (n : Nat) (p : Path)
  /-- R284: The window UPDATE operation replaces an entry, TCAM entry or channel record. -/
  | update (n : Nat) (p : Path)
  /-- R284: The window DELETE operation invalidates an entry and starts the stash drain. -/
  | delete (n : Nat) (p : Path)
  /-- R284: The window READ_SLOT operation copies a slot, entry or record. -/
  | readSlot (n : Nat) (p : Path)
  /-- R284: The window READ_ENTRY operation looks up an entry, returns its control word and may clear ACTIVITY. -/
  | readEntry (n : Nat) (p : Path) (hit : Bool)
  /-- R279: While idle, the engine moves a stash entry into a freed bucket slot. -/
  | stashDrain (k : Nat)
  /-- R280: MIGRATE puts the new seeds in force and starts the migration walk. -/
  | migrate (k : Nat) (w : Wr)
  /-- R281: The migration re-inserts one old-EPOCH entry under the new seeds, and at the end reports the new seeds or STALLED. -/
  | migrationStep (k : Nat)
  /-- R289: LOCK claims or renews a table's lock with a lease once the engine's current operation ends. -/
  | lock (k : Nat) (w : Wr) (t : Nat)
  /-- R290: LOCK_RELEASE releases the lock held by the caller's role. -/
  | lockRelease (k : Nat) (w : Wr)
  /-- R290: At lease expiry the lock is revoked, queued descriptors end NOT_LOCKED and paused activities resume. -/
  | leaseExpiry (k : Nat)
  /-- R286: The table-DMA READ_BUCKETS operation copies bucket images to the host. -/
  | readBuckets (t : Nat) (g : DmaDesc) (img : Option (List Byte))
  /-- R287: The table-DMA WRITE_BUCKETS operation writes checked bucket images under the lock. -/
  | writeBuckets (t : Nat) (g : DmaDesc) (img : Option (List Byte))
  /-- R286: The table-DMA READ_STASH operation copies stash slot images. -/
  | readStash (t : Nat) (g : DmaDesc) (img : Option (List Byte))
  /-- R287: The table-DMA WRITE_STASH operation writes stash slots under the lock. -/
  | writeStash (t : Nat) (g : DmaDesc) (img : Option (List Byte))
  /-- R286: The table-DMA READ_ENTRIES operation copies TCAM entries. -/
  | readEntries (t : Nat) (g : DmaDesc) (img : Option (List Byte))
  /-- R287: The table-DMA WRITE_ENTRIES operation writes checked TCAM entries under the lock. -/
  | writeEntries (t : Nat) (g : DmaDesc) (img : Option (List Byte))
  /-- R286: The table-DMA READ_RECORDS operation copies channel records. -/
  | readRecords (t : Nat) (g : DmaDesc) (img : Option (List Byte))
  /-- R287: The table-DMA WRITE_RECORDS operation writes channel records as window UPDATEs under the lock. -/
  | writeRecords (t : Nat) (g : DmaDesc) (img : Option (List Byte))
  /-- R300: The table-DMA LOAD_PLUMB operation loads plumb-list entries. -/
  | loadPlumb (t : Nat) (g : DmaDesc) (img : Option (List Byte))
  /-- R300: PLUMB_SET writes one plumb-list entry. -/
  | plumbSet (k : Nat) (w : Wr)
  /-- R301: At the end of each plumb pass clean blocks are compared with the list and mismatches declared. -/
  | plumbPass (k : Nat)
  /-- R293: LEARN_POP moves the oldest learning notification to LEARN_NOTE. -/
  | learnPop (q : Nat) (w : Wr)
  /-- R297: The ager visits a slot and clears ACTIVITY or removes the idle entry. -/
  | agerVisit (k : Nat) (loc : Nat) (hit : Bool) (flips : List (Nat × Nat))
  /-- R318: The queue-window READ operation copies a queue, node or policer record. -/
  | queueWindowRead (n : Nat) (t : Nat) (p : Path)
  /-- R318: The queue-window WRITE operation writes a record; a shaper or policer change resets its levels. -/
  | queueWindowWrite (n : Nat) (t : Nat) (p : Path)
  /-- R318: The queue-window STATUS operation reports a queue's occupancy, delay and deficit. -/
  | queueWindowStatus (n : Nat) (t : Nat) (p : Path)
  /-- R318: FLUSH discards every frame of a queue with UNCLASSIFIED. -/
  | flush (n : Nat) (t : Nat) (p : Path)
  /-- R306: A write of POOL_OWNER claims or releases a buffer pool. -/
  | poolOwner (q : Nat) (p : Nat) (w : Wr)
  /-- R310: A spilling queue reads its oldest spilled page back into SRAM, dropping frames on an uncorrectable error. -/
  | readback (x : Nat) (ecc : Nat)
  /-- R323: The port scheduler selects a node by tier and DWRR and a class by strict priority or DWRR, and dequeues one frame. -/
  | schedulerSelect (side : Nat) (t : Nat) (ecc : Nat)
  /-- R326: At a frame's end its charged length is subtracted from deficits and shaper levels. -/
  | frameEndCharge (side : Nat) (t : Nat)
  /-- R313: A stack leaving ON or failing while it holds pages loses them and drops their frames with MEMORY_ERROR. -/
  | stackFailed (k : Nat)
  /-- R333: CONFIG_CHANGE submits the administrative gate list and enters its takeover in the schedule queue. -/
  | configChange (g : Nat) (w : Wr)
  /-- R333: CONFIG_CANCEL withdraws a submitted gate list and its queue entry. -/
  | configCancel (g : Nat) (w : Wr)
  /-- R334: At its time the submitted list becomes operational, cutting or extending the old cycle. -/
  | gateTakeover (g : Nat) (t : Nat)
  /-- R332: A gate list entry's interval ends and the next entry's gate states apply. -/
  | gateTransition (g : Nat) (t : Nat)
  /-- R338: A write of GATE_ENABLE opens every gate or applies the operational list. -/
  | gateEnable (g : Nat) (t : Nat) (w : Wr)
  /-- R340: A sampler pass begins and writes its marker record. -/
  | samplePassStart (q : Nat) (t : Nat) (ok : Bool)
  /-- R341: The sampler visits a queue and writes its record, or counts it lost. -/
  | sampleVisit (q : Nat) (t : Nat) (ok : Bool)
  /-- R341: A write of SAMPLE_SIZE restarts a stopped sampler. -/
  | sampleSize (q : Nat) (w : Wr) (t : Nat)
  /-- R346: The calendar visits a slot, carrying a beat of its owner or offering it to the background requesters. -/
  | slotVisit (k : Nat) (t : Nat)
  /-- R355: SWAP requests a bank swap at the next wrap. -/
  | swap (k : Nat) (w : Wr)
  /-- R355: At the wrap the inactive bank becomes active, or the swap is refused with RANGE. -/
  | swapAtWrap (k : Nat)
  /-- R356: HOT_EDIT changes one slot of the active bank, taking effect at the slot's next visit. -/
  | hotEdit (k : Nat) (w : Wr)
  /-- R363: A write of BG_BASE or PRIO_CEIL changes requester bases and levels when it reaches the slice. -/
  | bgBase (k : Nat) (ceil : Bool) (w : Wr)
  /-- R364: A requester's wait passing BG_WAIT_LIMIT sets cause BG_WAIT. -/
  | bgWait (k : Nat) (r : Nat)
  /-- R351: BG_WAIT_CLEAR zeroes BG_WAIT_MAX0-4. -/
  | bgWaitClear (k : Nat) (w : Wr)
  /-- R368: At each time-clock tick INCREMENT is added to the count and pending steps apply. -/
  | timeTick
  /-- R368: A write of INCREMENT changes the time rate from the next tick. -/
  | increment (w : Wr)
  /-- R369: STEP requests a signed move of TIME, checked for the STEP right, range and JUMP_LIMIT. -/
  | step (w : Wr)
  /-- R370: TIME_SET sets TIME as a step of argument minus TIME, always accepted while TIME_VALID is 0. -/
  | timeSet (w : Wr)
  /-- R374: A schedule-queue entry whose target is reached is handed to its block, or counted late. -/
  | scheduleFire
  /-- R375: A block fires a handed action in its own cycle at the target: a changeover, carrier switch or gate takeover. -/
  | scheduledAction (t : Nat)
  /-- R378: TS_POP moves the oldest timestamp entry to TS_ENTRY. -/
  | tsPop (side : Nat) (w : Wr)
  /-- R385: A write of a comparator's FUNCTION claims or releases it for PPS, PERIODIC or EVENT_AT_TIME. -/
  | function (k : Nat) (w : Wr)
  /-- R386: A PPS or PERIODIC comparator drives its output high at an instant of its series, or low WIDTH later. -/
  | pulseEdge (k : Nat)
  /-- R387: An EVENT_AT_TIME comparator raises its event at TARGET and releases itself. -/
  | eventAtTime (k : Nat)
  /-- R392: A selected PPS_IN edge is timestamped into PPS_IN_TIME and raises E34. -/
  | ppsInEdge (falling : Bool)
  /-- R392: No selected PPS_IN edge for 1.5 s raises E35 once. -/
  | ppsInLost
  /-- R393: After 10,000,000 CLK10M_IN cycles CLK10M_OFFSET is written. -/
  | clk10mMeasurement
  /-- R393: No CLK10M_IN edge for 1 µs discards the measurement and raises E36. -/
  | clk10mLost
  /-- R413: Every 512 ticks the time unit sends each quadrant its epoch value, which the follower loads. -/
  | epochBoundary (t : Nat)
  /-- R402: A write of POWER_REQ is checked and starts or records a domain transition. -/
  | powerReq (k : Nat) (w : Wr)
  /-- R403: A domain reaches its requested state, counts TRANSITIONS and may raise E8. -/
  | domainTransitionDone (k : Nat) (t : Nat)
  /-- R403: A domain not ON within 100 µs is switched OFF, reads FAULT and raises E9. -/
  | domainFault (k : Nat)
  /-- R396: A PLL locks within 20 µs of starting. -/
  | pllLocked (p : Nat)
  /-- R398: A PLL loses lock, counts LOCK_LOSSES, raises E10 and stops its clock while relocking. -/
  | pllLockLoss (p : Nat)
  /-- R397: Each 1 ms window judges each REFCLK input and sets or clears its status bit, raising E11. -/
  | refclkWindow (i : Nat) (ppb : Int) (gone : Bool)
  /-- R397: Each 125 ms window judges SYSCLK against the crystal and may raise E12. -/
  | sysclkWindow (ppb : Int)
  /-- R397: SYSCLK absent for 1 µs holds the device as under SYS_RST_N. -/
  | sysclkLost
  /-- R410: Pulses beyond 15 in one crossing count are lost and set PULSE_OVERFLOW. -/
  | pulseOverflow (b : Nat)
  /-- R410: PULSE_OVERFLOW_CLEAR clears the named PULSE_OVERFLOW bits. -/
  | pulseOverflowClear (w : Wr)
  /-- R421: VDD_IO below 1.45 V for 10 µs is judged loss of main power and AON runs on backup alone. -/
  | mainPowerLost
  /-- R421: VDD_IO falling below 1.45 V switches AON to VBAT and disarms sources 0, 1, 2 and 4. -/
  | vddIoDip
  /-- R441: Main power judged restored carries out every deferred tamper response before power-on reset releases. -/
  | mainPowerRestored
  /-- R423: AON powered after both supplies were absent takes defaults, empties the vault and sets STICKY bit 5. -/
  | aonPowerUp
  /-- R425: The start of a qualified tamper condition counts an event and may make the source alarm. -/
  | tamperEvent (glitches : Nat) (levels : Nat) (t : Nat) (ticks : Nat)
  /-- R425: A level condition held without a break for WINDOW makes its source alarm. -/
  | tamperLevelAlarm (m : Nat) (ticks : Nat)
  /-- R425: A source leaves alarm after its condition is absent, or no event occurs, for WINDOW. -/
  | tamperAlarmEnd (i : Nat)
  /-- R436: On backup alone a 125 µs sample reads sources 5-12 and ZEROISE_N at its sample point. -/
  | tamperSample (levels : Nat) (zlow : Bool) (ticks : Nat)
  /-- R440: An edge on an enabled TAMP input or ZEROISE_N on backup alone starts a sample within 31 µs. -/
  | wakeOnEdge (pin : Nat) (levels : Nat) (zlow : Bool) (ticks : Nat)
  /-- R431: STICKY_CLEAR clears the named STICKY bits unless a named source is in alarm. -/
  | stickyClear (w : Wr)
  /-- R435: RESPONSE_CLEAR ends the named tamper actions unless an alarmed source holds them. -/
  | responseClear (w : Wr)
  /-- R427: FUSE_BLOW blows a source's one-time fuse within 1 ms. -/
  | fuseBlow (i : Nat) (w : Wr)
  /-- R429: LOG_POP moves the oldest unpopped tamper log entry to LOG_ENTRY. -/
  | logPop (w : Wr)
  /-- R443: VBAT is measured once per second, raising E29 on a downward crossing of 2,600 mV. -/
  | vbatMeasure (mv : Nat)
  /-- R449: Each AUDIT_PERIOD a census is compared with the law counters and mismatches are declared. -/
  | auditPass (cs : List (List Nat))
  /-- R450: A credit marker arrives at its receiver and closes the law-3 check for its interface. -/
  | creditMarker (i : Nat) (dir : Bool) (avail : Nat) (flight : Nat) (held : Nat)
  /-- R452: REPORT_POP moves the oldest mismatch report to REPORT. -/
  | reportPop (w : Wr)
  /-- R452: REBASE takes fresh baselines and clears CONDITIONS bits whose causes have ended. -/
  | rebase (w : Wr)
  /-- R452: CHECKPOINT stops new admission to a domain and drains it for up to 1 ms. -/
  | checkpoint (w : Wr)
  /-- R452: The remaining frames, cells, pages and credits are booked, CHECKPOINT_STATE reads DONE and E107 is raised. -/
  | checkpointDone
  /-- R454: RECLAIM of a fenced slice starts booking its frozen frames. -/
  | reclaim (w : Wr)
  /-- R454: The frozen frames are dropped with SLICE_FENCED, their cells freed, credits restored and E108 raised. -/
  | reclaimDone
  /-- R455: A write of a counter window's SELECT captures a whole counter block in one cycle. -/
  | select (w : Nat) (t : Nat) (x : Wr)
  /-- R456: CLEAR_MASK zeroes the named clearable live counters of the selected block. -/
  | clearMask (w : Nat) (x : Wr)
  /-- R460: A write of PC_ENABLE starts or freezes the named performance counters in one cycle. -/
  | pcEnable (b : Nat) (w : Wr)
  /-- R460: PC_CLEAR zeroes the named performance counters in one cycle. -/
  | pcClear (b : Nat) (w : Wr)
  /-- R459: PC_SATURATED_CLEAR clears the named PC_SATURATED bits. -/
  | pcSaturatedClear (b : Nat) (w : Wr)
  /-- R461: A performance counter saturates or wraps, sets PC_SATURATED and raises E110. -/
  | pcSaturation (b : Nat) (j : Nat)
  /-- R465: An event pulse reaching the keystone sets its STATUS bit, counts RAISED and is delivered by its routes. -/
  | eventRaise (e : Nat)
  /-- R464: An event group's CLEAR clears the named STATUS bits. -/
  | clear (g : Nat) (again : List Nat) (w : Wr)
  /-- R466: A MASK write of 0 over a set STATUS bit makes the event pending and delivers it. -/
  | mask (g : Nat) (w : Wr)
  /-- R470: WD_KICK from FIRM restarts a core's watchdog timeout. -/
  | wdKick (w : Wr)
  /-- R471: A core's watchdog expires, holding the core in reset, cancelling its jobs and raising E5 and E57. -/
  | wdExpiry (k : Nat) (t : Nat)
  /-- R471: Within 1 ms the expired core is released to Dymbiloth's restart entry. -/
  | coreRestart (k : Nat)
  /-- R472: WD_ESCALATE expiries within 60 s restart the whole control cluster and raise E6. -/
  | firmwareRestart
  /-- R474: FENCE fences a slice, setting MANUAL. -/
  | fence (k : Nat) (w : Wr)
  /-- R474: An internal slice fault sets its SLICE_FAULT bit and fences the slice while FENCE_AUTO is 1. -/
  | sliceInternalFault (k : Nat) (b : Nat)
  /-- R478: UNFENCE re-initialises the slice and runs a known-answer test. -/
  | unfence (k : Nat) (w : Wr)
  /-- R478: The known-answer test passes and the slice returns ON, or fails with KAT_FAIL. -/
  | unfenceComplete (k : Nat) (ok : Bool)
  /-- R473: FAULT_CLEAR clears the named SLICE_FAULT bits. -/
  | faultClear (k : Nat) (w : Wr)
  /-- R481: The ninth CRC failure of one die-to-die transfer resets the link and raises its event. -/
  | linkReset (q : Nat)
  /-- R481: The die-to-die link returns UP after retraining, releasing waiting dictionary accesses. -/
  | linkRetrained (q : Nat) (t : Nat)
  /-- R481: A waiting dictionary access is answered INTERNAL if the link is not UP within 1 ms. -/
  | linkAccessTimeout (q : Nat)
  /-- R482: A write of LOOPBACK sets a pair's near or far PCS or PMA loopback. -/
  | loopback (n : Nat) (w : Wr)
  /-- R483: TG_START starts the quadrant's frame generator stream. -/
  | tgStart (q : Nat) (w : Wr)
  /-- R483: TG_STOP stops the generator at the next frame end. -/
  | tgStop (q : Nat) (w : Wr)
  /-- R486: INJ_FIRE arms an injection point, acting now or corrupting the next opportunities. -/
  | injFire (t : Nat) (w : Wr)
  /-- R486: An armed injection corrupts a detector's opportunity, counts INJ_DONE and raises E14 at the first. -/
  | injectionOccurrence (n : Nat) (t : Nat) (b : List Byte)
  /-- R486: INJ_CANCEL withdraws a PENDING injection. -/
  | injCancel (w : Wr)
  /-- R488: A BOOT write of 1 to TEST_ZEROISE_ARMED permits one real zeroisation by injection and raises E15. -/
  | testZeroiseArmed (w : Wr)
  /-- R490: Power-on reset releases once main power is restored and SYSCLK has been present for 2 ms. -/
  | powerOnReset (compat : Bool) (src : Nat)
  /-- R491: SYS_RST_N low for 1 µs causes a keystone reset released 2 ms after the cause ends. -/
  | sysRstN (low : Bool)
  /-- R495: SOFT_RESET written with 0x5253_5430 starts a keystone reset 1 ms later. -/
  | softReset (compat : Bool) (src : Nat) (w : Wr)
  /-- R494: PERST_N resets the PCI Express endpoint alone, stopping rings and discarding unconsumed inject descriptors. -/
  | perstN (low : Bool)
  /-- R500: The endpoint's configuration space becomes ready and the link trains within 20 ms. -/
  | pcieLinkTrained (link : Nat)
  /-- R496: DOMAIN_RESET applies the effects of a passage through OFF to one ON domain without removing power. -/
  | domainReset (w : Wr)
  /-- R499: Setting DOORBELL in the boot capability starts a host boot attempt. -/
  | doorbell (addr : Nat) (len : Nat)
  /-- R498: The boot ROM finishes reading an image from flash or host and begins verification. -/
  | imageLoaded (img : Option (List Byte))
  /-- R501: The image checks are made in order; success starts the boot code, failure records BOOT_FAIL and moves to the next source. -/
  | imageVerify
  /-- R505: The boot code performs one boot-configuration record in the BOOT role, or stops the boot on a refusal. -/
  | bootConfigRecord (i : Nat) (j : Nat) (ty : Nat) (len : Nat) (v : Nat) (t : Nat)
  /-- R508: PROT_SEAL or E3 not reached within 10 s of E0 restarts the control cluster or fails with BOOT_TIMEOUT. -/
  | bootTimeout
  /-- R509: Dymbiloth checks its domains, time and bindings and raises DEVICE_READY (E3). -/
  | deviceReady (ms : Nat)
  /-- R503: SVN_ADVANCE raises MIN_SVN in antifuse. -/
  | svnAdvance (w : Wr)
  /-- R503: KEY_REVOKE revokes an image key index in antifuse. -/
  | keyRevoke (w : Wr)
  /-- R519: A write of GPIO_FUNC sets, claims or releases a GPIO pin function. -/
  | gpioFunc (i : Nat) (w : Wr)
  /-- R520: A write of PPS_PLACE moves the PPS output between PPS_OUT and GPIO 15. -/
  | ppsPlace (w : Wr)
  /-- R527: The TAP BYPASS instruction places the one-bit bypass register between TDI and TDO. -/
  | bypass (tdi : List Bool)
  /-- R527: The TAP IDCODE instruction shifts out the 32-bit IDCODE. -/
  | idcode (tdi : List Bool)
  /-- R527: The TAP SAMPLE/PRELOAD instruction samples and preloads the boundary-scan register. -/
  | samplePreload (balls : List Bool) (tdi : List Bool)
  /-- R527: The TAP EXTEST instruction drives balls from the boundary-scan register while SYS_RST_N is low. -/
  | extest (balls : List Bool) (tdi : List Bool)
  /-- R527: The TAP EXTEST_PULSE instruction performs IEEE 1149.6 pulse testing while SYS_RST_N is low. -/
  | extestPulse (balls : List Bool) (tdi : List Bool)
  /-- R527: The TAP EXTEST_TRAIN instruction performs IEEE 1149.6 train testing while SYS_RST_N is low. -/
  | extestTrain (balls : List Bool) (tdi : List Bool)
  /-- R527: The TAP CLAMP instruction holds outputs from the boundary-scan register with bypass selected, while SYS_RST_N is low. -/
  | clamp (tdi : List Bool)
  /-- R527: The TAP HIGHZ instruction places outputs in high impedance while SYS_RST_N is low. -/
  | highz (tdi : List Bool)
  /-- R403: Within 3 ms after a stack domain reports ON, STACK_STATE passes from TRAINING to READY or FAILED. -/
  | stackTrainingDone (k : Nat) (ok : Bool)
  /-- R421: VDD_IO returns to 1.45 V or above within 10 µs of a dip; AON and VAULT go back to main power and sources 0, 1, 2 and 4 are armed again. -/
  | vddIoReturn (t : Nat) (ticks : Nat)
  /-- R491: A keystone reset caused by SYS_RST_N, an absent SYSCLK or a PLL 4 or 7 lock loss is released 2 ms after its last cause ends; the straps are sampled and the boot ROM starts. -/
  | resetRelease (compat : Bool) (src : Nat)
  /-- R74: The CAN FD port returns to error active, from error passive or at the end of bus-off recovery, and CAN_STATE reads 0. -/
  | errorActive
  deriving DecidableEq, Repr

end Sys2Proof
end

