-- ==== Sys2Proof/Machine/Bits.lean ====
section
/-! DEFINITION. Bit fields, two's complement and byte orders, on the numbers that dictionary values are (R36). -/
namespace Sys2Proof.Machine

/-- Bits [hi:lo] of `v`. -/
def fld (hi lo v : Nat) : Nat := v / 2 ^ lo % 2 ^ (hi + 1 - lo)

/-- Bit `i` of `v` is 1. -/
def bit (i v : Nat) : Bool := v / 2 ^ i % 2 = 1

/-- `v` with bits [hi:lo] replaced by the low bits of `x`. -/
def setFld (hi lo v x : Nat) : Nat :=
  v - fld hi lo v * 2 ^ lo + x % 2 ^ (hi + 1 - lo) * 2 ^ lo

/-- `v` with bit `i` set. -/
def setBit (i v : Nat) : Nat := if bit i v then v else v + 2 ^ i

/-- `v` with bit `i` clear. -/
def clrBit (i v : Nat) : Nat := if bit i v then v - 2 ^ i else v

/-- Bit `i` of `v` made `b`. -/
def putBit (i v : Nat) (b : Bool) : Nat := if b then setBit i v else clrBit i v

/-- `v` without the bits that are set in `m`. -/
def andNot (v m : Nat) : Nat := v - (v &&& m)

/-- 1 for true, 0 for false. -/
def b2n (b : Bool) : Nat := if b then 1 else 0

/-- The two's complement number that a `w`-bit value spells. -/
def toInt (w v : Nat) : Int :=
  if v % 2 ^ w < 2 ^ (w - 1) then Int.ofNat (v % 2 ^ w) else Int.ofNat (v % 2 ^ w) - Int.ofNat (2 ^ w)

/-- The `w`-bit value that spells `i` in two's complement. -/
def ofInt (w : Nat) (i : Int) : Nat := (i % Int.ofNat (2 ^ w)).toNat

/-- `v` counted up by `k`, stopping at all ones of `w` bits ("saturates"). -/
def satAdd (w v k : Nat) : Nat := if v + k < 2 ^ w then v + k else 2 ^ w - 1

/-- How many of bits 0 to n-1 of `v` are 1. -/
def popCount (n v : Nat) : Nat := ((List.range n).filter (fun i => bit i v)).length

/-- The number a big-endian byte string spells (R7). -/
def ofBE (b : Bytes) : Nat := b.foldl (fun a x => a * 256 + x.toNat) 0

/-- The low `n` bytes of `v`, most significant first (R7). -/
def toBE : Nat → Nat → Bytes
  | 0, _ => []
  | n + 1, v => BitVec.ofNat 8 (v / 256 ^ n) :: toBE n v

/-- The number a little-endian byte string spells (R8). -/
def ofLE (b : Bytes) : Nat := ofBE b.reverse

/-- The low `n` bytes of `v`, least significant first (R8). -/
def toLE (n v : Nat) : Bytes := (toBE n v).reverse

/-- Bytes `a` to `a + n - 1` of `b`. -/
def slice (a n : Nat) (b : Bytes) : Bytes := (b.drop a).take n

/-- The big-endian number in bytes `a` to `a + n - 1` of `b`. -/
def beAt (a n : Nat) (b : Bytes) : Nat := ofBE (slice a n b)

/-- The little-endian number in bytes `a` to `a + n - 1` of `b`. -/
def leAt (a n : Nat) (b : Bytes) : Nat := ofLE (slice a n b)

/-- Item `i` of `l`, or `d` past its end. -/
def nth {α : Type} (d : α) : List α → Nat → α
  | [], _ => d
  | x :: _, 0 => x
  | _ :: t, n + 1 => nth d t n

/-- `l` with item `i` replaced. -/
def setNth {α : Type} (x : α) : List α → Nat → List α
  | [], _ => []
  | _ :: t, 0 => x :: t
  | y :: t, n + 1 => y :: setNth x t n

end Sys2Proof.Machine
end

