-- ==== Sys2Proof/Machine/Crypto.lean ====
section
/-! DEFINITION. The published algorithms the spec names: AES (FIPS 197), AES-CMAC (SP 800-38B), GCM (SP 800-38D), the
counter-mode KDF (SP 800-108), key wrap (RFC 3394), CRC-32 and CRC-32C, SHA-384 (FIPS 180-4), ECDSA on P-384 (FIPS 186-5). PRESUMED: they are taken from those standards, which the
spec cites and does not repeat. Inside AES a byte is a number below 256. -/
namespace Sys2Proof.Machine

/-- The AES substitution box. -/
def aesSbox : List Nat :=
  [99, 124, 119, 123, 242, 107, 111, 197, 48, 1, 103, 43, 254, 215, 171, 118, 202, 130, 201, 125, 250, 89, 71, 240, 173, 212, 162, 175, 156, 164, 114, 192] ++
  [183, 253, 147, 38, 54, 63, 247, 204, 52, 165, 229, 241, 113, 216, 49, 21, 4, 199, 35, 195, 24, 150, 5, 154, 7, 18, 128, 226, 235, 39, 178, 117] ++
  [9, 131, 44, 26, 27, 110, 90, 160, 82, 59, 214, 179, 41, 227, 47, 132, 83, 209, 0, 237, 32, 252, 177, 91, 106, 203, 190, 57, 74, 76, 88, 207] ++
  [208, 239, 170, 251, 67, 77, 51, 133, 69, 249, 2, 127, 80, 60, 159, 168, 81, 163, 64, 143, 146, 157, 56, 245, 188, 182, 218, 33, 16, 255, 243, 210] ++
  [205, 12, 19, 236, 95, 151, 68, 23, 196, 167, 126, 61, 100, 93, 25, 115, 96, 129, 79, 220, 34, 42, 144, 136, 70, 238, 184, 20, 222, 94, 11, 219] ++
  [224, 50, 58, 10, 73, 6, 36, 92, 194, 211, 172, 98, 145, 149, 228, 121, 231, 200, 55, 109, 141, 213, 78, 169, 108, 86, 244, 234, 101, 122, 174, 8] ++
  [186, 120, 37, 46, 28, 166, 180, 198, 232, 221, 116, 31, 75, 189, 139, 138, 112, 62, 181, 102, 72, 3, 246, 14, 97, 53, 87, 185, 134, 193, 29, 158] ++
  [225, 248, 152, 17, 105, 217, 142, 148, 155, 30, 135, 233, 206, 85, 40, 223, 140, 161, 137, 13, 191, 230, 66, 104, 65, 153, 45, 15, 176, 84, 187, 22]

/-- Exclusive or of two strings, item by item, as long as the shorter. -/
def xorL : List Nat → List Nat → List Nat
  | a :: s, b :: t => (a ^^^ b) :: xorL s t
  | _, _ => []

/-- Multiplication by x in the AES field. -/
def xtime (a : Nat) : Nat := if a < 128 then 2 * a else (2 * a) ^^^ 0x11B

/-- Multiplication in the AES field by a constant below 16. -/
def gmul (k a : Nat) : Nat :=
  (if bit 0 k then a else 0) ^^^ (if bit 1 k then xtime a else 0) ^^^
  (if bit 2 k then xtime (xtime a) else 0) ^^^ (if bit 3 k then xtime (xtime (xtime a)) else 0)

/-- One byte through the substitution box. -/
def subByte (a : Nat) : Nat := nth 0 aesSbox a

/-- One byte through the inverse box. -/
def invSubByte (a : Nat) : Nat := aesSbox.findIdx (· == a)

/-- The next words of the key schedule, newest first; `i` is the number of the word made next. -/
def keyWords (nk : Nat) : Nat → Nat → Nat → List (List Nat) → List (List Nat)
  | 0, _, _, ws => ws
  | f + 1, i, rc, ws =>
    let t := ws.headD []
    let t' := if i % nk = 0 then xorL ((t.drop 1 ++ t.take 1).map subByte) [rc, 0, 0, 0]
              else if nk > 6 ∧ i % nk = 4 then t.map subByte else t
    keyWords nk f (i + 1) (if i % nk = 0 then xtime rc else rc) (xorL (nth [] ws (nk - 1)) t' :: ws)

/-- `l` cut into pieces of `n`. -/
def chunks (n : Nat) : Nat → List Nat → List (List Nat)
  | 0, _ => []
  | f + 1, l => if l.isEmpty then [] else l.take n :: chunks n f (l.drop n)

/-- The round keys, first round first, 16 bytes each. -/
def roundKeys (key : List Nat) : List (List Nat) :=
  let nk := key.length / 4
  let ws := (keyWords nk (4 * (nk + 7) - nk) nk 1 (chunks 4 nk key).reverse).reverse
  chunks 16 (nk + 7) ws.flatten

/-- ShiftRows. -/
def shiftRows (b : List Nat) : List Nat := (List.range 16).map (fun i => nth 0 b ((i + 4 * (i % 4)) % 16))

/-- The inverse of ShiftRows. -/
def invShiftRows (b : List Nat) : List Nat := (List.range 16).map (fun i => nth 0 b ((i + 12 * (i % 4)) % 16))

/-- MixColumns, by its row of coefficients. -/
def mixBy (c0 c1 c2 c3 : Nat) (b : List Nat) : List Nat :=
  (List.range 16).map (fun i =>
    let g := fun k => nth 0 b (i / 4 * 4 + (i + k) % 4)
    gmul c0 (g 0) ^^^ gmul c1 (g 1) ^^^ gmul c2 (g 2) ^^^ gmul c3 (g 3))

/-- The rounds after the first key addition. -/
def encRounds : List (List Nat) → List Nat → List Nat
  | [], b => b
  | [k], b => xorL (shiftRows (b.map subByte)) k
  | k :: ks, b => encRounds ks (xorL (mixBy 2 3 1 1 (shiftRows (b.map subByte))) k)

/-- The rounds of the inverse cipher, round keys last first. -/
def decRounds : List (List Nat) → List Nat → List Nat
  | [], b => b
  | [k], b => xorL (invShiftRows b |>.map invSubByte) k
  | k :: ks, b => decRounds ks (mixBy 14 11 13 9 (xorL ((invShiftRows b).map invSubByte) k))

/-- AES of one block under an expanded key. -/
def aesBlk (rk : List (List Nat)) (b : List Nat) : List Nat := encRounds (rk.drop 1) (xorL b (rk.headD []))

/-- Inverse AES of one block under an expanded key. -/
def aesInv (rk : List (List Nat)) (b : List Nat) : List Nat :=
  let r := rk.reverse
  decRounds (r.drop 1) (xorL b (r.headD []))

/-- The bytes of a string as numbers. -/
def nums (b : Bytes) : List Nat := b.map (·.toNat)

/-- The numbers of a string as bytes. -/
def octs (l : List Nat) : Bytes := l.map (BitVec.ofNat 8)

/-- The number a big-endian list spells. -/
def beN (l : List Nat) : Nat := l.foldl (fun a x => a * 256 + x) 0

/-- The low `n` bytes of `v` as numbers, most significant first. -/
def nBE (n v : Nat) : List Nat := nums (toBE n v)

/-- Doubling in the CMAC field. -/
def cmacDbl (v : Nat) : Nat := if v < 2 ^ 127 then 2 * v else (2 * v - 2 ^ 128) ^^^ 0x87

/-- The CMAC chain over whole blocks. -/
def cmacChain (rk : List (List Nat)) : Nat → List Nat → List Nat → List Nat
  | 0, x, _ => x
  | f + 1, x, m => cmacChain rk f (aesBlk rk (xorL x (m.take 16))) (m.drop 16)

/-- AES-CMAC, 16 bytes. -/
def cmac (key msg : Bytes) : Bytes :=
  let rk := roundKeys (nums key)
  let l := beN (aesBlk rk (List.replicate 16 0))
  let k1 := cmacDbl l
  let m := nums msg
  let n := if m.length = 0 then 1 else (m.length + 15) / 16
  let whole := m.length = 16 * n
  let last := m.drop (16 * (n - 1))
  let lastP := if whole then xorL last (nBE 16 k1)
    else xorL (last ++ [0x80] ++ List.replicate (15 - last.length) 0) (nBE 16 (cmacDbl k1))
  octs (cmacChain rk n (List.replicate 16 0) (m.take (16 * (n - 1)) ++ lastP))

/-- SP 800-108 counter mode with AES-CMAC: [i]32 ‖ label ‖ 0x00 ‖ context ‖ [L]32, `bits` bits of output. -/
def kdf (key : Bytes) (label : Bytes) (context : Bytes) (bits : Nat) : Bytes :=
  ((List.range ((bits + 127) / 128)).flatMap (fun i =>
    cmac key (toBE 4 (i + 1) ++ label ++ [0] ++ context ++ toBE 4 bits))).take (bits / 8)

/-- One step of the multiplication in the GCM field, over the bits of `x` from bit `i` down. -/
def ghMul : Nat → Nat → Nat → Nat → Nat
  | 0, _, _, z => z
  | i + 1, x, v, z =>
    ghMul i x (if bit 0 v then (v / 2) ^^^ (0xE1 * 2 ^ 120) else v / 2) (if bit i x then z ^^^ v else z)

/-- GHASH over a string whose length is a multiple of 16. -/
def ghash (h : Nat) : Nat → Nat → List Nat → Nat
  | 0, y, _ => y
  | f + 1, y, m => ghash h f (ghMul 128 (y ^^^ beN (m.take 16)) h 0) (m.drop 16)

/-- `l` with zeros to the next multiple of 16. -/
def pad16 (l : List Nat) : List Nat := l ++ List.replicate ((16 - l.length % 16) % 16) 0

/-- Counter-mode key stream added to `m`, the counter block being `iv` (12 bytes) ‖ `c` (32 bits). -/
def ctr (rk : List (List Nat)) (iv : List Nat) : Nat → Nat → List Nat → List Nat
  | 0, _, _ => []
  | f + 1, c, m =>
    if m.isEmpty then [] else xorL m (aesBlk rk (iv ++ nBE 4 c)) ++ ctr rk iv f (c + 1) (m.drop 16)

/-- The GCM tag over `a` and the ciphertext `c`. -/
def gcmTag (key : Bytes) (iv : Bytes) (a c : Bytes) : Bytes :=
  let rk := roundKeys (nums key)
  let h := beN (aesBlk rk (List.replicate 16 0))
  let m := pad16 (nums a) ++ pad16 (nums c) ++ nBE 8 (8 * a.length) ++ nBE 8 (8 * c.length)
  octs (xorL (nBE 16 (ghash h (m.length / 16) 0 m)) (aesBlk rk (nums iv ++ [0, 0, 0, 1])))

/-- GCM encryption or decryption of the text (the two are one operation). -/
def gcmText (key : Bytes) (iv : Bytes) (p : Bytes) : Bytes :=
  octs (ctr (roundKeys (nums key)) (nums iv) ((p.length + 15) / 16) 2 (nums p))

/-- One step of RFC 3394 wrapping: `a` and the registers, first to last. -/
def wrapPass (rk : List (List Nat)) : Nat → List Nat → List (List Nat) → List Nat × List (List Nat)
  | _, a, [] => (a, [])
  | t, a, r :: rs =>
    let b := aesBlk rk (a ++ r)
    let q := wrapPass rk (t + 1) (xorL (b.take 8) (nBE 8 t)) rs
    (q.1, b.drop 8 :: q.2)

/-- One step of unwrapping: the registers last to first. -/
def unwrapPass (rk : List (List Nat)) : Nat → List Nat → List (List Nat) → List Nat × List (List Nat)
  | _, a, [] => (a, [])
  | t, a, r :: rs =>
    let b := aesInv rk (xorL a (nBE 8 t) ++ r)
    let q := unwrapPass rk (t - 1) (b.take 8) rs
    (q.1, b.drop 8 :: q.2)

/-- RFC 3394 key wrap with initial value `iv` (8 bytes). -/
def keyWrap (kek : Bytes) (iv : Bytes) (p : Bytes) : Bytes :=
  let rk := roundKeys (nums kek)
  let n := p.length / 8
  let r := (List.range 6).foldl (fun s j => wrapPass rk (n * j + 1) s.1 s.2) (nums iv, chunks 8 n (nums p))
  octs (r.1 ++ r.2.flatten)

/-- RFC 3394 key unwrap: the initial value found and the plaintext. -/
def keyUnwrap (kek : Bytes) (c : Bytes) : Bytes × Bytes :=
  let rk := roundKeys (nums kek)
  let n := c.length / 8 - 1
  let r := (List.range 6).foldl (fun s j =>
    let q := unwrapPass rk (n * (6 - j)) s.1 s.2.reverse
    (q.1, q.2.reverse)) (nums (c.take 8), chunks 8 n (nums (c.drop 8)))
  (octs r.1, octs r.2.flatten)

/-- A tweak times α in the XTS field, its bytes least significant first (IEEE 1619). -/
def xtsNext (t : List Nat) : List Nat :=
  let v := 2 * beN t.reverse
  (nBE 16 (if v < 2 ^ 128 then v else (v - 2 ^ 128) ^^^ 0x87)).reverse

/-- The blocks of a data unit of whole blocks, each between two additions of its tweak. -/
def xtsBlocks (blk : List Nat → List Nat) : Nat → List Nat → List Nat → List Nat
  | 0, _, _ => []
  | f + 1, t, m => xorL (blk (xorL (m.take 16) t)) t ++ xtsBlocks blk f (xtsNext t) (m.drop 16)

/-- XTS-AES of a data unit of whole blocks under a tweak of 16 bytes: its key is two AES keys, that of the data first (IEEE 1619). -/
def xts (enc : Bool) (key tweak p : Bytes) : Bytes :=
  let k := nums key
  let h := k.length / 2
  let rk := roundKeys (k.take h)
  octs (xtsBlocks (if enc then aesBlk rk else aesInv rk) (p.length / 16) (aesBlk (roundKeys (k.drop h)) (nums tweak)) (nums p))

/-- One bit of a reflected CRC with polynomial `p`. -/
def crcBit (p c : Nat) : Nat := if bit 0 c then (c / 2) ^^^ p else c / 2

/-- One byte of a reflected CRC. -/
def crcByte (p c : Nat) (b : Byte) : Nat := (List.range 8).foldl (fun x _ => crcBit p x) (c ^^^ b.toNat)

/-- CRC-32 of IEEE 802.3 over `b` (the FCS value). -/
def crc32 (b : Bytes) : Nat := 0xFFFFFFFF ^^^ b.foldl (crcByte 0xEDB88320) 0xFFFFFFFF

/-- CRC-32C over `b`, from register value `seed`, without the final inversion. -/
def crc32c (seed : Nat) (b : Bytes) : Nat := b.foldl (crcByte 0x82F63B78) seed

/-! ## SHA-384 (FIPS 180-4) and ECDSA on P-384 (FIPS 186-5) -/

/-- The 80 round constants of SHA-384. -/
def shaK : List Nat :=
  [0x428A2F98D728AE22, 0x7137449123EF65CD, 0xB5C0FBCFEC4D3B2F, 0xE9B5DBA58189DBBC, 0x3956C25BF348B538] ++
  [0x59F111F1B605D019, 0x923F82A4AF194F9B, 0xAB1C5ED5DA6D8118, 0xD807AA98A3030242, 0x12835B0145706FBE] ++
  [0x243185BE4EE4B28C, 0x550C7DC3D5FFB4E2, 0x72BE5D74F27B896F, 0x80DEB1FE3B1696B1, 0x9BDC06A725C71235] ++
  [0xC19BF174CF692694, 0xE49B69C19EF14AD2, 0xEFBE4786384F25E3, 0x0FC19DC68B8CD5B5, 0x240CA1CC77AC9C65] ++
  [0x2DE92C6F592B0275, 0x4A7484AA6EA6E483, 0x5CB0A9DCBD41FBD4, 0x76F988DA831153B5, 0x983E5152EE66DFAB] ++
  [0xA831C66D2DB43210, 0xB00327C898FB213F, 0xBF597FC7BEEF0EE4, 0xC6E00BF33DA88FC2, 0xD5A79147930AA725] ++
  [0x06CA6351E003826F, 0x142929670A0E6E70, 0x27B70A8546D22FFC, 0x2E1B21385C26C926, 0x4D2C6DFC5AC42AED] ++
  [0x53380D139D95B3DF, 0x650A73548BAF63DE, 0x766A0ABB3C77B2A8, 0x81C2C92E47EDAEE6, 0x92722C851482353B] ++
  [0xA2BFE8A14CF10364, 0xA81A664BBC423001, 0xC24B8B70D0F89791, 0xC76C51A30654BE30, 0xD192E819D6EF5218] ++
  [0xD69906245565A910, 0xF40E35855771202A, 0x106AA07032BBD1B8, 0x19A4C116B8D2D0C8, 0x1E376C085141AB53] ++
  [0x2748774CDF8EEB99, 0x34B0BCB5E19B48A8, 0x391C0CB3C5C95A63, 0x4ED8AA4AE3418ACB, 0x5B9CCA4F7763E373] ++
  [0x682E6FF3D6B2B8A3, 0x748F82EE5DEFB2FC, 0x78A5636F43172F60, 0x84C87814A1F0AB72, 0x8CC702081A6439EC] ++
  [0x90BEFFFA23631E28, 0xA4506CEBDE82BDE9, 0xBEF9A3F7B2C67915, 0xC67178F2E372532B, 0xCA273ECEEA26619C] ++
  [0xD186B8C721C0C207, 0xEADA7DD6CDE0EB1E, 0xF57D4F7FEE6ED178, 0x06F067AA72176FBA, 0x0A637DC5A2C898A6] ++
  [0x113F9804BEF90DAE, 0x1B710B35131C471B, 0x28DB77F523047D84, 0x32CAAB7B40C72493, 0x3C9EBE0A15C9BEBC] ++
  [0x431D67C49C100D4C, 0x4CC5D4BECB3E42B6, 0x597F299CFC657E2A, 0x5FCB6FAB3AD6FAEC, 0x6C44198C4A475817]

/-- The initial hash value of SHA-384. -/
def shaInit : List Nat :=
  [0xCBBB9D5DC1059ED8, 0x629A292A367CD507, 0x9159015A3070DD17, 0x152FECD8F70E5939, 0x67332667FFC00B31, 0x8EB44A8768581511] ++
  [0xDB0C2E0D64F98FA7, 0x47B5481DBEFA4FA4]

/-- A 64-bit word turned right by `n`. -/
def ror64 (n x : Nat) : Nat := x / 2 ^ n + x % 2 ^ n * 2 ^ (64 - n)

/-- The next `f` words of the message schedule, newest first. -/
def shaWords : Nat → List Nat → List Nat
  | 0, w => w
  | f + 1, w =>
    let a := nth 0 w 1
    let b := nth 0 w 14
    let s1 := ror64 19 a ^^^ ror64 61 a ^^^ (a / 2 ^ 6)
    let s0 := ror64 1 b ^^^ ror64 8 b ^^^ (b / 2 ^ 7)
    shaWords f ((s1 + nth 0 w 6 + s0 + nth 0 w 15) % 2 ^ 64 :: w)

/-- One round on the working variables, with its constant and word. -/
def shaRound (v : List Nat) (kw : Nat × Nat) : List Nat :=
  match v with
  | [a, b, c, d, e, f, g, h] =>
    let s1 := ror64 14 e ^^^ ror64 18 e ^^^ ror64 41 e
    let ch := (e &&& f) ^^^ ((2 ^ 64 - 1 - e) &&& g)
    let t := h + s1 + ch + kw.1 + kw.2
    let s0 := ror64 28 a ^^^ ror64 34 a ^^^ ror64 39 a
    let maj := (a &&& b) ^^^ (a &&& c) ^^^ (b &&& c)
    [(t + s0 + maj) % 2 ^ 64, a, b, c, (d + t) % 2 ^ 64, e, f, g]
  | _ => v

/-- One block of 128 bytes taken into the hash value. -/
def shaBlock (h : List Nat) (b : List Nat) : List Nat :=
  let w := (chunks 8 16 b).map beN
  let v := (shaK.zip (shaWords 64 w.reverse).reverse).foldl shaRound h
  (h.zip v).map (fun x => (x.1 + x.2) % 2 ^ 64)

/-- SHA-384 of a message, as a number. -/
def sha384 (m : Bytes) : Nat :=
  let n := nums m
  let pad := n ++ [0x80] ++ List.replicate ((239 - n.length % 128) % 128) 0 ++ nBE 16 (8 * n.length)
  ((chunks 128 (pad.length / 128) pad).foldl shaBlock shaInit |>.take 6).foldl (fun a x => a * 2 ^ 64 + x) 0

/-- The field, the order and the coefficient b of P-384. -/
def ecP : Nat := 2 ^ 384 - 2 ^ 128 - 2 ^ 96 + 2 ^ 32 - 1
def ecN : Nat := 0xFFFFFFFFFFFFFFFFFFFFFFFFFFFFFFFFFFFFFFFFFFFFFFFFC7634D81F4372DDF581A0DB248B0A77AECEC196ACCC52973
def ecB : Nat := 0xB3312FA7E23EE7E4988E056BE3F82D19181D9C6EFE8141120314088F5013875AC656398D8A2ED19D2A85C8EDD3EC2AEF

/-- The base point of P-384. -/
def ecG : Nat × Nat :=
  (0xAA87CA22BE8B05378EB1C71EF320AD746E1D3B628BA79B9859F741E082542A385502F25DBF55296C3A545E3872760AB7,
   0x3617DE4A96262C6F5D9E98BF9292DC29F8F41DBD289A147CE9DA3113B5F0B8C00A60B1CE1D7E819D7A431D7C90EA0E5F)

/-- `x` to the power `e` modulo `m`, over `f` bits of `e`. -/
def powMod (m : Nat) : Nat → Nat → Nat → Nat
  | 0, _, _ => 1
  | f + 1, x, e => let r := powMod m f (x * x % m) (e / 2); if e % 2 = 1 then r * x % m else r

/-- The inverse of `x` modulo a prime `m` of 384 bits. -/
def invMod (m x : Nat) : Nat := powMod m 384 (x % m) (m - 2)

/-- The third point on the line of slope `l` through two points, reflected. -/
def ecThird (l : Nat) (a b : Nat × Nat) : Nat × Nat :=
  let x := (l * l + 2 * ecP - a.1 - b.1) % ecP
  (x, (l * (a.1 + ecP - x) + ecP - a.2) % ecP)

/-- The sum of two points of P-384; none is the point at infinity. -/
def ecAdd : Option (Nat × Nat) → Option (Nat × Nat) → Option (Nat × Nat)
  | none, b => b
  | a, none => a
  | some a, some b =>
    if a.1 = b.1 then
      if (a.2 + b.2) % ecP = 0 then none
      else some (ecThird ((3 * a.1 * a.1 + ecP - 3) * invMod ecP (2 * a.2) % ecP) a b)
    else some (ecThird ((b.2 + ecP - a.2) * invMod ecP (b.1 + ecP - a.1) % ecP) a b)

/-- `k` times a point, over `f` bits of `k`. -/
def ecMul : Nat → Nat → Option (Nat × Nat) → Option (Nat × Nat)
  | 0, _, _ => none
  | f + 1, k, p => let r := ecMul f (k / 2) (ecAdd p p); if k % 2 = 1 then ecAdd r p else r

/-- ECDSA verification of a signature r ‖ s over `m` with public key 0x04 ‖ X ‖ Y. -/
def ecdsaVerify (pub m sig : Bytes) : Bool :=
  let x := beAt 1 48 pub
  let y := beAt 49 48 pub
  let r := beAt 0 48 sig
  let s := beAt 48 48 sig
  let w := invMod ecN s
  beAt 0 1 pub = 4 && x < ecP && y < ecP && y * y % ecP = (x * x * x + (ecP - 3) * x + ecB) % ecP &&
  0 < r && r < ecN && 0 < s && s < ecN &&
  (match ecAdd (ecMul 384 (sha384 m * w % ecN) (some ecG)) (ecMul 384 (r * w % ecN) (some (x, y))) with
   | some p => p.1 % ecN = r
   | none => false)

end Sys2Proof.Machine
end

