-- ==== Sys2Proof/Config.lean ====
section
/-! DEFINITION. What manufacture fixes, and the free values: constants without a body, so that nothing can be proved of
their value (assumption log 1, 2, 15, 16, 20 and 160). -/
namespace Sys2Proof.Config

/-- DEVICE_ID, fused at manufacture (R535). -/
opaque deviceId : BitVec 64

/-- VID_CODE, one of 0 to 31, fused at manufacture (R524). -/
opaque vidCode : BitVec 5

/-- The device unique key of R213, 32 bytes, fused at manufacture. -/
opaque uniqueKey : BitVec 256

/-- KEY_HASHn, SHA-384 of image key n, written in antifuse at manufacture (R501). -/
opaque keyHash : Nat → BitVec 384

/-- A fresh value the spec leaves open (generator output, random bits): the n-th one drawn. -/
opaque freeValue : Nat → BitVec 256

/-- The SECDED check bits over words 0 to 6 of a slot image (R263): the spec names the code, not its matrix (log 15). -/
opaque secded : BitVec 448 → BitVec 10

/-- Byte i of a generated frame's PRBS31 payload (R483): the spec names no seed, so the bytes are free (log 16). -/
opaque prbs31 : Nat → BitVec 8

/-- The bit of the SSPRQ pattern that follows 32 bits of it: IEEE 802.3 Clause 120 defines the pattern, this spec only names it (R109;
log 160). -/
opaque ssprqNext : BitVec 32 → Bool

/-- INITIAL of a credit interface, by its code (R444, R457): the spec names no value (log 20). -/
opaque creditInitial : Nat → BitVec 32

end Sys2Proof.Config
end

