-- ==== Sys2Proof/Machine/Objects.lean ====
section
/-! DEFINITION. The object dictionary: every object the chapters of the spec list, with its type, access, default and
fixed range (R35 to R42), written from their object tables. A range that depends on other state is checked by the
effect of the write, not here. -/
namespace Sys2Proof.Machine

/-- The types of Table Object types (R36). -/
inductive Ty where
  | bool | u8 | u16 | u32 | u64 | i64 | octets (n : Nat) | time96 | tableref
  deriving DecidableEq, Repr

/-- The DAP type code (R36). -/
def Ty.code : Ty → Nat
  | .bool => 1 | .u8 => 2 | .u16 => 3 | .u32 => 4 | .u64 => 5 | .i64 => 6 | .octets _ => 7 | .time96 => 8 | .tableref => 9

/-- The size in bytes (R36). -/
def Ty.size : Ty → Nat
  | .bool => 1 | .u8 => 1 | .u16 => 2 | .u32 => 4 | .u64 => 8 | .i64 => 8 | .octets n => n | .time96 => 12 | .tableref => 8

/-- Access (R38); `rwBoot` and `execBoot` take writes from BOOT alone, `execClear` needs the CLEAR right (R49). -/
inductive Acc where
  | ro | rw | wo | exec | rwBoot | execBoot | execClear
  deriving DecidableEq, Repr

/-- The fixed range of an object's values. -/
inductive Range where
  | all
  | upto (lo hi : Nat)
  | oneOf (l : List Nat)
  | zeroOr (lo hi : Nat)
  | upToOr (hi x : Nat)
  | mask (m : Nat)
  deriving DecidableEq, Repr

/-- `v` lies in the range. -/
def Range.has : Range → Nat → Bool
  | .all, _ => true
  | .upto lo hi, v => lo ≤ v && v ≤ hi
  | .oneOf l, v => l.contains v
  | .zeroOr lo hi, v => v = 0 || (lo ≤ v && v ≤ hi)
  | .upToOr hi x, v => v ≤ hi || v = x
  | .mask m, v => v &&& m = v

/-- One row of an object table: `cnt` objects of successive subindices from `sub`. -/
structure Row where
  sub : Nat
  cnt : Nat
  name : String
  ty : Ty
  acc : Acc
  dflt : Nat
  range : Range
  deriving DecidableEq, Repr

/-- The kinds of dictionary index. -/
inductive Cls where
  | family | region | linePort | sysPort | policy | carrier | laneCarrier | vault | slot | planisher
  | jobWin | saQuad | mkaBinding | tableDesc | tableWin | learn | buffer | sched | gate | sampler
  | calendar | slice | timeUnit | portTs | comparator | schedQueue | clockMon | pll | domain | tamper
  | tamperSource | assay | counterWin | perf | eventGroup | eventCtl | watchdog | sliceFault | d2d | generator
  | injection | resetObj | firmware | gpio | deviceId | revision | behaviour | pin | dieTemp | alwaysOn
  | prot | session | mgmt | can | pcie | dapCount | lane | ctx | saWin | eprof
  | loop | deep | queueWin
  deriving DecidableEq, Repr

/-- Objects of FAMILY_PARAMS, 0x1002 (R2). -/
def rowsFamily : List Row :=
  [⟨0x01, 1, "MEMBER", .u16, .ro, 0x0100, .all⟩,
   ⟨0x02, 1, "QUADRANTS", .u8, .ro, 4, .all⟩,
   ⟨0x03, 1, "PORT_PAIRS", .u16, .ro, 256, .all⟩,
   ⟨0x04, 1, "LANES", .u16, .ro, 512, .all⟩,
   ⟨0x05, 1, "SLICES", .u8, .ro, 64, .all⟩,
   ⟨0x06, 1, "CHANNELS", .u32, .ro, 32768, .all⟩,
   ⟨0x07, 1, "SAS", .u32, .ro, 0x00010000, .all⟩,
   ⟨0x08, 1, "QUEUES", .u32, .ro, 0x00040000, .all⟩,
   ⟨0x09, 1, "SRAM_MB", .u16, .ro, 96, .all⟩,
   ⟨0x0A, 1, "STACKS", .u8, .ro, 2, .all⟩,
   ⟨0x0B, 1, "STACK_GB", .u16, .ro, 24, .all⟩]

/-- Objects of region entry r at 0x1300+r (R47). -/
def rowsRegion : List Row :=
  [⟨0x01, 1, "LOW", .u16, .rwBoot, 0x0000, .all⟩,
   ⟨0x02, 1, "HIGH", .u16, .rwBoot, 0x0000, .all⟩,
   ⟨0x03, 1, "ACCESS", .u32, .rwBoot, 0x00000000, .all⟩,
   ⟨0x04, 1, "ENABLE", .bool, .rwBoot, 0, .all⟩]

/-- Objects of line port n at 0x2000+n (R89). -/
def rowsLinePort : List Row :=
  [⟨0x01, 1, "PORT_MODE", .u8, .rw, 0, .upto 0 3⟩,
   ⟨0x02, 1, "PORT_WIDTH", .u8, .rw, 1, .oneOf [1, 2, 4, 8, 16]⟩,
   ⟨0x03, 1, "PORT_COMPAT", .bool, .rw, 0, .all⟩,
   ⟨0x04, 1, "PORT_STATE", .u8, .ro, 0, .all⟩,
   ⟨0x05, 1, "PORT_RATE", .u8, .rw, 0x04, .oneOf [1, 2, 3, 4, 5, 6, 7, 0x20, 0x21, 0x22]⟩,
   ⟨0x06, 1, "PORT_POWER", .u8, .rw, 0, .upto 0 1⟩,
   ⟨0x10, 1, "PORT_FEC", .u8, .rw, 3, .upto 0 3⟩,
   ⟨0x11, 1, "TX_REVERSE", .bool, .rw, 0, .all⟩,
   ⟨0x12, 1, "RX_LANE_MAP", .u64, .ro, 0xFFFFFFFFFFFFFFFF, .all⟩,
   ⟨0x13, 1, "RX_REVERSED", .bool, .ro, 0, .all⟩,
   ⟨0x14, 1, "LINK_TRAINING", .bool, .rw, 0, .all⟩,
   ⟨0x15, 1, "FEC_CORRECTED", .u64, .ro, 0, .all⟩,
   ⟨0x16, 1, "FEC_UNCORRECTABLE", .u64, .ro, 0, .all⟩,
   ⟨0x17, 1, "MAX_SKEW", .u32, .ro, 0, .all⟩,
   ⟨0x18, 1, "DEFECT_ENTRIES", .u64, .ro, 0, .all⟩,
   ⟨0x19, 1, "IDLE_RETAIN_LIMIT", .u16, .rw, 10, .upto 1 3600⟩,
   ⟨0x20, 1, "LINE_STATE", .u8, .ro, 0, .all⟩]

/-- Objects of system port n at 0x2100+n (R89). -/
def rowsSysPort : List Row :=
  [⟨0x01, 1, "SYS_MODE", .u8, .ro, 0, .all⟩,
   ⟨0x02, 1, "SYS_WIDTH", .u8, .ro, 1, .all⟩,
   ⟨0x04, 1, "SYS_STATE", .u8, .ro, 0, .all⟩,
   ⟨0x05, 1, "SYS_LANE_RATE", .u8, .ro, 0, .all⟩,
   ⟨0x06, 1, "SYS_POWER", .u8, .rw, 0, .upto 0 1⟩,
   ⟨0x10, 1, "SYS_GEARBOX", .bool, .rw, 0, .all⟩,
   ⟨0x11, 1, "TX_REVERSE", .bool, .rw, 0, .all⟩,
   ⟨0x12, 1, "RX_LANE_MAP", .u64, .ro, 0xFFFFFFFFFFFFFFFF, .all⟩,
   ⟨0x13, 1, "RX_REVERSED", .bool, .ro, 0, .all⟩,
   ⟨0x14, 1, "LINK_TRAINING", .bool, .rw, 0, .all⟩,
   ⟨0x15, 1, "FEC_CORRECTED", .u64, .ro, 0, .all⟩,
   ⟨0x16, 1, "FEC_UNCORRECTABLE", .u64, .ro, 0, .all⟩,
   ⟨0x17, 1, "MAX_SKEW", .u32, .ro, 0, .all⟩,
   ⟨0x18, 1, "SYS_FEC", .u8, .rw, 0xFF, .oneOf [0, 1, 2, 3, 0xFF]⟩,
   ⟨0x19, 1, "DEFECT_ENTRIES", .u64, .ro, 0, .all⟩]

/-- Objects of frame-mode policy at 0x2400+n (R117). -/
def rowsPolicy : List Row :=
  [⟨0x01, 1, "UNCLASSIFIED_TX", .u8, .rw, 1, .upto 0 2⟩,
   ⟨0x02, 1, "UNTAGGED_RX", .u8, .rw, 0, .upto 0 2⟩,
   ⟨0x03, 1, "LEARN_ENABLE", .bool, .rw, 0, .all⟩,
   ⟨0x04, 1, "LEARN_ACTION", .u8, .rw, 0, .upto 0 1⟩,
   ⟨0x05, 1, "LINE_MTU", .u16, .rw, 10240, .upto 1518 10240⟩,
   ⟨0x06, 1, "RX_CLEAR_TAGS", .u8, .rw, 0, .upto 0 2⟩,
   ⟨0x07, 1, "IMPLICIT_SCI", .u64, .rw, 0, .all⟩,
   ⟨0x10, 1, "DEFAULT_TX_CH", .u32, .rw, 0xFFFFFFFF, .all⟩,
   ⟨0x11, 1, "DEFAULT_RX_CH", .u32, .rw, 0xFFFFFFFF, .all⟩,
   ⟨0x12, 1, "CAUSE", .u32, .ro, 0, .all⟩,
   ⟨0x13, 1, "CAUSE_CLEAR", .u32, .exec, 0, .all⟩,
   ⟨0x14, 1, "CAUSE_ENABLE", .u32, .rw, 0x00000009, .all⟩]

/-- Objects of carrier at 0x2500+n (R161). -/
def rowsCarrier : List Row :=
  [⟨0x01, 1, "CARRIER_MAPPING", .u8, .rw, 0, .upto 0 1⟩,
   ⟨0x02, 1, "CLIENT_TYPE", .u8, .rw, 0x01, .oneOf [1, 2, 3, 4, 5, 0x10, 0x11, 0x20, 0x21]⟩,
   ⟨0x03, 1, "CARRIER_ID", .u32, .rw, 0, .all⟩,
   ⟨0x04, 1, "CARRIER_ROLE", .u8, .rw, 0, .upto 0 1⟩,
   ⟨0x05, 1, "KDF_SLOT", .u8, .rw, 0xFF, .all⟩,
   ⟨0x06, 1, "EPOCH_START", .u32, .rw, 1, .upto 1 0xFFFFFF⟩,
   ⟨0x07, 1, "N_CONFIRM", .u8, .rw, 3, .upto 2 7⟩,
   ⟨0x08, 1, "M_LOSE", .u8, .rw, 5, .upto 3 15⟩,
   ⟨0x09, 1, "LOF_TIME", .u16, .rw, 2000, .upto 500 10000⟩,
   ⟨0x0A, 1, "TFB_COUNT", .u8, .rw, 4, .upto 2 64⟩,
   ⟨0x0B, 1, "CBR_HOLD", .bool, .rw, 0, .all⟩,
   ⟨0x0C, 1, "AUTO_LOAD", .bool, .rw, 1, .all⟩,
   ⟨0x0D, 1, "AUTO_SWITCH", .bool, .rw, 0, .all⟩,
   ⟨0x0E, 1, "FC_THRESHOLD", .u64, .rw, 0xF00000000000, .upto 1 0xFFFFFFFFFFFF⟩,
   ⟨0x0F, 1, "SWITCH_AT_FC", .u64, .rw, 0, .all⟩,
   ⟨0x10, 1, "CARRIER_STATE", .u8, .ro, 0, .all⟩,
   ⟨0x11, 1, "DEFECTS", .u16, .ro, 0, .all⟩,
   ⟨0x12, 1, "CAUSE", .u32, .ro, 0, .all⟩,
   ⟨0x13, 1, "CAUSE_CLEAR", .u32, .exec, 0, .all⟩,
   ⟨0x14, 1, "CAUSE_ENABLE", .u32, .rw, 0x0004602F, .all⟩] ++
  [⟨0x15, 1, "TX_EPOCH", .u32, .ro, 0, .all⟩,
   ⟨0x16, 1, "RX_EPOCH", .u32, .ro, 0, .all⟩,
   ⟨0x17, 1, "TX_FC", .u64, .ro, 0, .all⟩,
   ⟨0x18, 1, "RX_FC", .u64, .ro, 0, .all⟩,
   ⟨0x19, 1, "EPOCH_HIGH", .u32, .ro, 0, .all⟩,
   ⟨0x1A, 1, "LOAD_NEXT", .u8, .exec, 0, .all⟩,
   ⟨0x1B, 1, "SWITCH_NOW", .u8, .exec, 0, .all⟩,
   ⟨0x1C, 1, "SWITCH_AT_TIME", .time96, .rw, 0, .all⟩,
   ⟨0x1D, 1, "KEY_STATUS", .u8, .ro, 0, .all⟩,
   ⟨0x1E, 1, "POINTER", .u16, .ro, 0, .all⟩,
   ⟨0x1F, 1, "EPOCH_HIGH_CLEAR", .u32, .execBoot, 0, .oneOf [0x45504F43]⟩,
   ⟨0x20, 1, "TAG_FAIL", .u64, .ro, 0, .all⟩,
   ⟨0x21, 1, "REPLAY_FC", .u64, .ro, 0, .all⟩,
   ⟨0x22, 1, "PTR_INC", .u64, .ro, 0, .all⟩,
   ⟨0x23, 1, "PTR_DEC", .u64, .ro, 0, .all⟩,
   ⟨0x24, 1, "JC_UNDECIDED", .u64, .ro, 0, .all⟩,
   ⟨0x25, 1, "PTR_INVALID", .u64, .ro, 0, .all⟩,
   ⟨0x26, 1, "FEV", .u64, .ro, 0, .all⟩]

/-- Objects of carrier objects of line lane l at 0x2200+l (R162). -/
def rowsLaneCarrier : List Row :=
  [⟨0x11, 1, "FRAME_STATE", .u8, .ro, 0, .all⟩,
   ⟨0x12, 1, "BIP_ERRORS", .u64, .ro, 0, .all⟩,
   ⟨0x13, 1, "FAR_LANE_ERRORS", .u64, .ro, 0, .all⟩]

/-- Objects of vault, 0x3000 (R208). -/
def rowsVault : List Row :=
  [⟨0x01, 1, "ZEROISE", .u32, .exec, 0, .oneOf [0x5A45524F]⟩,
   ⟨0x02, 1, "VAULT_STATE", .u8, .ro, 0, .all⟩,
   ⟨0x03, 1, "ZEROISE_CLEAR", .u32, .exec, 0, .oneOf [0x434C4541]⟩,
   ⟨0x04, 1, "ZEROISE_COUNT", .u32, .ro, 0, .all⟩,
   ⟨0x05, 1, "ZEROISE_CAUSE", .u8, .ro, 0, .all⟩,
   ⟨0x06, 1, "DRBG_STATE", .u8, .ro, 0, .all⟩,
   ⟨0x07, 1, "DRBG_RESEED", .u8, .exec, 0, .all⟩,
   ⟨0x08, 1, "ZEROISE_TIME", .time96, .ro, 0, .all⟩]

/-- Objects of slot s at 0x3010+s (R208). -/
def rowsSlot : List Row :=
  [⟨0x01, 1, "USAGE", .u8, .rw, 0, .upto 0 4⟩,
   ⟨0x02, 1, "SLOT_STATE", .u8, .ro, 0, .all⟩,
   ⟨0x03, 1, "GENERATION", .u32, .ro, 0, .all⟩,
   ⟨0x04, 1, "ERASE", .u32, .exec, 0, .oneOf [0x5A45524F]⟩,
   ⟨0x05, 1, "CACHED_IN", .u8, .ro, 0, .all⟩]

/-- Objects of planisher p at 0x3050+p (R219). -/
def rowsPlanisher : List Row :=
  [⟨0x01, 1, "PL_STATE", .u8, .ro, 0, .all⟩,
   ⟨0x02, 1, "QUEUED", .u8, .ro, 0, .all⟩,
   ⟨0x03, 1, "RESERVE_FIRM", .u8, .rw, 0, .all⟩,
   ⟨0x04, 1, "RESERVE_HOST", .u8, .rw, 0, .all⟩,
   ⟨0x05, 1, "RESERVE_BATCH", .u8, .rw, 0, .all⟩,
   ⟨0x06, 1, "ROOT_CACHE", .u64, .ro, 0, .all⟩,
   ⟨0x07, 1, "JOBS_DONE", .u64, .ro, 0, .all⟩,
   ⟨0x08, 1, "JOBS_FAILED", .u64, .ro, 0, .all⟩]

/-- Objects of job window w at 0x3060+w (R221). -/
def rowsJobWin : List Row :=
  [⟨0x01, 1, "JOB", .u8, .rw, 0, .all⟩,
   ⟨0x02, 1, "PLANISHER", .u8, .rw, 4, .upto 0 4⟩,
   ⟨0x03, 1, "SLOT", .u8, .rw, 0xFF, .oneOf (List.range 64 ++ [0x80, 0x81, 0x82, 0x83, 0xFF])⟩,
   ⟨0x04, 1, "TARGET", .u32, .rw, 0, .all⟩,
   ⟨0x05, 1, "CTX_A", .u64, .rw, 0, .all⟩,
   ⟨0x06, 1, "CTX_B", .u64, .rw, 0, .all⟩,
   ⟨0x07, 1, "PARAM", .u32, .rw, 0, .all⟩,
   ⟨0x08, 1, "DATA_ADDR", .u64, .rw, 0, .all⟩,
   ⟨0x09, 1, "DATA_LEN", .u16, .rw, 0, .all⟩,
   ⟨0x0A, 1, "SUBMIT", .u8, .exec, 0, .all⟩,
   ⟨0x0B, 1, "JOB_STATUS", .u8, .ro, 0, .all⟩,
   ⟨0x0C, 1, "RESULT_CODE", .u8, .ro, 0, .all⟩,
   ⟨0x0D, 1, "RESULT_LO", .octets 8, .ro, 0, .all⟩,
   ⟨0x0E, 1, "RESULT_HI", .octets 8, .ro, 0, .all⟩,
   ⟨0x0F, 1, "CANCEL", .u8, .exec, 0, .all⟩,
   ⟨0x10, 8, "DATA0-DATA7", .octets 8, .wo, 0, .all⟩,
   ⟨0x18, 5, "WRAPPED0-WRAPPED4", .octets 8, .ro, 0, .all⟩,
   ⟨0x1D, 1, "OWNER", .u8, .ro, 0, .all⟩]

/-- Objects of SA store of quadrant q at 0x3110+q (R234). -/
def rowsSaQuad : List Row :=
  [⟨0x01, 1, "RETIRE_DELAY", .u32, .rw, 3000, .upto 0 60000⟩,
   ⟨0x02, 1, "NOTE_POP", .u8, .exec, 0, .all⟩,
   ⟨0x03, 1, "NOTE", .u64, .ro, 0, .all⟩,
   ⟨0x04, 1, "NOTE_COUNT", .u16, .ro, 0, .all⟩,
   ⟨0x05, 1, "NOTE_LOST", .u64, .ro, 0, .all⟩,
   ⟨0x06, 1, "SCHED_CH", .u32, .rw, 0, .all⟩,
   ⟨0x07, 1, "SCHED_AN", .u8, .rw, 0, .upto 0 3⟩,
   ⟨0x08, 1, "SCHED_TIME", .time96, .rw, 0, .all⟩,
   ⟨0x09, 1, "SCHED_SUBMIT", .u8, .exec, 0, .all⟩,
   ⟨0x0A, 1, "SCHED_CANCEL", .u32, .exec, 0, .all⟩,
   ⟨0x0B, 1, "EXHAUSTED_SAS", .u16, .ro, 0, .all⟩]

/-- Objects of MKA binding b at 0x3080+b (R249). -/
def rowsMkaBinding : List Row :=
  [⟨0x01, 1, "ENABLE", .bool, .rw, 0, .all⟩,
   ⟨0x02, 1, "PAIR", .u8, .rw, 0, .all⟩,
   ⟨0x03, 1, "CAK_SLOT", .u8, .rw, 0xFF, .all⟩,
   ⟨0x04, 1, "CAK_LEN", .u8, .rw, 32, .oneOf [16, 32]⟩,
   ⟨0x05, 1, "CKN_LEN", .u8, .rw, 1, .upto 1 32⟩,
   ⟨0x06, 4, "CKN0-CKN3", .octets 8, .rw, 0, .all⟩,
   ⟨0x0A, 1, "KS_PRIORITY", .u8, .rw, 16, .all⟩,
   ⟨0x0B, 1, "SUITE", .u8, .rw, 3, .upto 0 3⟩,
   ⟨0x0C, 1, "CONF_OFFSET", .u8, .rw, 1, .upto 0 3⟩,
   ⟨0x0D, 1, "TX_CH", .u32, .rw, 0xFFFFFFFF, .all⟩,
   ⟨0x0E, 1, "RX_CH_FIRST", .u32, .rw, 0xFFFFFFFF, .all⟩,
   ⟨0x0F, 1, "RX_CH_COUNT", .u16, .rw, 1, .upto 1 64⟩,
   ⟨0x10, 1, "MKA_STATUS", .u8, .ro, 0, .all⟩,
   ⟨0x11, 1, "PEERS", .u8, .ro, 0, .all⟩,
   ⟨0x12, 1, "KEY_SERVER", .bool, .ro, 0, .all⟩]

/-- Objects of table t of quadrant q at 0x4010+4q+t (R261). -/
def rowsTableDesc : List Row :=
  [⟨0x01, 1, "TABLE", .tableref, .ro, 0, .all⟩,
   ⟨0x02, 1, "OCCUPANCY", .u32, .ro, 0, .all⟩,
   ⟨0x03, 1, "STASH_USED", .u8, .ro, 0, .all⟩,
   ⟨0x04, 1, "SEED0", .u32, .ro, 0xFFFFFFFF, .all⟩,
   ⟨0x05, 1, "SEED1", .u32, .ro, 0x1EDC6F41, .all⟩,
   ⟨0x06, 1, "NEW_SEED0", .u32, .rw, 0, .all⟩,
   ⟨0x07, 1, "NEW_SEED1", .u32, .rw, 0, .all⟩,
   ⟨0x08, 1, "MIGRATE", .u8, .exec, 0, .all⟩,
   ⟨0x09, 1, "MIGRATION", .u32, .ro, 0, .all⟩,
   ⟨0x0A, 1, "LOCK", .u16, .exec, 0, .upto 0 10000⟩,
   ⟨0x0B, 1, "LOCK_RELEASE", .u8, .exec, 0, .all⟩,
   ⟨0x0C, 1, "LOCK_STATE", .u32, .ro, 0, .all⟩,
   ⟨0x0D, 1, "LEASE_DEFAULT", .u16, .rw, 100, .upto 1 10000⟩,
   ⟨0x0E, 1, "CAUSE", .u32, .ro, 0, .all⟩,
   ⟨0x0F, 1, "CAUSE_CLEAR", .u32, .exec, 0, .all⟩,
   ⟨0x10, 1, "CAUSE_ENABLE", .u32, .rw, 0x00000F7F, .all⟩,
   ⟨0x11, 1, "INSERT_FAILS", .u64, .ro, 0, .all⟩,
   ⟨0x12, 1, "RELOCATIONS", .u64, .ro, 0, .all⟩,
   ⟨0x13, 1, "AGED", .u64, .ro, 0, .all⟩,
   ⟨0x14, 1, "DUPLICATES", .u64, .ro, 0, .all⟩,
   ⟨0x15, 1, "PLUMB_ENABLE", .bool, .rw, 0, .all⟩,
   ⟨0x16, 1, "PLUMB_PERIOD", .u16, .rw, 10, .upto 1 1000⟩,
   ⟨0x17, 1, "PLUMB_SET", .u64, .exec, 0, .all⟩,
   ⟨0x18, 1, "PLUMB_MISMATCH", .u16, .ro, 0, .all⟩,
   ⟨0x19, 1, "PLUMB_MISMATCHES", .u64, .ro, 0, .all⟩,
   ⟨0x1A, 1, "ECC_LOCATION", .u16, .ro, 0xFFFE, .all⟩]

/-- Objects of command window at 0x4040+16q+4t+w (R282). -/
def rowsTableWin : List Row :=
  [⟨0x01, 1, "CMD", .u8, .exec, 0, .all⟩,
   ⟨0x02, 1, "SLOT", .u16, .rw, 0, .all⟩,
   ⟨0x03, 1, "FLAGS", .u8, .rw, 0, .mask 3⟩,
   ⟨0x04, 5, "KEY0-KEY4", .u64, .rw, 0, .all⟩,
   ⟨0x09, 3, "MASK0-MASK2", .u64, .rw, 0, .all⟩,
   ⟨0x0C, 4, "DATA0-DATA3", .u64, .rw, 0, .all⟩,
   ⟨0x10, 1, "STATUS", .u16, .ro, 0, .all⟩,
   ⟨0x11, 1, "LOCATION", .u16, .ro, 0xFFFE, .all⟩,
   ⟨0x12, 1, "RELOCATIONS", .u8, .ro, 0, .all⟩]

/-- Objects of learning objects at 0x4080+q (R293). -/
def rowsLearn : List Row :=
  [⟨0x01, 1, "AGE_TIME", .u16, .rw, 300, .all⟩,
   ⟨0x02, 1, "LEARN_LIMIT", .u16, .rw, 1024, .upto 0 8192⟩,
   ⟨0x03, 1, "LEARN_POLICER", .u16, .rw, 0xFFFF, .upToOr 1023 0xFFFF⟩,
   ⟨0x04, 1, "PUNT_POLICER", .u16, .rw, 0xFFFF, .upToOr 1023 0xFFFF⟩,
   ⟨0x05, 1, "PUNT_RING", .u8, .rw, 0, .upto 0 63⟩,
   ⟨0x06, 1, "PENDING_COUNT", .u16, .ro, 0, .all⟩,
   ⟨0x07, 1, "LEARN_POP", .u8, .exec, 0, .all⟩,
   ⟨0x08, 1, "LEARN_NOTE", .octets 12, .ro, 0, .all⟩,
   ⟨0x09, 1, "LEARN_NOTE_COUNT", .u16, .ro, 0, .all⟩,
   ⟨0x0A, 1, "LEARN_NOTE_LOST", .u64, .ro, 0, .all⟩,
   ⟨0x0B, 1, "LEARN_REFUSED", .u64, .ro, 0, .all⟩]

/-- Objects of buffer block at 0x5000+64q (R303). -/
def rowsBuffer : List Row :=
  [⟨0xC0, 1, "QUEUE_TABLE", .tableref, .ro, 0, .all⟩,
   ⟨0xC1, 1, "NODE_TABLE", .tableref, .ro, 0, .all⟩,
   ⟨0xC2, 1, "POLICER_TABLE", .tableref, .ro, 0, .all⟩,
   ⟨0xC3, 1, "CAUSE", .u32, .ro, 0, .all⟩,
   ⟨0xC4, 1, "CAUSE_CLEAR", .u32, .exec, 0, .all⟩,
   ⟨0xC5, 1, "CAUSE_ENABLE", .u32, .rw, 0x000F00B1, .all⟩,
   ⟨0xC6, 1, "SPILL_ENABLE", .bool, .rw, 1, .all⟩,
   ⟨0xC7, 1, "SPILL_RATE", .u32, .ro, 0, .all⟩,
   ⟨0xC8, 1, "PUNT_POOL", .u8, .rw, 15, .upto 0 15⟩,
   ⟨0xC9, 1, "PUNT_LIMIT", .u32, .rw, 4096, .upto 16 16384⟩,
   ⟨0xCA, 1, "PUNT_USED", .u32, .ro, 0, .all⟩,
   ⟨0xCB, 1, "FREE_CELLS", .u32, .ro, 98304, .all⟩,
   ⟨0xD0, 15, "POOL_SIZE0-14", .u32, .rw, 0, .upto 0 98304⟩,
   ⟨0xDF, 1, "POOL_SIZE15", .u32, .ro, 98304, .all⟩,
   ⟨0xE0, 16, "POOL_USED0-15", .u32, .ro, 0, .all⟩,
   ⟨0xF0, 15, "POOL_OWNER0-14", .u8, .rw, 0, .upto 0 2⟩]

/-- Objects of port scheduler at 0x5000+n, 0x5100+n (R324). -/
def rowsSched : List Row :=
  [⟨0x01, 1, "STRICT_MASK", .u8, .rw, 0x80, .all⟩,
   ⟨0x02, 1, "PORT_SHAPE_RATE", .u32, .rw, 0, .all⟩,
   ⟨0x03, 1, "PORT_SHAPE_BURST", .u32, .rw, 16384, .upto 64 16777215⟩,
   ⟨0x04, 1, "OVERHEAD", .u8, .rw, 20, .upto 0 64⟩,
   ⟨0x05, 1, "PORT_TOKEN_RESET", .bool, .rw, 0, .all⟩,
   ⟨0x10, 1, "NODES", .u16, .ro, 0, .all⟩,
   ⟨0x11, 1, "BACKLOG", .u64, .ro, 0, .all⟩]

/-- Objects of gate list at 0x5800+n, 0x5900+n (R332). -/
def rowsGate : List Row :=
  [⟨0x01, 1, "GATE_ENABLE", .bool, .rw, 0, .all⟩,
   ⟨0x02, 1, "ADMIN_GATE_STATES", .u8, .rw, 0xFF, .all⟩,
   ⟨0x03, 1, "ADMIN_LIST_LEN", .u16, .rw, 0, .upto 0 256⟩,
   ⟨0x04, 1, "ADMIN_CYCLE_TIME", .u32, .rw, 1000000, .upto 1000 4000000000⟩,
   ⟨0x05, 1, "ADMIN_CYCLE_EXT", .u32, .rw, 0, .all⟩,
   ⟨0x06, 1, "ADMIN_BASE_TIME", .time96, .rw, 0, .all⟩,
   ⟨0x07, 1, "CONFIG_CHANGE", .u8, .exec, 0, .all⟩,
   ⟨0x08, 1, "CONFIG_CANCEL", .u8, .exec, 0, .all⟩,
   ⟨0x09, 1, "CONFIG_PENDING", .bool, .ro, 0, .all⟩,
   ⟨0x0A, 1, "PENDING_TIME", .time96, .ro, 0, .all⟩,
   ⟨0x0B, 1, "OPER_LIST_LEN", .u16, .ro, 0, .all⟩,
   ⟨0x0C, 1, "OPER_CYCLE_TIME", .u32, .ro, 0, .all⟩,
   ⟨0x0D, 1, "OPER_CYCLE_EXT", .u32, .ro, 0, .all⟩,
   ⟨0x0E, 1, "OPER_BASE_TIME", .time96, .ro, 0, .all⟩,
   ⟨0x0F, 1, "CONFIG_CHANGE_TIME", .time96, .ro, 0, .all⟩,
   ⟨0x10, 8, "MAX_SDU0-7", .u16, .rw, 0, .zeroOr 64 10240⟩,
   ⟨0x18, 1, "GUARD", .u16, .rw, 0, .upto 0 10000⟩,
   ⟨0x19, 1, "OVERRUN", .u64, .ro, 0, .all⟩,
   ⟨0x1A, 1, "OPER_SELECT", .u8, .rw, 0, .upto 0 127⟩,
   ⟨0x1B, 1, "OPER_PAIR", .u64, .ro, 0, .all⟩,
   ⟨0x20, 8, "LONGEST_WINDOW0-7", .u32, .ro, 0xFFFFFFFF, .all⟩,
   ⟨0x40, 128, "ADMIN_PAIR0-127", .u64, .rw, 0, .all⟩]

/-- Objects of sampler at 0x5002+64q (R339). -/
def rowsSampler : List Row :=
  [⟨0xC0, 1, "SAMPLE_PERIOD", .u32, .rw, 0, .zeroOr 100 10000000⟩,
   ⟨0xC1, 1, "SAMPLE_FIRST", .u32, .rw, 0, .all⟩,
   ⟨0xC2, 1, "SAMPLE_COUNT", .u32, .rw, 65536, .upto 1 65536⟩,
   ⟨0xC3, 1, "SAMPLE_FLAGS", .u8, .rw, 0, .mask 1⟩,
   ⟨0xC4, 1, "SAMPLE_BASE", .u64, .rw, 0, .all⟩,
   ⟨0xC5, 1, "SAMPLE_SIZE", .u8, .rw, 0, .zeroOr 8 20⟩,
   ⟨0xC6, 1, "SAMPLE_VECTOR", .u8, .rw, 0, .mask 0xBF⟩,
   ⟨0xC7, 1, "SAMPLE_PROD", .u32, .ro, 0, .all⟩,
   ⟨0xC8, 1, "SAMPLE_CONS", .u32, .rw, 0, .all⟩,
   ⟨0xC9, 1, "SAMPLE_LOST", .u64, .ro, 0, .all⟩,
   ⟨0xCA, 1, "SAMPLE_PASSES", .u64, .ro, 0, .all⟩]

/-- Objects of calendar of slice s at 0x6000+s (R351). -/
def rowsCalendar : List Row :=
  [⟨0x01, 1, "ACTIVE_BANK", .u8, .ro, 0, .all⟩,
   ⟨0x02, 1, "SWAP", .u8, .exec, 0, .all⟩,
   ⟨0x03, 1, "SWAP_PENDING", .bool, .ro, 0, .all⟩,
   ⟨0x04, 1, "HOT_EDIT", .u16, .exec, 0, .all⟩,
   ⟨0x05, 1, "BOND", .u8, .ro, 0, .all⟩,
   ⟨0x06, 1, "SHORT_MASK", .u8, .ro, 0, .all⟩,
   ⟨0x10, 16, "BANK_A0-15", .u64, .rw, 0x0706050403020100, .all⟩,
   ⟨0x20, 16, "BANK_B0-15", .u64, .rw, 0x0706050403020100, .all⟩,
   ⟨0x30, 16, "BANK_A16-31", .u64, .rw, 0x8080808080808080, .all⟩,
   ⟨0x40, 16, "BANK_B16-31", .u64, .rw, 0x8080808080808080, .all⟩,
   ⟨0x50, 1, "BG_BASE", .u32, .rw, 0x00044286, .mask 0xFFFFF⟩,
   ⟨0x51, 1, "PRIO_CEIL", .u8, .rw, 15, .upto 0 15⟩,
   ⟨0x52, 1, "BREAK_CHUNK", .u8, .rw, 0, .upto 0 1⟩,
   ⟨0x53, 1, "BG_LEVEL", .u32, .ro, 0x00044286, .all⟩,
   ⟨0x54, 1, "BG_GRANT", .u8, .ro, 0x07, .all⟩,
   ⟨0x55, 1, "BG_WAIT_LIMIT", .u32, .rw, 0, .all⟩,
   ⟨0x58, 5, "BG_WINS0-4", .u64, .ro, 0, .all⟩,
   ⟨0x60, 5, "BG_WAIT_MAX0-4", .u32, .ro, 0, .all⟩,
   ⟨0x65, 1, "BG_WAIT_CLEAR", .u8, .exec, 0, .all⟩,
   ⟨0x70, 1, "CAUSE", .u32, .ro, 0, .all⟩,
   ⟨0x71, 1, "CAUSE_CLEAR", .u32, .exec, 0, .all⟩,
   ⟨0x72, 1, "CAUSE_ENABLE", .u32, .rw, 0x0000000E, .all⟩]

/-- Objects of slice s at 0x2600+s (R353). -/
def rowsSlice : List Row :=
  [⟨0x01, 1, "SLICE_STATE", .u8, .ro, 0, .all⟩,
   ⟨0x02, 1, "DIRECTION", .u8, .ro, 0, .all⟩,
   ⟨0x03, 1, "BOND_PEER", .u8, .ro, 0xFF, .all⟩,
   ⟨0x04, 1, "IN_FLIGHT", .u8, .ro, 0, .all⟩,
   ⟨0x05, 1, "IN_FLIGHT_MAX", .u8, .ro, 0, .all⟩]

/-- Objects of time unit, 0x7000 (R367). -/
def rowsTimeUnit : List Row :=
  [⟨0x01, 1, "TIME_NOW", .time96, .ro, 0, .all⟩,
   ⟨0x02, 1, "COMPACT_NOW", .u64, .ro, 0, .all⟩,
   ⟨0x03, 1, "SF_NOW", .u64, .ro, 0, .all⟩,
   ⟨0x04, 1, "INCREMENT", .u64, .rw, 0x0000000200000000, .upto 0x1FFBE76C9 0x200418937⟩,
   ⟨0x05, 1, "STEP", .octets 12, .exec, 0, .all⟩,
   ⟨0x06, 1, "JUMP_LIMIT", .u64, .rw, 1000000, .upto 1000 1000000000000⟩,
   ⟨0x07, 1, "TIME_SET", .time96, .exec, 0, .all⟩,
   ⟨0x08, 1, "TIME_VALID", .bool, .ro, 0, .all⟩,
   ⟨0x09, 1, "LAST_STEP", .i64, .ro, 0, .all⟩,
   ⟨0x0A, 1, "REFUSED_STEPS", .u64, .ro, 0, .all⟩,
   ⟨0x0B, 1, "PPS_IN_TIME", .time96, .ro, 0, .all⟩,
   ⟨0x0C, 1, "PPS_IN_EDGE", .u8, .rw, 0, .upto 0 2⟩,
   ⟨0x0D, 1, "CLK10M_ENABLE", .bool, .rw, 0, .all⟩,
   ⟨0x0E, 1, "CLK10M_OFFSET", .i64, .ro, 0, .all⟩]

/-- Objects of timestamps of a port, .30-.36 (R378). -/
def rowsPortTs : List Row :=
  [⟨0x30, 1, "TS_MODE", .u8, .rw, 0, .upto 0 2⟩,
   ⟨0x31, 1, "TS_POP", .u8, .exec, 0, .all⟩,
   ⟨0x32, 1, "TS_ENTRY", .octets 12, .ro, 0, .all⟩,
   ⟨0x33, 1, "TS_COUNT", .u8, .ro, 0, .all⟩,
   ⟨0x34, 1, "TS_LOST", .u64, .ro, 0, .all⟩,
   ⟨0x35, 1, "TS_RX_DELAY", .u16, .rw, 0, .upto 0 2000⟩,
   ⟨0x36, 1, "TS_TX_DELAY", .u16, .rw, 0, .upto 0 2000⟩]

/-- Objects of comparator k at 0x7010+k (R384). -/
def rowsComparator : List Row :=
  [⟨0x01, 1, "FUNCTION", .u8, .rw, 0, .upto 0 3⟩,
   ⟨0x02, 1, "TARGET", .time96, .rw, 0, .all⟩,
   ⟨0x03, 1, "PERIOD", .u32, .rw, 1000000000, .upto 100 4000000000⟩,
   ⟨0x04, 1, "WIDTH", .u32, .rw, 100000000, .upto 10 3999999990⟩,
   ⟨0x05, 1, "GPIO", .u8, .rw, 0xFF, .upToOr 15 0xFF⟩,
   ⟨0x06, 1, "FIRED", .u64, .ro, 0, .all⟩]

/-- Objects of schedule queue, 0x7020 (R390). -/
def rowsSchedQueue : List Row :=
  [⟨0x01, 1, "SCHED_USED", .u16, .ro, 0, .all⟩,
   ⟨0x02, 1, "SCHED_HIGH", .u16, .ro, 0, .all⟩,
   ⟨0x03, 1, "SCHED_FIRED", .u64, .ro, 0, .all⟩,
   ⟨0x04, 1, "SCHED_LATE", .u64, .ro, 0, .all⟩,
   ⟨0x05, 1, "LATE_LIMIT", .u32, .rw, 1000, .upto 100 1000000000⟩,
   ⟨0x06, 1, "SCHED_NEXT", .u64, .ro, 0xFFFFFFFFFFFFFFFF, .all⟩]

/-- Objects of clock monitors, 0x1200 (R399). -/
def rowsClockMon : List Row :=
  [⟨0x01, 1, "SYSCLK_STATUS", .u8, .ro, 0, .all⟩,
   ⟨0x02, 1, "SYSCLK_OFFSET", .i64, .ro, 0, .all⟩,
   ⟨0x03, 1, "XTAL_STATUS", .u8, .ro, 0, .all⟩,
   ⟨0x04, 1, "REFCLK_STATUS", .u8, .ro, 0, .all⟩,
   ⟨0x05, 1, "PULSE_OVERFLOW", .u8, .ro, 0, .all⟩,
   ⟨0x06, 1, "PULSE_OVERFLOW_CLEAR", .u8, .exec, 0, .all⟩,
   ⟨0x10, 8, "REFCLK_OFFSET0-7", .i64, .ro, 0, .all⟩]

/-- Objects of PLL p at 0x1210+p (R399). -/
def rowsPll : List Row :=
  [⟨0x01, 1, "PLL_STATE", .u8, .ro, 0, .all⟩,
   ⟨0x02, 1, "LOCK_LOSSES", .u32, .ro, 0, .all⟩,
   ⟨0x03, 1, "PLL_FREQ", .u32, .ro, 0, .all⟩]

/-- Objects of switched domain d at 0x1100+d (R401). -/
def rowsDomain : List Row :=
  [⟨0x01, 1, "POWER_REQ", .u8, .rw, 0, .upto 0 2⟩,
   ⟨0x02, 1, "POWER_STATE", .u8, .ro, 0, .all⟩,
   ⟨0x03, 1, "NOTIFY", .bool, .rw, 0, .all⟩,
   ⟨0x04, 1, "PARENT", .u8, .ro, 0, .all⟩,
   ⟨0x05, 1, "STATES_ALLOWED", .u8, .ro, 0, .all⟩,
   ⟨0x06, 1, "HELD", .bool, .ro, 0, .all⟩,
   ⟨0x07, 1, "TRANSITIONS", .u64, .ro, 0, .all⟩,
   ⟨0x08, 1, "LAST_CHANGE", .u64, .ro, 0, .all⟩]

/-- Objects of tamper monitors, 0x7800 (R428). -/
def rowsTamper : List Row :=
  [⟨0x01, 1, "STICKY", .u16, .ro, 0, .all⟩,
   ⟨0x02, 1, "STICKY_CLEAR", .u16, .execClear, 0, .all⟩,
   ⟨0x03, 1, "ALARM", .u16, .ro, 0, .all⟩,
   ⟨0x04, 1, "FUSED", .u16, .ro, 0, .all⟩,
   ⟨0x05, 1, "RESPONSE_STATE", .u8, .ro, 0, .all⟩,
   ⟨0x06, 1, "RESPONSE_CLEAR", .u8, .execClear, 0, .all⟩,
   ⟨0x07, 1, "VBAT_MV", .u16, .ro, 0, .all⟩,
   ⟨0x08, 1, "WAKE_ON_EDGE", .bool, .rwBoot, 0, .all⟩,
   ⟨0x09, 1, "AON_TICKS", .u64, .ro, 0, .all⟩,
   ⟨0x0A, 1, "LOG_COUNT", .u8, .ro, 0, .all⟩,
   ⟨0x0B, 1, "LOG_POP", .u8, .exec, 0, .all⟩,
   ⟨0x0C, 1, "LOG_ENTRY", .octets 12, .ro, 0, .all⟩,
   ⟨0x0D, 1, "BACKUP_EPISODES", .u32, .ro, 0, .all⟩]

/-- Objects of tamper source i at 0x7810+i (R428). -/
def rowsTamperSource : List Row :=
  [⟨0x01, 1, "RESPONSE", .u8, .rwBoot, 0x03, .mask 0x3F⟩,
   ⟨0x02, 1, "ENABLE", .bool, .rwBoot, 0, .all⟩,
   ⟨0x03, 1, "COUNT_N", .u8, .rwBoot, 1, .upto 1 255⟩,
   ⟨0x04, 1, "WINDOW", .u32, .rwBoot, 1, .upto 1 1000000⟩,
   ⟨0x05, 1, "BACKUP_COUNT", .u8, .rwBoot, 1, .upto 1 8⟩,
   ⟨0x06, 1, "POLARITY", .u8, .rwBoot, 0, .upto 0 1⟩,
   ⟨0x07, 1, "SOURCE_STATE", .u8, .ro, 0, .all⟩,
   ⟨0x08, 1, "EVENTS", .u32, .ro, 0, .all⟩,
   ⟨0x09, 1, "FUSE_BLOW", .u32, .execBoot, 0, .oneOf [0x46555345]⟩]

/-- Objects of assay, 0x8000 (R452). -/
def rowsAssay : List Row :=
  [⟨0x01, 1, "AUDIT_ENABLE", .u8, .rw, 0x0F, .mask 0xF⟩,
   ⟨0x02, 1, "AUDIT_PERIOD", .u16, .rw, 10, .upto 1 1000⟩,
   ⟨0x03, 1, "MISMATCHES", .u64, .ro, 0, .all⟩,
   ⟨0x04, 1, "REPORT_POP", .u8, .exec, 0, .all⟩,
   ⟨0x05, 1, "REPORT", .octets 12, .ro, 0, .all⟩,
   ⟨0x06, 1, "REPORT_COUNT", .u8, .ro, 0, .all⟩,
   ⟨0x07, 1, "REPORT_LOST", .u64, .ro, 0, .all⟩,
   ⟨0x0A, 1, "CONDITIONS", .u16, .ro, 0, .all⟩,
   ⟨0x0B, 1, "REBASE", .u8, .exec, 0, .all⟩,
   ⟨0x10, 1, "CHECKPOINT", .u8, .exec, 0, .all⟩,
   ⟨0x11, 1, "CHECKPOINT_STATE", .u16, .ro, 0, .all⟩,
   ⟨0x12, 1, "RECLAIM", .u8, .exec, 0, .all⟩,
   ⟨0x13, 1, "RECLAIM_STATE", .u16, .ro, 0, .all⟩]

/-- Objects of counter window w at 0x8010+w (R455). -/
def rowsCounterWin : List Row :=
  [⟨0x01, 1, "SELECT", .u64, .rw, 0, .all⟩,
   ⟨0x02, 1, "CAPTURE_TIME", .u64, .ro, 0, .all⟩,
   ⟨0x03, 1, "CLEAR_MASK", .u32, .exec, 0, .all⟩,
   ⟨0x10, 32, "VALUE0-VALUE31", .u64, .ro, 0, .all⟩]

/-- Objects of performance counter block b at 0x8100+b (R459). -/
def rowsPerf : List Row :=
  [⟨0x01, 1, "PC_ENABLE", .u64, .rw, 0, .all⟩,
   ⟨0x02, 1, "PC_CLEAR", .u64, .exec, 0, .all⟩,
   ⟨0x03, 1, "PC_SATURATED", .u64, .ro, 0, .all⟩,
   ⟨0x04, 1, "PC_SATURATED_CLEAR", .u64, .exec, 0, .all⟩,
   ⟨0x10, 64, "SELECT0-63", .u32, .rw, 0x00000001, .all⟩,
   ⟨0x50, 64, "THRESHOLD0-63", .u32, .rw, 0, .all⟩,
   ⟨0x90, 64, "VALUE0-63", .u64, .ro, 0, .all⟩]

/-- Objects of event group g at 0x1400+g (R464). -/
def rowsEventGroup : List Row :=
  [⟨0x01, 1, "STATUS", .u16, .ro, 0, .all⟩,
   ⟨0x02, 1, "MASK", .u16, .rw, 0x0000, .all⟩,
   ⟨0x03, 1, "CLEAR", .u16, .exec, 0, .all⟩,
   ⟨0x04, 1, "ROUTE", .u16, .rw, 0, .mask 0xFFF⟩,
   ⟨0x05, 1, "RAISED", .u64, .ro, 0, .all⟩]

/-- Objects of event control, 0x1419 (R467). -/
def rowsEventCtl : List Row :=
  [⟨0x01, 1, "PINS", .u8, .ro, 0, .all⟩,
   ⟨0x02, 1, "HOLDOFF_OOB", .u16, .rw, 10, .upto 1 10000⟩,
   ⟨0x03, 1, "HOLDOFF_FIELD", .u16, .rw, 100, .upto 1 10000⟩,
   ⟨0x04, 1, "NOTIFY_SENT", .u64, .ro, 0, .all⟩,
   ⟨0x05, 1, "NOTIFY_MERGED", .u64, .ro, 0, .all⟩]

/-- Objects of watchdog, 0x141A (R469). -/
def rowsWatchdog : List Row :=
  [⟨0x01, 1, "WD_ENABLE", .u8, .rw, 0x00, .mask 0xF⟩,
   ⟨0x02, 1, "WD_TIMEOUT", .u32, .rw, 1000, .upto 10 60000⟩,
   ⟨0x03, 1, "WD_KICK", .u8, .exec, 0, .upto 0 3⟩,
   ⟨0x04, 1, "WD_EXPIRIES", .u32, .ro, 0, .all⟩,
   ⟨0x05, 1, "WD_LAST", .u8, .ro, 0xFF, .all⟩,
   ⟨0x06, 1, "WD_ESCALATE", .u8, .rw, 3, .upto 1 15⟩,
   ⟨0x07, 1, "FW_RESTARTS", .u32, .ro, 0, .all⟩,
   ⟨0x08, 1, "RECOVERY_POLICY", .u8, .rw, 0x01, .mask 3⟩]

/-- Objects of slice fault objects at 0x2600+s (R473). -/
def rowsSliceFault : List Row :=
  [⟨0x10, 1, "FENCE", .u8, .exec, 0, .all⟩,
   ⟨0x11, 1, "UNFENCE", .u8, .exec, 0, .all⟩,
   ⟨0x12, 1, "FENCE_AUTO", .bool, .rw, 1, .all⟩,
   ⟨0x13, 1, "SLICE_FAULT", .u16, .ro, 0, .all⟩,
   ⟨0x14, 1, "FAULT_CLEAR", .u16, .exec, 0, .all⟩,
   ⟨0x15, 1, "FENCES", .u32, .ro, 0, .all⟩]

/-- Objects of die-to-die link q at 0x141C+q (R481). -/
def rowsD2d : List Row :=
  [⟨0x01, 1, "LINK_STATE", .u8, .ro, 0, .all⟩,
   ⟨0x02, 1, "CRC_ERRORS", .u64, .ro, 0, .all⟩,
   ⟨0x03, 1, "RETRIES", .u64, .ro, 0, .all⟩,
   ⟨0x04, 1, "LINK_RESETS", .u32, .ro, 0, .all⟩]

/-- Objects of frame generator at 0x9010+q (R483). -/
def rowsGenerator : List Row :=
  [⟨0x01, 1, "TG_PAIR", .u8, .rw, 0, .all⟩,
   ⟨0x02, 1, "TG_DIR", .u8, .rw, 0, .upto 0 1⟩,
   ⟨0x03, 1, "TG_LENGTH", .u16, .rw, 64, .upto 64 10240⟩,
   ⟨0x04, 1, "TG_COUNT", .u32, .rw, 0, .all⟩,
   ⟨0x05, 1, "TG_CHANNEL", .u32, .rw, 0xFFFFFFFF, .all⟩,
   ⟨0x06, 2, "TG_HEADER", .octets 12, .rw, 0, .all⟩,
   ⟨0x08, 1, "TG_START", .u8, .exec, 0, .all⟩,
   ⟨0x09, 1, "TG_STOP", .u8, .exec, 0, .all⟩,
   ⟨0x0A, 1, "TG_RUNNING", .bool, .ro, 0, .all⟩,
   ⟨0x0B, 1, "TG_SENT", .u64, .ro, 0, .all⟩]

/-- Objects of injection, 0x9000 (R485). -/
def rowsInjection : List Row :=
  [⟨0x01, 1, "INJ_POINT", .u8, .rw, 0, .all⟩,
   ⟨0x02, 1, "INJ_INSTANCE", .u16, .rw, 0, .all⟩,
   ⟨0x03, 1, "INJ_ARG", .u32, .rw, 0, .all⟩,
   ⟨0x04, 1, "INJ_COUNT", .u8, .rw, 1, .upto 1 255⟩,
   ⟨0x05, 1, "INJ_FIRE", .u8, .exec, 0, .all⟩,
   ⟨0x06, 1, "INJ_CANCEL", .u8, .exec, 0, .all⟩,
   ⟨0x07, 1, "INJ_STATUS", .u8, .ro, 0, .all⟩,
   ⟨0x08, 1, "INJ_DONE", .u8, .ro, 0, .all⟩,
   ⟨0x09, 1, "TEST_ZEROISE_ARMED", .bool, .rw, 0, .all⟩,
   ⟨0x0A, 1, "INJ_TOTAL", .u64, .ro, 0, .all⟩]

/-- Objects of reset objects, 0x1020 (R495). -/
def rowsResetObj : List Row :=
  [⟨0x01, 1, "RESET_CAUSE", .u8, .ro, 0, .all⟩,
   ⟨0x02, 1, "RESET_COUNT", .u32, .ro, 0, .all⟩,
   ⟨0x03, 1, "SOFT_RESET", .u32, .exec, 0, .oneOf [0x52535430]⟩,
   ⟨0x04, 1, "BOOT_STATE", .u8, .ro, 0, .all⟩,
   ⟨0x05, 1, "BOOT_FAIL", .u8, .ro, 0, .all⟩,
   ⟨0x06, 1, "BOOT_TIME", .u32, .ro, 0, .all⟩,
   ⟨0x07, 1, "DOMAIN_RESET", .u8, .exec, 0, .upto 0 141⟩]

/-- Objects of FIRMWARE_INFO, 0x1010 (R503). -/
def rowsFirmware : List Row :=
  [⟨0x01, 1, "FW_VERSION", .octets 12, .ro, 0, .all⟩,
   ⟨0x02, 1, "SVN", .u32, .ro, 0, .all⟩,
   ⟨0x03, 1, "KEY_INDEX", .u8, .ro, 0xFF, .all⟩,
   ⟨0x04, 1, "BOOT_SOURCE", .u8, .ro, 0xFF, .all⟩,
   ⟨0x05, 1, "MIN_SVN", .u32, .ro, 0, .all⟩,
   ⟨0x06, 1, "KEY_REVOKED", .u8, .ro, 0, .all⟩,
   ⟨0x07, 1, "SVN_ADVANCE", .u32, .exec, 0, .all⟩,
   ⟨0x08, 1, "KEY_REVOKE", .u8, .exec, 0, .upto 0 3⟩]

/-- Objects of GPIO pin i at 0x1030+i (R518). -/
def rowsGpio : List Row :=
  [⟨0x01, 1, "GPIO_FUNC", .u8, .rw, 0, .upto 0 5⟩,
   ⟨0x02, 1, "GPIO_OUT", .bool, .rw, 0, .all⟩,
   ⟨0x03, 1, "GPIO_IN", .bool, .ro, 0, .all⟩,
   ⟨0x04, 1, "GPIO_PULL", .u8, .rw, 1, .upto 0 2⟩,
   ⟨0x05, 1, "GPIO_OWNER", .u8, .ro, 0, .all⟩]

/-- Objects of DEVICE_ID, 0x1000 (R535). -/
def rowsDeviceId : List Row :=
  [⟨0x01, 1, "DEVICE_ID", .u64, .ro, 0, .all⟩]

/-- Objects of REVISION, 0x1001 (R535). -/
def rowsRevision : List Row :=
  [⟨0x01, 1, "REVISION", .u8, .ro, 0x11, .all⟩]

/-- Objects of BEHAVIOUR_LEVEL, 0x1003 (R82). -/
def rowsBehaviour : List Row :=
  [⟨0x01, 1, "BEHAVIOUR_LEVEL", .u8, .rw, 2, .upto 1 2⟩,
   ⟨0x02, 1, "COMPAT_STRAP", .bool, .ro, 0, .all⟩]

/-- Objects of pins, 0x1040 (R520, R524). -/
def rowsPin : List Row :=
  [⟨0x01, 1, "PPS_PLACE", .u8, .rw, 0, .upto 0 1⟩,
   ⟨0x02, 1, "VID_CODE", .u8, .ro, 0, .all⟩]

/-- Objects of die temperatures, 0x1041 (R533). -/
def rowsDieTemp : List Row :=
  [⟨0x01, 5, "DIE_TEMP", .u16, .ro, 0, .all⟩]

/-- Objects of AON and VAULT, 0x118E and 0x118F (R401). -/
def rowsAlwaysOn : List Row :=
  [⟨0x02, 1, "POWER_STATE", .u8, .ro, 2, .all⟩,
   ⟨0x04, 1, "PARENT", .u8, .ro, 0xFF, .all⟩]

/-- Objects of protection map, 0x1300 (R47, R51). -/
def rowsProt : List Row :=
  [⟨0x01, 1, "PROT_SEAL", .u8, .execBoot, 0, .all⟩,
   ⟨0x02, 1, "SEAL_STATE", .bool, .ro, 0, .all⟩,
   ⟨0x03, 1, "DEFAULT_ACCESS", .u32, .rwBoot, 0x1200121E, .all⟩]

/-- Objects of DAP sessions, 0x1500 (R63, R64). -/
def rowsSession : List Row :=
  [⟨0x01, 1, "SESSION_OPEN", .octets 12, .exec, 0, .all⟩,
   ⟨0x02, 1, "SESSION_CLOSE", .u16, .exec, 0, .all⟩,
   ⟨0x03, 1, "SESSION_IDLE_TIME", .u16, .rw, 60, .upto 1 3600⟩]

/-- Objects of management port, 0x1510 (R62, R73). -/
def rowsMgmt : List Row :=
  [⟨0x01, 1, "MGMT_IPV4_ADDR", .u32, .rw, 0xA9FE0001, .all⟩,
   ⟨0x02, 1, "MGMT_IPV4_MASK", .u32, .rw, 0xFFFF0000, .all⟩,
   ⟨0x03, 1, "MGMT_IPV4_GW", .u32, .rw, 0, .all⟩,
   ⟨0x04, 1, "DAP_UDP_PORT", .u16, .rw, 7710, .all⟩,
   ⟨0x05, 1, "OOB_AUTH_SLOT", .u8, .rwBoot, 0xFF, .all⟩,
   ⟨0x06, 1, "MGMT_MODE", .u8, .rw, 0, .upto 0 1⟩]

/-- Objects of CAN FD port, 0x1520 (R62, R74). -/
def rowsCan : List Row :=
  [⟨0x01, 1, "CAN_NODE_ID", .u8, .rw, 1, .upto 1 127⟩,
   ⟨0x02, 1, "CAN_NOMINAL_RATE", .u32, .rw, 500000, .oneOf [125000, 250000, 500000, 1000000]⟩,
   ⟨0x03, 1, "CAN_DATA_RATE", .u32, .rw, 2000000, .oneOf [1000000, 2000000, 4000000, 5000000]⟩,
   ⟨0x04, 1, "FIELD_AUTH_SLOT", .u8, .rwBoot, 0xFF, .all⟩,
   ⟨0x05, 1, "CAN_STATE", .u8, .ro, 0, .all⟩]

/-- Objects of PCI Express, 0x1530 (R77). -/
def rowsPcie : List Row :=
  [⟨0x01, 1, "PCIE_LINK", .u8, .ro, 0, .all⟩,
   ⟨0x02, 1, "LAST_ABORT", .u64, .ro, 0, .all⟩,
   ⟨0x03, 1, "HOST_DENIED", .u64, .ro, 0, .all⟩]

/-- Objects of transport counters, 0x1540 (R77). -/
def rowsDapCount : List Row :=
  [⟨0x01, 1, "AUTH_FAIL_OOB", .u64, .ro, 0, .all⟩,
   ⟨0x02, 1, "AUTH_FAIL_FIELD", .u64, .ro, 0, .all⟩,
   ⟨0x03, 1, "REPLAY_COUNT", .u64, .ro, 0, .all⟩]

/-- Objects of lane l at 0x2200+l (R98). -/
def rowsLane : List Row :=
  [⟨0x01, 1, "LANE_STATE", .u8, .ro, 0, .all⟩,
   ⟨0x02, 1, "LANE_RATE", .u8, .rw, 0, .upto 1 8⟩,
   ⟨0x03, 1, "RX_POLARITY", .u8, .rw, 0, .upto 0 2⟩,
   ⟨0x04, 1, "RX_INVERTED", .bool, .ro, 0, .all⟩,
   ⟨0x05, 1, "TX_INVERT", .bool, .rw, 0, .all⟩,
   ⟨0x06, 1, "TX_PRESET", .u8, .rw, 0, .all⟩,
   ⟨0x08, 1, "SKEW", .u32, .ro, 0, .all⟩,
   ⟨0x09, 1, "FEC_SYMBOLS", .u64, .ro, 0, .all⟩,
   ⟨0x0A, 1, "PRBS_PATTERN", .u8, .rw, 0, .upto 0 10⟩,
   ⟨0x0B, 1, "PRBS_CHECK", .u8, .rw, 0, .upto 0 9⟩,
   ⟨0x0C, 1, "PRBS_STATUS", .u8, .ro, 0, .all⟩,
   ⟨0x0D, 1, "PRBS_ERRORS", .u64, .ro, 0, .all⟩,
   ⟨0x0E, 1, "PRBS_BITS", .u64, .ro, 0, .all⟩,
   ⟨0x0F, 1, "PRBS_CLEAR", .u8, .exec, 0, .all⟩,
   ⟨0x10, 1, "PRBS_INSERT", .u8, .exec, 0, .upto 1 255⟩]

/-- Objects of MKA contexts, 0x3070 (R248). -/
def rowsCtx : List Row :=
  [⟨0x01, 1, "CTX_SELECT", .u8, .rw, 0, .all⟩,
   ⟨0x02, 1, "CTX_STATUS", .u32, .ro, 0, .all⟩,
   ⟨0x03, 1, "CTX_ERASE", .u8, .exec, 0, .all⟩]

/-- Objects of SA-store window at 0x3100+4q+w (R232). -/
def rowsSaWin : List Row :=
  [⟨0x01, 1, "CMD", .u8, .exec, 0, .all⟩,
   ⟨0x02, 1, "SA", .u16, .rw, 0, .all⟩,
   ⟨0x03, 5, "VIEW", .u64, .rw, 0, .all⟩,
   ⟨0x08, 1, "STATUS", .u16, .ro, 0, .all⟩]

/-- Objects of E_PROFILE of quadrant q at 0x4090+q (R263). -/
def rowsEprof : List Row :=
  [⟨0x01, 64, "E_PROFILE", .u8, .rw, 3, .upto 0 15⟩]

/-- Objects of LOOPBACK of quadrant q at 0x9030+q (R482). -/
def rowsLoop : List Row :=
  [⟨0x01, 64, "LOOPBACK", .u8, .rw, 0, .upto 0 4⟩]

/-- Deep-buffer objects, 0x5003, with stacks 0 and 1 at .D0 and .D8 (R311). -/
def rowsDeep : List Row :=
  [⟨0xC0, 1, "SPILL_LIMIT", .u32, .ro, 9800, .all⟩,
   ⟨0xC1, 1, "SPILL_RATE", .u32, .ro, 0, .all⟩,
   ⟨0xC2, 1, "SEAL_STATE", .u8, .ro, 0, .all⟩,
   ⟨0xC3, 1, "STACK_ENABLE", .u8, .rw, 3, .mask 3⟩,
   ⟨0xC4, 1, "PAGES_FREE", .u32, .ro, 0, .all⟩] ++
  [0xD0, 0xD8].flatMap (fun b =>
    [⟨b, 1, "PAGES_USED", .u32, .ro, 0, .all⟩,
     ⟨b + 1, 1, "ECC_CORRECTED", .u64, .ro, 0, .all⟩,
     ⟨b + 2, 1, "ECC_UNCORRECTABLE", .u64, .ro, 0, .all⟩,
     ⟨b + 3, 1, "STACK_STATE", .u8, .ro, 0, .all⟩])

/-- Queue windows of quadrant q at 0x5001+64q: window w at .C0+16w (R317). -/
def rowsQueueWin : List Row :=
  [0xC0, 0xD0, 0xE0, 0xF0].flatMap (fun b =>
    [⟨b, 1, "CMD", .u8, .exec, 0, .all⟩,
     ⟨b + 1, 1, "TABLE", .u8, .rw, 0, .upto 0 2⟩,
     ⟨b + 2, 1, "INDEX", .u32, .rw, 0, .all⟩,
     ⟨b + 3, 4, "DATA0-3", .u64, .rw, 0, .all⟩,
     ⟨b + 7, 1, "STATUS", .u16, .ro, 0, .all⟩])

/-- The object table of a kind of index. -/
def Cls.rows : Cls → List Row
  | .family => rowsFamily
  | .region => rowsRegion
  | .linePort => rowsLinePort
  | .sysPort => rowsSysPort
  | .policy => rowsPolicy
  | .carrier => rowsCarrier
  | .laneCarrier => rowsLaneCarrier
  | .vault => rowsVault
  | .slot => rowsSlot
  | .planisher => rowsPlanisher
  | .jobWin => rowsJobWin
  | .saQuad => rowsSaQuad
  | .mkaBinding => rowsMkaBinding
  | .tableDesc => rowsTableDesc
  | .tableWin => rowsTableWin
  | .learn => rowsLearn
  | .buffer => rowsBuffer
  | .sched => rowsSched
  | .gate => rowsGate
  | .sampler => rowsSampler
  | .calendar => rowsCalendar
  | .slice => rowsSlice
  | .timeUnit => rowsTimeUnit
  | .portTs => rowsPortTs
  | .comparator => rowsComparator
  | .schedQueue => rowsSchedQueue
  | .clockMon => rowsClockMon
  | .pll => rowsPll
  | .domain => rowsDomain
  | .tamper => rowsTamper
  | .tamperSource => rowsTamperSource
  | .assay => rowsAssay
  | .counterWin => rowsCounterWin
  | .perf => rowsPerf
  | .eventGroup => rowsEventGroup
  | .eventCtl => rowsEventCtl
  | .watchdog => rowsWatchdog
  | .sliceFault => rowsSliceFault
  | .d2d => rowsD2d
  | .generator => rowsGenerator
  | .injection => rowsInjection
  | .resetObj => rowsResetObj
  | .firmware => rowsFirmware
  | .gpio => rowsGpio
  | .deviceId => rowsDeviceId
  | .revision => rowsRevision
  | .behaviour => rowsBehaviour
  | .pin => rowsPin
  | .dieTemp => rowsDieTemp
  | .alwaysOn => rowsAlwaysOn
  | .prot => rowsProt
  | .session => rowsSession
  | .mgmt => rowsMgmt
  | .can => rowsCan
  | .pcie => rowsPcie
  | .dapCount => rowsDapCount
  | .lane => rowsLane
  | .ctx => rowsCtx
  | .saWin => rowsSaWin
  | .eprof => rowsEprof
  | .loop => rowsLoop
  | .deep => rowsDeep
  | .queueWin => rowsQueueWin

end Sys2Proof.Machine
end

