-- ==== Sys2Proof/Machine/Dict.lean ====
section
/-! DEFINITION. Which objects exist at an index (R35, R42), their defaults (R39) and the domain each lies in (R43). -/
namespace Sys2Proof.Machine

/-- The five roles (R45), numbered as the bits of R48. -/
inductive Role where
  | boot | host | oob | field | firm
  deriving DecidableEq, Repr

/-- The role's bit in a rights field (R48). -/
def Role.bitNo : Role → Nat
  | .boot => 0 | .host => 1 | .oob => 2 | .field => 3 | .firm => 4

/-- The key of object `i.j` in the register table. -/
def okey (i j : Nat) : Nat := i * 256 + j

/-- `x` lies in `lo` to `lo + n - 1`. -/
def within (lo n x : Nat) : Bool := lo ≤ x && x < lo + n

/-- The kinds of the range 0x1000 to 0x15FF at index `i`, with the instance number (R42). -/
def instsKeystone (i : Nat) : List (Cls × Nat) :=
  if i < 0x1100 then
    if i = 0x1000 then [(.deviceId, 0)] else if i = 0x1001 then [(.revision, 0)] else if i = 0x1002 then [(.family, 0)]
    else if i = 0x1003 then [(.behaviour, 0)] else if i = 0x1010 then [(.firmware, 0)]
    else if i = 0x1020 then [(.resetObj, 0)] else if within 0x1030 16 i then [(.gpio, i - 0x1030)]
    else if i = 0x1040 then [(.pin, 0)] else if i = 0x1041 then [(.dieTemp, 0)] else []
  else if i < 0x1200 then
    if within 0x1100 142 i then [(.domain, i - 0x1100)] else if within 0x118E 2 i then [(.alwaysOn, i - 0x118E)] else []
  else if i < 0x1300 then
    if i = 0x1200 then [(.clockMon, 0)] else if within 0x1210 8 i then [(.pll, i - 0x1210)] else []
  else if i < 0x1400 then if i = 0x1300 then [(.prot, 0)] else [(.region, i - 0x1300)]
  else if i < 0x1500 then
    if within 0x1400 25 i then [(.eventGroup, i - 0x1400)] else if i = 0x1419 then [(.eventCtl, 0)]
    else if i = 0x141A then [(.watchdog, 0)] else if within 0x141C 4 i then [(.d2d, i - 0x141C)] else []
  else if i = 0x1500 then [(.session, 0)] else if i = 0x1510 then [(.mgmt, 0)] else if i = 0x1520 then [(.can, 0)]
  else if i = 0x1530 then [(.pcie, 0)] else if i = 0x1540 then [(.dapCount, 0)] else []

/-- The kinds of the range 0x2000 to 0x31FF at index `i` (R42). -/
def instsPorts (i : Nat) : List (Cls × Nat) :=
  if i < 0x2100 then [(.linePort, i - 0x2000), (.portTs, i - 0x2000)]
  else if i < 0x2200 then [(.sysPort, i - 0x2100), (.portTs, i - 0x2000)]
  else if i < 0x2300 then [(.lane, i - 0x2200), (.laneCarrier, i - 0x2200)]
  else if i < 0x2400 then [(.lane, i - 0x2200)]
  else if i < 0x2500 then [(.policy, i - 0x2400)]
  else if i < 0x2600 then [(.carrier, i - 0x2500)]
  else if i < 0x2640 then [(.slice, i - 0x2600), (.sliceFault, i - 0x2600)]
  else if i = 0x3000 then [(.vault, 0)]
  else if within 0x3010 64 i then [(.slot, i - 0x3010)]
  else if within 0x3050 5 i then [(.planisher, i - 0x3050)]
  else if within 0x3060 8 i then [(.jobWin, i - 0x3060)]
  else if i = 0x3070 then [(.ctx, 0)]
  else if within 0x3080 64 i then [(.mkaBinding, i - 0x3080)]
  else if within 0x3100 16 i then [(.saWin, i - 0x3100)]
  else if within 0x3110 4 i then [(.saQuad, i - 0x3110)]
  else []

/-- The kinds of the range 0x4000 to 0x9FFF at index `i` (R42). -/
def instsBlocks (i : Nat) : List (Cls × Nat) :=
  if within 0x4010 16 i then [(.tableDesc, i - 0x4010)]
  else if within 0x4040 64 i then [(.tableWin, i - 0x4040)]
  else if within 0x4080 4 i then [(.learn, i - 0x4080)]
  else if within 0x4090 4 i then [(.eprof, i - 0x4090)]
  else if within 0x5000 256 i then
    (.sched, i - 0x5000) ::
      (if (i - 0x5000) % 64 = 0 then [(.buffer, (i - 0x5000) / 64)] else []) ++
      (if (i - 0x5000) % 64 = 1 then [(.queueWin, (i - 0x5000) / 64)] else []) ++
      (if (i - 0x5000) % 64 = 2 then [(.sampler, (i - 0x5000) / 64)] else []) ++
      (if i = 0x5003 then [(.deep, 0)] else [])
  else if within 0x5100 256 i then [(.sched, i - 0x5000)]
  else if within 0x5800 512 i then [(.gate, i - 0x5800)]
  else if within 0x6000 64 i then [(.calendar, i - 0x6000)]
  else if i = 0x7000 then [(.timeUnit, 0)]
  else if within 0x7010 8 i then [(.comparator, i - 0x7010)]
  else if i = 0x7020 then [(.schedQueue, 0)]
  else if i = 0x7800 then [(.tamper, 0)]
  else if within 0x7810 13 i then [(.tamperSource, i - 0x7810)]
  else if i = 0x8000 then [(.assay, 0)]
  else if within 0x8010 8 i then [(.counterWin, i - 0x8010)]
  else if within 0x8100 5 i then [(.perf, i - 0x8100)]
  else if i = 0x9000 then [(.injection, 0)]
  else if within 0x9010 4 i then [(.generator, i - 0x9010)]
  else if within 0x9030 4 i then [(.loop, i - 0x9030)]
  else []

/-- The kinds of object at index `i`, each with its instance number; none where the index does not exist (R42). -/
def insts (i : Nat) : List (Cls × Nat) :=
  if i < 0x1600 then (if i < 0x1000 then [] else instsKeystone i)
  else if i < 0x2000 then [] else if i < 0x4000 then instsPorts i else instsBlocks i

/-- Whether subindex `j` of a kind is present on instance `n` (R35). -/
def presentAt (c : Cls) (n j : Nat) : Bool :=
  match c with
  | .planisher => !(n = 4 && j = 5)
  | .tableDesc => !(2 ≤ n % 4 && (within 3 7 j || within 0x11 4 j))
  | .tamperSource => (j != 5 || 5 ≤ n) && (j != 6 || (9 ≤ n && n ≤ 12))
  | .perf => !(n = 4 && (within 0x30 32 j || within 0x70 32 j || within 0xB0 32 j))
  | _ => true

/-- The row of subindex `j` in one object table. -/
def rowIn (rows : List Row) (j : Nat) : Option Row :=
  rows.find? (fun r => within r.sub r.cnt j)

/-- The object `i.j`: its kind, instance and row. -/
def objIn : List (Cls × Nat) → Nat → Option (Cls × Nat × Row)
  | [], _ => none
  | (c, n) :: t, j =>
    match rowIn c.rows j with
    | some r => if presentAt c n j then some (c, n, r) else objIn t j
    | none => objIn t j

/-- The object `i.j`, subindex 0 apart (R35). -/
def objAt (i j : Nat) : Option (Cls × Nat × Row) := objIn (insts i) j

/-- NUM_SUB of index `i`: the highest subindex present on it (R35). -/
def numSub (i : Nat) : Nat :=
  (List.range 256).foldl (fun m j => if (objAt i j).isSome then j else m) 0

/-- POWER_STATE codes (R401). -/
def psOff : Nat := 0
def psRetain : Nat := 1
def psOn : Nat := 2
def psToOn : Nat := 3
def psToRetain : Nat := 4
def psToOff : Nat := 5
def psFault : Nat := 6

/-- PARENT of a switched domain, 0xFF for none (R400). -/
def parentOf (d : Nat) : Nat := if d < 136 && d % 34 != 33 then d / 34 * 34 + 33 else 0xFF

/-- STATES_ALLOWED of a switched domain: bit 0 OFF, bit 1 RETAIN, bit 2 ON (R400). -/
def statesAllowed (d : Nat) : Nat := if d < 136 then 7 else if d = 136 then 6 else 5

/-- PLL_FREQ in kHz (R395): PLLs 0 to 3 make 1.6 GHz, 4 1.2 GHz, 5 1.0 GHz, 6 500 MHz, 7 400 MHz. -/
def pllFreq (p : Nat) : Nat :=
  if p < 4 then 1600000 else if p = 4 then 1200000 else if p = 5 then 1000000 else if p = 6 then 500000 else 400000

/-- A TABLEREF value (R37). -/
def tableRef (kind q ap aper entries : Nat) : Nat :=
  kind * 2 ^ 56 + q * 2 ^ 52 + ap * 2 ^ 48 + aper * 2 ^ 24 + entries

/-- The TABLEREF of table t of quadrant q (R259). -/
def tableRefOf (q t : Nat) : Nat :=
  match t with
  | 0 => tableRef 1 q 1 (0x800 * q) 32768
  | 1 => tableRef 2 q 1 (0x800 * q + 0x300) 32768
  | 2 => tableRef 3 q 1 (0x800 * q + 0x600) 1024
  | _ => tableRef 4 q 1 (0x800 * q + 0x610) 8192

/-- The value object `i.j` holds at reset, by instance where the tables give one default for each instance. -/
def dfltOf (i j : Nat) : Nat :=
  match objAt i j with
  | none => if j = 0 then numSub i else 0
  | some (c, n, r) =>
    match c, j with
    | .deviceId, 1 => Config.deviceId.toNat
    | .pin, 2 => Config.vidCode.toNat
    | .slot, 1 => if n = 63 then 5 else 0
    | .domain, 1 => if n = 136 || within 139 3 n then 2 else 0
    | .domain, 2 => if n = 136 then psOn else if within 139 3 n then psToOn else psOff
    | .domain, 4 => parentOf n
    | .domain, 5 => statesAllowed n
    | .pll, 1 => if n = 6 then 1 else if 4 ≤ n then 2 else 0
    | .pll, 3 => pllFreq n
    | .tableDesc, 1 => tableRefOf (n / 4) (n % 4)
    | .buffer, 0xC0 => tableRef 0x10 n 0 0 65536
    | .buffer, 0xC1 => tableRef 0x11 n 0 0 8192
    | .buffer, 0xC2 => tableRef 0x12 n 0 0 1024
    | .sampler, 0xC1 => 65536 * n
    | .slice, 2 => n / 8 % 2
    | .tamperSource, 2 => if n ≤ 8 then 1 else 0
    | .eventGroup, 4 => 0x0840 + n
    | .generator, 1 => 64 * n
    | _, _ => r.dflt

/-- The default of a key of the register table. -/
@[irreducible] def dflt (k : Nat) : Nat := dfltOf (k / 256) (k % 256)

/-- The domain object `i.j` lies in, or none where it answers whenever main power is present (R43). The spec places no
domain on the port, policy and carrier objects (log 10), nor on the generators' and LOOPBACK. DESIGN CHOICE: they answer always (log 215). -/
def domainIn (c : Cls) (n j : Nat) : Option Nat :=
  match c with
  | .portTs => if n < 256 then some (n / 64 * 34 + 16 + n / 8 % 8) else some ((n - 256) / 64 * 34 + 24 + n / 8 % 8)
  | .lane => if n < 256 then some (n / 64 * 34 + 16 + n / 8 % 8) else some ((n - 256) / 64 * 34 + 24 + n / 8 % 8)
  | .laneCarrier => some (n / 64 * 34 + 16 + n / 8 % 8)
  | .slice => if j = 1 then some (n / 16 * 34 + 33) else some (n / 16 * 34 + n % 16)
  | .sliceFault => some (n / 16 * 34 + 33)
  | .calendar => some (n / 16 * 34 + n % 16)
  | .planisher => if n < 4 then some (34 * n + 32) else none
  | .saWin => some (n / 4 * 34 + 32)
  | .saQuad => some (34 * n + 32)
  | .tableDesc => some (n / 4 * 34 + 32)
  | .tableWin => some (n / 16 * 34 + 32)
  | .learn => some (34 * n + 32)
  | .eprof => some (34 * n + 32)
  | .sched => some (n % 256 / 64 * 34 + 33)
  | .gate => some (n % 256 / 64 * 34 + 33)
  | .buffer => some (34 * n + 33)
  | .queueWin => some (34 * n + 33)
  | .sampler => some (34 * n + 33)
  | .deep => if within 0xD0 4 j then some 137 else if within 0xD8 4 j then some 138 else none
  | .timeUnit => some 141
  | .comparator => some 141
  | .schedQueue => some 141
  | .perf => if n < 4 then some (34 * n + 33) else none
  | _ => none

end Sys2Proof.Machine
end

