-- ==== Sys2Proof/Machine/Tbl.lean ====
section
/-! DEFINITION. Sparse tables: a list of (key, value) pairs in one canonical form. Keys rise strictly and no entry
holds the value an unlisted key reads as, so equal tables are equal lists. Every register group, buffer and memory of
the part is held in one of these. -/
namespace Sys2Proof.Machine

/-- A sparse table: keys rising, no entry equal to the default of its key. -/
abbrev Tbl (α : Type) := List (Nat × α)

/-- The entry listed at `k`, if any. -/
def Tbl.find {α : Type} : Tbl α → Nat → Option α
  | [], _ => none
  | (k', v) :: t, k => if k' = k then some v else Tbl.find t k

/-- What `t` holds at `k`; an unlisted key reads as `d k`. -/
def Tbl.get {α : Type} (d : Nat → α) (t : Tbl α) (k : Nat) : α :=
  (Tbl.find t k).getD (d k)

/-- `t` without its entry at `k`. -/
def Tbl.erase {α : Type} (t : Tbl α) (k : Nat) : Tbl α :=
  t.filter (fun p => p.1 != k)

/-- `t` with `(k, v)` put before the first larger key. -/
def Tbl.ins {α : Type} (k : Nat) (v : α) : Tbl α → Tbl α
  | [] => [(k, v)]
  | p :: t => if k < p.1 then (k, v) :: p :: t else p :: Tbl.ins k v t

/-- `t` with `v` at `k`; writing the default of `k` removes the entry. -/
def Tbl.set {α : Type} [DecidableEq α] (d : Nat → α) (t : Tbl α) (k : Nat) (v : α) : Tbl α :=
  if v = d k then Tbl.erase t k else Tbl.ins k v (Tbl.erase t k)

/-- `t` with every key on which `p` holds returned to its default. -/
def Tbl.drop {α : Type} (p : Nat → Bool) (t : Tbl α) : Tbl α :=
  t.filter (fun e => !p e.1)

/-- The canonical form: keys strictly rising, no entry equal to its default. -/
def Tbl.wf {α : Type} [DecidableEq α] (d : Nat → α) (t : Tbl α) : Bool :=
  (t.map (·.1)).Pairwise (· < ·) && t.all (fun p => p.2 != d p.1)

end Sys2Proof.Machine
end

