-- ==== Sys2Proof/Machine/State.lean ====
section
/-! DEFINITION. The state of the block as plain data: every register of the dictionary, the engines' hidden state, the queue
of waiting commands, and the state right after power-on reset. Moments are counted in CCLK cycles of 0.625 ns where a field
says cycles, and in ns, µs or ms where it says so; the moment `t` that a command carries is the CCLK cycle in which it comes about. -/
namespace Sys2Proof.Machine

/-- A command that cannot come about: the machine stops. -/
inductive Fault where
  /-- Raised by every command whose operand names an instance the part does not have (a lane above 511, a slice above 63). Safe:
  no such event can reach the part. -/
  | noInstance
  deriving DecidableEq, Repr

/-- A command the model gives no meaning. -/
inductive Refusal where
  /-- Raised by an arm of the dispatch whose command has no meaning yet. Safe: nothing can be proved of it. -/
  | notModelled (mnemonic : String)
  deriving DecidableEq, Repr

/-- What the latest access was answered with: the abort code (0 success), and the value with its type and length (R68). -/
structure Answer where
  abort : Nat
  ty : Nat
  len : Nat
  value : Nat
  deriving DecidableEq, Repr

/-- How the FCS of a frame leaves (R133, R148). -/
inductive Fcs where
  | good | stomped | errorBlock
  deriving DecidableEq, Repr

/-- A block of 64b/66b coding after a frame's start block, as it enters the coder, ahead of any transcoding to 256b/257b (R148): eight data
bytes; the block that ends the frame with the bytes left, 0 to 7; the control block of type 0x1E with all eight characters /E/. -/
inductive Pcs where
  | data (b : Bytes) | terminate (b : Bytes) | error
  deriving DecidableEq, Repr

/-- What takes the place of client bits: nothing, idle blocks, an error block that ends a frame and idle blocks after it, ones, Local Fault
ordered sets, an error block that ends a frame and Local Fault ordered sets after it (R186, R200, R201). -/
inductive Fill where
  | data | idle | cut | ones | localFault | cutFault
  deriving DecidableEq, Repr

/-- A dictionary lane that sends, and whether what it sends is in the inverted form, TX_INVERT being 1 (R101). -/
structure TxLane where
  lane : Nat
  inverted : Bool
  deriving DecidableEq, Repr

/-- What the block puts out, in order: the model's record of everything that leaves it. -/
inductive Emit where
  /-- A frame with its FCS at side `side` (n for LPn, 256+n for SPn); `lanes` are the lanes that send its logical lanes 0, 1 and so on
  (R101, R103). -/
  | frame (side : Nat) (lanes : List TxLane) (blocks : List Pcs)
  /-- One carrier frame of anchor `n`: the lane frames sent on LLn, LL(n+1), and so on (R163). -/
  | carrier (n : Nat) (lanes : List Bytes)
  /-- What one carrier frame's time carries toward the system side of pair `n`: `bits` client bits, or their filling (R186, R200); `lanes` are
  the lanes that send its logical lanes (R101, R103). -/
  | client (n : Nat) (lanes : List TxLane) (fill : Fill) (bits : Nat) (data : Bytes)
  /-- 64b/66b blocks restored for the system PCS of pair `n`, ahead of its markers, FEC and idle adaptation: control or data, and the eight
  bytes (R174); `lanes` as above. -/
  | blocks (n : Nat) (lanes : List TxLane) (b : List (Bool × Bytes))
  /-- A far-end loopback retransmits what side `side` receives (R482): a frame, its FCS good or not, or a carrier frame. -/
  | retransmit (side : Nat) (lanes : List TxLane) (b : Bytes) (good : Bool)
  /-- The same of what the client of a CARRIER pair brings to system side `side`. -/
  | retransmitClient (side : Nat) (lanes : List TxLane) (l : List ClientItem)
  /-- A training burst on lane `l`: 1.0 µs of PRBS13 (NRZ) or 2.0 µs of PRBS13Q (PAM4) (R113). -/
  | burst (l : Nat) (pam4 : Bool)
  /-- The next bits of the PRBS generator of lane `l`, before Gray coding on a PAM4 lane (R108, R109). -/
  | prbs (l : Nat) (bits : List Bool)
  /-- One MSI-X message: address and data of the vector's table entry. -/
  | msix (vector addr data : Nat)
  /-- A datagram of the management port, to an address and port. -/
  | udp (dest : Nat) (data : Bytes)
  /-- An ARP or ICMP echo answer of the management port. -/
  | mgmt (data : Bytes)
  /-- A CAN FD frame. -/
  | can (ident : Nat) (data : Bytes)
  /-- A write of host memory. -/
  | hostWrite (addr : Nat) (data : Bytes)
  /-- A punted frame handed to the control cluster: pair, from the line side, reason, channel, timestamp, frame. -/
  | puntFirm (pair : Nat) (line : Bool) (reason channel ts : Nat) (data : Bytes)
  /-- An interrupt to the control cluster for event group `g`. -/
  | firm (g : Nat)
  /-- A PCI Express completion: Unsupported Request. -/
  | unsupported
  /-- Bits shifted out on TDO, first bit first (R527). -/
  | tdo (bits : List Bool)
  /-- The balls driven by boundary scan: from its register (0), by pulses (1) or trains (2) of it, or in high impedance (3). -/
  | balls (how : Nat) (bits : List Bool)
  /-- The level of an output pin. -/
  | pin (name : String) (level : Bool)
  /-- VID[4:0] drives a code, or is high-impedance (R521, R524). -/
  | vid (code : Option Nat)
  /-- A command sent to the boot flash: its bytes ahead of any dummy clocks (R526). -/
  | spi (command : Bytes)
  /-- Side `side` begins or ceases to send continuous Local Fault ordered sets in place of frames (R432, R476, R482). -/
  | localFault (side : Nat) (on : Bool)
  /-- A learning, sampler or SA-store record kept for the control cluster. -/
  | note (data : Bytes)
  deriving DecidableEq, Repr

/-- An access of an object (R36) whose EXEC or wake is still in progress (R52, R56). -/
structure Pending where
  key : Nat
  path : Path
  deriving DecidableEq, Repr

/-- The BAR0 aperture: one read capture, one write staging, ENTRY_STATUS of each entry (R52, R54). -/
structure Bar0 where
  /-- Entry key and captured value. -/
  capture : Option (Nat × Nat)
  /-- Entry key of the staging. -/
  stagingOf : Option Nat
  /-- The staged bytes, by byte number. -/
  staging : Tbl (Option Byte)
  /-- ABORT of each entry. -/
  status : Tbl Nat
  deriving DecidableEq, Repr

/-- The registers of one ring (R58). -/
structure Ring where
  base : Nat
  size : Nat
  vector : Nat
  prod : Nat
  cons : Nat
  enable : Bool
  wb : Nat
  /-- The STATUS.ERROR of a BASE that is not 4 KB aligned when the ring is started. -/
  baseError : Bool
  deriving DecidableEq, Repr

/-- A ring with its registers at their defaults. -/
def Ring.init : Ring := ⟨0, 0, 0, 0, 0, false, 0, false⟩

/-- A punted frame waiting for a buffer (R59): its ring and pair, whether it came from the line side, reason, channel, timestamp,
what is left of the frame, and its length and pool as stored; originated by the part, so in no term of law 1 (R446). -/
structure Punt where
  ring : Nat
  len : Nat
  pool : Nat
  pair : Nat
  line : Bool
  reason : Nat
  channel : Nat
  ts : Nat
  data : Bytes
  own : Bool
  deriving DecidableEq, Repr

/-- MSI-X (R61): the enable and function mask, the 16-byte table entries, the pending-bit array. -/
structure Msix where
  enable : Bool
  fmask : Bool
  table : Tbl Nat
  pba : Nat
  deriving DecidableEq, Repr

/-- One open DAP session (R63, R72, R467). -/
structure Session where
  role : Role
  id : Nat
  key : Bytes
  /-- The highest sequence number accepted, and the accepted ones among the 63 below it, bit i for high - 1 - i. -/
  high : Nat
  seen : Nat
  /-- NOTIFY messages sent. -/
  notes : Nat
  /-- The source of the most recent authenticated request (address and port; unused on CAN FD). -/
  peer : Nat
  /-- Events in their holdoff, each with the compact time of the latest raise that fell within it and how many did. -/
  hold : List (Nat × Option (Nat × Nat))
  deriving DecidableEq, Repr

/-- An authenticated DAP request (R66, R68): the transport's role, session, sequence number, source, operation and body. -/
structure DapAsk where
  role : Role
  sid : Nat
  seq : Nat
  peer : Nat
  op : Nat
  body : Bytes
  deriving DecidableEq, Repr

/-- The DAP engine: open sessions, the highest sequence number accepted on session 0 of each transport, the CAN FD reassembly (bytes
and next segment number), and the CAN FD segments that wait for the bus, oldest first, each with the message it belongs to. -/
structure Dap where
  sessions : List Session
  baseHighOob : Nat
  baseHighField : Nat
  reasm : Option (Bytes × Nat)
  canOut : List (Bytes × Bytes)
  /-- Requests whose EXEC is in progress and not yet answered, by entry key (R70). -/
  waits : List (Nat × DapAsk)
  deriving DecidableEq, Repr

/-- The boot engine (R491 to R510). -/
structure Boot where
  /-- COMPAT and BOOT_SRC as sampled at the last keystone reset. -/
  compat : Bool
  bootSrc : Nat
  /-- PROT_SEAL has been written since the last keystone reset: the BOOT role is gone (R51). -/
  sealed : Bool
  /-- DEVICE_READY has been raised since the last keystone reset. -/
  ready : Bool
  /-- The boot capability's IMAGE_ADDR, IMAGE_LEN and FAIL_DETAIL (R499). -/
  imageAddr : Nat
  imageLen : Nat
  failDetail : Nat
  /-- The source being tried: 0 flash copy A, 1 flash copy B, 2 host. -/
  source : Nat
  /-- The image read, waiting for its checks: none where the read failed (R501). -/
  image : Option Bytes
  /-- Attempts timed out in this keystone-reset period (R508). -/
  timeouts : Nat
  /-- The next boot-configuration record's number (R499). -/
  record : Nat
  /-- The present boot is a firmware restart (R472, R510). -/
  restart : Bool
  /-- The control cluster runs. -/
  clusterRuns : Bool
  /-- What holds the keystone in reset: bit 0 SYS_RST_N, bit 1 SYSCLK, bit 2 PLL 4 or 7, bit 3 the release still to come (R491). -/
  holding : Nat
  /-- SYS_RST_N and PERST_N are low. -/
  sysRstLow : Bool
  perstLow : Bool
  /-- PCI Express configuration space is ready (R500). -/
  configReady : Bool
  /-- Step 7 of R492 waits for a zeroisation in progress. -/
  keysWait : Bool
  deriving DecidableEq, Repr

/-- The power controller: domains in TO_ON that left RETAIN (R405), and RETAIN domains woken for zeroisation (R407); pairs that wait for
their domains to be ON before they enter TRAINING, and sides that wait for them to leave electrical idle (R404). -/
structure Power where
  warm : List Nat
  zeroWoken : List Nat
  /-- PLLs that have left LOCKED and relock (R398, R445). -/
  relock : List Nat
  forming : List Nat
  exiting : List Nat
  /-- Main power (R421, R424, R490): 0 present, 1 VDD_IO below 1.45 V and not yet judged lost, 2 judged lost (on backup alone), 3
  judged restored with power-on reset not yet released, 4 VDD_IO below 1.45 V again and not yet judged lost from there. -/
  supply : Nat
  deriving DecidableEq, Repr

/-- A step of TIME waiting for the next tick (R369, R370): its size in 2^-32 ns, and the subindex it was requested by (5 STEP,
7 TIME_SET). -/
structure TimeStep where
  offset : Int
  sub : Nat
  deriving DecidableEq, Repr

/-- Who owns an entry of the schedule queue (R389). -/
inductive Owner where
  | channel (c an : Nat) | carrier (n : Nat) | gate (g : Nat)
  deriving DecidableEq, Repr

/-- An entry of the schedule queue: compact target, owner, and its number among the submissions (R376, R389). -/
structure SchedEntry where
  target : Nat
  owner : Owner
  seq : Nat
  deriving DecidableEq, Repr

/-- A comparator's series (R386, R388): the output is high, the SF of the edge that made it so, the instant of the last rising edge produced,
and the time up to which a forward step has passed its instants; SF and times in 2^-32 ns. -/
structure Comp where
  high : Bool
  riseSf : Nat
  last : Option Nat
  passed : Option Nat
  deriving DecidableEq, Repr

/-- A comparator at rest. -/
def Comp.init : Comp := ⟨false, 0, none, none⟩

/-- A quadrant's time follower (R413): valid, compact time, SF and the step for each CCLK cycle in 2^-36 ns, in which INCREMENT × 5/16 is a whole
number, and the CCLK cycle of the epoch's load. -/
structure Follower where
  valid : Bool
  compact : Nat
  sf : Nat
  step : Nat
  start : Nat
  deriving DecidableEq, Repr

/-- A follower before its first epoch. -/
def Follower.init : Follower := ⟨false, 0, 0, 0, 0⟩

/-- The time unit (R366 to R393): TIME and SF in 2^-32 ns, steps waiting for the tick, the schedule queue and
entries handed to their blocks, how many have been submitted, the comparators, the followers, the ticks since the epoch's start and how many
epochs have been closed. -/
structure TimeUnit where
  time : Nat
  sf : Nat
  steps : List TimeStep
  queue : List SchedEntry
  handed : List SchedEntry
  submitted : Nat
  e37 : Bool
  comps : Tbl Comp
  followers : Tbl Follower
  epochTick : Nat
  epochs : Nat
  /-- Entries of each port's timestamp FIFO, oldest first (side n or 256+n). -/
  fifo : Tbl (List Nat)
  /-- E39 has been raised since the FIFO last had room. -/
  full : Tbl Bool
  /-- SF of the latest PPS_IN edge taken, and whether E35 has been raised since (R392). -/
  ppsLast : Option Nat
  ppsLost : Bool
  /-- SF at the start of the CLK10M_IN measurement in progress. -/
  clk10m : Option Nat
  deriving DecidableEq, Repr

/-- A PRBS checker (R110): bits taken since seeding began; the received bits in normal and in inverted form, newest at bit 0, and how
many in a row each followed the pattern; the next bit is the second of its PAM4 symbol; once locked, the form, which of the last 2,048
compared bits were in error (newest at bit 0), and how many. -/
structure Checker where
  seen : Nat
  reg : Nat
  regInv : Nat
  run : Nat
  runInv : Nat
  second : Bool
  inv : Bool
  window : Nat
  errs : Nat
  deriving DecidableEq, Repr

/-- A checker that begins to seed itself. -/
def Checker.init : Checker := ⟨0, 0, 0, 0, 0, false, false, 0, 0⟩

/-- A lane's hidden state (R97 to R114, R106, R181, R183). -/
structure Lane where
  /-- Stored adaptation: the lane has reached LOCKED and keeps its equaliser settings (R113, R114). -/
  adapt : Bool
  /-- Successive matches of the inverted form at expected positions (R101), and the polarity has been decided. -/
  inverted : Nat
  polDone : Bool
  /-- Codeword lock of a carrier lane, its run of correctable and of uncorrectable codewords (R106). -/
  cwLock : Bool
  cwGood : Nat
  cwBad : Nat
  /-- FAW candidates: bit position, lane number and confirmations so far (R181); the position in frame, and the run of errored
  words (R183). -/
  cands : List (Nat × Nat × Nat)
  fpos : Nat
  errored : Nat
  /-- The lane number confirmed, and the BIP violations of the latest lane frame (R165). -/
  laneNo : Nat
  bipErr : Nat
  /-- The PRBS generator: its register, newest bit at bit 0; the single bits still to invert, and bits until one may be (R108, R111). -/
  gen : Nat
  insert : Nat
  gap : Nat
  chk : Checker
  deriving DecidableEq, Repr

/-- A lane at rest. -/
def Lane.init : Lane := ⟨false, 0, false, false, 0, 0, [], 0, 0, 0, 0, 0, 0, 0, Checker.init⟩

/-- A side's hidden state (LPn at n, SPn at 256+n). -/
structure Side where
  /-- The side has been UP since it was formed (R99). -/
  wasUp : Bool
  /-- The alignment checks have passed (R97, R104). -/
  aligned : Bool
  /-- What holds the side in DEFECT (R99): 0 nothing, 1 Local Fault, 2 Remote Fault received, 3 hi_ber. -/
  fault : Nat
  deriving DecidableEq, Repr

/-- A side at rest. -/
def Side.init : Side := ⟨false, false, 0⟩

/-- An SA entry (R230): the view's fields, the key with its length in bytes, H and the salt. -/
structure Sa where
  suite : Nat
  rx : Bool
  an : Nat
  state : Nat
  source : Nat
  thHit : Bool
  channel : Nat
  ssci : Nat
  nextPn : Nat
  lowPn : Nat
  thresh : Nat
  keyNo : Nat
  key : Nat
  keyLen : Nat
  h : Nat
  salt : Nat
  deriving DecidableEq, Repr

/-- An EMPTY entry with every field at its default. -/
def Sa.init : Sa := ⟨0, false, 0, 0, 0, false, 0, 0, 1, 1, 0, 0, 0, 0, 0, 0⟩

/-- A planisher job (R221, R223): codes 1 to 10 of the jobs table, 0x80 a carrier derivation (TARGET the anchor, CTX_A the
direction, CTX_B the epoch). -/
structure Job where
  code : Nat
  /-- The window it came from; none for a carrier derivation. -/
  win : Option Nat
  role : Role
  /-- The control-cluster core that submitted a FIRM job. -/
  core : Nat
  slot : Nat
  target : Nat
  ctxA : Nat
  ctxB : Nat
  param : Nat
  data : Bytes
  dataAddr : Nat
  /-- It occupies an entry of its claimant's reserved blocks (R219). -/
  own : Bool
  /-- It has started; a batch keeps this between its SAs (R225). -/
  started : Bool
  /-- A batch's next channel offset, its counts and whether it stops after its current SA. -/
  pos : Nat
  derived : Nat
  skipped : Nat
  stop : Bool
  /-- What the job puts out: an ICV or a wrapped SAK (R223). -/
  out : Bytes
  deriving DecidableEq, Repr

/-- A planisher (R218, R220): its queue in submission order, the job executing, and the root cache, most recent first, with the
cached copies. -/
structure Planisher where
  queue : List Job
  exec : Option Job
  cache : List (Nat × Nat)
  deriving DecidableEq, Repr

/-- An idle planisher. -/
def Planisher.init : Planisher := ⟨[], none, []⟩

/-- An MKA context (R248). -/
structure Ctx where
  hasKeys : Bool
  ick : Nat
  kek : Nat
  cakLen : Nat
  cakSlot : Nat
  hasSak : Bool
  sak : Nat
  sakLen : Nat
  spent : Bool
  deriving DecidableEq, Repr

/-- An empty context. -/
def Ctx.init : Ctx := ⟨false, 0, 0, 0, 0, false, 0, 0, false⟩

/-- A peer that an MKA binding has heard of (R249, R250): its member identifier and latest message number, its SCI and key server
priority, whether it is live, the CCLK cycle of its latest MKPDU, the RX channel bound to it, the lowest acceptable PN it reports and
whether it reports the latest SAK installed. -/
structure MkaPeer where
  mi : Nat
  mn : Nat
  sci : Nat
  prio : Nat
  live : Bool
  seen : Nat
  chan : Option Nat
  low : Nat
  has : Bool
  deriving DecidableEq, Repr

/-- A task of an MKA binding, each one planisher job (R250): deriving ICK and KEK; computing the ICV of an MKPDU to send; verifying that
of one received; making a SAK; unwrapping one from the key server `ks` with its key number and AN; loading the latest into a channel. -/
inductive MkaTask where
  | keys | hello | check (frame : Bytes) | random | unwrap (ks kn an : Nat) (w : Bytes) | hash (chan : Nat)
  deriving DecidableEq, Repr

/-- An enabled MKA binding as Dymbiloth runs it (R249, R250): this end's member identifier and message number, whether ICK and KEK are
there, the TCAM entries of its rules, its peers, the tasks to do and the one whose job is outstanding with the message it works on, the
latest SAK (key server's identifier, key number, AN; key number 0 for none) and its wrapped form, whether a new SAK is due, the CCLK cycle of the latest
MKPDU sent, and the jobs of an earlier run of the binding that have not been reaped. -/
structure Mka where
  mi : Nat
  mn : Nat
  ready : Bool
  rules : List Nat
  peers : List MkaPeer
  todo : List MkaTask
  busy : Option MkaTask
  msg : Bytes
  ks : Nat
  kn : Nat
  an : Nat
  wrapped : Bytes
  rekey : Bool
  sent : Nat
  stale : Nat
  deriving DecidableEq, Repr

/-- A binding just enabled, with member identifier `mi`: it derives its keys first. -/
def Mka.init (mi : Nat) : Mka := ⟨mi, 0, false, [], [], [.keys], none, [], 0, 0, 0, [], false, 0, 0⟩

/-- A trigger at a changeover port (R245): scheduled or automatic, the channel, the AN to change to, and the CCLK cycle in which it
arrived. -/
structure Trigger where
  sched : Bool
  chan : Nat
  an : Nat
  arrived : Nat
  deriving DecidableEq, Repr

/-- The vault and the key stores (R208 to R257). -/
structure Keys where
  /-- Slot contents, 256 bits; none where overwritten with zeros. -/
  slots : Tbl (Option Nat)
  planishers : Tbl Planisher
  ctxs : Tbl Ctx
  /-- SA entries by device-wide number 16384q + i. -/
  sas : Tbl Sa
  /-- Notification queues by quadrant, oldest first. -/
  notes : Tbl (List Nat)
  /-- The highest key number derived into a TX channel's SAs, plus 1 (R229). -/
  highKn : Tbl Nat
  /-- Quadrants whose SA store is ZEROISED: every SA reads ZEROISED there until ZEROISE_CLEAR (R231, R254). -/
  zeroed : List Nat
  /-- Triggers waiting for a quadrant's changeover port (R245). -/
  triggers : Tbl (List Trigger)
  /-- A pending automatic change of a channel: AN + 1, and whether SWITCH_FAILED has been queued (R244). -/
  auto : Tbl (Nat × Bool)
  /-- The deep-buffer sealing key (R314). -/
  sealing : Option Nat
  /-- Generate requests since the generator was seeded (R216). -/
  requests : Nat
  /-- DAP keys are still to be erased by the present zeroisation (R65). -/
  dapDue : Bool
  /-- An accepted ZEROISE_CLEAR is completing (R257). -/
  clearing : Bool
  /-- Channels whose scheduler node is suspended by exhaustion (R236). -/
  suspended : List Nat
  /-- The enabled MKA bindings (R249). -/
  mka : Tbl (Option Mka)
  /-- MKPDUs punted to Dymbiloth, oldest first: pair and frame; ends of the bindings' jobs: binding, result, output (R250). -/
  mkaIn : List (Nat × Bytes)
  mkaDone : List (Nat × Nat × Bytes)
  /-- Rules of disabled bindings still to be removed: TCAM and index (R250). -/
  mkaGone : List (Nat × Nat)
  deriving DecidableEq, Repr

/-- What of a frame awaits its verdict: nothing; its last four bytes (R146); all of it, in hold mode (R151). -/
inductive Wait where
  | none | fcs | whole
  deriving DecidableEq, Repr

/-- A frame held in the part, FCS excluded. -/
structure Frame where
  /-- The MODEL's own field: its number among the frames that arrived (log 162). -/
  no : Nat
  /-- It came from the line side. -/
  line : Bool
  pair : Nat
  chan : Nat
  cls : Nat
  data : Bytes
  /-- How its FCS leaves (R148). -/
  fcs : Fcs
  /-- The cipher acts on it; else it goes in clear (R122, R26). -/
  prot : Bool
  /-- A PTP event message to be corrected on departure (R380). -/
  ptp : Bool
  /-- Originated by the part (injected, generated): in no term of law 1 (R446). -/
  own : Bool
  /-- SF of the receive timestamp, in 2^-32 ns, and the CCLK cycle in which it was queued. -/
  rxSf : Int
  since : Nat
  /-- What of it awaits the verdict. -/
  wait : Wait
  /-- It takes no part in the round of its node's classes: chosen as strict, or on the through path (R322). -/
  strict : Bool
  /-- Cut at LINE_MTU on the through path, to be counted once it is sent (R132). -/
  long : Bool
  /-- Of a frame that SA fetch has bound, what it adds to the SA's and the channel's counters once it is sent: the SA, 0 for PROTECT 0 and
  1 for another, and its octets of secure data (R157). -/
  tally : Option (Nat × Nat × Nat) := none
  deriving DecidableEq, Repr

/-- A frame dequeued for its port and not yet in its staging store, toward the line ahead of SA fetch: how many of its bytes calendar slots
have taken (R346), whether its SA was already EXHAUSTED when it was dequeued (R125), and whether a slot took bytes of it while its port was
short, so that it is held whole (R349). -/
structure Drawn where
  frame : Frame
  done : Nat
  spent : Bool
  hold : Bool
  deriving DecidableEq, Repr

/-- A frame in the staging store of its port (R348): how many of its bytes the slice has processed, whether its first byte has left,
the SA whose key enciphers it, and whether it is held whole, a slot having taken bytes of it while its port was short (R349). -/
structure Staged where
  frame : Frame
  done : Nat
  left : Bool
  sa : Option Nat
  hold : Bool
  deriving DecidableEq, Repr

/-- A page of the deep buffer in use (R314): its stack, its 24-bit page number, the write count of its tweak, and the 4,096 bytes that
stand in the stack, enciphered. -/
structure Page where
  stack : Nat
  number : Nat
  count : Nat
  sealed : Bytes
  deriving DecidableEq, Repr

/-- A queue (R307 to R310, R321). -/
structure Queue where
  /-- The record of Table Queue record. -/
  word : Nat
  /-- Frames in SRAM, then frames spilled, oldest first; a spilled frame marked true has been dropped and keeps its bytes only. -/
  sram : List Frame
  deep : List (Frame × Bool)
  /-- Pages holding the spilled frames, oldest first (stack 2: lost with its stack); bytes of the spilled frames already read back;
  bytes free in the newest page. -/
  pages : List Page
  readBack : Nat
  room : Nat
  deficit : Int
  /-- The stack whose turn it is to give the queue its next page (R311). -/
  stack : Nat
  deriving DecidableEq, Repr

/-- An empty queue with its record at the defaults: POOL 15, SRAM_LIMIT 1,024, SPILL_THRESHOLD 512, QUANTUM 2,048. -/
def Queue.init : Queue := ⟨15 + 1024 * 2 ^ 8 + 512 * 2 ^ 25 + 2048 * 2 ^ 66, [], [], [], 0, 0, 0, 0⟩

/-- A channel node (R319, R325): its record without the RO fields, the levels in 1/12,800,000 byte, the CCLK cycle they were last
accrued to, the deficit, the class whose turn it is. -/
structure Node where
  word : Nat
  cLevel : Int
  pLevel : Int
  stamp : Nat
  deficit : Int
  turn : Option Nat
  deriving DecidableEq, Repr

/-- A node with its record at the defaults: CH_QUANTUM 2,048. -/
def Node.init : Node := ⟨2048 * 2 ^ 128, 0, 0, 0, 0, none⟩

/-- A packet policer (R328): its record without the RO fields, the levels in 1/1,600,000,000 frame. -/
structure Policer where
  word : Nat
  cLevel : Nat
  pLevel : Nat
  stamp : Nat
  deriving DecidableEq, Repr

/-- A policer at its defaults. -/
def Policer.init : Policer := ⟨0, 0, 0, 0⟩

/-- A port scheduler (R323, R324): the port shaper's level in 1/12,800,000 byte, the cycle it was last accrued to, the node whose turn it
is. -/
structure Sched where
  level : Int
  stamp : Nat
  turn : Option Nat
  deriving DecidableEq, Repr

/-- An idle port scheduler, its shaper full at the default burst. -/
def Sched.init : Sched := ⟨16384 * 12800000, 0, none⟩

/-- A gate control list (R331): cycle time, extension, base time (compact), entries (empty: the states hold throughout). -/
structure GateList where
  cycle : Nat
  ext : Nat
  base : Nat
  entries : List Nat
  states : Nat
  deriving DecidableEq, Repr

/-- The lists of a port (R333): submitted, with its takeover time, and operational. -/
structure Gate where
  submitted : Option (GateList × Nat)
  oper : Option GateList
  /-- Gate states now applying (R332). -/
  now : Nat
  deriving DecidableEq, Repr

/-- A port with no list: every gate open. -/
def Gate.init : Gate := ⟨none, none, 0xFF⟩

/-- The sampler's pass in progress (R340): the next queue's offset, PASS of its start, stopped by a write failure. -/
structure Sampler where
  next : Nat
  pass : Nat
  stopped : Bool
  running : Bool
  deriving DecidableEq, Repr

/-- A sampler at rest. -/
def Sampler.init : Sampler := ⟨0, 0, false, false⟩

/-- A slot of an exact-match table or an entry of a policy TCAM (R263 to R266): key, mask (TCAM), result, control word. -/
structure Ent where
  key : Nat
  mask : Nat
  res : Nat
  ctl : Nat
  deriving DecidableEq, Repr

/-- An empty slot. -/
def Ent.init : Ent := ⟨0, 0, 0, 0⟩

/-- A table-DMA descriptor in progress (R286): its operation, what it says, the host image read, how many units are done, and how many
slots or records were refused. -/
structure DmaJob where
  op : Nat
  desc : DmaDesc
  img : List Byte
  next : Nat
  refused : Nat
  deriving DecidableEq, Repr

/-- A table's engine (R275 to R301): the lock's owner and lease in ms, the CCLK cycle of its grant, the EPOCH in force, a migration's seeds and whether its walk
has moved an entry, the plumb list (value, CHECK in bit 32) and the dirty blocks. -/
structure Tab where
  lock : Option (Role × Nat)
  since : Nat
  epoch : Nat
  seeds : Option (Nat × Nat)
  moved : Bool
  plumb : Tbl Nat
  dirty : List Nat
  deriving DecidableEq, Repr

/-- An engine at rest. -/
def Tab.init : Tab := ⟨none, 0, 0, none, false, [], []⟩

/-- A frame in a D-slice or the gate store whose verdict is not yet formed (R139 to R151): the frame as it is delivered, which its queue or
staging store holds; the channel's record and the SA's key as it met them, the recovered PN, the additional data, text, ICV and IV of its
verification. -/
structure Held where
  frame : Frame
  chan : Nat
  sa : Nat
  word : Nat
  key : Bytes
  pn : Nat
  e : Bool
  fcsBad : Bool
  aad : Bytes
  text : Bytes
  icv : Bytes
  iv : Nat
  /-- Octets of secure data. -/
  octets : Nat
  /-- The through path was free for it (R27). -/
  through : Bool
  deriving DecidableEq, Repr


/-- A frame at a background requester (R358, R359): the bytes its slice has processed. -/
structure BgFrame where
  frame : Frame
  done : Nat
  deriving DecidableEq, Repr

/-- A slice's calendar and background arbitration (R344, R360 to R364): the next slot, the requester holding the grant or parked on,
how many cycles each requester has waited, those whose wait has set BG_WAIT, bank and slot of a hot edit that has not yet governed a
visit. -/
structure Cal where
  slot : Nat
  grant : Option Nat
  parked : Bool
  waits : List Nat
  flagged : List Nat
  edit : Option (Nat × Nat)
  deriving DecidableEq, Repr

/-- A calendar at rest. -/
def Cal.init : Cal := ⟨0, none, false, [0, 0, 0, 0, 0], [], none⟩

/-- A carrier key register (R193, R198): epoch, key, salt, and the record of the highest frame counter verified. -/
structure CKey where
  epoch : Nat
  key : Nat
  salt : Nat
  high : Option Nat
  deriving DecidableEq, Repr

/-- A carrier frame received whose verdict is not yet formed (R198): it was unkeyed; the epoch of the key it chose, none for an empty
register; whether its tag verified; its counter, its overhead word, the client bits demapped and how many, the frames in them. -/
structure CarrierRx where
  unkeyed : Bool
  epoch : Option Nat
  tagOk : Bool
  fc : Nat
  oh : Bytes
  bits : Nat
  data : Bytes
  locked : Bool
  /-- In pointer mode, the bits ahead of the first block that begins in the frame (R177). -/
  off : Nat
  use : ClientUse
  deriving DecidableEq, Repr

/-- A carrier's hidden state (R161 to R207). -/
structure Carrier where
  txCur : Option CKey
  txNext : Option CKey
  rxCur : Option CKey
  rxNext : Option CKey
  /-- The frame counter, or unkeyed count, of the next frame sent. -/
  fc : Nat
  /-- The pointer value of the next frame sent (R177); the JC count being sent and the one in force (R180). -/
  v : Nat
  jcSend : Int
  jcNow : Int
  /-- Bit-interleaved parity of the lane frames last sent, by logical lane (R165). -/
  parity : List Nat
  /-- A changeover is requested (R194). -/
  want : Bool
  /-- A verdict has failed since the last frame sent (R166); failed verdicts modulo 65,536. -/
  tfr : Bool
  fails : Nat
  /-- The pointer predicted for the next frame received, its run of normal and of invalid frames (R178); in JC mode `x` is the MODEL's own
  count of where the next frame's first block begins (log 197). -/
  x : Option Nat
  normals : Nat
  invalids : Nat
  /-- JC counts received in the present triplet, and the count in force (R180). -/
  votes : List Nat
  rxJc : Int
  /-- Passing frames in a row with NEXT_READY (R194), the epoch of the last READY. -/
  ready : Nat
  farReady : Option Nat
  /-- Frames in a row that declare or clear AIS, RDI and TFB (R185). -/
  ais : Nat
  rdi : Nat
  tfb : Nat
  /-- The far end's last CAPABILITY cell, its START proposal with how often in a row, the epoch agreed, START_ACKs in a row (R191). -/
  cap : Option Nat
  start : Nat × Nat
  agreed : Option Nat
  acks : Nat
  /-- Frames received whose verdict is not yet formed, oldest first. -/
  rx : List CarrierRx
  /-- The client frame open at the end of the last verdict: 0 none, 1 good, 2 counted as lost, 3 lost and not yet counted (R200, R202). -/
  opened : Nat
  /-- The rate-adaptation store, next bit first; and blocks that wait for three more to be transcoded with (R174, R176). -/
  store : List Bool
  group : List (Bool × Bytes)
  /-- The bits of a 257-bit block that the last frame released began, none where its beginning was withheld (R174, R177). -/
  part : Option (List Bool)
  /-- At behaviour level 1, the bits held of the client frame open at the end of the last verdict (R202). -/
  held : List Bool
  /-- START cells received while RUNNING (R191). -/
  starts : Nat
  deriving DecidableEq, Repr

/-- A carrier that is OFF. -/
def Carrier.init : Carrier :=
  { txCur := none, txNext := none, rxCur := none, rxNext := none, fc := 0, v := 0, jcSend := 0, jcNow := 0, parity := [], want := false,
    tfr := false, fails := 0, x := none, normals := 0, invalids := 0, votes := [], rxJc := 0, ready := 0, farReady := none, ais := 0,
    rdi := 0, tfb := 0, cap := none, start := (0, 0), agreed := none, acks := 0, rx := [], opened := 0, store := [], group := [],
    part := none, held := [], starts := 0 }


/-- A tamper source's hidden state (R424 to R426, R437): its condition is present; the moment its counting window opened (CCLK
cycles) and the events in it; consecutive sample points with the condition. -/
structure Src where
  present : Bool
  opened : Nat
  count : Nat
  samples : Nat
  deriving DecidableEq, Repr

/-- A source at rest. -/
def Src.init : Src := ⟨false, 0, 0, 0⟩

/-- The tamper monitors (R421 to R443). -/
structure Tamper where
  srcs : Tbl Src
  /-- Sources 0, 1, 2 and 4 are disarmed, and source 3 is (R424). -/
  disarmed : Bool
  disarmed3 : Bool
  /-- Log entries not yet popped, oldest first, each the big-endian number of its 12 bytes (R429). -/
  log : List Nat
  /-- The log overwrote an entry on backup alone: E31 is due (R429). -/
  overwrote : Bool
  /-- Sources whose EVENT is deferred (R438, R441). -/
  deferred : List Nat
  /-- Responses deferred since the last power-up: bit 0 QUIESCE, bit 1 HOLD_RESET, bit 2 EVENT. -/
  due : Nat
  /-- ZEROISE_N is low; and the low level has started a sequence while main power was present (R253). -/
  zeroLow : Bool
  zeroDone : Bool
  deriving DecidableEq, Repr

/-- The assay (R449 to R456). -/
structure Assay where
  /-- Reports waiting, oldest first, each the big-endian number of its 12 bytes. -/
  reports : List Nat
  /-- The difference absorbed into the baseline of a place (R451), by place key. -/
  base : Tbl Int
  /-- LAW codes whose next pass takes fresh baselines (R452, R453). -/
  fresh : List Nat
  /-- Domains marked checkpointed; the domain DRAINING, and whether a POWER_REQ of OFF for it is held (R452). -/
  marks : List Nat
  draining : Option Nat
  /-- The slice being reclaimed, and those whose reclaim is DONE since they were fenced (R454, R478). -/
  reclaiming : Option Nat
  reclaimed : List Nat
  /-- The credit counts of each interface, by interface * 8 + position: AVAILABLE, IN_FLIGHT and HELD at 1 to 3 and 5 to 7 as the latest
  marker found them, with 1 at 0 or 4; with 0 there the counts stand at INITIAL (R411, R450, R457). -/
  credits : Tbl Nat
  /-- The credit interfaces and directions, by place key, whose next marker takes a fresh baseline (R452, R453). -/
  freshCredits : List Nat
  /-- Counter windows with an accepted SELECT since the last keystone reset (R456). -/
  selected : List Nat
  deriving DecidableEq, Repr

/-- The assay at rest. -/
def Assay.init : Assay := ⟨[], [], [], [], none, none, [], [], [], []⟩

/-- A PENDING injection: point, instance, argument, occurrences still to come (R486). -/
structure Inject where
  point : Nat
  inst : Nat
  arg : Nat
  left : Nat
  deriving DecidableEq, Repr

/-- An access that waits for a die-to-die link (R481) or for a domain to wake (R43): the link's quadrant or the domain, object and
write; a BAR0 read, or a DAP request, which waits as a whole. -/
structure AccessWait where
  unit : Nat
  index : Nat
  sub : Nat
  wr : Wr
  /-- A BAR0 read of `wr.len` bytes at byte `wr.value` of BAR0. -/
  reads : Bool
  ask : Option DapAsk
  deriving DecidableEq, Repr

/-- The test access port (R527): the instruction in effect (0 BYPASS, 1 IDCODE, 2 SAMPLE/PRELOAD, 3 EXTEST, 4 EXTEST_PULSE, 5
EXTEST_TRAIN, 6 CLAMP, 7 HIGHZ) and the boundary-scan register. -/
structure Tap where
  inst : Nat
  cells : List Bool
  deriving DecidableEq, Repr

/-- A clock crossing of the pulses of one source (R410): its toggle, and those in its 4-bit count, none where nothing has crossed; and the CCLK
cycle of the toggle (log 181). -/
structure Crossing where
  count : Nat
  since : Nat
  deriving DecidableEq, Repr

/-- A crossing at rest. -/
def Crossing.init : Crossing := ⟨0, 0⟩

/-- The watchdog of one core (R470): the CCLK cycle of its latest restart, and the timeout it took then, in ms. -/
structure CoreTimer where
  since : Nat
  timeout : Nat
  deriving DecidableEq, Repr

/-- A watchdog that has not been started. -/
def CoreTimer.init : CoreTimer := ⟨0, 1000⟩

/-- The block without its command queue. -/
structure Dev where
  /-- The registers of the object dictionary, by index * 256 + subindex; an unlisted one reads as its default (R35, R39). -/
  dict : Tbl Nat
  /-- What the latest access was answered with. -/
  answer : Answer
  /-- The MODEL's own field: the CCLK cycle of the latest command that carried the moment it came about in (log 154). -/
  now : Nat
  /-- The clock crossings of event pulses, by event, and of other pulses at 400 + PULSE_OVERFLOW bit (R410, R412). -/
  pulses : Tbl Crossing
  /-- Everything the block has put out, latest first. -/
  emits : List Emit
  /-- The MODEL's own field: how many free values have been drawn (log 2). -/
  fresh : Nat
  /-- Accesses whose EXEC or wake is still in progress (R56). -/
  pend : List Pending
  bar0 : Bar0
  /-- Rings: punt p at p, inject p at 64+p, table-DMA t at 128+t. -/
  rings : Tbl Ring
  /-- Punt queue of each quadrant, oldest first (R59, R306). -/
  punts : Tbl (List Punt)
  msix : Msix
  dap : Dap
  boot : Boot
  power : Power
  time : TimeUnit
  lanes : Tbl Lane
  sides : Tbl Side
  keys : Keys
  /-- Live counters (R457): key (kind * 2^18 + entity) * 32 + value. -/
  counters : Tbl Nat
  /-- Slots of the tables by (4q+t) * 65536 + LOCATION (R276); TCAM entries by index. -/
  slots : Tbl Ent
  /-- Channel records by channel (R119). -/
  chans : Tbl Nat
  /-- Table engines by 4q+t. -/
  tabs : Tbl Tab
  /-- Slots, entries and records with an uncorrectable error (R273), by slot key. -/
  eccBad : List Nat
  /-- Table-DMA descriptors in progress, each with its ring, the next to be served first (R286). -/
  dmaRuns : List (Nat × DmaJob)
  /-- Learning notifications of each quadrant, oldest first (R293). -/
  learnNotes : Tbl (List Nat)
  /-- Queues by device-wide index (R22). -/
  queues : Tbl Queue
  /-- Channel nodes by channel. -/
  nodes : Tbl Node
  /-- Policers by 1024q+p. -/
  policers : Tbl Policer
  /-- Port schedulers by side. -/
  scheds : Tbl Sched
  /-- Gate lists by side. -/
  gates : Tbl Gate
  /-- Samplers by quadrant. -/
  samplers : Tbl Sampler
  /-- Frames between dequeue and their staging stores, by slice, oldest first: in an E-slice they await SA fetch (R124, R125, R348). -/
  eFlight : Tbl (List Drawn)
  /-- Frames whose verdict is not yet formed, by D-slice (R143, R147). -/
  dFlight : Tbl (List Held)
  /-- The staging stores, by side: the port's own frame there (R348). -/
  staging : Tbl (List Staged)
  /-- The complete background frame in each staging store, by side (R359). -/
  stagedBg : Tbl (List Frame)
  /-- The MODEL's own field: how many frames have arrived (log 162). -/
  frameNo : Nat
  /-- Device-wide spill is saturated (R312). -/
  spillFull : Bool
  /-- Page writes made since power-on reset (R314). -/
  deepWrites : Nat
  /-- Page grants of the last 1 ms: CCLK cycle, quadrant, pages (R312). -/
  spills : List (Nat × Nat × Nat)
  /-- Frames at requester r of slice s, by 8s + r. -/
  bg : Tbl (List BgFrame)
  /-- Calendars by slice. -/
  cals : Tbl Cal
  /-- Frames begun since TG_START, and whether TG_STOP has come, by quadrant (R483). -/
  genSent : Tbl (Nat × Bool)
  /-- Carriers by anchor. -/
  carriers : Tbl Carrier
  /-- Slots, entries and records with a corrected error not yet written back (R273), by slot key. -/
  eccSoft : List Nat
  /-- The tamper monitors. -/
  tamper : Tamper
  /-- The assay. -/
  assay : Assay
  /-- The PENDING injection. -/
  inject : Option Inject
  /-- Lanes whose signal detect an injection forces absent, by lane: until which CCLK cycle (R486). -/
  darkUntil : Tbl Nat
  /-- The watchdogs of the control-cluster cores (R470). -/
  wdCores : Tbl CoreTimer
  /-- CCLK cycles of the watchdog expiries of the last 60 s (R472). -/
  wdTimes : List Nat
  /-- Control-cluster cores held in reset (R471). -/
  wdHeld : List Nat
  /-- Accesses that wait for a die-to-die link, oldest first (R481). -/
  linkWaits : List AccessWait
  /-- Writes that wait for a domain to wake from RETAIN, oldest first (R43, R52). -/
  wakeWaits : List AccessWait
  /-- The test access port. -/
  tap : Tap
  deriving DecidableEq, Repr

/-- The state: the block, and the commands waiting for it, first in, first out. -/
structure State where
  pending : List Instr
  dev : Dev
  deriving DecidableEq, Repr

/-- The entry key that R213 derives from the device unique key, as slot 63 holds it. -/
def entryKey : Nat :=
  ofBE (kdf (toBE 32 Config.uniqueKey.toNat) (toBE 14 0x5175696E6F61726F2D656E747279) (toBE 8 Config.deviceId.toNat) 256)

/-- The block right after power-on reset has released for the first time: main power present, SYS_RST_N and PERST_N high, the
straps low, the entry key loaded, the generator instantiated, a sealing key drawn, the boot ROM started (R490, R492); AON was powered for the first time, so STICKY bit 5 is
set (R423). -/
def Dev.reset : Dev where
  dict := [(okey 0x304F 2, 1), (okey 0x5003 0xC2, 1), (okey 0x7800 1, 0x20)]
  answer := ⟨0, 0, 0, 0⟩
  now := 0
  pulses := []
  emits := []
  fresh := 2
  pend := []
  bar0 := ⟨none, none, [], []⟩
  rings := []
  punts := []
  msix := ⟨false, false, [], 0⟩
  dap := ⟨[], 0, 0, none, [], []⟩
  boot := { compat := false, bootSrc := 0, sealed := false, ready := false, imageAddr := 0, imageLen := 0, failDetail := 0,
            source := 0, image := none, timeouts := 0, record := 0, restart := false, clusterRuns := true, holding := 0,
            sysRstLow := false, perstLow := false, configReady := false, keysWait := false }
  power := ⟨[], [], [], [], [], 0⟩
  time := { time := 0, sf := 0, steps := [], queue := [], handed := [], submitted := 0, e37 := false, comps := [],
            followers := [], epochTick := 0, epochs := 0, fifo := [], full := [], ppsLast := none, ppsLost := false, clk10m := none }
  lanes := []
  sides := []
  keys := { slots := [(63, some entryKey)], planishers := [], ctxs := [], sas := [], notes := [], highKn := [], zeroed := [], triggers := [], auto := [], sealing := some ((Config.freeValue 0).toNat * 2 ^ 256 + (Config.freeValue 1).toNat),
            requests := 0, dapDue := false, clearing := false, suspended := [], mka := [], mkaIn := [], mkaDone := [], mkaGone := [] }
  counters := []
  slots := []
  chans := []
  tabs := []
  eccBad := []
  dmaRuns := []
  learnNotes := []
  queues := []
  nodes := []
  policers := []
  scheds := []
  gates := []
  samplers := []
  eFlight := []
  dFlight := []
  staging := []
  stagedBg := []
  frameNo := 0
  spillFull := false
  deepWrites := 0
  spills := []
  bg := []
  cals := []
  genSent := []
  carriers := []
  eccSoft := []
  tamper := ⟨[], false, false, [], false, [], 0, false, false⟩
  assay := Assay.init
  inject := none
  darkUntil := []
  wdCores := []
  wdTimes := []
  wdHeld := []
  linkWaits := []
  wakeWaits := []
  tap := ⟨1, []⟩

/-- The state right after reset: nothing waits. -/
def State.reset : State := ⟨[], Dev.reset⟩

end Sys2Proof.Machine
end

