-- ==== Sys2Proof/Machine/Ops.lean ====
section
/-! DEFINITION. The named operations on the state: reading and writing registers, counting, putting things out, domains, time,
raising an event with its delivery (R464 to R467). -/
namespace Sys2Proof.Machine

/-- What a meaning answers. -/
abbrev Out := Host.Outcome State Fault Refusal

/-- A command that acts on the block by `f`. -/
def act (f : Dev → Dev) (s : State) : Out := .next { s with dev := f s.dev }

/-- A command that acts only where its operands name instances the part has (R12). -/
def actIf (p : Bool) (f : Dev → Dev) (s : State) : Out := if p then act f s else .fault .noInstance

/-- The value of register `i.j`. -/
def Dev.rd (d : Dev) (i j : Nat) : Nat := Tbl.get dflt d.dict (okey i j)

/-- Register `i.j` made `v`. -/
def Dev.wr (i j v : Nat) (d : Dev) : Dev := { d with dict := Tbl.set dflt d.dict (okey i j) v }

/-- Every register of an index and subindex on which `p` holds returned to its default (R39). -/
def Dev.defaults (p : Nat → Nat → Bool) (d : Dev) : Dev :=
  { d with dict := Tbl.drop (fun k => p (k / 256) (k % 256)) d.dict }

/-- Register `i.j` of `w` bits counted up by `k`, saturating. -/
def Dev.count (w i j k : Nat) (d : Dev) : Dev := d.wr i j (satAdd w (d.rd i j) k)

/-- Bit `b` of register `i.j` made `v`. -/
def Dev.wrBit (i j b : Nat) (v : Bool) (d : Dev) : Dev := d.wr i j (putBit b (d.rd i j) v)

/-- `d` acted on by each function of a list in turn. -/
def seqAll (l : List (Dev → Dev)) (d : Dev) : Dev := l.foldl (fun x f => f x) d

/-- `f` where `p` holds. -/
def when (p : Bool) (f : Dev → Dev) (d : Dev) : Dev := if p then f d else d

/-- Something put out. -/
def Dev.emit (e : Emit) (d : Dev) : Dev := { d with emits := e :: d.emits }

/-- A fresh free value, and the state that has drawn it (R216; log 2). -/
def Dev.draw (d : Dev) : Nat × Dev := ((Config.freeValue d.fresh).toNat, { d with fresh := d.fresh + 1 })

/-- `n` free bytes, and the state that has drawn them. -/
def Dev.drawBytes (n : Nat) (d : Dev) : Bytes × Dev :=
  ((List.range n).map (fun i => BitVec.ofNat 8 (Config.freeValue (d.fresh + i)).toNat), { d with fresh := d.fresh + n })

/-- Live counter `v` of entity `e` of counter block `kind` (R457). -/
def ckey (kind e v : Nat) : Nat := (kind * 2 ^ 18 + e) * 32 + v

/-- The value of a live counter. -/
def Dev.ctr (d : Dev) (kind e v : Nat) : Nat := Tbl.get (fun _ => 0) d.counters (ckey kind e v)

/-- A live counter made `x`. -/
def Dev.setCtr (kind e v x : Nat) (d : Dev) : Dev :=
  { d with counters := Tbl.set (fun _ => 0) d.counters (ckey kind e v) x }

/-- A live counter counted up by `k`; every counter saturates at 64 bits (R457). -/
def Dev.cntBy (kind e v k : Nat) (d : Dev) : Dev := d.setCtr kind e v (satAdd 64 (d.ctr kind e v) k)

/-- A live counter counted up by 1. -/
def Dev.cnt (kind e v : Nat) (d : Dev) : Dev := d.cntBy kind e v 1

/-! ## Domains -/

/-- POWER_STATE of domain `k` (R401). -/
def Dev.pstate (d : Dev) (k : Nat) : Nat := d.rd (0x1100 + k) 2

/-- Domain `k` is ON. -/
def Dev.isOn (d : Dev) (k : Nat) : Bool := d.pstate k = psOn

/-- Domain `k` is ON, or in RETAIN, or going to RETAIN (R405). -/
def Dev.isLive (d : Dev) (k : Nat) : Bool := d.pstate k = psOn || d.pstate k = psRetain || d.pstate k = psToRetain

/-- Domain `k` answers as OFF (R43, R405). -/
def Dev.answersOff (d : Dev) (k : Nat) : Bool := !d.isLive k

/-! ## Numbers of a port pair (R12 to R18) -/

/-- The quadrant of pair `n` (R9). -/
def quadOf (n : Nat) : Nat := n / 64
/-- The lane group of pair `n`. -/
def groupOf (n : Nat) : Nat := n / 8
/-- The E-slice of pair `n` (R18). -/
def eSliceOf (n : Nat) : Nat := 16 * (n / 64) + n / 8 % 8
/-- The D-slice of pair `n` (R18). -/
def dSliceOf (n : Nat) : Nat := 16 * (n / 64) + 8 + n / 8 % 8
/-- The domain of slice `s` (R23). -/
def sliceDom (s : Nat) : Nat := s / 16 * 34 + s % 16
/-- The line-lane domain of lane group `g` (R23). -/
def lineDom (g : Nat) : Nat := g / 8 * 34 + 16 + g % 8
/-- The system-lane domain of lane group `g` (R23). -/
def sysDom (g : Nat) : Nat := g / 8 * 34 + 24 + g % 8
/-- The tables and SA-store domain of quadrant `q` (R23). -/
def tabDom (q : Nat) : Nat := 34 * q + 32
/-- The buffer and scheduler domain of quadrant `q` (R23). -/
def bufDom (q : Nat) : Nat := 34 * q + 33
/-- The event of pair `n` (R25). -/
def pairEvent (n : Nat) : Nat := 112 + 72 * (n / 64) + n % 64
/-- Event `112 + 72q + 64 + k` of quadrant `q` (R468). -/
def quadEvent (q k : Nat) : Nat := 112 + 72 * q + 64 + k

/-! ## Time (R366, R413) -/

/-- Compact time, 0 while domain 141 is not ON (R366, R373). -/
def Dev.compact (d : Dev) : Nat := if d.isOn 141 then d.time.time / 2 ^ 32 % 2 ^ 64 else 0

/-- SF in whole nanoseconds. -/
def Dev.sfNs (d : Dev) : Nat := d.time.sf / 2 ^ 32 % 2 ^ 64

/-- A TIME96 value from a count in 2^-32 ns (R366). -/
def time96Of (t : Nat) : Nat :=
  t / 2 ^ 32 / 1000000000 % 2 ^ 48 * 2 ^ 48 + t / 2 ^ 32 % 1000000000 * 2 ^ 16 + t / 2 ^ 16 % 2 ^ 16

/-- The count in 2^-32 ns that a TIME96 value names. -/
def ofTime96 (v : Nat) : Nat := (fld 95 48 v * 1000000000 + fld 47 16 v) * 2 ^ 32 + fld 15 0 v * 2 ^ 16

/-- The compact time of a TIME96 value (R366, R374). -/
def compactOf (v : Nat) : Nat := (fld 95 48 v * 1000000000 + fld 47 16 v) % 2 ^ 64

/-- `now - t` as a signed 64-bit difference of compact times is 0 or more (R374). -/
def reached (now t : Nat) : Bool := (now + 2 ^ 64 - t) % 2 ^ 64 < 2 ^ 63

/-- `t` lies more than 2^62 ns ahead of `now` (R374). -/
def tooFarAhead (now t : Nat) : Bool := !(reached now t) && 2 ^ 62 < (t + 2 ^ 64 - now) % 2 ^ 64

/-- TIME_NOW, 0 while domain 141 is not ON (R367). -/
def Dev.timeNow (d : Dev) : Nat := if d.isOn 141 then time96Of d.time.time else 0

/-- The follower of quadrant `q`. -/
def Dev.follower (d : Dev) (q : Nat) : Follower := Tbl.get (fun _ => Follower.init) d.time.followers q

/-- A quadrant's compact time, in 2^-32 ns, in CCLK cycle `t`; 0 while the follower is invalid (R413, R416). -/
def Dev.quadTime (d : Dev) (q t : Nat) : Nat :=
  if (d.follower q).valid then ((d.follower q).compact + (t - (d.follower q).start) * (d.follower q).step) / 16 else 0

/-- A quadrant's SF at the same moment, in 2^-32 ns. -/
def Dev.quadSf (d : Dev) (q t : Nat) : Nat :=
  if (d.follower q).valid then ((d.follower q).sf + (t - (d.follower q).start) * (d.follower q).step) / 16 else 0

/-! ## Rings and MSI-X (R58, R61) -/

/-- The table entry of an MSI-X vector: address [63:0], data [95:64], control [127:96]; masked by default, as the PCI Express
specification resets it (log 12). -/
def msixDflt (_ : Nat) : Nat := 2 ^ 96

/-- A message on vector `v` (R61): sent, recorded in the pending-bit array while masked, or lost where none can be sent. -/
def Dev.sendMsix (v : Nat) (d : Dev) : Dev :=
  let e := Tbl.get msixDflt d.msix.table v
  if !d.isOn 139 || d.boot.perstLow || !d.msix.enable then d
  else if d.msix.fmask || bit 96 e then { d with msix := { d.msix with pba := setBit v d.msix.pba } }
  else d.emit (.msix v (fld 63 0 e) (fld 95 64 e))

/-! ## DAP messages (R66 to R75) -/

/-- The CAN FD data lengths (R75): the shortest that holds `n` bytes. -/
def canLen (n : Nat) : Nat :=
  if n ≤ 8 then n else if n ≤ 12 then 12 else if n ≤ 16 then 16 else if n ≤ 20 then 20 else if n ≤ 24 then 24
  else if n ≤ 32 then 32 else if n ≤ 48 then 48 else 64

/-- The segments of a message on CAN FD, from segment `i` on (R75). -/
def canSegs : Nat → Nat → Bytes → List Bytes
  | 0, _, _ => []
  | f + 1, i, m =>
    let part := m.take 63
    let rest := m.drop 63
    let b := BitVec.ofNat 8 ((if i = 0 then 128 else 0) + (if rest.isEmpty then 64 else 0) + i)
    let pay := b :: part
    (pay ++ List.replicate (canLen pay.length - pay.length) 0) :: (if rest.isEmpty then [] else canSegs f (i + 1) rest)

/-- The CAN FD port can put a frame on the bus: domain 140 is ON, the keystone runs, and it is not bus-off (R74, R400). -/
def Dev.canSends (d : Dev) : Bool := d.isOn 140 && d.boot.holding = 0 && d.power.supply < 2 && d.rd 0x1520 5 != 2

/-- The oldest CAN FD segment that waits goes out on 0x380 + CAN_NODE_ID, where the port can send (R74, R75). -/
def Dev.canNext (d : Dev) : Dev :=
  match d.dap.canOut with
  | [] => d
  | (_, p) :: l =>
    if d.canSends then ({ d with dap := { d.dap with canOut := l } } : Dev).emit (.can (0x380 + d.rd 0x1520 1) p) else d

/-- A message sent on a transport: OOB in a datagram to `peer`; FIELD in segments, of which the first goes out at once where none
waits and the port can send, and the others one by one as the bus is free (R73 to R75; log 155). -/
def Dev.sendDap (r : Role) (peer : Nat) (m : Bytes) (d : Dev) : Dev :=
  if r = .field then
    let d1 : Dev := { d with dap := { d.dap with canOut := d.dap.canOut ++ (canSegs 16 0 m).map (fun p => (m, p)) } }
    if d.dap.canOut.isEmpty then d1.canNext else d1
  else d.emit (.udp peer m)

/-- The header and body of a DAP message (R66). -/
def dapText (op sid seq flags : Nat) (body : Bytes) : Bytes :=
  [1, BitVec.ofNat 8 op] ++ toBE 2 sid ++ toBE 8 seq ++ toBE 2 body.length ++ [BitVec.ofNat 8 flags, 0] ++ body

/-- The MAC of header and body under `key`: the first 8 bytes of the CMAC (R66). -/
def dapMac (key text : Bytes) : Bytes := (cmac key text).take 8

/-- A DAP message: header, body and MAC under `key` (R66). -/
def dapMsg (key : Bytes) (op sid seq flags : Nat) (body : Bytes) : Bytes :=
  dapText op sid seq flags body ++ dapMac key (dapText op sid seq flags body)

/-- One NOTIFY of event `e` raised at `t`, on session `k` of the list (R67, R72, R467). -/
def Dev.notifyOn (k e t : Nat) (d : Dev) : Dev :=
  match d.dap.sessions[k]? with
  | none => d
  | some x =>
    let n := x.notes + 1
    let x' := { x with notes := n }
    let d1 := { d with dap := { d.dap with sessions := setNth x' d.dap.sessions k } }
    (d1.sendDap x.role x.peer (dapMsg x.key 6 x.id n 0 (toBE 2 e ++ toBE 2 (d.rd (0x1400 + e / 16) 1) ++ toBE 8 t))).count 64 0x1419 4 1

/-- Event `e` marked as held off on session `k`, with the latest merged raise and how many merged. -/
def Dev.holdOn (k e : Nat) (m : Option (Nat × Nat)) (d : Dev) : Dev :=
  match d.dap.sessions[k]? with
  | none => d
  | some x =>
    { d with dap := { d.dap with
        sessions := setNth { x with hold := (e, m) :: x.hold.filter (fun p => p.1 != e) } d.dap.sessions k } }

/-- A raise of event `e` at compact time `t`, for session `k`: a NOTIFY, or merged where one was sent within the holdoff (R467). -/
def Dev.notifyRaise (e t : Nat) (d : Dev) (k : Nat) : Dev :=
  match d.dap.sessions[k]? with
  | none => d
  | some x =>
    match x.hold.find? (fun p => p.1 == e) with
    | some (_, m) => d.holdOn k e (some (t, (m.map (·.2)).getD 0 + 1))
    | none => (d.notifyOn k e t).holdOn k e none

/-- The sessions of role `r`, by position. -/
def Dev.sessionsOf (d : Dev) (r : Role) : List Nat :=
  (List.range d.dap.sessions.length).filter (fun k => (d.dap.sessions[k]?.map (·.role)) = some r)

/-! ## Events (R464 to R467) -/

/-- Some event of group `g` is pending: STATUS 1 and MASK 0 (R466). -/
def Dev.groupPending (d : Dev) (g : Nat) : Bool := andNot (d.rd (0x1400 + g) 1) (d.rd (0x1400 + g) 2) != 0

/-- EVT_N is low: a group routed to it has a pending event, or BOOT_STATE reads FAILED (R466, R502). -/
def Dev.evtLow (d : Dev) : Bool :=
  (List.range 25).any (fun g => bit 7 (d.rd (0x1400 + g) 4) && d.groupPending g) || d.rd 0x1020 4 = 6

/-- A tamper response drives ALARM_N (R432). -/
def Dev.tamperAlarmPin (d : Dev) : Bool := bit 2 (d.rd 0x7800 5)

/-- ALARM_N is low (R466). -/
def Dev.alarmLow (d : Dev) : Bool :=
  (List.range 25).any (fun g => bit 8 (d.rd (0x1400 + g) 4) && d.groupPending g) || d.tamperAlarmPin

/-- PINS of the event control block (R467). -/
def Dev.pins (d : Dev) : Nat := b2n d.evtLow + 2 * b2n d.alarmLow + 4 * b2n d.tamperAlarmPin

/-- A domain in RETAIN set going to ON, its POWER_REQ with it (R405). -/
def Dev.warmUp (k : Nat) (d : Dev) : Dev :=
  if d.pstate k = psRetain then
    { (d.wr (0x1100 + k) 1 2).wr (0x1100 + k) 2 psToOn with power := { d.power with warm := k :: d.power.warm } }
  else d

/-- The delivery of a group that became pending: MSI-X on VECTOR, and Dymbiloth, which wakes domain 136 (R466). -/
def Dev.deliver (g : Nat) (d : Dev) : Dev :=
  let r := d.rd (0x1400 + g) 4
  let d := if bit 6 r then d.sendMsix (fld 5 0 r) else d
  if bit 11 r then (d.emit (.firm g)).warmUp 136 else d

/-- Event `e` raised, apart from the performance counter of raises: STATUS set, RAISED counted, delivered by its routes (R465 to
R467). -/
def Dev.raise0 (e : Nat) (d : Dev) : Dev :=
  let g := e / 16
  let st := d.rd (0x1400 + g) 1
  let d1 := (d.wr (0x1400 + g) 1 (setBit (e % 16) st)).count 64 (0x1400 + g) 5 1
  if bit (e % 16) (d.rd (0x1400 + g) 2) then d1
  else
    let d2 := if bit (e % 16) st then d1 else d1.deliver g
    let r := d2.rd (0x1400 + g) 4
    let ks := (if bit 9 r then d2.sessionsOf .oob else []) ++ (if bit 10 r then d2.sessionsOf .field else [])
    ks.foldl (Dev.notifyRaise e d2.compact) d2

/-! ## Performance counters (R459 to R461) -/

/-- Performance counter `j` of block `b` counted up by `k`: at 2^48 - 1 it stops, at behaviour level 1 it wraps; either sets
PC_SATURATED and does `sat` (R461). -/
def Dev.perfAdd (sat : Dev → Dev) (b j k : Nat) (d : Dev) : Dev :=
  let i := 0x8100 + b
  let v := d.rd i (0x90 + j)
  let wraps := d.boot.compat || d.rd 0x1003 1 = 1
  if wraps then
    let d1 := d.wr i (0x90 + j) ((v + k) % 2 ^ 48)
    if v + k < 2 ^ 48 then d1 else sat (d1.wrBit i 3 j true)
  else
    let d1 := d.wr i (0x90 + j) (satAdd 48 v k)
    if v + k < 2 ^ 48 - 1 || v = 2 ^ 48 - 1 then d1 else sat (d1.wrBit i 3 j true)

/-- Counter `j` of block `b` counts source `ev` of an instance: MODE COUNT (R459); instance 0xFF of DICT_ACCESSES is every role. -/
def Dev.perfOn (d : Dev) (b ev inst j : Nat) : Bool :=
  let s := d.rd (0x8100 + b) (0x10 + j)
  bit j (d.rd (0x8100 + b) 1) && fld 11 0 s = ev && fld 13 12 s = 0 && (fld 23 16 s = inst || (ev = 0x110 && fld 23 16 s = 0xFF))

/-- `k` occurrences of a source counted by every enabled counter of block `b` that selects it (R459). -/
def Dev.perfWith (sat : Dev → Dev) (b ev inst k : Nat) (d : Dev) : Dev :=
  if d.rd (0x8100 + b) 1 = 0 then d
  else (List.range 64).foldl (fun x j => if x.perfOn b ev inst j then x.perfAdd sat b j k else x) d

/-- Event E110, itself counted by EVENTS_RAISED (R461). -/
def Dev.raise110 (d : Dev) : Dev := (d.raise0 110).perfWith (Dev.raise0 110) 4 0x160 0 1

/-- `k` occurrences of a count source of block `b`. -/
def Dev.perf (b ev inst k : Nat) (d : Dev) : Dev := d.perfWith Dev.raise110 b ev inst k

/-! ## Pulse crossings (R410, R412) -/

/-- The crossing, by its PULSE_OVERFLOW bit, over which the source of event `e` reaches the keystone: a quadrant, but for the event of its
die-to-die link, the time unit, planisher 4, the clock monitors and power controller (R410; log 181). -/
def crossingOf (e : Nat) : Option Nat :=
  if within 112 288 e then (if (e - 112) % 72 = 71 then none else some ((e - 112) / 72))
  else if within 32 16 e then some 5 else if within 53 2 e then some 6 else if within 8 5 e then some 7 else none

/-- The PULSE_OVERFLOW bit of the crossing listed at `k`. -/
def crossBit (k : Nat) : Option Nat := if 400 ≤ k then some (k - 400) else crossingOf k

/-- The crossing listed at `k`: of event `k`, or at 400 + b of the other pulses under PULSE_OVERFLOW bit `b`. -/
def Dev.crossing (d : Dev) (k : Nat) : Crossing := Tbl.get (fun _ => Crossing.init) d.pulses k

/-- The toggle of a crossing awaits its acknowledgement, which comes six cycles after it (R408, R410; log 181). -/
def Dev.awaits (d : Dev) (k : Nat) : Bool := (d.crossing k).count != 0 && d.now ≤ (d.crossing k).since + 6

/-- The pulses counted in a crossing; the toggle ahead of them has reached the keystone (R410, R412). -/
def Dev.inCrossing (d : Dev) (k : Nat) : Nat := (d.crossing k).count - 1

/-- Crossing `k` made to hold `n` pulses, its toggle of cycle `t`. -/
def Dev.setCrossing (k n t : Nat) (d : Dev) : Dev := { d with pulses := Tbl.set (fun _ => Crossing.init) d.pulses k ⟨n, t⟩ }

/-- The keystone takes event `e`: it is raised (R465). -/
def Dev.hear (e : Nat) (d : Dev) : Dev := (d.raise0 e).perf 4 0x160 0 1

/-- PULSE_OVERFLOW bit `b` sets, with its event (R410). -/
def Dev.setOverflow (b : Nat) (d : Dev) : Dev := (d.wrBit 0x1200 5 b true).hear (if b < 4 then quadEvent b 7 else 13)

/-- The pulses that crossing `k` of event `k` counted, its acknowledgement being back, cross with the next toggle and raise the event once
(R410, R465). -/
def Dev.crossCount (k : Nat) (d : Dev) : Dev :=
  let c := d.crossing k
  if 1 < c.count && !d.awaits k then (d.setCrossing k 1 (c.since + 6)).hear k else d

/-- Event `e` raised (R410, R465): its pulse crosses as a toggle, or is counted while that awaits its acknowledgement, and lost beyond 15. DESIGN
CHOICE: a toggle reaches the keystone at once, and an acknowledgement is back by the time a CLEAR of its event has been made: what was counted
then crosses first (log 181). -/
def Dev.raise (e : Nat) (d : Dev) : Dev :=
  match crossingOf e with
  | none => d.hear e
  | some b =>
    let d1 := d.crossCount e
    let c := d1.crossing e
    if !d1.awaits e then (d1.setCrossing e 1 d1.now).hear e
    else if !bit (e % 16) (d1.rd (0x1400 + e / 16) 1) then
      (if 1 < c.count then d1.setCrossing e 2 c.since else d1.setCrossing e 1 d1.now).hear e
    else if c.count < 16 then d1.setCrossing e (c.count + 1) c.since
    else d1.setOverflow b

/-- Either side of the crossings under PULSE_OVERFLOW bit `b` resets: the pulses in them are lost, and the bit says so (R412). -/
def Dev.crossReset (b : Nat) (d : Dev) : Dev :=
  let mine := fun (k : Nat) => decide (crossBit k = some b)
  if d.pulses.any (fun e => mine e.1 && d.inCrossing e.1 != 0) then ({ d with pulses := Tbl.drop mine d.pulses } : Dev).setOverflow b else d

/-- The credit counts of interfaces `cs` restored to INITIAL at both ends, as a resynchronisation leaves them (R411, R452, R454). -/
def Dev.restoreCredits (cs : List Nat) (d : Dev) : Dev :=
  { d with assay := { d.assay with credits := Tbl.drop (fun k => cs.contains (k / 8)) d.assay.credits } }

/-- The credit interfaces that reset with domain `k`: a quadrant's link with its buffer domain, a stack's, a slice's loop (R411, R457). -/
def creditsOf (k : Nat) : List Nat :=
  if k = 137 || k = 138 then [0x10 + (k - 137)]
  else if 136 ≤ k then []
  else if k % 34 = 33 then [k / 34]
  else if k % 34 < 16 then [0x100 + 16 * (k / 34) + k % 34]
  else []

/-- CCLK runs in quadrant `q`: its PLL is not relocking (R398). -/
def Dev.clocked (d : Dev) (q : Nat) : Bool := 4 ≤ q || d.rd (0x1210 + q) 1 != 1

/-- CCLK runs in domain `k` of a quadrant: the domain is ON and its PLL is not relocking (R395, R398, R400). -/
def Dev.runs (d : Dev) (k : Nat) : Bool := d.isOn k && d.clocked (k / 34)

/-- What domain `k` of a quadrant does where CCLK runs in it: its state is kept while that is stopped (R398, R400). -/
def Dev.ifRuns (k : Nat) (f : Dev → Dev) (d : Dev) : Dev := if d.runs k then f d else d

/-- Event `e` raised and delivered to no session: its NOTIFY is another rule's (R65). -/
def Dev.raiseUnsaid (e : Nat) (d : Dev) : Dev :=
  let x := ({ d with dap := { d.dap with sessions := [] } } : Dev).raise e
  { x with dap := { x.dap with sessions := d.dap.sessions } }

end Sys2Proof.Machine
end

