-- ==== Sys2Proof/Machine/Occupancy.lean ====
section
/-! DEFINITION. The block's clock: what the counters that count by the clock gain in a time, and the commands that come about at a moment
(R459 to R461). -/
namespace Sys2Proof.Machine

/-! ## What a slice holds (R353) -/

/-- The bytes of a frame that leave: one ended with an error block has no FCS (R132, R148). -/
def Frame.sent (f : Frame) : Nat := f.data.length + (if f.fcs = .errorBlock then 0 else 4)

/-- Frames waiting at requester `r` of slice `s`, by 8s + r. -/
def Dev.bgOf (d : Dev) (k : Nat) : List BgFrame := Tbl.get (fun _ => []) d.bg k

/-- The sides that slice `k` paces. -/
def pacedSides (k : Nat) : List Nat := (List.range 8).map (fun i => 256 * (k / 8 % 2) + 64 * (k / 16) + 8 * (k % 8) + i)

/-- Frames between dequeue and their staging stores in slice `s`. -/
def Dev.inE (d : Dev) (s : Nat) : List Drawn := Tbl.get (fun _ => []) d.eFlight s

/-- Frames in D-slice `s` and its gate store. -/
def Dev.inD (d : Dev) (s : Nat) : List Held := Tbl.get (fun _ => []) d.dFlight s

/-- What the staging store of side `s` holds of the port's own frames: one at most (R348). -/
def Dev.staged (d : Dev) (s : Nat) : List Staged := Tbl.get (fun _ => []) d.staging s

/-- The slice has processed a frame whole. -/
def Staged.full (x : Staged) : Bool := x.frame.sent ≤ x.done

/-- IN_FLIGHT of slice `k` (R353): frames it has not processed whole, those whose verdict is not formed, background frames begun; one that
is drawn or staged while its verdict is awaited counts once. -/
def Dev.inFlight (d : Dev) (k : Nat) : Nat :=
  ((d.inE k).filter (fun e => e.frame.wait = .none)).length + (d.inD k).length +
    (pacedSides k).foldl (fun a s => a + ((d.staged s).filter (fun x => !x.full && x.frame.wait = .none)).length) 0 +
    (List.range 5).foldl (fun a r => a + ((d.bgOf (8 * k + r)).filter (fun x => x.done != 0)).length) 0

/-- Cells held in pool `p` of quadrant `q`. -/
def Dev.poolUsed (d : Dev) (q p : Nat) : Nat := d.rd (0x5000 + 64 * q) (0xE0 + p)

/-! ## The sources that count by the clock (R459, R461) -/

/-- AVAILABLE, IN_FLIGHT or HELD of interface `e`: what the latest marker found, or after a resynchronisation INITIAL, 0 and 0 (R411). -/
def Dev.credit (d : Dev) (e v : Nat) : Nat :=
  let held := fun (k : Nat) => Tbl.get (fun _ => 0) d.assay.credits (8 * e + k)
  if held (v / 4 * 4) = 1 then held v else if v % 4 = 1 then (Config.creditInitial e).toNat else 0

/-- What an occupancy source of block `b` reads (R461); none for a count. -/
def Dev.occupancy (d : Dev) (b ev inst : Nat) : Option Nat :=
  match ev with
  | 0x013 => some (d.inFlight (16 * b + inst))
  | 0x023 => some (d.rd (0x4010 + 4 * b + inst) 3)
  | 0x033 => some (if inst = 0xFF then (List.range 16).foldl (fun a p => a + d.poolUsed b p) 0 else d.poolUsed b inst)
  | 0x036 => some (d.rd (0x5000 + 64 * b) 0xCA)
  | 0x052 => some (d.rd (0x3050 + b) 2)
  | 0x060 => some (d.credit b (1 + 4 * inst))
  | 0x140 => some (d.rd 0x7020 1)
  | _ => none

/-- What an enabled counter of block `b` gains in each cycle from a source that counts by the clock: the cycles themselves, a busy planisher,
an occupancy, or 1 while that exceeds THRESHOLD (R459). -/
def Dev.perfRate (d : Dev) (b j : Nat) : Nat :=
  let s := d.rd (0x8100 + b) (0x10 + j)
  let ev := fld 11 0 s
  match d.occupancy b ev (fld 23 16 s) with
  | some o => if fld 13 12 s = 1 then b2n (d.rd (0x8100 + b) (0x50 + j) < o) else o
  | none =>
    if ev = 0x001 || ev = 0x101 then 1
    else if ev = 0x051 || ev = 0x151 then b2n (d.rd (0x3050 + b) 1 != 0)
    else 0

/-- The clock of performance block `b` runs: CCLK in domain 34b+33, KCLK with the keystone (R395, R459). -/
def Dev.perfRuns (d : Dev) (b : Nat) : Bool :=
  if b < 4 then d.isOn (bufDom b) && d.clocked b else d.boot.holding = 0 && d.power.supply < 2

/-- `n` cycles of the clock of block `b` counted by the enabled counters that count by the clock (R459, R461). -/
def Dev.perfClock (n b : Nat) (d : Dev) : Dev :=
  if n = 0 || d.rd (0x8100 + b) 1 = 0 || !d.perfRuns b then d
  else (List.range 64).foldl (fun x j =>
    let g := n * d.perfRate b j
    if bit j (d.rd (0x8100 + b) 1) && g != 0 then x.perfAdd Dev.raise110 b j g else x) d

/-- The block in CCLK cycle `t`, where a command carries the moment it comes about in (log 154): the cycles since the last such moment are
counted, three of KCLK to four of CCLK (R395, R460; log 135). -/
def Dev.at (t : Nat) (d : Dev) : Dev :=
  { (List.range 5).foldl (fun x b => x.perfClock (if b = 4 then t * 3 / 4 - d.now * 3 / 4 else t - d.now) b) d with now := t }

/-- A command that comes about in CCLK cycle `t`. -/
def actAt (p : Bool) (t : Nat) (f : Dev → Dev) (s : State) : Out := actIf p (fun d => f (d.at t)) s

end Sys2Proof.Machine
end

