-- ==== Sys2Proof/Machine/Flags.lean ====
section
/-! DEFINITION. The sticky cause registers: CAUSE, CAUSE_CLEAR and CAUSE_ENABLE of pairs, carriers, tables, buffer blocks and
calendars (R159, R207, R262, R342, R365). -/
namespace Sys2Proof.Machine

/-- Where a block's cause registers stand: index, then the subindices of CAUSE, CAUSE_CLEAR and CAUSE_ENABLE. -/
def causeAt : CauseBlock → Nat × Nat × Nat × Nat
  | .pair n => (0x2400 + n, 0x12, 0x13, 0x14)
  | .carrier n => (0x2500 + n, 0x12, 0x13, 0x14)
  | .table k => (0x4010 + k, 0x0E, 0x0F, 0x10)
  | .buffer q => (0x5000 + 64 * q, 0xC3, 0xC4, 0xC5)
  | .calendar s => (0x6000 + s, 0x70, 0x71, 0x72)

/-- The block exists. -/
def causeOk : CauseBlock → Bool
  | .pair n => n < 256
  | .carrier n => n < 256
  | .table k => k < 16
  | .buffer q => q < 4
  | .calendar s => s < 64

/-- The event that bit `i` of the block's CAUSE raises. -/
def causeEvent : CauseBlock → Nat → Nat
  | .pair n, _ => pairEvent n
  | .carrier n, _ => pairEvent n
  | .table k, _ => quadEvent (k / 4) 0
  | .buffer q, i => if i < 16 then quadEvent q 3 else quadEvent q 4
  | .calendar s, _ => quadEvent (s / 16) 5

/-- Bit 0 of pairs and carriers, STATE_CHANGE, is always enabled (R159, R207). -/
def causeAlways : CauseBlock → Nat
  | .pair _ => 1
  | .carrier _ => 1
  | _ => 0

/-- The enabled bits of a block's CAUSE. -/
def Dev.causeEnabled (d : Dev) (b : CauseBlock) : Nat :=
  let (i, _, _, e) := causeAt b
  d.rd i e ||| causeAlways b

/-- A condition of bit `i` occurs: the bit is set, and the event raised if the bit went from 0 to 1 and is enabled (R159). -/
def Dev.cause (b : CauseBlock) (i : Nat) (d : Dev) : Dev :=
  let (x, c, _, _) := causeAt b
  let was := d.rd x c
  let d1 := d.wr x c (setBit i was)
  if !bit i was && bit i (d.causeEnabled b) then d1.raise (causeEvent b i) else d1

/-- The events raised for a set of bits of a block. -/
def causeEvents (b : CauseBlock) (bits : Nat) : List Nat :=
  (((List.range 32).filter (fun i => bit i bits)).map (causeEvent b)).eraseDups

/-- The bits of a block's CAUSE that stand for conditions; the others are reserved (R159, R207, R262, R342, R351). -/
def causeBits : CauseBlock → Nat
  | .pair _ => 0x3FFF
  | .carrier _ => 0x1FFFFF
  | .table k => if k % 4 = 1 then 0xFFF else 0x3FF
  | .buffer _ => 0x1F00FF
  | .calendar _ => 0xF

/-- CAUSE_CLEAR of the bits `m`, with the conditions `again` occurring in the same cycle: they leave their bits set, and the event is raised
for one whose bit was to be cleared or was not set (R159). -/
def Dev.causeClear (b : CauseBlock) (m again : Nat) (d : Dev) : Dev :=
  let (x, c, _, _) := causeAt b
  let was := d.rd x c
  let now := again &&& causeBits b
  let d1 := d.wr x c (andNot was m ||| now)
  (causeEvents b (andNot now (andNot was m) &&& d.causeEnabled b)).foldl (fun y e => y.raise e) d1

/-- A write of CAUSE_ENABLE: a 1 over a bit CAUSE holds raises the event (R159). -/
def Dev.causeEnable (b : CauseBlock) (v : Nat) (d : Dev) : Dev :=
  let (x, c, _, e) := causeAt b
  (causeEvents b (v &&& d.rd x c)).foldl (fun y ev => y.raise ev) (d.wr x e (v ||| causeAlways b))

/-- A CONDITIONS bit set, raising E111 where it was clear (R445, R463). -/
def Dev.condition (b : Nat) (d : Dev) : Dev :=
  if bit b (d.rd 0x8000 0xA) then d else (d.wrBit 0x8000 0xA b true).raise 111

/-! ## Injected errors (R486) -/

/-- The argument of the PENDING injection where it is one of point `p` at a detector for whose instance and argument `at` holds: the
detector's next opportunity is corrupted (R486). -/
def Dev.armed (d : Dev) (p : Nat) (here : Nat → Nat → Bool) : Option Nat :=
  match d.inject with
  | some j => if j.point = p && here j.inst j.arg then some j.arg else none
  | none => none

/-- One occurrence counted; the first raises E14 (R486). -/
def Dev.injCount (d : Dev) : Dev :=
  let n := d.rd 0x9000 8
  let d1 := (d.count 8 0x9000 8 1).count 64 0x9000 0xA 1
  if n = 0 then d1.raise 14 else d1

/-- An opportunity of the PENDING injection's detector has been corrupted: the occurrence is counted, and after the last one the injection
is DONE (R486). -/
def Dev.struck (d : Dev) : Dev :=
  match d.inject with
  | none => d
  | some j =>
    let d1 := d.injCount
    if j.left ≤ 1 then ({ d1 with inject := none } : Dev).wr 0x9000 7 2
    else { d1 with inject := some { j with left := j.left - 1 } }

/-- How bad the error is that an injection's argument asks for: 2 uncorrectable, 1 one bit, 0 without one. -/
def hitBits (a : Option Nat) : Nat :=
  match a with
  | some v => if bit 16 v then 2 else 1
  | none => 0

end Sys2Proof.Machine
end

