-- ==== Sys2Proof/Machine/Operands.lean ====
section
/-! DEFINITION. The operand forms of an access: the role of its path (R45), the protection map (R46 to R51), the FIELD subset (R76),
the order of the abort codes (R78, R79), and the one operation that performs a write of an object (R36 to R43, R56). -/
namespace Sys2Proof.Machine

/-- Abort codes (R78). -/
def abNoObject : Nat := 0xA100
def abNoSubindex : Nat := 0xA101
def abRoleDenied : Nat := 0xA102
def abType : Nat := 0xA103
def abRange : Nat := 0xA104
def abConflict : Nat := 0xA105
def abBusy : Nat := 0xA106
def abSealed : Nat := 0xA107
def abLevel : Nat := 0xA108
def abJump : Nat := 0xA109
def abState : Nat := 0xA10A
def abAuth : Nat := 0xA10B
def abReplay : Nat := 0xA10C
def abPoweredOff : Nat := 0xA10D
def abInternal : Nat := 0xA10E

/-- The role an access carries (R45): the control cluster is BOOT until PROT_SEAL, FIRM after it. -/
def Dev.roleOf (d : Dev) : Path → Role
  | .host => .host
  | .oob => .oob
  | .field => .field
  | .cluster => if d.boot.sealed then .firm else .boot

/-- The ACCESS word that governs index `i`: of the lowest-numbered enabled region that contains it, else DEFAULT_ACCESS (R47). -/
def Dev.accessWord (d : Dev) (i : Nat) : Nat :=
  match d.dict.find? (fun e => e.1 % 256 = 4 && within 0x1301 255 (e.1 / 256) && e.2 = 1 &&
      d.rd (e.1 / 256) 1 ≤ i && i ≤ d.rd (e.1 / 256) 2) with
  | some e => d.rd (e.1 / 256) 3
  | none => d.rd 0x1300 3

/-- The right whose field starts at bit `f` (0 READ, 8 WRITE, 16 CLEAR, 24 STEP); BOOT holds every right (R46, R48). -/
def Dev.hasRight (d : Dev) (f : Nat) (r : Role) (i : Nat) : Bool :=
  r = .boot || bit (f + r.bitNo) (d.accessWord i)

/-- The FIELD subset for reading (R76). -/
def fieldReads (i j : Nat) : Bool :=
  within 0x1000 4 i || within 0x1400 25 i || (within 0x2000 256 i && (j = 4)) || within 0x2500 256 i || within 0x7800 256 i

/-- The FIELD subset for writing and EXEC (R76). -/
def fieldWrites (i j : Nat) : Bool := (i = 0x1500 && (j = 1 || j = 2)) || (i = 0x3000 && j = 1)

/-- Role `r` may read `i.j` (R46 to R50, R76). -/
def Dev.mayRead (d : Dev) (r : Role) (i j : Nat) : Bool :=
  d.hasRight 0 r i && (r != .field || (fieldReads i j && !within 0x1300 256 i))

/-- The roles a table command window w of a table serves (R282), and the queue windows (R317): window 0 FIRM and BOOT, 1 HOST,
2 OOB, 3 any role the protection map allows. -/
def windowRole (w : Nat) (r : Role) : Bool :=
  match w with
  | 0 => r = .firm || r = .boot
  | 1 => r = .host
  | 2 => r = .oob
  | _ => true

/-- The role checks that owning chapters add for one object (R79): BOOT alone for USAGE (R209), SVN_ADVANCE and KEY_REVOKE
(R503), TEST_ZEROISE_ARMED (R485) and a WD_ENABLE write that clears a bit (R469); FIRM alone for WD_KICK (R469); CLEAR for
ZEROISE_CLEAR (R257); the STEP right for a STEP with STEP_FORCE (R369); the roles of a window's CMD (R282, R317); a job with a
data address (R222). -/
def Dev.roleExtra (d : Dev) (r : Role) (c : Cls) (n i j v : Nat) : Bool :=
  match c, j with
  | .slot, 1 => r = .boot && n != 63
  | .firmware, 7 => r = .boot
  | .firmware, 8 => r = .boot
  | .injection, 9 => r = .boot
  | .watchdog, 1 => r = .boot || andNot (d.rd 0x141A 1) v = 0
  | .watchdog, 3 => r = .firm
  | .vault, 3 => d.hasRight 16 r i
  | .timeUnit, 5 => !bit 8 v || d.hasRight 24 r i
  | .tableWin, 1 => windowRole (n % 4) r
  | .queueWin, _ => j % 16 != 0 || windowRole ((j - 0xC0) / 16) r
  | .jobWin, 0x0A => d.rd i 8 = 0 || r = .host || r = .firm || r = .boot
  | _, _ => true

/-- Role `r` may write `i.j` with value `v` (R38, R46 to R50, R76, R79). -/
def Dev.mayWrite (d : Dev) (r : Role) (c : Cls) (n : Nat) (row : Row) (i j v : Nat) : Bool :=
  row.acc != .ro && d.hasRight 8 r i &&
  (r != .field || fieldWrites i j) &&
  (!within 0x1300 256 i || r = .boot) &&
  (row.acc != .rwBoot && row.acc != .execBoot || r = .boot) &&
  (row.acc != .execClear || d.hasRight 16 r i) &&
  d.roleExtra r c n i j v

/-- AON and VAULT are not on backup alone: main power is not judged lost, or is judged restored (R421). -/
def Dev.onMain (d : Dev) : Bool := d.power.supply != 2

/-- The dictionary engine runs: main power is present and the keystone is not held in reset (R40, R491). -/
def Dev.engineRuns (d : Dev) : Bool := d.boot.holding = 0 && d.power.supply < 2

/-- The abort code of a write decided before the owner's checks: 0 where none applies (R79, from NO_OBJECT to RANGE). -/
def Dev.writeAbort (d : Dev) (r : Role) (i j ty len v : Nat) : Nat :=
  match objAt i j with
  | none =>
    if (insts i).isEmpty then abNoObject
    else if j = 0 then (if within 0x1300 256 i && d.boot.sealed then abSealed else abRoleDenied)
    else abNoSubindex
  | some (c, n, row) =>
    if within 0x1300 256 i && d.boot.sealed then abSealed
    else if !d.mayWrite r c n row i j v then abRoleDenied
    else if (match domainIn c n j with | some k => d.answersOff k | none => false) then abPoweredOff
    else if ty != row.ty.code || len != row.ty.size || 2 ^ (8 * len) ≤ v then abType
    else if (row.ty = .bool && 1 < v) || !row.range.has v then abRange
    else 0

/-- A refusal with `a` above BUSY in the order of R79. -/
def aboveBusy (a : Nat) : Bool := a != 0 && a != abBusy && a != abJump && a != abInternal

/-- Domain `k` asked from RETAIN to ON, its POWER_REQ with it; one on its way to RETAIN is asked back (R402, R405). -/
def Dev.askOn (k : Nat) (d : Dev) : Dev := if d.pstate k = psToRetain then d.wr (0x1100 + k) 1 2 else d.warmUp k

/-- A RETAIN domain `k` begins to wake: where its parent is not ON, the parent wakes first, and the power controller takes up `k` once
it is (R402, R405). -/
def Dev.wake (k : Nat) (d : Dev) : Dev :=
  if d.pstate k = psRetain then
    let p := parentOf k
    if p != 0xFF && !d.isOn p then (d.askOn p).wr (0x1100 + k) 1 2 else d.warmUp k
  else d

/-- The RETAIN domain that a write of `i.j` wakes before it completes (R43). -/
def Dev.wakesFor (d : Dev) (i j : Nat) : Option Nat :=
  match objAt i j with
  | some (c, n, _) => (domainIn c n j).filter (fun k => d.pstate k = psRetain)
  | none => none

/-- LAST_ABORT after a refusal `a` of index `i`, subindex `j`, on any path (R55, R77). -/
def Dev.lastAbort (i j a : Nat) (d : Dev) : Dev := if a = 0 then d else d.wr 0x1530 2 (i * 2 ^ 24 + j * 2 ^ 16 + a)

/-- An access answered: its abort code and value, LAST_ABORT of a refusal, and ENTRY_STATUS of a HOST access (R52, R55, R77). -/
def Dev.respond (p : Path) (i j a ty len v : Nat) (d : Dev) : Dev :=
  let d2 := ({ d with answer := ⟨a, ty, len, v⟩ } : Dev).lastAbort i j a
  if p = .host then { d2 with bar0 := { d2.bar0 with status := Tbl.set (fun _ => 0) d2.bar0.status (okey i j) a } } else d2

/-- The entry `i.j` has an EXEC or a wake in progress (R52, R56). -/
def Dev.isPending (d : Dev) (i j : Nat) : Bool :=
  d.pend.any (fun p => p.key == okey i j) || d.wakeWaits.any (fun w => w.index == i && w.sub == j)

/-- PORT_WIDTH of pair `n`. -/
def Dev.width (d : Dev) (n : Nat) : Nat := d.rd (0x2000 + n) 2

/-- Pair `n` is absorbed by a wider pair below it (R15). -/
def Dev.absorbed (d : Dev) (n : Nat) : Bool :=
  [2, 4, 8, 16].any (fun w => n / w * w < n && n < n / w * w + d.width (n / w * w))

/-- Index `i` is a port, policy or carrier object of an absorbed pair: writes are refused with STATE (R15). -/
def Dev.absorbedAt (d : Dev) (i : Nat) : Bool :=
  (within 0x2000 512 i || within 0x2400 512 i) && d.absorbed (i % 256)

/-- An owner's effect: the abort code (0 where accepted) and the block after it. -/
abbrev Eff := Role → Nat → Dev → Nat × Dev

/-- A write of object `i.j` whose owner finds POWERED_OFF by the object it names, not its own domain: SUBMIT (R222), SELECT and CLEAR_MASK
(R457), FIRE (R486). -/
def namesDomain (i j : Nat) : Bool :=
  (within 0x3060 8 i && j = 0xA) || (i = 0x9000 && j = 5) || (within 0x8010 8 i && (j = 1 || j = 3))

/-- One access performed by the dictionary engine in a role, as the performance counters see it (R459). -/
def Dev.accessed (r : Role) (d : Dev) : Dev := d.perf 4 0x110 r.bitNo 1

/-- The write of an object on a path, where readiness has been dealt with: the checks of R79 in order, then the owner's effect. A write
that its owner takes and whose domain is in RETAIN wakes it and waits for it (R43, R405; log 156). -/
def Dev.doWrite (eff : Eff) (p : Path) (i j ty len v : Nat) (d0 : Dev) : Dev :=
  let r := d0.roleOf p
  let d := d0.accessed r
  let a := d.writeAbort r i j ty len v
  if a != 0 then
    d.respond p i j (if (a = abType || a = abRange) && namesDomain i j && (eff r v d).1 = abPoweredOff then abPoweredOff else a) 0 0 0
  else if d.absorbedAt i then
    let c := (eff r v d).1
    d.respond p i j (if c = abRange || c = abLevel then c else abState) 0 0 0
  else if d.isPending i j then
    let c := (eff r v d).1
    d.respond p i j (if aboveBusy c then c else abBusy) 0 0 0
  else
    let e := eff r v d
    match if e.1 = 0 then d.wakesFor i j else none with
    | some k =>
      let d1 := (d.wake k).respond p i j 0 0 0 0
      { d1 with wakeWaits := d1.wakeWaits ++ [⟨k, i, j, ⟨p, ty, len, v⟩, false, none⟩] }
    | none => e.2.respond p i j e.1 0 0 0

/-- The PCI Express endpoint is there: domain 139 is ON, PERST_N is high and configuration space is ready (R61, R494, R500). -/
def Dev.endpointUp (d : Dev) : Bool := d.engineRuns && d.isOn 139 && !d.boot.perstLow && d.boot.configReady

/-- The management and CAN FD ports are there: domain 140 is ON (R400). -/
def Dev.portsUp (d : Dev) : Bool := d.engineRuns && d.isOn 140

/-- The control cluster runs: it has not halted (R507, R510), its domain is ON and PLL 5 is not relocking (R395, R398). -/
def Dev.clusterUp (d : Dev) : Bool := d.engineRuns && d.boot.clusterRuns && d.isOn 136 && d.rd 0x1215 1 != 1

/-- An access reaches the dictionary: of the control cluster while that runs; of PCI Express and DAP while their ports are there, from
DEVICE_READY on (R46, R504). -/
def Dev.reaches (d : Dev) (p : Path) : Bool :=
  match p with
  | .cluster => d.clusterUp
  | .host => d.endpointUp && d.boot.ready
  | _ => d.portsUp && d.boot.ready

/-- The quadrant that object `j` of instance `n` of a kind lies in, none for the keystone's (R9, R10, R12). -/
def quadrantOf (c : Cls) (n j : Nat) : Option Nat :=
  match c with
  | .linePort | .sysPort | .policy | .carrier => some (n / 64)
  | .generator | .loop => some n
  | _ => (domainIn c n j).bind (fun k => if k < 136 then some (k / 34) else none)

/-- The quadrant whose die-to-die link an access of `i.j` crosses (R10, R481). -/
def quadAt (i j : Nat) : Option Nat :=
  match objAt i j with
  | some (c, n, _) => quadrantOf c n j
  | none => none

/-- The link that an access of `i.j` crosses is retraining: the access waits for it (R481). -/
def Dev.linkHolds (d : Dev) (i j : Nat) : Option Nat := (quadAt i j).filter (fun q => d.rd (0x141C + q) 1 = 1)

/-- `n` failed attempts of one transfer on link `q`, `r` of them retried. -/
def Dev.crcFails (q n r : Nat) (d : Dev) : Dev := (d.count 64 (0x141C + q) 2 n).count 64 (0x141C + q) 3 r

/-- The ninth failure of one transfer resets link `q`: it retrains, the pulses crossing it are lost and its credits restored
(R411, R412, R481). DEDUCED: a frame crosses the link within one command, so none stands in its FIFO between two (log 212). -/
def Dev.linkReset (q : Nat) (d : Dev) : Dev :=
  if d.rd (0x141C + q) 1 != 2 then d
  else (((d.crcFails q 9 8).wr (0x141C + q) 1 1).count 32 (0x141C + q) 4 1).raise (quadEvent q 7) |>.crossReset q |>.restoreCredits [q]

/-- The argument of the armed injection that the next transfer on link `q` meets: a transfer crosses in both directions (R486). -/
def Dev.linkErr (d : Dev) (q : Nat) : Option Nat := if d.rd (0x141C + q) 1 = 2 then d.armed 0x06 (fun s _ => s = q) else none

/-- A transfer on link `q` meets the armed injection there: one attempt fails and is retried, or all nine fail (R481, R486). -/
def Dev.linkAttempt (q : Nat) (d : Dev) : Dev :=
  match d.linkErr q with
  | some a => (if bit 16 a then d.linkReset q else d.crcFails q 1 1).struck
  | none => d

/-- An access of `i.j` on its way over the link it crosses. -/
def Dev.linkMeets (i j : Nat) (d : Dev) : Dev :=
  match quadAt i j with
  | some q => d.linkAttempt q
  | none => d

/-- The armed injection that an access of `i.j` meets on its link. -/
def Dev.linkHit (d : Dev) (i j : Nat) : Option Nat := (quadAt i j).bind d.linkErr

/-- A write of object `i.j` by command (R36): discarded where it does not reach the dictionary; it waits while the link it crosses
retrains (R481). -/
def Dev.write (eff : Eff) (i j : Nat) (w : Wr) (d0 : Dev) : Dev :=
  let d := d0.linkMeets i j
  if !d0.reaches w.path then d0
  else
    match d.linkHolds i j with
    | some q => { d with linkWaits := d.linkWaits ++ [⟨q, i, j, w, false, none⟩] }
    | none => d.doWrite eff w.path i j w.ty w.len w.value

/-- The effect of a write that only stores its value. -/
def store (i j : Nat) : Eff := fun _ v d => (0, d.wr i j v)

/-- An effect refused with `a`. -/
def refuse (a : Nat) (d : Dev) : Nat × Dev := (a, d)

/-- An effect refused with `a` where `p` holds, else `k`. -/
def unless' (p : Bool) (a : Nat) (d : Dev) (k : Nat × Dev) : Nat × Dev := if p then (a, d) else k

/-- The EXEC of `i.j` accepted and left in progress (R56, R70). -/
def Dev.startPend (i j : Nat) (p : Path) (d : Dev) : Dev := { d with pend := ⟨okey i j, p⟩ :: d.pend }

/-- The response to a DAP request, under its session's key (R66, R72). -/
def Dev.dapReply (k : DapAsk) (flags : Nat) (body : Bytes) (d : Dev) : Dev :=
  match d.dap.sessions.find? (fun x => x.id = k.sid && x.role = k.role) with
  | none => d
  | some x => d.sendDap k.role k.peer (dapMsg x.key (128 + k.op) k.sid k.seq flags body)

/-- The body of a response that carries abort code `a` and no value (R68). -/
def refusalBody (op a : Nat) : Bytes :=
  match op with
  | 1 => toBE 2 a ++ [0, 0]
  | 2 => toBE 2 a
  | 3 => 1 :: (toBE 2 a ++ [0, 0])
  | 4 => 0 :: toBE 2 a
  | _ => toBE 2 a ++ [0, 0]

/-- A BAR0 read answered with all ones (R55). -/
def Dev.allOnes (len : Nat) (d : Dev) : Dev := { d with answer := { d.answer with len := len, value := 2 ^ (8 * len) - 1 } }

/-- Index, subindex and byte within the entry of a BAR0 offset (R52). -/
def entryAt (off : Nat) : Nat × Nat × Nat := (off / 4096 % 65536, off / 16 % 256, off % 16)

/-- The 16 bytes of entry `i.j` (R52). -/
def Dev.entryBytes (d : Dev) (i j : Nat) : Bytes :=
  let v := match d.bar0.capture with
    | some (k, v) => if k = okey i j then v else 0
    | none => 0
  toLE 12 v ++ toLE 4 (Tbl.get (fun _ => 0) d.bar0.status (okey i j) + 65536 * b2n (d.isPending i j))

/-- A waiting access answered with abort code `a` (R43, R481), a WRITE_BLOCK with the number of its entries that took effect (R69); a
BAR0 read, whose offset and length stand in the wait, captures all ones (R54, R55). -/
def Dev.failWait (a : Nat) (w : AccessWait) (d : Dev) : Dev :=
  match w.ask with
  | some k =>
    (d.lastAbort w.index w.sub a).dapReply k 0
      (if k.op = 4 then BitVec.ofNat 8 (w.sub - beAt 2 1 k.body) :: toBE 2 a else refusalBody k.op a)
  | none =>
    let d1 := d.respond w.wr.path w.index w.sub a 0 0 0
    if !w.reads then d1
    else
      let d2 : Dev := { d1 with bar0 := { d1.bar0 with capture := some (okey w.index w.sub, 2 ^ 96 - 1) } }
      { d2 with answer := ⟨a, 0, w.wr.len, ofLE (slice (w.wr.value % 16) w.wr.len (d2.entryBytes w.index w.sub))⟩ }

/-- A write that waited for its domain is answered with `a`, and the DAP request that made it (R43, R70). -/
def Dev.failWake (a : Nat) (w : AccessWait) (d : Dev) : Dev :=
  let mine := fun (p : Nat × DapAsk) => p.1 == okey w.index w.sub && w.ask.isNone
  let d1 := (d.dap.waits.filter mine).foldl (fun x p => x.dapReply p.2 0 (refusalBody p.2.op a))
    ({ d with dap := { d.dap with waits := d.dap.waits.filter (fun p => !mine p) } } : Dev)
  d1.failWait a w

/-- An EXEC of `i.j` in progress completes with outcome `a`: PENDING clears, ABORT takes the outcome, and a DAP
request not yet answered is (R56, R70). -/
def Dev.endPend (i j a : Nat) (d : Dev) : Dev :=
  let mine := d.pend.filter (fun p => p.key == okey i j)
  let asks := d.dap.waits.filter (fun p => p.1 == okey i j)
  let d0 : Dev := { d with pend := d.pend.filter (fun p => p.key != okey i j),
                           dap := { d.dap with waits := d.dap.waits.filter (fun p => p.1 != okey i j) } }
  let d1 := asks.foldl (fun x p => x.dapReply p.2 0 (refusalBody p.2.op a)) d0
  mine.foldl (fun x p => x.respond p.path i j a 0 0 0) d1

end Sys2Proof.Machine
end

