-- ==== Sys2Proof/Machine/PortBase.lean ====
section
/-! DEFINITION. What a port pair is made of: its width, lanes, slices, domains, the states of its sides and its own state (R13 to
R19, R87 to R96, R404). -/
namespace Sys2Proof.Machine

/-- PORT_MODE codes (R89). -/
def pmOff : Nat := 0
def pmFrame : Nat := 1
def pmCarrier : Nat := 2
def pmPass : Nat := 3

/-- State codes of sides and pairs (R89). -/
def stDown : Nat := 0
def stTraining : Nat := 1
def stAligning : Nat := 2
def stUp : Nat := 3
def stDefect : Nat := 4
def stQuiesced : Nat := 5
def stFenced : Nat := 6

/-- LANE_STATE codes (R97). -/
def lnOff : Nat := 0
def lnIdle : Nat := 1
def lnSignalWait : Nat := 2
def lnCdrLock : Nat := 3
def lnAdapt : Nat := 4
def lnLocked : Nat := 5
def lnPrbs : Nat := 6

/-- PORT_MODE of pair `n`. -/
def Dev.mode (d : Dev) (n : Nat) : Nat := d.rd (0x2000 + n) 1
/-- SYS_GEARBOX of pair `n`. -/
def Dev.gearbox (d : Dev) (n : Nat) : Bool := d.rd (0x2100 + n) 0x10 = 1
/-- The system lanes a pair uses: w, or 2w with gearbox pairing (R95). -/
def Dev.sysWidth (d : Dev) (n : Nat) : Nat := if d.gearbox n then 2 * d.width n else d.width n

/-- The behaviour level of the device (R82): 1 with the strap high. -/
def Dev.levelDev (d : Dev) : Nat := if d.boot.compat then 1 else d.rd 0x1003 1
/-- Pair `n` runs at level 1 (R83). -/
def Dev.level1 (d : Dev) (n : Nat) : Bool := d.levelDev = 1 || d.rd (0x2000 + n) 3 = 1

/-- Pair `n` is formed: its PORT_MODE is not OFF and it is not absorbed. -/
def Dev.formed (d : Dev) (n : Nat) : Bool := d.mode n != 0

/-- The pairs whose PORT_MODE is not OFF, ascending. -/
def Dev.formedPairs (d : Dev) : List Nat :=
  d.dict.filterMap (fun e =>
    if within 0x2000 256 (e.1 / 256) && e.1 % 256 = 1 && e.2 != 0 then some (e.1 / 256 - 0x2000) else none)

/-- The dictionary lanes of side `s` (n for LPn, 256+n for SPn), in physical order (R13, R17). -/
def Dev.sideLanes (d : Dev) (s : Nat) : List Nat :=
  if s < 256 then (List.range (d.width s)).map (s + ·) else (List.range (d.sysWidth (s - 256))).map (s + ·)

/-- The lanes of both sides of pair `n`. -/
def Dev.pairLanes (d : Dev) (n : Nat) : List Nat := d.sideLanes n ++ d.sideLanes (256 + n)

/-- The formed pair that holds dictionary lane `l`, if any (R16). -/
def Dev.laneHolder (d : Dev) (l : Nat) : Option Nat := d.formedPairs.find? (fun n => (d.pairLanes n).contains l)

/-- The side whose lane `l` is, where it is in a formed pair. -/
def Dev.sideOfLane (d : Dev) (l : Nat) : Option Nat := (d.laneHolder l).map (fun n => if l < 256 then n else 256 + n)

/-- The slices of pair `n`: its E- and D-slice, and the partners of a bond (R18, R19). -/
def Dev.pairSlices (d : Dev) (n : Nat) : List Nat :=
  if d.width n = 16 then [eSliceOf n, eSliceOf n + 1, dSliceOf n, dSliceOf n + 1] else [eSliceOf n, dSliceOf n]

/-- The domains pair `n` needs (R404). -/
def Dev.pairDomains (d : Dev) (n : Nat) : List Nat :=
  ((List.range ((d.width n + n % 8 + 7) / 8)).map (fun k => lineDom (groupOf n + k)) ++
   (List.range ((d.sysWidth n + n % 8 + 7) / 8)).map (fun k => sysDom (groupOf n + k)) ++
   (d.pairSlices n).map sliceDom ++ [tabDom (quadOf n), bufDom (quadOf n)]).eraseDups

/-- A formed pair holds domain `k` (R404). -/
def Dev.isHeld (d : Dev) (k : Nat) : Bool := d.formedPairs.any (fun n => (d.pairDomains n).contains k)

/-- The side's power object reads IDLE (R112). -/
def Dev.sideIdle (d : Dev) (s : Nat) : Bool := d.rd (0x2000 + s) 6 = 1

/-- LINE_STATE or SYS_STATE of a side. -/
def Dev.sideState (d : Dev) (s : Nat) : Nat := if s < 256 then d.rd (0x2000 + s) 0x20 else d.rd (0x2000 + s) 4

/-- The state of a side made `v`. -/
def Dev.setSideState (s v : Nat) (d : Dev) : Dev := if s < 256 then d.wr (0x2000 + s) 0x20 v else d.wr (0x2000 + s) 4 v

/-- How advanced a side's state is: DOWN, TRAINING, ALIGNING, DEFECT, UP (R90). -/
def advance (v : Nat) : Nat := if v = stUp then 4 else if v = stDefect then 3 else v

/-- Slice `s` is fenced. -/
def Dev.isFenced (d : Dev) (s : Nat) : Bool := d.rd (0x2600 + s) 1 = 2

/-- A checkpoint is DRAINING one of the domains of pair `n`, whose blocks admit nothing new (R452). -/
def Dev.shut (d : Dev) (n : Nat) : Bool :=
  match d.assay.draining with
  | some k => (d.pairDomains n).contains k
  | none => false

/-- A tamper response holds every pair quiesced (R432). -/
def Dev.quiesced (d : Dev) : Bool := bit 0 (d.rd 0x7800 5)

/-- PORT_STATE of pair `n` (R90); an absorbed pair reads DOWN (R15). -/
def Dev.portState (d : Dev) (n : Nat) : Nat :=
  if d.absorbed n then stDown
  else if (d.pairSlices n).any d.isFenced then stFenced
  else if d.quiesced then stQuiesced
  else
    let a := d.sideState n
    let b := d.sideState (256 + n)
    if advance a ≤ advance b then a else b

/-- Every pair the part has: an absorbed one reads DOWN throughout (R15, R90). -/
def allPairs : List Nat := List.range 256

/-- The two sides of a pair are UP and nothing holds it. -/
def Dev.isUp (d : Dev) (n : Nat) : Bool := d.portState n = stUp

/-- The pairs anchored in the group of slice `s`, or bonded to it: those whose PORT_STATE its fence changes (R90, R475). -/
def Dev.slicePairs (d : Dev) (s : Nat) : List Nat := allPairs.filter (fun n => (d.pairSlices n).contains s)

/-- The carrier anchored at pair `n`. -/
def Dev.carrier (d : Dev) (n : Nat) : Carrier := Tbl.get (fun _ => Carrier.init) d.carriers n
/-- The carrier anchored at pair `n` replaced. -/
def Dev.setCarrier (n : Nat) (x : Carrier) (d : Dev) : Dev := { d with carriers := Tbl.set (fun _ => Carrier.init) d.carriers n x }

/-- The transmitters of side `s` are on: its pair is formed, the side is not idle, and neither waits for a domain (R93, R112, R404). -/
def Dev.txOn (d : Dev) (s : Nat) : Bool :=
  d.formed (s % 256) && !d.sideIdle s && !d.power.forming.contains (s % 256) && !d.power.exiting.contains s

/-- Side `s` sends continuous Local Fault ordered sets: an Ethernet side of a pair that is QUIESCED, whose E-slice (line side) or D-slice
(system side) is fenced, or whose near-end loopback replaces it (R432, R476, R482). -/
def Dev.sendsLf (d : Dev) (s : Nat) : Bool :=
  let n := s % 256
  let line := s < 256
  d.txOn s && (d.mode n = pmFrame || d.mode n = pmPass) &&
  (d.quiesced || (d.pairSlices n).any (fun t => (t / 8 % 2 = 0) = line && d.isFenced t) ||
    d.rd (0x9030 + quadOf n) (1 + n % 64) = (if line then 1 else 3))

/-- Whether side `s` was last put out as sending Local Fault ordered sets. -/
def Dev.lfSent (d : Dev) (s : Nat) : Bool :=
  (d.emits.findSome? (fun e => match e with
    | .localFault t on => if t = s then some on else none
    | _ => none)).getD false

/-- The Local Fault ordered sets of side `s` made to begin or to cease as they should. -/
def Dev.syncLf (s : Nat) (d : Dev) : Dev := if d.sendsLf s = d.lfSent s then d else d.emit (.localFault s (d.sendsLf s))

/-- Those of both sides of pair `n`. -/
def Dev.syncPairLf (n : Nat) (d : Dev) : Dev := (d.syncLf n).syncLf (256 + n)

/-- `f`, with the event of every pair of `ns` whose PORT_STATE it changes (R90): cause STATE_CHANGE, always enabled. What the pairs' sides
send in place of frames follows. -/
def tracking (ns : List Nat) (f : Dev → Dev) (d : Dev) : Dev :=
  let d1 := f d
  ns.foldl (fun x n => Dev.syncPairLf n (
    if d.portState n = d1.portState n then x
    else
      let blk := if d1.mode n = pmCarrier then CauseBlock.carrier n else CauseBlock.pair n
      let (i, c, _, _) := causeAt blk
      (x.wrBit i c 0 true).raise (pairEvent n))) d1

/-- The hidden state of lane `l`. -/
def Dev.lane (d : Dev) (l : Nat) : Lane := Tbl.get (fun _ => Lane.init) d.lanes l
/-- The hidden state of lane `l` replaced. -/
def Dev.setLane (l : Nat) (x : Lane) (d : Dev) : Dev := { d with lanes := Tbl.set (fun _ => Lane.init) d.lanes l x }
/-- The hidden state of side `s`. -/
def Dev.side (d : Dev) (s : Nat) : Side := Tbl.get (fun _ => Side.init) d.sides s
/-- The hidden state of side `s` replaced. -/
def Dev.setSide (s : Nat) (x : Side) (d : Dev) : Dev := { d with sides := Tbl.set (fun _ => Side.init) d.sides s x }

/-- LANE_STATE of lane `l`. -/
def Dev.laneState (d : Dev) (l : Nat) : Nat := d.rd (0x2200 + l) 1
/-- LANE_STATE of lane `l` made `v`. -/
def Dev.setLaneState (l v : Nat) (d : Dev) : Dev := d.wr (0x2200 + l) 1 v

/-- A LANE_RATE code runs PAM4 (R85). -/
def isPam4 (code : Nat) : Bool := 3 ≤ code

/-- The LANE_RATE code of a line lane for PORT_RATE `r` at width `w`; 0 where Table Port rates and lane use has none (R87). -/
def lineRate (r w : Nat) : Nat :=
  match r, w with
  | 1, 1 => 1
  | 2, 1 => 2
  | 3, 1 => 4
  | 3, 2 => 3
  | 4, 1 => 5
  | 4, 2 => 4
  | 4, 4 => 2
  | 5, 2 => 5
  | 5, 4 => 4
  | 5, 8 => 3
  | 6, 4 => 5
  | 6, 8 => 4
  | 7, 8 => 5
  | 0x20, _ => 6
  | 0x21, _ => 7
  | 0x22, _ => 8
  | _, _ => 0

/-- FEC code `f` is allowed for Ethernet port rate `r` at width `w` (R86, R87). -/
def fecAllowed (r w f : Nat) : Bool :=
  match r with
  | 1 => f = 0 || f = 1
  | 2 => f = 0 || f = 1 || f = 2
  | 4 => if w = 4 then f = 2 else f = 3
  | _ => f = 3

/-- The port rate and width a carrier's Ethernet client runs at on the system side (R88, R173); 0 for CBR clients. -/
def clientRate (ct : Nat) : Nat :=
  match ct with
  | 1 => 4
  | 2 => 5
  | 3 => 6
  | 4 => 7
  | 5 => 8
  | 0x10 => 1
  | 0x11 => 2
  | _ => 0

/-- The LANE_RATE code of the system lanes of a CARRIER pair of width `w` (R88, R173): the client's own rate at that width; 1.6TbE runs
16 lanes at 106.25 Gb/s. -/
def clientLaneRate (ct w : Nat) : Nat :=
  if ct = 0x20 then 1 else if ct = 0x21 then 2 else if ct = 5 then 5 else lineRate (clientRate ct) w

/-- The client, mapping, lane rate and width that a carrier accepts (R173): mapping 0 is pointer mode. -/
def carrierFits (ct mapping lr w : Nat) : Bool :=
  let base := if ct = 1 then 1 else if ct = 2 then 2 else if ct = 3 then 4 else if ct = 4 then 8 else if ct = 5 then 16 else 0
  if base = 0 then mapping = 1 && lr = 6 && w = 1 && (ct = 0x10 || ct = 0x11 || ct = 0x20 || ct = 0x21)
  else if mapping = 0 then lr = 8 && w = base
  else (lr = 8 && w = base) || (lr = 7 && w = 2 * base && ct ≤ 3) || (lr = 6 && w = 4 * base && ct ≤ 2)

/-- The LANE_RATE code of the system lanes of pair `n` as configured for mode `m` (R88, R95). -/
def Dev.sysRate (d : Dev) (n m : Nat) : Nat :=
  let lr := lineRate (d.rd (0x2000 + n) 5) (d.width n)
  let full := if m = pmCarrier then clientLaneRate (d.rd (0x2500 + n) 2) (d.width n) else lr
  if d.gearbox n then full - 1 else full

/-- LANE_RATE of lane `l`: what its pair runs at, else as written (R108). -/
def Dev.laneRate (d : Dev) (l : Nat) : Nat :=
  match d.laneHolder l with
  | none => d.rd (0x2200 + l) 2
  | some n => if l < 256 then lineRate (d.rd (0x2000 + n) 5) (d.width n) else d.sysRate n (d.mode n)

/-- The domain of lane `l` (R23). -/
def laneDom (l : Nat) : Nat := if l < 256 then lineDom (groupOf l) else sysDom (groupOf (l - 256))

/-- The lanes that send logical lanes 0, 1 and so on of side `s`: in order, or reversed with TX_REVERSE, each inverted while its TX_INVERT is
1 (R89, R101, R103). -/
def Dev.txLanes (d : Dev) (s : Nat) : List TxLane :=
  (if d.rd (0x2000 + s) 0x11 = 1 then (d.sideLanes s).reverse else d.sideLanes s).map (fun l => ⟨l, d.rd (0x2200 + l) 5 = 1⟩)

/-- Data in the inverted form of a lane: every bit on an NRZ lane; on a PAM4 lane, whose levels are mirrored, the first bit of each
symbol (R100). -/
def mirrored (pam4 : Bool) (b : Bytes) : Bytes := b.map (fun x => x ^^^ (if pam4 then 0xAA else 0xFF))

/-- What lane `l` passes on of the data it receives: inverted while RX_INVERTED reads 1 (R100). -/
def Dev.rxForm (d : Dev) (l : Nat) (b : Bytes) : Bytes :=
  if d.rd (0x2200 + l) 4 = 1 then mirrored (isPam4 (d.laneRate l)) b else b

/-- What lane `l` sends of its data: inverted while TX_INVERT is 1 (R101). -/
def Dev.txForm (d : Dev) (l : Nat) (b : Bytes) : Bytes :=
  if d.rd (0x2200 + l) 5 = 1 then mirrored (isPam4 (d.laneRate l)) b else b

/-- Link training is allowed at a LANE_RATE code (R98). -/
def trains (code : Nat) : Bool := code = 1 || code = 2 || code = 4 || code = 5

end Sys2Proof.Machine
end

