-- ==== Sys2Proof/Machine/TimeBase.lean ====
section
/-! DEFINITION. The time unit's shared operations: the tick and its steps, comparators, the schedule queue (R366 to R391). -/
namespace Sys2Proof.Machine

/-- The time unit counts: domain 141 is ON and PLL 6 is locked (R368, R398). -/
def Dev.timeRuns (d : Dev) : Bool := d.isOn 141 && d.rd 0x1216 1 = 2

/-- TIME_VALID. -/
def Dev.timeValid (d : Dev) : Bool := d.rd 0x7000 8 = 1

/-- The path whose role `r` is (R45). -/
def pathOf : Role → Path
  | .host => .host
  | .oob => .oob
  | .field => .field
  | .boot => .cluster
  | .firm => .cluster

/-! ## The schedule queue (R389 to R391) -/

/-- Two entries have the same owner: a channel's scheduled changeover whatever its AN, a carrier, a gate list. -/
def sameOwner : Owner → Owner → Bool
  | .channel a _, .channel b _ => a == b
  | .carrier a, .carrier b => a == b
  | .gate a, .gate b => a == b
  | _, _ => false

/-- Entry `a` goes ahead of entry `b`: its target is earlier, or equal and it was submitted first (R376, R389). -/
def SchedEntry.before (a b : SchedEntry) : Bool := if a.target = b.target then a.seq < b.seq else reached b.target a.target

/-- The queue with `e` entered in order of target, and of submission among equal targets. -/
def schedInsert (e : SchedEntry) : List SchedEntry → List SchedEntry
  | [] => [e]
  | x :: t => if e.before x then e :: x :: t else x :: schedInsert e t

/-- The first of a list of entries that `p` picks. -/
def firstOf (p : SchedEntry → Bool) (l : List SchedEntry) : Option SchedEntry := ((l.filter p).foldl (fun a e => schedInsert e a) []).head?

/-- The queue made `l`, with SCHED_USED, SCHED_HIGH, SCHED_NEXT, and E37 where SCHED_USED rises to 3,840, armed again below
3,584 (R391). -/
def Dev.setQueue (l : List SchedEntry) (d : Dev) : Dev :=
  let n := l.length
  let was := d.time.queue.length
  let hit := 3840 ≤ n && was < 3840 && !d.time.e37
  let d1 := { d with time := { d.time with queue := l, e37 := if n < 3584 then false else d.time.e37 || hit } }
  let d2 := ((d1.wr 0x7020 1 n).wr 0x7020 2 (max n (d1.rd 0x7020 2))).wr 0x7020 6
    (match l with | [] => 2 ^ 64 - 1 | e :: _ => e.target)
  when hit (Dev.raise 37) d2

/-- The entries of an owner that `p` names taken from the queue and from those handed to their blocks (R390). -/
def Dev.unschedule (p : Owner → Bool) (d : Dev) : Dev :=
  let d1 := if d.time.queue.any (fun e => p e.owner) then d.setQueue (d.time.queue.filter (fun e => !p e.owner)) else d
  { d1 with time := { d1.time with handed := d1.time.handed.filter (fun e => !p e.owner) } }

/-- An action submitted: STATE while domain 141 is not ON, BUSY where the queue is full and no entry of the owner in it is replaced
(R389). -/
def Dev.schedule (o : Owner) (target : Nat) (d : Dev) : Nat × Dev :=
  if !d.isOn 141 then (abState, d)
  else
    let mine := d.time.queue.any (fun e => sameOwner o e.owner)
    if !mine && 4096 ≤ d.time.queue.length then (abBusy, d)
    else
      let rest := d.time.queue.filter (fun e => !sameOwner o e.owner)
      let d1 := { d with time := { d.time with handed := d.time.handed.filter (fun e => !sameOwner o e.owner),
                                               submitted := d.time.submitted + 1 } }
      (0, d1.setQueue (schedInsert ⟨target, o, d.time.submitted⟩ rest))

/-- A TIME96 target refused with RANGE: more than 2^62 ns ahead of the present (R374). -/
def Dev.badTarget (d : Dev) (v : Nat) : Bool := d.isOn 141 && tooFarAhead d.compact (compactOf v)

/-! ## The tick (R368 to R371) -/

/-- The comparator's record. -/
def Dev.comp (d : Dev) (k : Nat) : Comp := Tbl.get (fun _ => Comp.init) d.time.comps k

/-- The comparator's record replaced. -/
def Dev.setComp (k : Nat) (c : Comp) (d : Dev) : Dev :=
  { d with time := { d.time with comps := Tbl.set (fun _ => Comp.init) d.time.comps k c } }

/-- After a forward step the instants of every series up to the new TIME are past: they are not produced (R388). -/
def Dev.passInstants (d : Dev) : Dev :=
  (List.range 8).foldl (fun x k => x.setComp k { x.comp k with passed := some d.time.time }) d

/-- After a backward step the instants that lie ahead again are to come, whatever a forward step had passed (R388). -/
def Dev.regainInstants (d : Dev) : Dev :=
  (List.range 8).foldl (fun x k => x.setComp k { x.comp k with passed := (x.comp k).passed.map (min d.time.time) }) d

/-- Actions handed to their blocks whose target now lies more than 1 s ahead are recalled to the time unit (R376), as many as its queue has room
for (R389; log 209). -/
def Dev.recallHanded (d : Dev) : Dev :=
  let now := d.compact
  let far := fun (e : SchedEntry) => !reached now e.target && 1000000000 < (e.target + 2 ^ 64 - now) % 2 ^ 64
  let back := (d.time.handed.filter far).take (4096 - d.time.queue.length)
  if back.isEmpty then d
  else
    let d1 := { d with time := { d.time with handed := d.time.handed.filter (fun e => !back.contains e) } }
    d1.setQueue (back.foldl (fun l e => schedInsert e l) d1.time.queue)

/-- One step applied at a tick, against TIME as the steps before it left it: refused with RANGE below 0, else TIME moves,
LAST_STEP and TIME_VALID are written and E33 is raised (R369, R371). -/
def Dev.applyStep (d : Dev) (st : TimeStep) : Dev :=
  if (Int.ofNat d.time.time) + st.offset < 0 then d.endPend 0x7000 st.sub abRange
  else
    let d1 := { d with time := { d.time with time := (Int.ofNat d.time.time + st.offset).toNat } }
    let d2 := ((d1.wr 0x7000 9 (ofInt 64 (st.offset / 2 ^ 32))).wr 0x7000 8 1).raise 33
    let d3 := if 0 < st.offset then d2.passInstants else d2.regainInstants.recallHanded
    d3.endPend 0x7000 st.sub 0

/-- One tick of the time clock (R368): INCREMENT is added to TIME and SF, then the waiting steps apply in order. -/
def Dev.tick (d : Dev) : Dev :=
  if d.timeRuns then
    let inc := d.rd 0x7000 4
    let sts := d.time.steps
    let d1 := { d with time := { d.time with time := d.time.time + inc, sf := d.time.sf + inc, steps := [],
                                             epochTick := d.time.epochTick + 1 } }
    sts.foldl Dev.applyStep d1
  else d

/-- A step accepted: it waits for the next tick, its EXEC in progress (R369). -/
def Dev.postStep (sub : Nat) (offset : Int) (r : Role) (d : Dev) : Dev :=
  ({ d with time := { d.time with steps := d.time.steps ++ [⟨offset, sub⟩] } } : Dev).startPend 0x7000 sub (pathOf r)

/-- A step refused with JUMP_REFUSED: counted, and E32 raised (R369). -/
def Dev.refuseJump (d : Dev) : Nat × Dev := (abJump, (d.count 64 0x7000 10 1).raise 32)

/-- What STEP does with its argument (R369). -/
def effStep : Eff := fun r v d =>
  let off := (toInt 64 (fld 95 32 v) * 2 ^ 16 + Int.ofNat (fld 31 16 v)) * 2 ^ 16
  if fld 15 9 v != 0 || fld 7 0 v != 0 then (abRange, d)
  else if !bit 8 v && d.rd 0x7000 6 * 2 ^ 32 < off.natAbs then d.refuseJump
  else (0, d.postStep 5 off r)

/-- What TIME_SET does with its argument (R370). -/
def effTimeSet : Eff := fun r v d =>
  let off := Int.ofNat (ofTime96 v) - Int.ofNat d.time.time
  if 999999999 < fld 47 16 v then (abRange, d)
  else if d.timeValid && d.rd 0x7000 6 * 2 ^ 32 < off.natAbs then d.refuseJump
  else (0, d.postStep 7 off r)

/-! ## Followers (R413) -/

/-- The value a quadrant loads at an epoch boundary: the boundary's compact time and SF, moved on by the crossing latency of 3 CCLK
cycles at the step rate; the step is INCREMENT × 5/16, kept whole in 2^-36 ns (R413). -/
def Dev.epochValue (t : Nat) (d : Dev) : Follower :=
  let st := d.rd 0x7000 4 * 5
  { valid := true, compact := d.time.time * 16 + 3 * st, sf := d.time.sf * 16 + 3 * st, step := st, start := t }

/-- The Gray-coded epoch count, whose change a quadrant sees (R413; its width is open, log 118). -/
def Dev.epochCode (d : Dev) : Nat := d.time.epochs ^^^ (d.time.epochs / 2)

/-- The follower of quadrant `q` replaced. -/
def Dev.setFollower (q : Nat) (x : Follower) (d : Dev) : Dev :=
  { d with time := { d.time with followers := Tbl.set (fun _ => Follower.init) d.time.followers q x } }

end Sys2Proof.Machine
end

