-- ==== Sys2Proof/Machine/SaBase.lean ====
section
/-! DEFINITION. Channel records (R119), the SA store's entries, notifications and the changeover port (R229 to R246). -/
namespace Sys2Proof.Machine

/-- The key of place `loc` of table `k` (R276); 16 stands for the SA store, place s for SA s (R479). -/
def slotKey (k loc : Nat) : Nat := k * 65536 + loc

/-- The table that an instance of points 0x01, 0x0F and 0x10 names: [1:0] t, [3:2] q. -/
def injTable (inst : Nat) : Nat := 4 * fld 3 2 inst + fld 1 0 inst

/-- The PENDING injection that corrupts a read of the slot of key `sk` (points 0x01 and 0x02, R486). -/
def Dev.armedAt (d : Dev) (sk : Nat) : Option Nat :=
  (d.armed 0x01 (fun i a => Machine.slotKey (injTable i) (a % 65536) = sk)).or
    (d.armed 0x02 (fun i a => Machine.slotKey 16 (16384 * i + a % 16384) = sk))

/-- A read of the slot of key `sk` meets an uncorrectable error, stored or injected (R273, R479, R486). -/
def Dev.eccHard (d : Dev) (sk : Nat) : Bool := d.eccBad.contains sk || hitBits (d.armedAt sk) = 2

/-- The slots of keys `sks` read: an injection that corrupts one of them has occurred (R486). -/
def Dev.readSlots (sks : List Nat) (d : Dev) : Dev := if sks.any (fun k => (d.armedAt k).isSome) then d.struck else d

/-- The slot of key `sk` rewritten by UPDATE, DELETE or a bulk write, or an SA entry erased or
loaded again: its uncorrectable error ends (R273, R479). -/
def Dev.eccClear (sk : Nat) (d : Dev) : Dev := { d with eccBad := d.eccBad.filter (· != sk) }

/-! ## Channel records -/

/-- A channel record at its defaults: PROTECT 1, INCLUDE_SCI 1, VALIDATE 2, REPLAY_PROTECT 1 (R119). -/
def chanDflt (_ : Nat) : Nat := 2 ^ 74 + 2 ^ 77 + 2 * 2 ^ 80 + 2 ^ 82

/-- The record of channel `c`. -/
def Dev.chan (d : Dev) (c : Nat) : Nat := Tbl.get chanDflt d.chans c

/-- The record of channel `c` made `v`. -/
def Dev.setChan (c v : Nat) (d : Dev) : Dev := { d with chans := Tbl.set chanDflt d.chans c v }

/-- SCI of a record. -/
def chSci (r : Nat) : Nat := fld 63 0 r
/-- PAIR of a record. -/
def chPair (r : Nat) : Nat := fld 71 64 r
/-- DIR of a record: RX. -/
def chRx (r : Nat) : Bool := bit 72 r
/-- ENABLE of a record. -/
def chOn (r : Nat) : Bool := bit 73 r
/-- PROTECT of a record. -/
def chProtect (r : Nat) : Nat := fld 76 74 r
/-- VALIDATE of a record. -/
def chValidate (r : Nat) : Nat := fld 81 80 r
/-- ACTIVE_AN of a record. -/
def chAn (r : Nat) : Nat := fld 87 86 r
/-- DERIVED of a record. -/
def chDerived (r : Nat) : Bool := bit 89 r
/-- MKA_MANAGED of a record. -/
def chMka (r : Nat) : Bool := bit 90 r
/-- REPLAY_WINDOW of a record. -/
def chWindow (r : Nat) : Nat := fld 127 96 r
/-- SA_ANa of a record is VALID. -/
def chSaOk (r a : Nat) : Bool := bit (143 + 16 * (a % 4)) r
/-- The SA index SA_ANa of a record names. -/
def chSa (r a : Nat) : Nat := fld (141 + 16 * (a % 4)) (128 + 16 * (a % 4)) r

/-- Channel `c` is an enabled channel of pair `n` in the direction `rx` (R118, R123). -/
def Dev.chanServes (d : Dev) (c : Nat) (rx : Bool) (n : Nat) : Bool :=
  c < 32768 && c / 8192 = quadOf n && chOn (d.chan c) && chRx (d.chan c) = rx && chPair (d.chan c) = n

/-! ## SA entries (R230, R231) -/

/-- SA states (R231). -/
def saEmpty : Nat := 0
def saLoading : Nat := 1
def saReady : Nat := 2
def saActive : Nat := 3
def saRetiring : Nat := 4
def saExhausted : Nat := 5
def saZeroised : Nat := 6

/-- SA `s` (device-wide); in a zeroised quadrant every SA reads ZEROISED, its key, H and salt cleared (R254). -/
def Dev.sa (d : Dev) (s : Nat) : Sa :=
  let x := Tbl.get (fun _ => Sa.init) d.keys.sas s
  if d.keys.zeroed.contains (s / 16384) then { x with state := saZeroised, key := 0, h := 0, salt := 0 } else x

/-- SA `s` replaced. -/
def Dev.setSa (s : Nat) (x : Sa) (d : Dev) : Dev :=
  { d with keys := { d.keys with sas := Tbl.set (fun _ => Sa.init) d.keys.sas s x } }

/-- The device-wide number of the SA that channel `c` names for AN `a`. -/
def Dev.saOf (d : Dev) (c a : Nat) : Nat := c / 8192 * 16384 + chSa (d.chan c) a

/-- The largest PN of a suite (R235). -/
def largestPn (suite : Nat) : Nat := if suite < 2 then 2 ^ 32 - 1 else 2 ^ 64 - 1

/-- The key length of a suite in bytes (R130). -/
def suiteKeyLen (suite : Nat) : Nat := if suite % 2 = 0 then 16 else 32

/-- The view of an SA, bits [319:0] (R230). DESIGN CHOICE: NEXT_PN and LOWEST_PN read all ones once N or L has passed them (log 223). -/
def saView (x : Sa) : Nat :=
  x.suite + b2n x.rx * 2 ^ 2 + x.an * 2 ^ 3 + x.state * 2 ^ 5 + x.source * 2 ^ 8 + b2n x.thHit * 2 ^ 10 + x.channel * 2 ^ 16 +
  x.ssci * 2 ^ 32 + min x.nextPn (2 ^ 64 - 1) * 2 ^ 64 + min x.lowPn (2 ^ 64 - 1) * 2 ^ 128 + x.thresh * 2 ^ 192 + x.keyNo * 2 ^ 256

/-- An SA with its key, H and salt erased, EMPTY (R231). DESIGN CHOICE: its other fields stay (log 224). -/
def saErased (x : Sa) : Sa := { x with state := saEmpty, key := 0, keyLen := 0, h := 0, salt := 0 }

/-- The number of EXHAUSTED SAs of quadrant `q` now (EXHAUSTED_SAS, R234). -/
def Dev.exhaustedSas (d : Dev) (q : Nat) : Nat :=
  if d.keys.zeroed.contains q then 0
  else (d.keys.sas.filter (fun e => e.1 / 16384 = q && e.2.state = saExhausted)).length

/-- The counters of a whole block zeroed (R456, R458). -/
def Dev.zeroCounters (kind e : Nat) (d : Dev) : Dev :=
  { d with counters := Tbl.drop (fun k => k / 32 = kind * 2 ^ 18 + e) d.counters }

/-! ## Notifications (R234) -/

/-- The notification queue of quadrant `q`. -/
def Dev.notes (d : Dev) (q : Nat) : List Nat := Tbl.get (fun _ => []) d.keys.notes q

/-- The notification queue of quadrant `q` made `l`, NOTE_COUNT following. -/
def Dev.setNotes (q : Nat) (l : List Nat) (d : Dev) : Dev :=
  ({ d with keys := { d.keys with notes := Tbl.set (fun _ => []) d.keys.notes q l } } : Dev).wr (0x3110 + q) 4 l.length

/-- A notification of kind `k` about SA index `i`, AN `a`, channel `c` of quadrant `q`: queued, or counted lost (R234). DESIGN CHOICE:
its time is the time unit's (log 225). -/
def Dev.note (q k i a c : Nat) (d : Dev) : Dev :=
  let v := k + i % 16384 * 2 ^ 8 + a % 4 * 2 ^ 22 + c % 8192 * 2 ^ 24 + d.compact / 2 ^ 10 % 2 ^ 24 * 2 ^ 40
  let l := d.notes q
  if 256 ≤ l.length then (d.count 64 (0x3110 + q) 5 1).raise (quadEvent q 1)
  else when l.isEmpty (Dev.raise (quadEvent q 1)) (d.setNotes q (l ++ [v]))

/-! ## The changeover port (R241 to R246) -/

/-- A change of channel `c` to AN `a` is allowed (R241). -/
def Dev.mayChange (d : Dev) (c a : Nat) : Bool :=
  let x := d.sa (d.saOf c a)
  chSaOk (d.chan c) a && x.state = saReady && !x.rx && x.an = a && x.channel = c % 8192

/-- A changeover of channel `c` to AN `a`, made in one step (R242). -/
def Dev.changeover (c a : Nat) (d : Dev) : Dev :=
  let r := d.chan c
  let new := d.saOf c a
  let old := d.saOf c (chAn r)
  let d1 := d.setChan c (setFld 87 86 r a)
  let d2 := d1.setSa new { d1.sa new with state := saActive }
  let d3 := when (chSaOk r (chAn r) && old != new && (d.sa old).state = saActive)
    (fun x => x.setSa old { x.sa old with state := saRetiring }) d2
  let d4 := d3.note (c / 8192) 3 (new % 16384) a c
  { d4 with keys := { d4.keys with auto := Tbl.set (fun _ => (0, false)) d4.keys.auto c (0, false),
                                   suspended := d4.keys.suspended.filter (· != c) } }

/-- SWITCH_FAILED of channel `c` and AN `a` (R241). -/
def Dev.switchFailed (c a : Nat) (d : Dev) : Dev :=
  d.note (c / 8192) 4 (chSa (d.chan c) a) a c

/-- One trigger served (R241 to R245): nothing for the AN already active, the changeover where it is allowed, else its failure. -/
def Dev.serve (g : Trigger) (d : Dev) : Dev :=
  let pend := Tbl.get (fun _ => (0, false)) d.keys.auto g.chan
  if !g.sched && pend.1 != g.an + 1 then d
  else if chAn (d.chan g.chan) = g.an then d
  else if d.mayChange g.chan g.an then d.changeover g.chan g.an
  else if g.sched then d.switchFailed g.chan g.an
  else if pend.2 then d
  else
    let d1 := d.switchFailed g.chan g.an
    { d1 with keys := { d1.keys with auto := Tbl.set (fun _ => (0, false)) d1.keys.auto g.chan (g.an + 1, true) } }

/-- A trigger put at its quadrant's port; a waiting automatic attempt of the same channel is replaced (R245). -/
def Dev.trigger (g : Trigger) (d : Dev) : Dev :=
  let q := g.chan / 8192
  let l := Tbl.get (fun _ => []) d.keys.triggers q
  let l1 := if g.sched then l else l.filter (fun x => x.sched || x.chan != g.chan)
  { d with keys := { d.keys with triggers := Tbl.set (fun _ => []) d.keys.triggers q (l1 ++ [g]) } }

/-- The trigger of list `l` that goes first: of those that arrived together with its oldest, the one of least channel (R245). -/
def firstTrigger (l : List Trigger) : Option Trigger :=
  match l with
  | [] => none
  | g :: rest => some (rest.foldl (fun a x => if x.arrived = g.arrived && x.chan < a.chan then x else a) g)

/-- The port of quadrant `q` serves one trigger: scheduled ones before automatic ones, each kind in arrival order, those that arrived
together in ascending channel number (R245). -/
def Dev.servePort (q : Nat) (d : Dev) : Dev :=
  let l := Tbl.get (fun _ => []) d.keys.triggers q
  match firstTrigger (l.filter (·.sched)) <|> firstTrigger (l.filter (fun g => !g.sched)) with
  | none => d
  | some g =>
    ({ d with keys := { d.keys with triggers := Tbl.set (fun _ => []) d.keys.triggers q (l.erase g) } } : Dev).serve g

/-- An SA made READY: a pending automatic change of a channel to its AN is attempted (R244). -/
def Dev.saBecomesReady (s : Nat) (d : Dev) : Dev :=
  let x := d.sa s
  let c := s / 16384 * 8192 + x.channel
  let pend := Tbl.get (fun _ => (0, false)) d.keys.auto c
  when (pend.1 = x.an + 1 && chSaOk (d.chan c) x.an && d.saOf c x.an = s) (Dev.trigger ⟨false, c, x.an, d.now⟩) d

/-- PN_THRESHOLD of SA `s` where its condition holds and it is armed (R238): THRESHOLD_HIT and a notification, and for the active SA
of an AUTO_SWITCH channel a pending automatic change (R244). -/
def Dev.threshold (s : Nat) (holds : Bool) (d : Dev) : Dev :=
  let x := d.sa s
  let c := s / 16384 * 8192 + x.channel
  if x.thresh != 0 && !x.thHit && holds then
    let d1 := (d.setSa s { x with thHit := true }).note (s / 16384) 1 (s % 16384) x.an c
    let pend := Tbl.get (fun _ => (0, false)) d1.keys.auto c
    if !x.rx && bit 88 (d1.chan c) && chAn (d1.chan c) = x.an && pend.1 = 0 then
      { d1 with keys := { d1.keys with auto := Tbl.set (fun _ => (0, false)) d1.keys.auto c ((x.an + 1) % 4 + 1, false) } }
    else d1
  else d

/-- SA `s` retires to EMPTY with a notification of kind RETIRED (R231, R246). -/
def Dev.retire (s : Nat) (d : Dev) : Dev :=
  let x := d.sa s
  (d.setSa s (saErased x)).note (s / 16384) 6 (s % 16384) x.an (s / 16384 * 8192 + x.channel)

/-- A TX SA assigns its next PN to a frame of channel `c` (R124, R236, R238, R244): the PN, and the block after it. -/
def Dev.assignPn (c s : Nat) (d : Dev) : Nat × Dev :=
  let x := d.sa s
  let pn := x.nextPn
  let waiting := Tbl.get (fun _ => (0, false)) d.keys.auto c
  let d1 := d.setSa s { x with nextPn := pn + 1 }
  let d2 := d1.threshold s (x.thresh ≤ pn)
  let d3 :=
    if largestPn x.suite ≤ pn then
      let e := d2.setSa s { d2.sa s with state := saExhausted }
      let e1 := e.note (c / 8192) 2 (s % 16384) x.an c
      ({ e1 with keys := { e1.keys with suspended := c :: e1.keys.suspended } } : Dev).cause (.buffer (c / 8192)) 16
    else d2
  (pn, when (waiting.1 != 0) (Dev.trigger ⟨false, c, waiting.1 - 1, d.now⟩) d3)

/-- An RX SA's window moves for a frame with PN `pn`; one of its largest PN that verifies exhausts it (R142, R237, R238). -/
def Dev.advanceWindow (s pn w : Nat) (verified : Bool) (d : Dev) : Dev :=
  let x := d.sa s
  let win := if x.suite < 2 then w else min w 0x40000000
  let n := pn + 1
  let d1 := if pn < x.nextPn then d
    else (d.setSa s { x with nextPn := n, lowPn := max x.lowPn (max 1 (n - win)) }).threshold s (x.thresh < n)
  if verified && largestPn x.suite ≤ pn && x.state != saExhausted then
    (d1.setSa s { d1.sa s with state := saExhausted }).note (s / 16384) 2 (s % 16384) x.an (s / 16384 * 8192 + x.channel)
  else d1

/-- The first verified frame under a READY RX SA of channel `c` activates it; every other ACTIVE SA of the channel retires, at once
where RETIRE_DELAY is 0 (R246). -/
def Dev.activateRx (c s : Nat) (d : Dev) : Dev :=
  let q := c / 8192
  if (d.sa s).state != saReady then d
  else
    let d1 := d.setSa s { d.sa s with state := saActive }
    let d2 := d1.note q 5 (s % 16384) (d1.sa s).an c
    (List.range 4).foldl (fun x a =>
      let o := x.saOf c a
      if chSaOk (x.chan c) a && o != s && (x.sa o).state = saActive then
        let y := x.setSa o { x.sa o with state := saRetiring }
        if y.rd (0x3110 + q) 1 = 0 then y.retire o else y
      else x) d2

end Sys2Proof.Machine
end

