-- ==== Sys2Proof/Machine/TableBase.lean ====
section
/-! DEFINITION. Classification tables: hashing, lookup, placement, insertion, removal, migration, the plumb digest (R259 to R301).
Table t of quadrant q is numbered k = 4q + t. -/
namespace Sys2Proof.Machine

/-- What stands at place `loc` of table `k`. -/
def Dev.ent (d : Dev) (k loc : Nat) : Ent := Tbl.get (fun _ => Ent.init) d.slots (slotKey k loc)

/-- The engine of table `k`. -/
def Dev.tab (d : Dev) (k : Nat) : Tab := Tbl.get (fun _ => Tab.init) d.tabs k

/-- The engine of table `k` replaced. -/
def Dev.setTab (k : Nat) (x : Tab) (d : Dev) : Dev := { d with tabs := Tbl.set (fun _ => Tab.init) d.tabs k x }

/-- VALID of a control word. -/
def Ent.valid (e : Ent) : Bool := bit 0 e.ctl
/-- ACTIVITY of a control word. -/
def Ent.active (e : Ent) : Bool := bit 1 e.ctl
/-- EPOCH of a control word. -/
def Ent.epoch (e : Ent) : Nat := fld 5 5 e.ctl
/-- ACTION of an I-table result. -/
def Ent.action (e : Ent) : Nat := fld 17 16 e.res
/-- A PENDING entry of the I-table `k`. -/
def pending (k : Nat) (e : Ent) : Bool := k % 4 = 1 && e.valid && e.action != 0

/-! ## Hashing (R275) -/

/-- One hash of a key under a seed: 13 bits of CRC-32C over the 40 key bytes. -/
def hashKey (seed key : Nat) : Nat := (crc32c seed (toLE 40 key) ^^^ 0xFFFFFFFF) % 8192

/-- The two buckets of a key under a pair of seeds; the second is moved where they are equal. -/
def bucketsOf (seeds : Nat × Nat) (key : Nat) : Nat × Nat :=
  let a := hashKey seeds.1 key
  let b := hashKey seeds.2 key
  (a, if b = a then a ^^^ 0x1000 else b)

/-- The seeds that SEED0 and SEED1 report. -/
def Dev.oldSeeds (d : Dev) (k : Nat) : Nat × Nat := (d.rd (0x4010 + k) 4, d.rd (0x4010 + k) 5)

/-- The seeds in force: the new ones during a migration (R280). -/
def Dev.seedsNow (d : Dev) (k : Nat) : Nat × Nat := (d.tab k).seeds.getD (d.oldSeeds k)

/-- The seeds of an EPOCH. -/
def Dev.seedsOf (d : Dev) (k epoch : Nat) : Nat × Nat :=
  if epoch = (d.tab k).epoch then d.seedsNow k else d.oldSeeds k

/-- The four places of bucket `b`. -/
def bucketLocs (b : Nat) : List Nat := (List.range 4).map (4 * b + ·)

/-- The stash places. -/
def stashLocs : List Nat := (List.range 64).map (0x8000 + ·)

/-- The places an exact-match lookup of `key` compares, in order, each with the EPOCH it must have (none: any) (R270, R271). -/
def Dev.places (d : Dev) (k key : Nat) : List (Nat × Option Nat) :=
  let e := (d.tab k).epoch
  let n := bucketsOf (d.seedsNow k) key
  let fresh := (bucketLocs n.1 ++ bucketLocs n.2).map (fun l => (l, some e))
  let old := if (d.tab k).seeds.isSome then
      let o := bucketsOf (d.oldSeeds k) key
      (bucketLocs o.1 ++ bucketLocs o.2).map (fun l => (l, some (1 - e)))
    else []
  fresh ++ old ++ stashLocs.map (fun l => (l, none))

/-- The places whose slots a lookup of `key` compares: VALID 1, SHADOWED 0, and the EPOCH of the seeds that gave the bucket (R270). -/
def Dev.compared (d : Dev) (k key : Nat) : List Nat :=
  ((d.places k key).filter (fun p =>
    let x := d.ent k p.1
    x.valid && !bit 4 x.ctl && (match p.2 with | some e => x.epoch = e | none => true))).map (·.1)

/-- The places that hold a valid entry with `key` (R270). -/
def Dev.matchesOf (d : Dev) (k key : Nat) : List Nat := (d.compared k key).filter (fun l => (d.ent k l).key = key)

/-- The first place with `key`, if any. -/
def Dev.findKey (d : Dev) (k key : Nat) : Option Nat := (d.matchesOf k key).head?

/-- Some compared slot has an uncorrectable error: the first such (R273). -/
def Dev.eccAmong (d : Dev) (k key : Nat) : Option Nat :=
  (d.compared k key).find? (fun l => d.eccHard (slotKey k l))

/-! ## Writing a place -/

/-- The plumb block of an entry (R299). -/
def Dev.plumbBlock (d : Dev) (k loc : Nat) (x : Ent) : Nat :=
  if k % 4 < 2 then hashKey (d.seedsOf k x.epoch).1 x.key / 64 else loc / 256

/-- A plumb block marked dirty for the pass (R301). -/
def Dev.dirty (k b : Nat) (d : Dev) : Dev :=
  let x := d.tab k
  if x.dirty.contains b then d else d.setTab k { x with dirty := b :: x.dirty }

/-- An uncorrectable error met in table `k` at `loc`: the cause, ECC_LOCATION and CONDITIONS bit MEMORY (R273, R445). -/
def Dev.eccMet (k loc : Nat) (d : Dev) : Dev := ((d.wr (0x4010 + k) 0x1A loc).cause (.table k) 8).condition 1

/-- Stored bits found flipped: each slot by key, with how many of its bits; one is correctable (R273, R479). -/
def Dev.flip (l : List (Nat × Nat)) (d : Dev) : Dev :=
  l.foldl (fun x e =>
    if e.2 = 0 then x
    else if e.2 = 1 then (if x.eccSoft.contains e.1 then x else { x with eccSoft := e.1 :: x.eccSoft })
    else if x.eccBad.contains e.1 then x else { x with eccBad := e.1 :: x.eccBad }) d

/-- A single-bit error among places of table `k` is corrected in the read, with its cause (R273). -/
def Dev.softMet (k : Nat) (locs : List Nat) (d : Dev) : Dev :=
  when (locs.any (fun l => d.eccSoft.contains (slotKey k l) || hitBits (d.armedAt (slotKey k l)) = 1)) (Dev.cause (.table k) 7) d

/-- Places of table `k` read by a lookup, an injected error among them (R273, R486). -/
def Dev.lookAt (k : Nat) (locs : List Nat) (d : Dev) : Dev := (d.softMet k locs).readSlots (locs.map (slotKey k))

/-- OCCUPANCY of table `k` changed, LOAD_HIGH where it rises above 29,491 (R262). -/
def Dev.occupy (k : Nat) (up down : Bool) (d : Dev) : Dev :=
  let was := d.rd (0x4010 + k) 2
  let now := was + b2n up - b2n down
  when (was ≤ 29491 && 29491 < now) (Dev.cause (.table k) 2) (if now = was then d else d.wr (0x4010 + k) 2 now)

/-- STASH_USED of table `k` changed, STASH_HIGH where it rises above 48 (R280). -/
def Dev.stashUse (k : Nat) (up down : Bool) (d : Dev) : Dev :=
  let was := d.rd (0x4010 + k) 3
  let now := was + b2n up - b2n down
  when (was ≤ 48 && 48 < now) (Dev.cause (.table k) 1) (if now = was then d else d.wr (0x4010 + k) 3 now)

/-- PENDING_COUNT of quadrant `q` changed (R293). -/
def Dev.pendCount (q : Nat) (up down : Bool) (d : Dev) : Dev :=
  let was := d.rd (0x4080 + q) 6
  let now := was + b2n up - b2n down
  if now = was then d else d.wr (0x4080 + q) 6 now

/-- Place `loc` of table `k` written; its check bits are computed with it, so a correctable error there ends (R260, R273). -/
def Dev.storeEnt (k loc : Nat) (x : Ent) (d : Dev) : Dev :=
  { d with slots := Tbl.set (fun _ => Ent.init) d.slots (slotKey k loc) x, eccSoft := d.eccSoft.filter (· != slotKey k loc) }

/-- The plumb blocks that a write of place `loc` touches, which held `o` and holds `x` (R299, R301). -/
def Dev.blocksOf (d : Dev) (k loc : Nat) (o x : Ent) : List Nat :=
  if 2 ≤ k % 4 then [loc / 256]
  else (if o.valid then [d.plumbBlock k loc o] else []) ++ (if x.valid then [d.plumbBlock k loc x] else [])

/-- Place `loc` of table `k` made `x`, with the counts and dirty blocks that follow. -/
def Dev.putEnt (k loc : Nat) (x : Ent) (d : Dev) : Dev :=
  let o := d.ent k loc
  let d1 := d.storeEnt k loc x
  let d2 := d1.occupy k (!o.valid && x.valid) (o.valid && !x.valid)
  let d3 := when (0x8000 ≤ loc) (Dev.stashUse k (!o.valid && x.valid) (o.valid && !x.valid)) d2
  let d4 := d3.pendCount (k / 4) (!pending k o && pending k x) (pending k o && !pending k x)
  (d.blocksOf k loc o x).foldl (fun y b => y.dirty k b) d4

/-- An entry with VALID and SHADOWED 0, the rest of it as it was (R278, R284). -/
def Ent.gone (x : Ent) : Ent := { x with ctl := clrBit 0 (clrBit 4 x.ctl) }

/-- The entry of place `s` moved to the free place `t`, where it reads `x`: no count of entries changes but STASH_USED, and it is one
RELOCATION (R261, R278). -/
def Dev.moveEnt (k s t : Nat) (x : Ent) (d : Dev) : Dev :=
  let o := d.ent k s
  let d1 := ((d.storeEnt k t x).storeEnt k s o.gone).stashUse k (0x8000 ≤ t) (0x8000 ≤ s)
  (d.blocksOf k s o o.gone ++ d.blocksOf k t (d.ent k t) x).foldl (fun y b => y.dirty k b) (d1.count 64 (0x4010 + k) 0x12 1)

/-- Place `loc` of table `k` invalidated: VALID 0, its content left as it was (R284). -/
def Dev.dropEnt (k loc : Nat) (d : Dev) : Dev := d.putEnt k loc (d.ent k loc).gone

/-! ## Insertion (R277) -/

/-- A free slot of bucket `b`. -/
def Dev.freeIn (d : Dev) (k b : Nat) : Option Nat := (bucketLocs b).find? (fun l => !(d.ent k l).valid)

/-- The other bucket of the entry at `loc`, which stands in bucket `b`. -/
def Dev.otherBucket (d : Dev) (k loc b : Nat) : Nat :=
  let n := bucketsOf (d.seedsNow k) (d.ent k loc).key
  if n.1 = b then n.2 else n.1

/-- The search for a path of at most `fuel` more moves: places to move, first to last, and whether a free slot was reached. -/
def Dev.searchPath (d : Dev) (k : Nat) : Nat → List Nat → Nat → List Nat × Bool
  | 0, path, _ => (path, false)
  | f + 1, path, b =>
    match (bucketLocs b).find? (fun l => !path.contains l && (d.ent k l).valid && (d.ent k l).epoch = (d.tab k).epoch) with
    | none => (path, false)
    | some v =>
      let b' := d.otherBucket k v b
      let p := path ++ [v]
      if (d.freeIn k b').isSome then (p, true) else d.searchPath k f p b'

/-- The entry of place `s` moved to the free slot of its other bucket (R278). -/
def Dev.moveOver (k s : Nat) (d : Dev) : Dev :=
  match d.freeIn k (d.otherBucket k s (s / 4)) with
  | none => d
  | some t => d.moveEnt k s t (d.ent k s)

/-- The lowest free stash place. -/
def Dev.freeStash (d : Dev) (k : Nat) : Option Nat := stashLocs.find? (fun l => !(d.ent k l).valid)

/-- The place that an insertion of entry `e` takes, none where the table is full; the length of the path moved for it; the block with the
path moved (R277). -/
def Dev.placeFor (k : Nat) (e : Ent) (d : Dev) : Option Nat × Nat × Dev :=
  let n := bucketsOf (d.seedsNow k) e.key
  match (d.freeIn k n.1).or (d.freeIn k n.2) with
  | some l => (some l, 0, d)
  | none =>
    let r := d.searchPath k 32 [] n.1
    if r.2 then (some (r.1.headD 0), r.1.length, r.1.reverse.foldl (fun y v => y.moveOver k v) d)
    else
      match d.freeStash k with
      | none => (none, 0, d)
      | some l => (some l, 0, (d.count 64 (0x4010 + k) 0x11 1).cause (.table k) 0)

/-- An entry as it is placed now: with the EPOCH of the seeds in force (R280). -/
def Dev.inEpoch (d : Dev) (k : Nat) (x : Ent) : Ent := { x with ctl := putBit 5 x.ctl ((d.tab k).epoch = 1) }

/-- The insertion of an entry whose key is absent (R277): the place taken, none where the table is full; the length of the path; the
block after it. -/
def Dev.insertEnt (k : Nat) (x : Ent) (d : Dev) : Option Nat × Nat × Dev :=
  let e := d.inEpoch k x
  match d.placeFor k e with
  | (some l, m, d1) => (some l, m, d1.putEnt k l e)
  | (none, m, d1) => (none, m, d1)

/-- A stalled migration resumes after a delete (R281). -/
def Dev.resumeMigration (k : Nat) (d : Dev) : Dev :=
  if d.rd (0x4010 + k) 9 % 4 = 2 then (d.wr (0x4010 + k) 9 1).setTab k { d.tab k with moved := false } else d

/-- An entry removed (R284): its place invalidated, a stalled migration resumed. -/
def Dev.removeEnt (k loc : Nat) (d : Dev) : Dev := (d.dropEnt k loc).resumeMigration k

/-- The table is locked against role `r`: another role holds the lock (R289). -/
def Dev.lockedFor (d : Dev) (k : Nat) (r : Role) : Bool :=
  match (d.tab k).lock with
  | some (o, _) => o != r
  | none => false

/-- The table's lock is held by someone: hardware activities pause (R289). -/
def Dev.isLocked (d : Dev) (k : Nat) : Bool := (d.tab k).lock.isSome

/-! ## Stash drain and migration (R279 to R281) -/

/-- The free slot a stash entry can take: in its first-hash bucket, else its second-hash one. -/
def Dev.drainPlace (d : Dev) (k s : Nat) : Option Nat :=
  let x := d.ent k s
  let n := bucketsOf (d.seedsOf k x.epoch) x.key
  (d.freeIn k n.1).or (d.freeIn k n.2)

/-- One move of the stash drain: the first stash entry with a free slot in one of its buckets moves there (R279). -/
def Dev.drainOne (k : Nat) (d : Dev) : Dev :=
  if d.isLocked k then d
  else
    match stashLocs.find? (fun s => (d.ent k s).valid && (d.drainPlace k s).isSome) with
    | none => d
    | some s =>
      match d.drainPlace k s with
      | none => d
      | some t => d.moveEnt k s t (d.ent k s)

/-- The places of table `k` that hold an entry of the old EPOCH, from bucket `b` on, then the stash, in the walk's order (R280). -/
def Dev.oldEntries (d : Dev) (k b : Nat) : List Nat :=
  d.slots.filterMap (fun p =>
    if p.1 / 65536 = k && p.2.valid && p.2.epoch != (d.tab k).epoch && (0x8000 ≤ p.1 % 65536 || 4 * b ≤ p.1 % 65536)
    then some (p.1 % 65536) else none)

/-- The first of the old-EPOCH entries that the engine can re-insert under the new seeds, re-inserted (R277, R280). -/
def Dev.migrateOne (k : Nat) (d : Dev) : List Nat → Option Dev
  | [] => none
  | l :: t =>
    let e := d.inEpoch k (d.ent k l)
    match d.placeFor k e with
    | (some p, _, d1) => some ((d1.moveEnt k l p e).wr (0x4010 + k) 9 (1 + min (l / 4) 8191 * 2 ^ 16)
        |> fun y => y.setTab k { y.tab k with moved := true })
    | (none, _, _) => d.migrateOne k t

/-- One step of the migration walk; at the walk's end, the new seeds are reported, or the walk starts again, or it stalls (R281). -/
def Dev.migrationStep (k : Nat) (d : Dev) : Dev :=
  let i := 0x4010 + k
  let m := d.rd i 9
  match (d.tab k).seeds with
  | none => d
  | some s =>
    if m % 4 != 1 || d.isLocked k then d
    else
      match d.migrateOne k (d.oldEntries k (fld 28 16 m)) with
      | some d1 => d1
      | none =>
        if (d.oldEntries k 0).isEmpty then
          ((((((d.wr i 4 s.1).wr i 5 s.2).wr i 6 0).wr i 7 0).wr i 9 0).setTab k { d.tab k with seeds := none, moved := false }).cause
            (.table k) 3
        else if (d.tab k).moved then (d.wr i 9 1).setTab k { d.tab k with moved := false }
        else (d.wr i 9 2).cause (.table k) 3

/-! ## Checks of what software writes (R263 to R267, R285) -/

/-- An exact-match key, result and control keep R263 to R265. -/
def exactOk (k key res ctl : Nat) : Bool :=
  let q := k / 4
  let keyOk := if k % 4 = 0 then fld 23 22 key = 0 && key < 2 ^ 100 else key < 2 ^ 72
  let resOk := if k % 4 = 0 then fld 17 16 res = 0 else fld 15 13 res = 0 && fld 17 16 res != 3
  keyOk && key % 256 / 64 = q && res < 2 ^ 18 && resOk && ctl < 64

/-- A TCAM key, mask and result keep R267. -/
def tcamOk (q key mask res : Nat) : Bool :=
  fld 15 13 key = 0 && fld 31 28 key = 0 && fld 191 160 key = 0 &&
  !bit 19 res && fld 31 26 res = 0 && res < 2 ^ 43 && fld 18 16 res < 6 &&
  (fld 18 16 res != 0 || (bit 8 mask && !bit 8 key)) &&
  (mask % 256 = 0 || key % 256 / 64 = q)

/-- A record without its reserved bits (R119). -/
def chanClean (v : Nat) : Nat :=
  [142, 158, 174, 190].foldl (fun x i => clrBit i x) (setFld 95 91 (v % 2 ^ 192) 0)

/-- A record's fields lie in their ranges in quadrant `q` (R20, R119, R156). -/
def chanOk (q r : Nat) : Bool :=
  chPair r / 64 = q && chProtect r < 4 && chValidate r != 3 && fld 85 84 r != 3 && !(chDerived r && chMka r)

/-- The result of writing channel record `c` with the words `v`: the RESULT, and the block after it (R285). -/
def Dev.writeRecord (c v : Nat) (setAn : Bool) (d : Dev) : Nat × Dev :=
  let old := d.chan c
  let new := chanClean v
  let moved := chPair new != chPair old || chRx new != chRx old
  let full := d.queues.any (fun e => e.1 / 8 = c && !(e.2.sram.isEmpty && e.2.deep.isEmpty))
  if !chanOk (c / 8192) new then (4, d)
  else if chRx new && !bit 83 new && d.level1 (chPair new) then (6, d)
  else if moved && (chOn old || full) then (5, d)
  else
    let kept := setFld 87 86 new (chAn old)
    let d1 := (d.setChan c kept).dirty (4 * (c / 8192) + 3) (c % 8192 / 256)
    let d2 := d1.eccClear (slotKey (4 * (c / 8192) + 3) (c % 8192))
    let k := 4 * (c / 8192) + 3
    let d3 := d2.occupy k (!chOn old && chOn new) (chOn old && !chOn new)
    let d4 := when moved (fun x => seqAll ((List.range 8).map (fun j => Dev.zeroCounters 7 (8 * c + j))) (x.zeroCounters 5 c)) d3
    if setAn && chAn new != chAn old then
      if d4.mayChange c (chAn new) then (0, d4.changeover c (chAn new)) else (7, d)
    else (0, d4)

/-- A record as it reads: HOLD is 1 on every RX channel of a pair at level 1 (R152). -/
def Dev.readRecord (d : Dev) (c : Nat) : Nat :=
  let r := d.chan c
  if chRx r && d.level1 (chPair r) then setBit 83 r else r

/-! ## The plumb check (R299 to R301) -/

/-- The digest of an exact-match or TCAM entry, or of a channel record (R299). -/
def entDigest (k loc : Nat) (x : Ent) : Nat :=
  if k % 4 < 2 then crc32c 0xFFFFFFFF (toLE 40 x.key ++ toLE 8 x.res ++ [if bit 2 x.ctl then 1 else 0]) ^^^ 0xFFFFFFFF
  else crc32c 0xFFFFFFFF (toLE 4 loc ++ toLE 24 x.key ++ toLE 24 x.mask ++ toLE 8 x.res) ^^^ 0xFFFFFFFF

/-- The digest of channel record number `i` with ACTIVE_AN taken as 0. -/
def recDigest (i r : Nat) : Nat := crc32c 0xFFFFFFFF (toLE 4 i ++ toLE 32 (setFld 87 86 r 0)) ^^^ 0xFFFFFFFF

/-- The value of plumb block `b` of table `k` (R299). -/
def Dev.plumbValue (d : Dev) (k b : Nat) : Nat :=
  if k % 4 = 3 then
    ((List.range 256).foldl (fun a j => a + recDigest (256 * b + j) (d.chan (k / 4 * 8192 + 256 * b + j))) 0) % 2 ^ 32
  else
    (d.slots.foldl (fun a p =>
      if p.1 / 65536 = k && p.2.valid && !(k % 4 < 2 && bit 3 p.2.ctl) && d.plumbBlock k (p.1 % 65536) p.2 = b
      then a + entDigest k (p.1 % 65536) p.2 else a) 0) % 2 ^ 32

/-- The plumb blocks of table `k`. -/
def plumbBlocks (k : Nat) : Nat := if k % 4 < 2 then 128 else if k % 4 = 2 then 4 else 32

end Sys2Proof.Machine
end

