-- ==== Sys2Proof/Machine/Tables.lean ====
section
/-! DEFINITION. Table command windows, migration, locks, learning notifications, the ager and the plumb check (R282 to R301). -/
namespace Sys2Proof.Machine

/-- A lookup of `key` in exact-match table `k`: the place found, with DUPLICATES counted where more than one matches (R271). -/
def Dev.look (k key : Nat) (d : Dev) : Option Nat × Dev :=
  let l := d.matchesOf k key
  (l.head?, when (1 < l.length) (fun x => (x.count 64 (0x4010 + k) 0x14 1).cause (.table k) 6) d)

/-- The lowest valid TCAM entry of table `k` that `key` matches (R266, R268). -/
def Dev.tcamHit (d : Dev) (k key : Nat) : Option Nat :=
  (d.slots.find? (fun p => p.1 / 65536 = k && p.2.valid && (key ^^^ p.2.key) &&& p.2.mask = 0)).map (·.1 % 65536)

/-- A search of exact-match table `k`, as the data path and a window LOOKUP make it: the place found, whether a compared slot has an
uncorrectable error, and the block with the causes of what was met (R270, R271, R273). -/
def Dev.search (k key : Nat) (d : Dev) : Option Nat × Bool × Dev :=
  let r := (d.lookAt k ((d.places k key).map (·.1))).look k key
  match d.eccAmong k key with
  | some l => (r.1, true, r.2.eccMet k l)
  | none => (r.1, false, r.2)

/-- The same for the policy TCAM, table `k`. -/
def Dev.tcamSearch (k key : Nat) (d : Dev) : Option Nat × Bool × Dev :=
  let valid := d.slots.filter (fun p => p.1 / 65536 = k && p.2.valid)
  let d1 := d.lookAt k (valid.map (·.1 % 65536))
  match valid.find? (fun p => d.eccHard p.1) with
  | some p => (d.tcamHit k key, true, d1.eccMet k (p.1 % 65536))
  | none => (d.tcamHit k key, false, d1)

/-- The inputs of a table window: KEY, MASK and DATA. -/
def Dev.winKey (d : Dev) (n : Nat) : Nat := (List.range 5).foldl (fun a j => a + d.rd (0x4040 + n) (4 + j) * 2 ^ (64 * j)) 0
/-- MASK of a table window. -/
def Dev.winMask (d : Dev) (n : Nat) : Nat := (List.range 3).foldl (fun a j => a + d.rd (0x4040 + n) (9 + j) * 2 ^ (64 * j)) 0
/-- DATA of a table window as one number. -/
def Dev.winWords (d : Dev) (n : Nat) : Nat := (List.range 4).foldl (fun a j => a + d.rd (0x4040 + n) (0xC + j) * 2 ^ (64 * j)) 0

/-- `cnt` successive 64-bit objects from `i.j` made the words of `v`. -/
def Dev.putWords (i j cnt v : Nat) (d : Dev) : Dev :=
  (List.range cnt).foldl (fun x k => x.wr i (j + k) (fld (64 * k + 63) (64 * k) v)) d

/-- STATUS of window `n` with RESULT `r` (R282). -/
def Dev.winDone (n r : Nat) (d : Dev) : Dev := d.wr (0x4040 + n) 0x10 (r * 256)

/-- LOCATION of window `n`. -/
def Dev.winLoc (n : Nat) (l : Option Nat) (d : Dev) : Dev := d.wr (0x4040 + n) 0x11 (l.getD 0xFFFE)

/-- The control word an INSERT places: VALID 1, ACTIVITY and AGE_ENABLE as written (R284). -/
def insertCtl (v : Nat) : Nat := 1 + v / 2 % 4 * 2

/-- The control word an UPDATE leaves: ACTIVITY and AGE_ENABLE as written; LEARNED, SHADOWED and EPOCH kept, LEARNED cleared where an
I-table ACTION becomes CHANNEL (R284). -/
def updateCtl (k old v res : Nat) : Nat :=
  let c := insertCtl v + fld 5 3 old * 2 ^ 3
  if k % 4 = 1 && fld 17 16 res = 0 then clrBit 3 c else c

/-- LOOKUP and READ_ENTRY of an exact-match table (R284); `hit` is a data-path hit in the cycle of CLEAR_ACTIVITY, which wins (R298). -/
def Dev.opLook (n : Nat) (entry hit : Bool) (d : Dev) : Dev :=
  let k := n / 4
  let r := d.search k (d.winKey n)
  match r.1 with
  | none => r.2.2.winDone n (if r.2.1 then 0xA else 1)
  | some l =>
    let x := r.2.2.ent k l
    let d1 := (r.2.2.winLoc n (some l)).wr (0x4040 + n) 0xC x.res
    let d2 := when entry (fun y => y.wr (0x4040 + n) 0xD x.ctl) d1
    let d3 := when (entry && bit 0 (d.rd (0x4040 + n) 3))
      (fun y => if hit then y.storeEnt k l { x with ctl := setBit 1 x.ctl } else y.putEnt k l { x with ctl := clrBit 1 x.ctl }) d2
    d3.winDone n (if r.2.1 then 0xA else 0)

/-- INSERT (R277, R284). -/
def Dev.opInsert (n : Nat) (d : Dev) : Dev :=
  let k := n / 4
  let key := d.winKey n
  let res := d.rd (0x4040 + n) 0xC
  let ctl := d.rd (0x4040 + n) 0xD
  if !exactOk k key res ctl then d.winDone n 4
  else
    match d.findKey k key with
    | some l => (d.winLoc n (some l)).winDone n 2
    | none =>
      match d.insertEnt k ⟨key, 0, res, insertCtl ctl⟩ with
      | (none, _, d1) => d1.winDone n 3
      | (some l, m, d1) => ((d1.winLoc n (some l)).wr (0x4040 + n) 0x12 m).winDone n 0

/-- UPDATE of an exact-match entry; VALID 0 removes it (R284). -/
def Dev.opUpdate (n : Nat) (d : Dev) : Dev :=
  let k := n / 4
  let key := d.winKey n
  let res := d.rd (0x4040 + n) 0xC
  let ctl := d.rd (0x4040 + n) 0xD
  if !exactOk k key res ctl then d.winDone n 4
  else
    match d.findKey k key with
    | none => d.winDone n 1
    | some l =>
      let x := d.ent k l
      let d1 := if bit 0 ctl then d.putEnt k l { x with res := res, ctl := updateCtl k x.ctl ctl res } else d.removeEnt k l
      ((d1.eccClear (slotKey k l)).winLoc n (some l)).winDone n 0

/-- DELETE of an exact-match entry (R284). -/
def Dev.opDelete (n : Nat) (d : Dev) : Dev :=
  let k := n / 4
  match d.findKey k (d.winKey n) with
  | none => d.winDone n 1
  | some l => (((d.removeEnt k l).eccClear (slotKey k l)).winLoc n (some l)).winDone n 0

/-- READ_SLOT of any table (R284). LOCATION names the slot where an entry stands in it (R282). -/
def Dev.opRead (n : Nat) (d : Dev) : Dev :=
  let k := n / 4
  let s := d.rd (0x4040 + n) 2
  let ok := if k % 4 < 2 then s < 32768 || within 0x8000 64 s || s = 0xFFFF else if k % 4 = 2 then s < 1024 else s < 8192
  if !ok then d.winDone n 4
  else
    let bad := d.eccBad.contains (slotKey k s)
    let res := if bad then 0xA else 0
    when bad (Dev.condition 1) <| if k % 4 = 3 then (d.putWords (0x4040 + n) 0xC 4 (d.readRecord (k / 4 * 8192 + s))).winDone n res
    else
      let x := d.ent k s
      let d1 := (d.wr (0x4040 + n) 0xC x.res).wr (0x4040 + n) 0xD x.ctl
      let d2 := if k % 4 = 2 then (d1.putWords (0x4040 + n) 4 3 x.key).putWords (0x4040 + n) 9 3 x.mask
        else (d1.putWords (0x4040 + n) 4 5 x.key).winLoc n (if x.valid then some s else none)
      d2.winDone n res

/-- LOOKUP of the policy TCAM (R284). -/
def Dev.opTcamLook (n : Nat) (d : Dev) : Dev :=
  let r := d.tcamSearch (n / 4) (d.winKey n % 2 ^ 192)
  match r.1 with
  | none => r.2.2.winDone n (if r.2.1 then 0xA else 1)
  | some i => ((r.2.2.wr (0x4040 + n) 2 i).wr (0x4040 + n) 0xC (d.ent (n / 4) i).res).winDone n (if r.2.1 then 0xA else 0)

/-- UPDATE or DELETE of a TCAM entry (R267, R284). -/
def Dev.opTcamWrite (n : Nat) (del : Bool) (d : Dev) : Dev :=
  let k := n / 4
  let s := d.rd (0x4040 + n) 2
  let key := d.winKey n % 2 ^ 192
  let res := d.rd (0x4040 + n) 0xC
  if 1024 ≤ s then d.winDone n 4
  else if s < 32 && n % 4 != 0 then d.winDone n 0xB
  else if del then ((d.dropEnt k s).eccClear (slotKey k s)).winDone n 0
  else if !tcamOk (k / 4) key (d.winMask n) res then d.winDone n 4
  else ((d.putEnt k s ⟨key, d.winMask n, res, d.rd (0x4040 + n) 0xD % 4⟩).eccClear (slotKey k s)).winDone n 0

/-- UPDATE of a channel record (R285). -/
def Dev.opRecord (n : Nat) (d : Dev) : Dev :=
  let s := d.rd (0x4040 + n) 2
  if 8192 ≤ s then d.winDone n 4
  else
    let r := d.writeRecord (n / 16 * 8192 + s) (d.winWords n) (bit 1 (d.rd (0x4040 + n) 3))
    r.2.winDone n r.1

/-- What CMD of table window `n` does with operation code `v` from role `r` (R283, R284, R289): LOCATION names a place only where this
command finds or places an entry, and RELOCATIONS counts the moves of the last INSERT (R276, R282). -/
def effTableCmd (n : Nat) (hit : Bool) : Eff := fun r v d0 =>
  let t := n / 4 % 4
  let d := when (v = 2) (fun x => x.wr (0x4040 + n) 0x12 0) (d0.winLoc n none)
  let locked := d.lockedFor (n / 4) r
  (0,
    match v with
    | 1 => if t < 2 then d.opLook n false hit else if t = 2 then d.opTcamLook n else d.winDone n 8
    | 2 => if 2 ≤ t then d.winDone n 8 else if locked then d.winDone n 9 else d.opInsert n
    | 3 => if locked then d.winDone n 9 else if t < 2 then d.opUpdate n else if t = 2 then d.opTcamWrite n false else d.opRecord n
    | 4 => if t = 3 then d.winDone n 8 else if locked then d.winDone n 9 else if t < 2 then d.opDelete n else d.opTcamWrite n true
    | 5 => d.opRead n
    | 6 => if t < 2 then d.opLook n true hit else d.winDone n 8
    | _ => d.winDone n 8)

/-- A CMD of code `code` on a path at table window `n`; `hit` as in `Dev.opLook`. -/
def Dev.tableCmd (n code : Nat) (hit : Bool) (p : Path) (d : Dev) : Dev :=
  Dev.write (effTableCmd n hit) (0x4040 + n) 1 ⟨p, 2, 1, code⟩ d

/-- R284: LOOKUP. -/
def execLookup (n : Nat) (p : Path) (s : State) : Out := actIf (n < 64) (Dev.tableCmd n 1 false p) s

/-- R277, R284: INSERT. -/
def execInsert (n : Nat) (p : Path) (s : State) : Out := actIf (n < 64) (Dev.tableCmd n 2 false p) s

/-- R284: UPDATE. -/
def execUpdate (n : Nat) (p : Path) (s : State) : Out := actIf (n < 64) (Dev.tableCmd n 3 false p) s

/-- R284: DELETE. -/
def execDelete (n : Nat) (p : Path) (s : State) : Out := actIf (n < 64) (Dev.tableCmd n 4 false p) s

/-- R284: READ_SLOT. -/
def execReadSlot (n : Nat) (p : Path) (s : State) : Out := actIf (n < 64) (Dev.tableCmd n 5 false p) s

/-- R284, R298: READ_ENTRY; `hit` is a data-path hit in the cycle in which it clears ACTIVITY. -/
def execReadEntry (n : Nat) (p : Path) (hit : Bool) (s : State) : Out := actIf (n < 64) (Dev.tableCmd n 6 hit p) s

/-- The domain of table `k` runs. -/
def Dev.tableOn (d : Dev) (k : Nat) : Bool := d.runs (tabDom (k / 4))

/-- R279: the stash drain moves an entry. -/
def execStashDrain (k : Nat) (s : State) : Out :=
  actIf (k < 16) (fun d => when (k % 4 < 2 && d.tableOn k) (Dev.drainOne k) d) s

/-- What MIGRATE does (R280). -/
def effMigrate (k : Nat) : Eff := fun _ _ d =>
  let i := 0x4010 + k
  if d.rd i 6 = d.rd i 7 then (abRange, d)
  else if d.rd i 9 % 4 != 0 || d.isLocked k then (abState, d)
  else
    let x := d.tab k
    (0, (d.setTab k { x with epoch := 1 - x.epoch, seeds := some (d.rd i 6, d.rd i 7), moved := false }).wr i 9 1)

/-- R280: MIGRATE. -/
def execMigrate (k : Nat) (w : Wr) (s : State) : Out := actIf (k < 16) (Dev.write (effMigrate k) (0x4010 + k) 8 w) s

/-- R281: one step of a migration. -/
def execMigrationStep (k : Nat) (s : State) : Out :=
  actIf (k < 16) (fun d => when (d.tableOn k) (Dev.migrationStep k) d) s

/-- LOCK_STATE of an owner and lease (R261). -/
def lockState (r : Role) (lease : Nat) : Nat := 2 ^ r.bitNo + 2 ^ 7 + lease * 2 ^ 8

/-- LOCK_STATE of table `k` now: the lease that remains, a millisecond begun counting whole (R261). -/
def Dev.lockNow (d : Dev) (k : Nat) : Nat :=
  match (d.tab k).lock with
  | some (r, lease) => lockState r (lease - (d.now - (d.tab k).since) / 1600000)
  | none => 0

/-- What LOCK does in CCLK cycle `t` (R289). -/
def effLock (k t : Nat) : Eff := fun r v d =>
  if d.lockedFor k r then (abConflict, d)
  else
    let lease := if v = 0 then d.rd (0x4010 + k) 0xD else v
    (0, (d.setTab k { d.tab k with lock := some (r, lease), since := t }).wr (0x4010 + k) 0xC (lockState r lease))

/-- R289: LOCK. -/
def execLock (k : Nat) (w : Wr) (t : Nat) (s : State) : Out := actAt (k < 16) t (Dev.write (effLock k t) (0x4010 + k) 0xA w) s

/-- The lock of table `k` ends. -/
def Dev.unlock (k : Nat) (d : Dev) : Dev := (d.setTab k { d.tab k with lock := none, since := 0 }).wr (0x4010 + k) 0xC 0

/-- What LOCK_RELEASE does (R290). -/
def effUnlock (k : Nat) : Eff := fun r _ d =>
  match (d.tab k).lock with
  | some (o, _) => if o = r then (0, d.unlock k) else (abState, d)
  | none => (abState, d)

/-- R290: LOCK_RELEASE. -/
def execLockRelease (k : Nat) (w : Wr) (s : State) : Out := actIf (k < 16) (Dev.write (effUnlock k) (0x4010 + k) 0xB w) s

/-! ## Learning notifications and the ager (R293 to R298) -/

/-- The learning notifications of quadrant `q`. -/
def Dev.learnQ (d : Dev) (q : Nat) : List Nat := Tbl.get (fun _ => []) d.learnNotes q

/-- The learning notifications made `l`, LEARN_NOTE_COUNT following. -/
def Dev.setLearnQ (q : Nat) (l : List Nat) (d : Dev) : Dev :=
  ({ d with learnNotes := Tbl.set (fun _ => []) d.learnNotes q l } : Dev).wr (0x4080 + q) 9 l.length

/-- An enabled MKA binding holds pair `n` (R249, R294). -/
def Dev.mkaBound (d : Dev) (n : Nat) : Bool := (List.range 64).any (fun b => d.rd (0x3080 + b) 1 = 1 && d.rd (0x3080 + b) 2 = n)

/-- A learning notification of kind `kind` for SCI, pair and place: to the control cluster where an MKA binding holds the pair, else
queued or lost (R293, R294). -/
def Dev.learnNote (q sci pair kind loc : Nat) (d : Dev) : Dev :=
  let v := ((sci * 256 + pair) * 256 + kind) * 65536 + loc
  let l := d.learnQ q
  if d.mkaBound pair then d.emit (.note (toBE 12 v))
  else if 256 ≤ l.length then (d.count 64 (0x4080 + q) 0xA 1).cause (.table (4 * q + 1)) 11
  else when l.isEmpty (Dev.cause (.table (4 * q + 1)) 10) (d.setLearnQ q (l ++ [v]))

/-- What LEARN_POP does: the oldest notification moves to LEARN_NOTE, 0 where there is none (R293). -/
def effLearnPop (q : Nat) : Eff := fun _ _ d =>
  match d.learnQ q with
  | [] => (0, d.wr (0x4080 + q) 8 0)
  | v :: rest => (0, (d.setLearnQ q rest).wr (0x4080 + q) 8 v)

/-- R293: LEARN_POP. -/
def execLearnPop (q : Nat) (w : Wr) (s : State) : Out := actIf (q < 4) (Dev.write (effLearnPop q) (0x4080 + q) 7 w) s

/-- The ager's check of a place: a corrected error is reported and written back through the engine, so that its plumb block is dirty; an
uncorrectable one is reported (R273, R301). -/
def Dev.scrub (k loc : Nat) (d : Dev) : Dev :=
  let sk := slotKey k loc
  let x := d.ent k loc
  let d1 := when (d.eccSoft.contains sk) (Dev.cause (.table k) 7) d
  let d2 := if d.eccSoft.contains sk then (d.blocksOf k loc x x).foldl (fun y b => y.dirty k b) (d1.storeEnt k loc x) else d1
  when (d.eccBad.contains sk) (Dev.eccMet k loc) d2

/-- The ager's visit of a place (R297). A data-path hit in the cycle of its write, or an UPDATE ahead of it that sets ACTIVITY, wins: the
ager writes nothing and the entry stays with ACTIVITY 1 (R298). -/
def Dev.age (k loc : Nat) (hit : Bool) (d : Dev) : Dev :=
  let q := k / 4
  let x := d.ent k loc
  if d.rd (0x4080 + q) 1 = 0 || !x.valid || !bit 2 x.ctl then d
  else if hit then d.storeEnt k loc { x with ctl := setBit 1 x.ctl }
  else if x.active then d.putEnt k loc { x with ctl := clrBit 1 x.ctl }
  else
    let d1 := (d.removeEnt k loc).count 64 (0x4010 + k) 0x13 1
    when (bit 3 x.ctl) (Dev.learnNote q (fld 71 8 x.key) (x.key % 256) 2 loc) d1

/-- The ager visits a place, its bits having flipped as `flips` says (R273, R297); it pauses while the table is locked (R289). -/
def Dev.ageVisit (k loc : Nat) (hit : Bool) (flips : List (Nat × Nat)) (d0 : Dev) : Dev :=
  let d := d0.flip flips
  if 2 ≤ k % 4 || !d.tableOn k || d.isLocked k then d else (d.scrub k loc).age k loc hit

/-- R297: the ager visits a slot. -/
def execAgerVisit (k loc : Nat) (hit : Bool) (flips : List (Nat × Nat)) (s : State) : Out :=
  actIf (k < 16) (Dev.ageVisit k loc hit flips) s

/-! ## The plumb check (R300, R301) -/

/-- A plumb-list entry written: value in [31:0], CHECK in bit 32; the block is dirty for the pass. -/
def Dev.plumbWrite (k b v : Nat) (d : Dev) : Dev :=
  (d.setTab k { d.tab k with plumb := Tbl.set (fun _ => 0) (d.tab k).plumb b v }).dirty k b

/-- What a write of PLUMB_ENABLE does: a pass begins where the checker was off, with every block clean (R301). -/
def effPlumbEnable (k : Nat) : Eff := fun _ v d =>
  (0, when (v = 1 && d.rd (0x4010 + k) 0x15 = 0) (fun x => x.setTab k { x.tab k with dirty := [] }) d |>.wr (0x4010 + k) 0x15 v)

/-- What PLUMB_SET does (R261, R300). -/
def effPlumbSet (k : Nat) : Eff := fun _ v d =>
  let b := fld 39 32 v
  if plumbBlocks k ≤ b then (abRange, d) else (0, d.plumbWrite k b (fld 31 0 v + fld 40 40 v * 2 ^ 32))

/-- R300: PLUMB_SET. -/
def execPlumbSet (k : Nat) (w : Wr) (s : State) : Out := actIf (k < 16) (Dev.write (effPlumbSet k) (0x4010 + k) 0x17 w) s

/-- The end of a plumb pass (R301): every clean block with CHECK compared, mismatches declared; the next pass starts clean. An armed
injection of point 0x10 makes its block one, even if dirty (R486). -/
def Dev.plumbPass (k : Nat) (d : Dev) : Dev :=
  let x := d.tab k
  if d.rd (0x4010 + k) 0x15 != 1 || !d.tableOn k then d
  else
    let off := (x.plumb.filter (fun e => bit 32 e.2 && !x.dirty.contains e.1 && d.plumbValue k e.1 != e.2 % 2 ^ 32)).map (·.1)
    let hit := d.armed 0x10 (fun i _ => injTable i = k)
    let bad := (if x.seeds.isSome then [] else off) ++ (match hit with
      | some b => if x.seeds.isSome || off.contains b then [] else [b]
      | none => [])
    let d1 := when (hit.isSome && !x.seeds.isSome) Dev.struck (d.setTab k { x with dirty := [] })
    bad.foldl (fun y b => ((y.count 64 (0x4010 + k) 0x19 1).wr (0x4010 + k) 0x18 (b + 2 ^ 15)).cause (.table k) 5) d1

/-- R301: a plumb pass ends. -/
def execPlumbPass (k : Nat) (s : State) : Out := actIf (k < 16) (Dev.ifRuns (tabDom (k / 4)) (Dev.plumbPass k)) s

end Sys2Proof.Machine
end

