-- ==== Sys2Proof/Machine/QueueBase.lean ====
section
/-! DEFINITION. Frames in the part: the law counters and drop reasons (R444 to R448), cells and pools, queues and the deep buffer
(R302 to R315), policers and punts (R306, R328 to R330), gates (R331 to R338), timestamps and the transparent clock (R377 to
R382). -/
namespace Sys2Proof.Machine

/-! ## Drop reasons (R448) -/

def dropUnclassified : Nat := 1
def dropBadTag : Nat := 2
def dropNoSci : Nat := 3
def dropSaNotInUse : Nat := 4
def dropReplayLate : Nat := 5
def dropIcvFail : Nat := 6
def dropKeyAbsent : Nat := 7
def dropPnExhausted : Nat := 8
def dropPolicerRed : Nat := 9
def dropQueueFull : Nat := 0xA
def dropTooLong : Nat := 0xB
def dropFcsErrorIn : Nat := 0xC
def dropOversize : Nat := 0xD
def dropLearnPending : Nat := 0xE
def dropQuiesced : Nat := 0xF
def dropCarrierDefect : Nat := 0x10
def dropMemoryError : Nat := 0x11
def dropCrossingReset : Nat := 0x12
def dropSliceFenced : Nat := 0x13

/-- A counter of laws 1 to 3 counted; at all ones CONDITIONS bit SATURATED is set (R445). -/
def Dev.law (kind e v : Nat) (d : Dev) : Dev :=
  let d1 := d.cnt kind e v
  when (d1.ctr kind e v = 2 ^ 64 - 1) (Dev.condition 3) d1

/-- The first PAIR_FRAMES value of a direction: 0 egress, 8 ingress (R457). -/
def dirBase (line : Bool) : Nat := if line then 8 else 0

/-- A frame of `octets` bytes received on pair `n` (R446). -/
def Dev.received (n : Nat) (line : Bool) (octets : Nat) (d : Dev) : Dev :=
  (((d.law 1 n (dirBase line)).law 1 n (dirBase line + 4)).cntBy 1 n (dirBase line + 6) octets).perf (quadOf n) 0x040
    (n % 64 + 64 * b2n (!line)) 1

/-- A frame leaves the in-flight gauge of pair `n`. -/
def Dev.leaveFlight (n : Nat) (line : Bool) (d : Dev) : Dev :=
  d.setCtr 1 n (dirBase line + 4) (d.ctr 1 n (dirBase line + 4) - 1)

/-- A frame of `octets` bytes forwarded on pair `n` (R446). -/
def Dev.forwarded (n : Nat) (line : Bool) (octets : Nat) (d : Dev) : Dev :=
  ((d.leaveFlight n line).law 1 n (dirBase line + 1)).cntBy 1 n (dirBase line + 7) octets

/-- The pair cause that a drop reason sets (R159). -/
def dropCause (reason : Nat) (line : Bool) : Option Nat :=
  match reason with
  | 1 => if line then none else some 12
  | 2 => some 1
  | 3 => some 2
  | 4 => some 8
  | 5 => some 4
  | 6 => some 5
  | 7 => some 7
  | 8 => some 13
  | 0xC => some 10
  | _ => none

/-- The causes that follow a drop (R159, R342, R445). -/
def Dev.dropCauses (n : Nat) (line : Bool) (reason : Nat) (d : Dev) : Dev :=
  let d1 := match dropCause reason line with
    | some i => d.cause (.pair n) i
    | none => d
  let b := CauseBlock.buffer (quadOf n)
  if reason = dropQueueFull then d1.cause b 1
  else if reason = dropMemoryError then (d1.cause b 5).condition 1
  else if reason = dropTooLong then d1.cause b 17
  else d1

/-- A frame of pair `n` dropped with a reason (R446 to R448). -/
def Dev.dropped (n : Nat) (line : Bool) (reason : Nat) (d : Dev) : Dev :=
  (((d.leaveFlight n line).law 1 n (dirBase line + 3)).cnt (if line then 3 else 2) n reason).dropCauses n line reason

/-- A frame dropped: one the part originated appears in no term of law 1 (R446). -/
def Dev.drop (reason : Nat) (f : Frame) (d : Dev) : Dev :=
  if f.own then d.dropCauses f.pair f.line reason else d.dropped f.pair f.line reason

/-- The length of a frame as stored, FCS included. -/
def Frame.len (f : Frame) : Nat := f.data.length + 4

/-! ## Parsing (R121) -/

/-- What the parser finds after the addresses: the TCIs of the tags, outer first, and the offset and value of the EtherType. -/
structure Parsed where
  tags : List Nat
  off : Nat
  etype : Nat
  deriving DecidableEq, Repr

/-- A VLAN TPID. -/
def isTpid (v : Nat) : Bool := v = 0x8100 || v = 0x88A8

/-- The parse of at most `n` more tags from offset `o`. -/
def parseTags : Nat → Bytes → Nat → List Nat → Parsed
  | 0, b, o, l => ⟨l, o, beAt o 2 b⟩
  | n + 1, b, o, l =>
    if isTpid (beAt o 2 b) && o + 4 ≤ b.length then parseTags n b (o + 4) (l ++ [beAt (o + 2) 2 b]) else ⟨l, o, beAt o 2 b⟩

/-- The parse of a frame: at most two tags in its first 128 bytes. -/
def parse (b : Bytes) : Parsed := parseTags 2 (b.take 128) 12 []

/-- A PTP message the parser finds: its offset, and 0 directly after the tags, 4 over IPv4, 6 over IPv6 (R121). -/
def ptpAt (b : Bytes) : Option (Nat × Nat) :=
  let p := parse b
  let o := p.off + 2
  let h := 4 * (beAt o 1 b % 16)
  let port := fun (x : Nat) => beAt (x + 2) 2 b = 319 || beAt (x + 2) 2 b = 320
  if p.etype = 0x88F7 && o ≤ 128 then some (o, 0)
  else if p.etype = 0x0800 && beAt (o + 9) 1 b = 17 && port (o + h) && o + h + 8 ≤ 128 && o + h + 8 ≤ b.length then some (o + h + 8, 4)
  else if p.etype = 0x86DD && beAt (o + 6) 1 b = 17 && port (o + 40) && o + 48 ≤ 128 && o + 48 ≤ b.length then some (o + 48, 6)
  else none

/-- The VID of the outer tag, 0 where untagged. -/
def Parsed.outer (p : Parsed) : Nat := p.tags.headD 0 % 4096
/-- The VID of the inner tag, 0 where absent. -/
def Parsed.inner (p : Parsed) : Nat := nth 0 p.tags 1 % 4096
/-- The PCP of the outer tag, 0 where untagged. -/
def Parsed.pcp (p : Parsed) : Nat := fld 15 13 (p.tags.headD 0)

/-! ## Timestamps and the transparent clock (R377 to R382) -/

/-- A PTP event message: Sync, Delay_Req, Pdelay_Req or Pdelay_Resp of version 2. -/
def ptpEvent (b : Bytes) : Bool :=
  match ptpAt b with
  | some (o, _) => beAt o 1 b % 16 < 4 && beAt (o + 1) 1 b % 16 = 2
  | none => false

/-- The timestamp entry of a frame at time `tm` (2^-32 ns): TIME and FRAC make the multiple of 0.625 ns, 160 units of 2^-8 ns, that it has
reached (R378; log 210). -/
def tsEntry (b : Bytes) (tm : Nat) (sent : Bool) : Nat :=
  let v := tm % 2 ^ 96 / 2 ^ 24 / 160 * 160 * 2 ^ 24
  match ptpAt b with
  | some (o, _) => v + (beAt o 1 b % 16 + 64 * b2n sent) * 2 ^ 16 + beAt (o + 30) 2 b
  | none => v + (64 * b2n sent + 128) * 2 ^ 16

/-- Entry `e` put in a FIFO in order of the timestamps, their upper 72 bits, behind equal ones (R379). -/
def tsInsert (e : Nat) : List Nat → List Nat
  | [] => [e]
  | x :: t => if e / 2 ^ 24 < x / 2 ^ 24 then e :: x :: t else x :: tsInsert e t

/-- A timestamp entered in the FIFO of side `s` where TS_MODE asks for it; a full FIFO loses it, with E39 once for each fill (R378,
R379). -/
def Dev.stamp (s : Nat) (b : Bytes) (ptp : Bool) (tm : Nat) (sent : Bool) (d : Dev) : Dev :=
  let m := d.rd (0x2000 + s) 0x30
  if m = 2 || (m = 1 && ptp && ptpEvent b) then
    let l := Tbl.get (fun _ => []) d.time.fifo s
    if 64 ≤ l.length then
      let d1 := d.count 64 (0x2000 + s) 0x34 1
      if Tbl.get (fun _ => false) d.time.full s then d1
      else (({ d1 with time := { d1.time with full := Tbl.set (fun _ => false) d1.time.full s true } } : Dev)).raise 39
    else
      ({ d with time := { d.time with fifo := Tbl.set (fun _ => []) d.time.fifo s (tsInsert (tsEntry b tm sent) l) } } : Dev).wr
        (0x2000 + s) 0x33 (l.length + 1)
  else d

/-- TS_RX_DELAY of side `s` in 2^-32 ns. -/
def Dev.rxDelay (d : Dev) (s : Nat) : Nat := d.rd (0x2000 + s) 0x35 * 2 ^ 32
/-- TS_TX_DELAY of side `s` in 2^-32 ns. -/
def Dev.txDelay (d : Dev) (s : Nat) : Nat := d.rd (0x2000 + s) 0x36 * 2 ^ 32
/-- The compact time at which a byte that enters the line coding of side `s` in cycle `t` leaves, in 2^-32 ns; 0 without valid time
(R373, R377). -/
def Dev.sentTime (d : Dev) (q s t : Nat) : Nat := if (d.follower q).valid then d.quadTime q t + d.txDelay s else 0

/-- The SF of the same moment; 0 without valid time. -/
def Dev.sentSf (d : Dev) (q s t : Nat) : Nat := if (d.follower q).valid then d.quadSf q t + d.txDelay s else 0

/-- Bytes of `b` from offset `o` replaced. -/
def patch (o : Nat) (x b : Bytes) : Bytes := b.take o ++ x ++ b.drop (o + x.length)

/-- correctionField with a residence added, in 2^-16 ns, stopping at the greatest value (R381). -/
def corrected (field : Nat) (res : Int) : Nat :=
  let s := toInt 64 field + res
  if Int.ofNat (2 ^ 63 - 1) < s then 2 ^ 63 - 1 else ofInt 64 s

/-- What the transparent clock does to a frame that leaves at SF `tx` (2^-32 ns): the bytes, and 0 nothing counted, 1 TC_CORRECTED,
2 TC_UNSUPPORTED (R380 to R382). -/
def clockFix (b : Bytes) (rx : Int) (tx : Nat) : Bytes × Nat :=
  match ptpAt b with
  | none => (b, 0)
  | some (o, k) =>
    if beAt (o + 1) 1 b % 16 != 2 || k = 6 then (b, 2)
    else if 4 ≤ beAt o 1 b % 16 then (b, 0)
    else
      let b1 := patch (o + 8) (toBE 8 (corrected (beAt (o + 8) 8 b) ((Int.ofNat tx - rx) / 2 ^ 16))) b
      (if k = 4 then patch (o - 2) [0, 0] b1 else b1, 1)

/-! ## Frames leaving -/

/-- The side frame `f` leaves by: the system side where it came from the line. -/
def Frame.exit (f : Frame) : Nat := if f.line then 256 + f.pair else f.pair

/-- LOOPBACK of pair `n` (R482). -/
def Dev.loopOf (d : Dev) (n : Nat) : Nat := d.rd (0x9030 + quadOf n) (1 + n % 64)

/-- A near-end loopback replaces the port of side `s`. -/
def Dev.looped (d : Dev) (s : Nat) : Bool := if s < 256 then d.loopOf s = 1 else d.loopOf (s - 256) = 3

/-- Those frames replaced. -/
def Dev.setBg (k : Nat) (l : List BgFrame) (d : Dev) : Dev := { d with bg := Tbl.set (fun _ => []) d.bg k l }

/-- The stream of generator `q`: frames begun, and whether it is to stop (R483). -/
def Dev.gen (d : Dev) (q : Nat) : Nat × Bool := Tbl.get (fun _ => (0, false)) d.genSent q
/-- That stream replaced. -/
def Dev.setGen (q : Nat) (x : Nat × Bool) (d : Dev) : Dev := { d with genSent := Tbl.set (fun _ => (0, false)) d.genSent q x }

/-- Generator `q` has another frame to send: its stream runs, is not to stop, and TG_COUNT is not reached (R483). -/
def Dev.genMore (d : Dev) (q : Nat) : Bool :=
  d.rd (0x9010 + q) 0xA = 1 && !(d.gen q).2 && (d.rd (0x9010 + q) 4 = 0 || (d.gen q).1 < d.rd (0x9010 + q) 4)

/-- A frame of generator `q` is in progress. -/
def Dev.genBusy (d : Dev) (q : Nat) : Bool := (List.range 16).any (fun k => !(d.bgOf (8 * (16 * q + k) + 2)).isEmpty)

/-- The stream of generator `q` has ended where it has no further frame and none in progress: TG_RUNNING reads 0 (R483). -/
def Dev.genEnd (q : Nat) (d : Dev) : Dev := if d.genMore q || d.genBusy q then d else d.wr (0x9010 + q) 0xA 0

/-- A string cut into blocks of eight bytes, what is left of it ended by `fin`. -/
def blocksOf (fin : Bytes → Pcs) : Nat → Bytes → List Pcs
  | 0, b => [fin b]
  | k + 1, b => .data (b.take 8) :: blocksOf fin k (b.drop 8)

/-- The blocks a frame leaves as (R148): with its CRC-32; stomped, with that inverted and an error block in place of the block of its
terminate, which takes the FCS bytes in it; ended early, with an error block after the bytes that left. -/
def pcsBlocks (b : Bytes) (f : Fcs) : List Pcs :=
  match f with
  | .good => blocksOf .terminate ((b.length + 4) / 8) (b ++ toLE 4 (crc32 b))
  | .stomped => blocksOf (fun _ => .error) ((b.length + 4) / 8) (b ++ toLE 4 (crc32 b ^^^ 0xFFFFFFFF))
  | .errorBlock => blocksOf (fun _ => .error) (b.length / 8) b

/-- A far-end loopback replaces what side `s` would send by what it receives (R482). -/
def Dev.farLoop (d : Dev) (s : Nat) : Bool := if s < 256 then d.loopOf s = 2 else d.loopOf (s - 256) = 4

/-- What side `s` receives is retransmitted where a far-end loopback says so and its transmitters are on; what makes the put-out record from
the lanes (R112, R482). -/
def Dev.echo (s : Nat) (e : List TxLane → Emit) (d : Dev) : Dev := when (d.farLoop s && d.txOn s) (Dev.emit (e (d.txLanes s))) d

/-- What enters the PCS encode of side `s`: put out, or taken back by a near-end loopback at the LOOPBACK requester, from then on a frame that
the part originates (R358, R446, R482). -/
def Dev.encode (s : Nat) (f : Frame) (d : Dev) : Dev :=
  if d.looped s then
    let k := 8 * (if s < 256 then dSliceOf s else eSliceOf (s - 256)) + 4
    d.setBg k (d.bgOf k ++ [⟨{ f with own := true }, 0⟩])
  else d.emit (.frame s (d.txLanes s) (pcsBlocks f.data f.fcs))

/-- The first byte of frame `f` leaves in CCLK cycle `t` (R377 to R382): corrected where it is PTP bypass, timestamped. -/
def Dev.launch (t : Nat) (f : Frame) (d : Dev) : Frame × Dev :=
  let q := quadOf f.pair
  let fix := if f.ptp then clockFix f.data f.rxSf (d.sentSf q f.exit t) else (f.data, 0)
  let d1 := d.stamp f.exit fix.1 f.ptp (d.sentTime q f.exit t) true
  ({ f with data := fix.1 },
    when (fix.2 = 1) (Dev.cnt 1 f.pair (if f.line then 19 else 18)) (when (fix.2 = 2) (Dev.cnt 1 f.pair (if f.line then 21 else 20)) d1))

/-- A frame sent under an SA counted in OUT_PROTECTED or OUT_ENCRYPTED of the SA and the channel, and its octets (R157). -/
def Dev.countOut (f : Frame) (d : Dev) : Dev :=
  match f.tally with
  | some (a, v, octets) => ((d.cnt 6 a v).cnt 5 f.chan v).cntBy 5 f.chan (2 + v) octets
  | none => d

/-- Frame `f` has left (R133, R148, R149, R446): counted, put out. -/
def Dev.land (f : Frame) (d : Dev) : Dev :=
  let d1 := if f.own then d.cnt 1 f.pair (if f.line then 17 else 16) else d.forwarded f.pair f.line f.sent
  let d2 := when (f.fcs != .good) (fun x =>
    ((x.cnt 1 f.pair (dirBase f.line + 5)).cnt 5 f.chan (if f.line then 7 else 4)).cause (.pair f.pair) 6) d1
  let d3 := when (!f.prot && !f.line) (Dev.cnt 4 f.pair 0) d2
  ((d3.countOut f).encode f.exit f).perf (quadOf f.pair) 0x041 (f.pair % 64 + 64 * b2n f.line) 1

/-- A frame that leaves whole in CCLK cycle `t`. -/
def Dev.emitFrame (t : Nat) (f : Frame) (d : Dev) : Dev := let r := d.launch t f; r.2.land r.1

/-! ## Slices and staging stores (R344 to R349, R353) -/

/-- The slice that paces side `s` (R344). -/
def pacer (s : Nat) : Nat := if s < 256 then eSliceOf s else dSliceOf (s - 256)

/-- The slice whose calendar slice `s` follows: the lead for a bond partner (R351). -/
def Dev.calOf (d : Dev) (s : Nat) : Nat := if d.rd (0x6000 + s) 5 = 2 then d.rd (0x2600 + s) 3 else s

/-- SHORT of the port of pair `n` in slice `s` (R349). -/
def Dev.isShort (d : Dev) (s n : Nat) : Bool := bit (n % 8) (d.rd (0x6000 + s) 6)

/-- The complete background frame in that store. -/
def Dev.stagedBgOf (d : Dev) (s : Nat) : List Frame := Tbl.get (fun _ => []) d.stagedBg s

/-- Slice `k` has room for another frame: it holds fewer than 128 (R5, R353). -/
def Dev.sliceRoom (d : Dev) (k : Nat) : Bool := d.inFlight k < 128

/-- IN_FLIGHT_MAX of slice `k` following (R353). -/
def Dev.noteFlight (k : Nat) (d : Dev) : Dev := d.wr (0x2600 + k) 5 (max (d.rd (0x2600 + k) 5) (d.inFlight k))

/-- The frames between dequeue and their staging stores replaced. -/
def Dev.setInE (s : Nat) (l : List Drawn) (d : Dev) : Dev :=
  ({ d with eFlight := Tbl.set (fun _ => []) d.eFlight s l } : Dev).noteFlight s
/-- The frames that await their verdicts replaced. -/
def Dev.setInD (s : Nat) (l : List Held) (d : Dev) : Dev :=
  ({ d with dFlight := Tbl.set (fun _ => []) d.dFlight s l } : Dev).noteFlight s
/-- The frames in the staging store of side `s` replaced. -/
def Dev.setStaged (s : Nat) (l : List Staged) (d : Dev) : Dev :=
  ({ d with staging := Tbl.set (fun _ => []) d.staging s l } : Dev).noteFlight (pacer s)
/-- The background frames there replaced. -/
def Dev.setStagedBg (s : Nat) (l : List Frame) (d : Dev) : Dev := { d with stagedBg := Tbl.set (fun _ => []) d.stagedBg s l }

/-- Side `s` sends: its transmitters are on, or a near-end loopback stands in for them (R112, R482). -/
def Dev.carriesOut (d : Dev) (s : Nat) : Bool := d.txOn s || d.looped s

/-- The frame in the staging store of side `s` begins to leave in cycle `t`: cut-through once its slice has processed a byte of it, or once it
is whole where its port is short or was while a slot took bytes of it, a fenced slice or an idle side letting none begin (R112, R348, R349,
R357, R475). -/
def Dev.leave (s t : Nat) (d : Dev) : Dev :=
  match d.staged s with
  | [] => d
  | x :: rest =>
    if x.left || d.isFenced (pacer s) || !d.carriesOut s || (!x.full && (x.done = 0 || x.hold || d.isShort (pacer s) (s % 256))) then d
    else let r := d.launch t x.frame; r.2.setStaged s ({ x with frame := r.1, left := true } :: rest)

/-- A frame enters the staging store of its port in cycle `t`. -/
def Dev.intoStaging (t : Nat) (x : Staged) (d : Dev) : Dev :=
  (d.setStaged x.frame.exit (d.staged x.frame.exit ++ [x])).leave x.frame.exit t

/-- The frames drawn for side `s` and not yet in its staging store, oldest first. -/
def Dev.drawn (d : Dev) (s : Nat) : List Drawn := (d.inE (pacer s)).filter (fun e => e.frame.exit = s)

/-- The oldest frame drawn for system side `s` enters its staging store, if that is empty, in cycle `t`; toward the line SA fetch has it enter
(R124, R348). -/
def Dev.refill (s t : Nat) (d : Dev) : Dev :=
  match d.drawn s with
  | [] => d
  | e :: _ =>
    if s < 256 || !(d.staged s).isEmpty then d
    else (d.setInE (pacer s) ((d.inE (pacer s)).eraseP (fun x => x.frame.exit = s))).intoStaging t ⟨e.frame, e.done, false, none, e.hold⟩

/-- The bytes a protected frame of a channel grows by (R127). -/
def growth (r : Nat) : Nat := if bit 77 r then 32 else 24

/-- The bytes of a drawn frame that its slice takes: with its growth, but for the ICV that a frame cut short does not get (R127, R132). -/
def Dev.handLen (d : Dev) (f : Frame) : Nat :=
  f.sent + (if f.prot && !f.line then growth (d.chan f.chan) - (if f.fcs = .errorBlock then 16 else 0) else 0)

/-- Up to `n` bytes handed over, the last beat of one frame and the first of the next sharing them: what is left of `n`, and the frames; `short`
marks those it takes bytes of (R346, R349). -/
def handOver (short : Bool) : Nat → List Staged → Nat × List Staged
  | n, [] => (n, [])
  | n, x :: l =>
    let m := min n (x.frame.sent - x.done)
    let r := handOver short (n - m) l
    (r.1, { x with done := x.done + m, hold := x.hold || (short && 0 < m) } :: r.2)

/-- The same for the frames drawn for side `s` among those of its slice. -/
def Dev.handDrawn (d : Dev) (s : Nat) (short : Bool) : Nat → List Drawn → Nat × List Drawn
  | n, [] => (n, [])
  | n, e :: l =>
    let m := if e.frame.exit = s then min n (d.handLen e.frame - e.done) else 0
    let r := d.handDrawn s short (n - m) l
    (r.1, { e with done := e.done + m, hold := e.hold || (short && 0 < m) } :: r.2)

/-- Up to `n` bytes of the frames of side `s` handed to its slice, and what is left of `n` (R346). -/
def Dev.hand (s n : Nat) (d : Dev) : Nat × Dev :=
  let short := d.isShort (pacer s) (s % 256)
  let a := handOver short n (d.staged s)
  let b := d.handDrawn s short a.1 (d.inE (pacer s))
  (b.1, (d.setStaged s a.2).setInE (pacer s) b.2)

/-- A frame of side `s` is being handed to its slice (R323). -/
def Dev.handing (d : Dev) (s : Nat) : Bool :=
  (d.staged s).any (fun x => !x.full) || (d.drawn s).any (fun e => e.done < d.handLen e.frame)

/-- The frame side `s` is sending. -/
def Dev.current (d : Dev) (s : Nat) : Option Frame :=
  match d.staged s with
  | x :: _ => some x.frame
  | [] => (d.drawn s).head?.map (·.frame)

/-- The frame at the head of the store of side `s` ended after what its slice has processed, with an error block (R132, R150, R349). -/
def Dev.cutHead (s : Nat) (d : Dev) : Dev :=
  match d.staged s with
  | [] => d
  | x :: rest =>
    let f : Frame := { x.frame with data := x.frame.data.take x.done, fcs := .errorBlock, wait := .none }
    d.setStaged s ({ x with frame := f, done := f.data.length } :: rest)

/-! ## Cells and pools (R304 to R306) -/

/-- Cells for `len` bytes. -/
def cellsOf (len : Nat) : Nat := (len + 255) / 256

/-- The size of pool `p` of quadrant `q`. -/
def Dev.poolSize (d : Dev) (q p : Nat) : Nat := d.rd (0x5000 + 64 * q) (0xD0 + p)
/-- `c` more cells fit in pool `p` of quadrant `q`. -/
def Dev.poolFits (d : Dev) (q p c : Nat) : Bool := d.poolUsed q p + c ≤ d.poolSize q p

/-- `c` cells taken in pool `p`. -/
def Dev.takeCells (q p c : Nat) (d : Dev) : Dev :=
  (d.wr (0x5000 + 64 * q) (0xE0 + p) (d.poolUsed q p + c)).wr (0x5000 + 64 * q) 0xCB (d.rd (0x5000 + 64 * q) 0xCB - c)

/-- `c` cells given back to pool `p`. -/
def Dev.giveCells (q p c : Nat) (d : Dev) : Dev :=
  (d.wr (0x5000 + 64 * q) (0xE0 + p) (d.poolUsed q p - c)).wr (0x5000 + 64 * q) 0xCB (d.rd (0x5000 + 64 * q) 0xCB + c)

/-! ## Queues (R307 to R310) -/

/-- Queue `x`. -/
def Dev.queue (d : Dev) (x : Nat) : Queue := Tbl.get (fun _ => Queue.init) d.queues x
/-- Queue `x` replaced. -/
def Dev.setQ (x : Nat) (k : Queue) (d : Dev) : Dev := { d with queues := Tbl.set (fun _ => Queue.init) d.queues x k }

/-- POOL of a queue record. -/
def Queue.pool (k : Queue) : Nat := fld 3 0 k.word
/-- SPILL_ENABLE of a queue record. -/
def Queue.maySpill (k : Queue) : Bool := bit 4 k.word
/-- SRAM_LIMIT of a queue record. -/
def Queue.sramLimit (k : Queue) : Nat := fld 24 8 k.word
/-- SPILL_THRESHOLD of a queue record. -/
def Queue.threshold (k : Queue) : Nat := fld 41 25 k.word
/-- DEEP_LIMIT of a queue record. -/
def Queue.deepLimit (k : Queue) : Nat := fld 65 42 k.word
/-- QUANTUM of a queue record. -/
def Queue.quantum (k : Queue) : Nat := fld 81 66 k.word
/-- The queue holds no frame. -/
def Queue.isEmpty (k : Queue) : Bool := k.sram.isEmpty && k.deep.isEmpty
/-- Bytes of a list of frames. -/
def bytesOf (l : List Frame) : Nat := l.foldl (fun a f => a + f.len) 0
/-- The spilled frames still to be sent. -/
def Queue.spilled (k : Queue) : List Frame := (k.deep.filter (fun e => !e.2)).map (·.1)
/-- The cells of what has been read back of the next spilled frame. -/
def Queue.partCells (k : Queue) : Nat := if (k.deep.head?.map (·.2)) = some false then cellsOf k.readBack else 0
/-- The SRAM cells a queue holds: its frames, and what has been read back of the next one. -/
def Queue.cells (k : Queue) : Nat := k.sram.foldl (fun a f => a + cellsOf f.len) 0 + k.partCells
/-- The bytes a queue holds. -/
def Queue.bytes (k : Queue) : Nat := bytesOf k.sram + bytesOf k.spilled
/-- The pages a queue holds. -/
def Queue.held (k : Queue) : Nat := (k.pages.filter (fun p => p.stack < 2)).length

/-! ## The deep buffer (R311 to R315) -/

/-- STACK_STATE of stack `s`. -/
def Dev.stackState (d : Dev) (s : Nat) : Nat := d.rd 0x5003 (0xD3 + 8 * s)
/-- PAGES_USED of stack `s`. -/
def Dev.pagesUsed (d : Dev) (s : Nat) : Nat := d.rd 0x5003 (0xD0 + 8 * s)
/-- Stack `s` takes new pages: enabled and READY. -/
def Dev.stackTakes (d : Dev) (s : Nat) : Bool := bit s (d.rd 0x5003 0xC3) && d.stackState s = 2
/-- The pages of one stack (R311). -/
def stackPages : Nat := 6291456
/-- Free pages in enabled READY stacks. -/
def Dev.pagesFree (d : Dev) : Nat :=
  (List.range 2).foldl (fun a s => a + (if d.stackTakes s then stackPages - d.pagesUsed s else 0)) 0

/-- SPILL_LIMIT and PAGES_FREE made to follow the stacks; E69 where PAGES_FREE falls below 125,829 (R311, R313). -/
def Dev.syncStacks (d : Dev) : Dev :=
  let was := d.rd 0x5003 0xC4
  let now := d.pagesFree
  let d1 := (d.wr 0x5003 0xC4 now).wr 0x5003 0xC0 (4900 * (b2n (d.stackTakes 0) + b2n (d.stackTakes 1)))
  when (125829 ≤ was && now < 125829) (Dev.raise 69) d1

/-- Pages of stack `s` counted up or down. -/
def Dev.pagesBy (s up down : Nat) (d : Dev) : Dev := (d.wr 0x5003 (0xD0 + 8 * s) (d.pagesUsed s + up - down)).syncStacks

/-- The grants of the last 1 ms before CCLK cycle `t`. -/
def Dev.recentSpills (d : Dev) (t : Nat) : List (Nat × Nat × Nat) := d.spills.filter (fun g => t < g.1 + 1600000)

/-- The rate of `n` pages within 1 ms, in whole Gb/s, as SPILL_RATE shows it. -/
def spillGbps (n : Nat) : Nat := n * 32768 / 1000000

/-- `n` pages within 1 ms are no more than `lim` Gb/s (R5, R312). -/
def withinGbps (n lim : Nat) : Bool := n * 32768 ≤ lim * 1000000

/-- Pages granted among `l`, to quadrant `q` or to all. -/
def pagesIn (l : List (Nat × Nat × Nat)) (q : Option Nat) : Nat :=
  l.foldl (fun a g => if q = none || q = some g.2.1 then a + g.2.2 else a) 0

/-- `need` more pages may be granted to quadrant `q` in cycle `t` (R312): a key is held and the vault is NORMAL (R255), enough pages are free, and
neither rate passes its limit over the last 1 ms. -/
def Dev.spillOk (d : Dev) (q need t : Nat) : Bool :=
  let l := d.recentSpills t
  d.rd 0x5003 0xC2 = 1 && d.rd 0x3000 2 = 0 && need ≤ d.pagesFree && 0 < d.pagesFree &&
  withinGbps (pagesIn l none + need) (d.rd 0x5003 0xC0) && withinGbps (pagesIn l (some q) + need) 4800

/-- The device-wide grant rate is at its limit for `need` more pages. -/
def Dev.spillSaturated (d : Dev) (need t : Nat) : Bool :=
  0 < d.rd 0x5003 0xC0 && !withinGbps (pagesIn (d.recentSpills t) none + need) (d.rd 0x5003 0xC0)

/-- SPILL_RATE of quadrant `q`, or of the device, over the 1 ms before cycle `t` (R303, R311). -/
def Dev.spillRate (d : Dev) (q : Option Nat) (t : Nat) : Nat := spillGbps (pagesIn (d.recentSpills t) q)

/-- A refused spill: cause SPILL_REFUSED, E64 on entry into saturation, E71 where no key is held (R312, R314). -/
def Dev.spillRefused (q need t : Nat) (d : Dev) : Dev :=
  let d1 := (d.cause (.buffer q) 2).perf 4 0x122 0 1
  let d2 := when (d.rd 0x5003 0xC2 = 0) (Dev.raise 71) d1
  if d.spillSaturated need t && !d.spillFull then ({ d2 with spillFull := true } : Dev).raise 64 else d2

/-- The 16 bytes of a page's tweak (R314): the page number as 64 bits, then the write count, each least significant byte first (log 163). -/
def tweakOf (number count : Nat) : Bytes := toLE 8 number ++ toLE 8 count

/-- The sealing key, data key first. -/
def Dev.sealKey (d : Dev) : Bytes := toBE 64 (d.keys.sealing.getD 0)

/-- The bytes of a page as deciphered. -/
def Dev.openPage (d : Dev) (p : Page) : Bytes := xts false d.sealKey (tweakOf p.number p.count) p.sealed

/-- A page written with `b` from offset `o` on: enciphered whole under its next write count (R314). -/
def Dev.writePage (o : Nat) (b : Bytes) (p : Page) (d : Dev) : Page × Dev :=
  let c := d.deepWrites + 1
  let plain := ((if o = 0 then [] else (d.openPage p).take o) ++ b ++ List.replicate (4096 - o - b.length) 0).take 4096
  ({ p with count := c, sealed := xts true d.sealKey (tweakOf p.number c) plain },
    ({ d with deepWrites := c } : Dev).perf 4 0x120 p.stack 1)

/-- The page that stack `s` gives next: the free one of lowest number, stack 1's following stack 0's (R311; log 163). -/
def Dev.nextPage (d : Dev) (s : Nat) (mine : List Page) : Nat :=
  let used := ((d.queues.flatMap (fun e => e.2.pages) ++ mine).filter (fun p => p.stack = s)).map (·.number)
  let free := (List.range (used.length + 1)).find? (fun k => !used.contains (stackPages * s + k))
  stackPages * s + free.getD 0

/-- `need` pages taken and written with the rest `b` of a frame, alternately from the stacks that take pages, stack `i` first (R311, R314);
`l` are the pages the queue has. The pages after it, and the stack whose turn comes next. -/
def Dev.takePages : Nat → Nat → Bytes → List Page → Dev → (List Page × Nat) × Dev
  | 0, i, _, l, d => ((l, i), d)
  | n + 1, i, b, l, d =>
    let s := if d.stackTakes i && d.pagesUsed i < stackPages then i else 1 - i
    let r := d.writePage 0 (b.take 4096) ⟨s, d.nextPage s l, 0, []⟩
    Dev.takePages n (1 - s) (b.drop 4096) (l ++ [r.1]) (r.2.pagesBy s 1 0)

/-- A frame packed behind what the pages of queue `k` hold, `need` more pages being taken (R311). -/
def Dev.packFrame (k : Queue) (need : Nat) (f : Frame) (d : Dev) : (List Page × Nat) × Dev :=
  let b := f.data ++ toLE 4 (crc32 f.data)
  match k.pages.getLast? with
  | none => Dev.takePages need k.stack b [] d
  | some p =>
    let r := if k.room = 0 || 2 ≤ p.stack then (p, d) else d.writePage (4096 - k.room) (b.take k.room) p
    Dev.takePages need k.stack (b.drop k.room) (k.pages.dropLast ++ [r.1]) r.2

/-- The pages that `len` more bytes need in a queue with `room` bytes free in its newest page. -/
def pagesNeeded (room len : Nat) : Nat := if len ≤ room then 0 else (len - room + 4095) / 4096

/-- A frame dropped with QUEUE_FULL at queue `x`. -/
def Dev.queueFull (x : Nat) (f : Frame) (d : Dev) : Dev := (d.cnt 7 x 2).drop dropQueueFull f

/-- A frame put in queue `x`, counted (R457). -/
def Dev.countIn (x : Nat) (f : Frame) (d : Dev) : Dev :=
  (((d.cnt 7 x 0).cntBy 7 x 3 f.len).cnt 5 (x / 8) (if f.line then 8 else 5)).perf (x / 65536) 0x030 0 1

/-- A frame spilled from arrival at queue `x` in cycle `t`: its pages, the counts. A grant ends a saturation; a frame that needs no page
takes none (R312). -/
def Dev.spill (x t : Nat) (f : Frame) (d : Dev) : Dev :=
  let k := d.queue x
  let q := x / 65536
  let need := pagesNeeded k.room f.len
  let r := d.packFrame k need f
  let d1 := r.2.setQ x { k with deep := k.deep ++ [(f, false)], pages := r.1.1, room := k.room + 4096 * need - f.len, stack := r.1.2 }
  let d2 : Dev := if need = 0 then d1 else { d1 with spillFull := false, spills := d1.recentSpills t ++ [(t, q, need)] }
  ((d2.countIn x f).cnt 7 x 4).perf q 0x034 0 need

/-- A frame stored in SRAM at queue `x`. -/
def Dev.storeSram (x : Nat) (f : Frame) (d : Dev) : Dev :=
  let k := d.queue x
  ((d.takeCells (x / 65536) k.pool (cellsOf f.len)).setQ x { k with sram := k.sram ++ [f] }).countIn x f

/-- The admission of a frame to its queue in cycle `t` (R308). DESIGN CHOICE: what a buffer keeps out while its checkpoint is DRAINING is
dropped with CROSSING_RESET, the reason of what R452 books (log 213). -/
def Dev.admission (t : Nat) (f : Frame) (d : Dev) : Dev :=
  let x := 8 * f.chan + f.cls
  let q := x / 65536
  let k := d.queue x
  let c := cellsOf f.len
  let need := pagesNeeded k.room f.len
  let spilling := !k.deep.isEmpty
  let wants := spilling || (k.maySpill && d.rd (0x5000 + 64 * q) 0xC6 = 1 && k.threshold < k.cells + c)
  let fits := k.held + need ≤ k.deepLimit
  let ok := d.spillOk q need t
  if d.assay.draining = some (bufDom q) then d.drop dropCrossingReset f
  else if wants && fits && ok then d.spill x t { f with since := t }
  else
    let d1 := if !wants then d else if !fits then d.cause (.buffer q) 3 else d.spillRefused q need t
    if spilling then d1.queueFull x f
    else if k.sramLimit < k.cells + c then d1.queueFull x f
    else if !d1.poolFits q k.pool c then (d1.cause (.buffer q) 0).queueFull x f
    else d1.storeSram x { f with since := t }

/-- The frame at the head of queue `x` taken out: its cells freed, the dequeue counted. -/
def Dev.dequeue (x : Nat) (d : Dev) : Option Frame × Dev :=
  let k := d.queue x
  match k.sram with
  | [] => (none, d)
  | f :: rest =>
    (some f, (((d.giveCells (x / 65536) k.pool (cellsOf f.len)).setQ x { k with sram := rest }).cnt 7 x 1).perf (x / 65536) 0x031 0 1)

/-- The pages of a queue given back. -/
def Dev.freePages (l : List Page) (d : Dev) : Dev := (l.filter (fun p => p.stack < 2)).foldl (fun x p => x.pagesBy p.stack 0 1) d

/-- Channel node `c`. -/
def Dev.node (d : Dev) (c : Nat) : Node := Tbl.get (fun _ => Node.init) d.nodes c
/-- Channel node `c` replaced. -/
def Dev.setNode (c : Nat) (x : Node) (d : Dev) : Dev := { d with nodes := Tbl.set (fun _ => Node.init) d.nodes c x }
/-- The scheduler of side `s`. -/
def Dev.sched (d : Dev) (s : Nat) : Sched := Tbl.get (fun _ => Sched.init) d.scheds s
/-- The scheduler of side `s` replaced. -/
def Dev.setSched (s : Nat) (x : Sched) (d : Dev) : Dev := { d with scheds := Tbl.set (fun _ => Sched.init) d.scheds s x }

/-- The deficits of channel `c` made 0 where nothing is left to serve: of each empty queue, and of the node with no frame at all (R321). -/
def Dev.settleDeficits (c : Nat) (d : Dev) : Dev :=
  let xs := (List.range 8).map (8 * c + ·)
  let d1 := (xs.filter (fun x => (d.queue x).isEmpty)).foldl (fun y x => y.setQ x { y.queue x with deficit := 0 }) d
  when (xs.all (fun x => (d.queue x).isEmpty)) (Dev.setNode c { d1.node c with deficit := 0 }) d1

/-- Every frame of queue `x` dropped with a reason, its spilled part included. -/
def Dev.emptyQueue (x reason : Nat) (d : Dev) : Dev :=
  let k := d.queue x
  let d1 := (d.giveCells (x / 65536) k.pool k.cells).freePages k.pages
  let d2 := d1.setQ x { Queue.init with word := k.word, stack := k.stack }
  ((k.sram ++ k.spilled).foldl (fun y f => y.drop reason f) d2).settleDeficits (x / 8)

/-- The queues of quadrant range `p` on which a frame stands, ascending. -/
def Dev.queuesWhere (d : Dev) (p : Nat → Bool) : List Nat :=
  d.queues.filterMap (fun e => if p e.1 && !e.2.isEmpty then some e.1 else none)

/-- The queues that feed side `s`: TX channels of LPn, RX channels of SPn (R319). -/
def Dev.feeds (d : Dev) (s x : Nat) : Bool :=
  let r := d.chan (x / 8)
  if s < 256 then !chRx r && chPair r = s else chRx r && chPair r = s - 256

/-- Every frame queued for side `s` dropped with a reason (R316). -/
def Dev.emptySide (s reason : Nat) (d : Dev) : Dev :=
  (d.queuesWhere (d.feeds s)).foldl (fun y x => y.emptyQueue x reason) d

/-! ## Policers (R328 to R330) -/

/-- Policer `x` = 1024q + p. -/
def Dev.policer (d : Dev) (x : Nat) : Policer := Tbl.get (fun _ => Policer.init) d.policers x
/-- Policer `x` replaced. -/
def Dev.setPolicer (x : Nat) (p : Policer) (d : Dev) : Dev := { d with policers := Tbl.set (fun _ => Policer.init) d.policers x p }

/-- One frame of a policer's level. -/
def frameUnit : Nat := 1600000000

/-- A policer with its levels accrued up to cycle `t` (R329). -/
def Policer.accrue (p : Policer) (t : Nat) : Policer :=
  { p with cLevel := min (p.cLevel + fld 31 0 p.word * (t - p.stamp)) (fld 79 64 p.word * frameUnit),
           pLevel := min (p.pLevel + fld 63 32 p.word * (t - p.stamp)) (fld 95 80 p.word * frameUnit), stamp := t }

/-- A frame presented to policer `x` of its quadrant in cycle `t`: whether it passes (R329). -/
def Dev.police (x t : Nat) (d : Dev) : Bool × Dev :=
  let p := d.policer x
  if !bit 96 p.word then (true, d.cnt 8 x 0)
  else
    let a := p.accrue t
    if a.pLevel < frameUnit then (false, ((d.setPolicer x a).cnt 8 x 2).cause (.buffer (x / 1024)) 20)
    else if a.cLevel < frameUnit then (true, (d.setPolicer x { a with pLevel := a.pLevel - frameUnit }).cnt 8 x 1)
    else (true, (d.setPolicer x { a with cLevel := a.cLevel - frameUnit, pLevel := a.pLevel - frameUnit }).cnt 8 x 0)

/-- A policer named by an object, 0xFFFF for none. -/
def Dev.policeBy (q v t : Nat) (d : Dev) : Bool × Dev := if v = 0xFFFF then (true, d) else d.police (1024 * q + v) t

/-! ## Punts (R59, R296, R306) -/

/-- Punted frames waiting in quadrant `q`. -/
def Dev.puntQ (d : Dev) (q : Nat) : List Punt := Tbl.get (fun _ => []) d.punts q
/-- Punted frames of quadrant `q` replaced. -/
def Dev.setPuntQ (q : Nat) (l : List Punt) (d : Dev) : Dev := { d with punts := Tbl.set (fun _ => []) d.punts q l }

/-- PUNT_USED and pool `p` of the punt queue changed. -/
def Dev.puntCells (q p up down : Nat) (d : Dev) : Dev :=
  ((d.wr (0x5000 + 64 * q) 0xCA (d.rd (0x5000 + 64 * q) 0xCA + up - down)).takeCells q p up).giveCells q p down

/-- A frame punted to ring `ring`: it waits in its quadrant's punt queue, or is dropped with QUEUE_FULL and E87 (R59, R306). -/
def Dev.puntTo (ring reason channel ts : Nat) (f : Frame) (d : Dev) : Dev :=
  let q := quadOf f.pair
  let c := cellsOf f.len
  let p := d.rd (0x5000 + 64 * q) 0xC8
  if d.assay.draining = some (bufDom q) then d.drop dropCrossingReset f
  else if d.rd (0x5000 + 64 * q) 0xCA + c ≤ d.rd (0x5000 + 64 * q) 0xC9 && d.poolFits q p c then
    (d.puntCells q p c 0).setPuntQ q (d.puntQ q ++
      [{ ring := ring, len := f.len, pool := p, pair := f.pair, line := f.line, reason := reason, channel := channel, ts := ts, data := f.data, own := f.own }])
  else
    let full := d.rd (0x5000 + 64 * q) 0xCA + c ≤ d.rd (0x5000 + 64 * q) 0xC9
    ((when full (Dev.cause (.buffer q) 0) (d.drop dropQueueFull f)).cause (.buffer q) 4).raise 87

/-- A punted frame delivered: forwarded and counted in PUNTED, unless the part originated it (R446). -/
def Dev.puntDone (own : Bool) (n : Nat) (line : Bool) (octets : Nat) (d : Dev) : Dev :=
  if own then d else (d.forwarded n line octets).cnt 1 n (dirBase line + 2)

/-- A frame punted to the control cluster; an MKPDU from the line of a pair with an enabled binding waits for it there (R250). -/
def Dev.puntFirm (reason channel ts : Nat) (f : Frame) (d : Dev) : Dev :=
  let mine := f.line && beAt 12 2 f.data = 0x888E && d.mkaBound f.pair
  let d1 : Dev := { d with keys := { d.keys with mkaIn := d.keys.mkaIn ++ (if mine then [(f.pair, f.data)] else []) } }
  (d1.emit (.puntFirm f.pair f.line reason channel ts f.data)).puntDone f.own f.pair f.line f.len

/-- A punt that no TCAM rule made: through PUNT_POLICER to PUNT_RING of the learning objects (R296). -/
def Dev.puntPlain (reason ts t : Nat) (f : Frame) (d : Dev) : Dev :=
  let q := quadOf f.pair
  let r := d.policeBy q (d.rd (0x4080 + q) 4) t
  if r.1 then r.2.puntTo (d.rd (0x4080 + q) 5) reason 0xFFFFFFFF ts f else r.2.drop dropPolicerRed f

/-! ## Gates (R331 to R338) -/

/-- The gate lists of side `s`. -/
def Dev.gate (d : Dev) (s : Nat) : Gate := Tbl.get (fun _ => Gate.init) d.gates s
/-- The gate lists of side `s` replaced. -/
def Dev.setGate (s : Nat) (g : Gate) (d : Dev) : Dev := { d with gates := Tbl.set (fun _ => Gate.init) d.gates s g }

/-- The effective durations of list entries over `c` remaining ns, with their states (R332). -/
def effDurs : Nat → List Nat → List (Nat × Nat)
  | _, [] => []
  | c, [e] => [(c, e % 256)]
  | c, e :: es => if c ≤ e / 256 then [(c, e % 256)] else (e / 256, e % 256) :: effDurs (c - e / 256) es

/-- The effective durations of a list. -/
def GateList.durs (l : GateList) : List (Nat × Nat) := if l.entries.isEmpty then [(l.cycle, l.states)] else effDurs l.cycle l.entries

/-- How long a class stays open from the start of a list of durations. -/
def openRun (cls : Nat) : List (Nat × Nat) → Nat
  | [] => 0
  | (n, st) :: t => if bit cls st then n + openRun cls t else 0

/-- The durations from offset `o` on, once round. -/
def rotate (o : Nat) : List (Nat × Nat) → List (Nat × Nat)
  | [] => []
  | (n, st) :: t => if o < n then (n - o, st) :: (t ++ [(o, st)]) else rotate (o - n) t ++ [(n, st)]

/-- Every duration is open for a class. -/
def neverCloses (cls : Nat) (l : List (Nat × Nat)) : Bool := l.all (fun e => bit cls e.2)

/-- LONGEST_WINDOW of a class in ns (R331). -/
def GateList.longest (l : GateList) (cls : Nat) : Nat :=
  let ds := l.durs
  if neverCloses cls ds then 0xFFFFFFFF
  else (List.range ds.length).foldl (fun m k => max m (openRun cls (ds.drop k ++ ds.take k))) 0

/-- GATE_ENABLE of side `s`. -/
def Dev.gatesOn (d : Dev) (s : Nat) : Bool := d.rd (0x5800 + s) 1 = 1

/-- The offset into a list's cycle at time `tm` (2^-32 ns). -/
def GateList.offset (l : GateList) (tm : Nat) : Nat :=
  ((Int.ofNat tm - Int.ofNat (l.base * 2 ^ 32)) % Int.ofNat (l.cycle * 2 ^ 32)).toNat

/-- The time in 2^-32 ns at which the cycle before a takeover at `at` (compact ns) has run its length and is extended, none where OPER_CYCLE_EXT
does not reach the takeover (R334). -/
def GateList.extends (l : GateList) (takeover : Nat) : Option Nat :=
  let o := l.offset (takeover * 2 ^ 32)
  if o ≤ l.ext * 2 ^ 32 then some (takeover * 2 ^ 32 - o) else none

/-- The first `c` of a list of durations. -/
def cutDurs : Nat → List (Nat × Nat) → List (Nat × Nat)
  | _, [] => []
  | c, (n, st) :: t => if c ≤ n then [(c, st)] else (n, st) :: cutDurs (c - n) t

/-- The gates of side `s` at time `tm`: the durations from now on in 2^-32 ns, none where no list changes them, and the present
states. Over a last cycle that is to be extended the last entry's states hold on from its end (R334, R335). -/
def Dev.gateView (d : Dev) (s tm : Nat) : Option (List (Nat × Nat)) × Nat :=
  let g := d.gate s
  if !d.gatesOn s then (none, 0xFF)
  else
    match g.oper with
    | none => (none, d.rd (0x5800 + s) 2)
    | some l =>
      let last := (l.durs.getLast?.map (·.2)).getD 0xFF
      let v := rotate (l.offset tm) (l.durs.map (fun e => (e.1 * 2 ^ 32, e.2)))
      let now := (v.head?.map (·.2)).getD 0xFF
      match g.submitted.bind (fun e => (l.extends e.2).map (fun a => (a, e.2 * 2 ^ 32))) with
      | none => (some v, now)
      | some (a, k) =>
        if k ≤ tm then (some v, now)
        else if a ≤ tm then (none, last)
        else if l.cycle * 2 ^ 32 ≤ a - tm then (some v, now)
        else (some (cutDurs (a - tm) v ++ [(2 ^ 96, last)]), now)

/-- A port's rate in Gb/s (R87). -/
def portGbps (code : Nat) : Nat :=
  match code with
  | 1 => 10 | 2 => 25 | 3 => 50 | 4 => 100 | 5 => 200 | 6 => 400 | 7 => 800 | _ => 1

/-- The rate of the port of side `s`. -/
def Dev.sideGbps (d : Dev) (s : Nat) : Nat := portGbps (d.rd (0x2000 + s % 256) 5)

/-- MAX_SDU of a class in force (R331). -/
def Dev.maxSdu (d : Dev) (s cls : Nat) : Nat :=
  let v := d.rd (0x5800 + s) (0x10 + cls)
  if v != 0 then v else if s < 256 then d.rd (0x2400 + s) 5 else 10240

/-- OVERHEAD of the port of side `s`. -/
def Dev.overhead (d : Dev) (s : Nat) : Nat := d.rd (0x5000 + s) 4

/-- A frame of `len` bytes as it leaves takes no longer than `win` (2^-32 ns) on side `s` (R335). -/
def Dev.txFits (d : Dev) (s len win : Nat) : Bool :=
  (len + d.overhead s) * 8 * 2 ^ 32 + d.rd (0x5800 + s) 0x18 * 2 ^ 32 * d.sideGbps s ≤ win * d.sideGbps s

/-- A frame of class `cls` and length `len` may start on side `s` at time `tm` (R335). -/
def Dev.mayStart (d : Dev) (s cls len tm : Nat) : Bool :=
  match d.gateView s tm with
  | (none, st) => bit cls st
  | (some v, _) => neverCloses cls v || (0 < openRun cls v && d.txFits s len (openRun cls v))

/-- A frame that can never start: longer than the longest window of its class in the operational list (R337). -/
def Dev.tooLong (d : Dev) (s cls len : Nat) : Bool :=
  d.gatesOn s && (d.gate s).oper.isSome && d.rd (0x5800 + s) (0x20 + cls) != 0xFFFFFFFF &&
    !d.txFits s len (d.rd (0x5800 + s) (0x20 + cls) * 2 ^ 32)

/-- The length of a frame as it leaves its port. -/
def Dev.exitLen (d : Dev) (f : Frame) : Nat := f.len + (if f.prot && !f.line then growth (d.chan f.chan) else 0)

end Sys2Proof.Machine
end

