-- ==== Sys2Proof/Machine/Queues.lean ====
section
/-! DEFINITION. Queue windows, pools, read-back, stacks and the port schedulers (R302 to R327). -/
namespace Sys2Proof.Machine

/-! ## Nodes and port shapers (R320 to R327) -/

/-- One byte of a shaper's level. -/
def byteUnit : Nat := 12800000

/-- A bucket accrued at `rate` kb/s over `dt` CCLK cycles, up to its burst in bytes (R326). -/
def accrued (rate burst dt : Nat) (level : Int) : Int := min (level + Int.ofNat (rate * dt)) (Int.ofNat (burst * byteUnit))

/-- A node with its levels accrued up to cycle `t`. -/
def Node.accrue (x : Node) (t : Nat) : Node :=
  { x with cLevel := accrued (fld 31 0 x.word) (fld 87 64 x.word) (t - x.stamp) x.cLevel,
           pLevel := accrued (fld 63 32 x.word) (fld 111 88 x.word) (t - x.stamp) x.pLevel, stamp := t }

/-- The port shaper of side `s` accrued up to cycle `t`. -/
def Dev.portAccrue (d : Dev) (s t : Nat) : Sched :=
  let x := d.sched s
  { x with level := accrued (d.rd (0x5000 + s) 2) (d.rd (0x5000 + s) 3) (t - x.stamp) x.level, stamp := t }

/-- The tier of a node: 0 committed, 1 excess, none; a shaped node of PIR 0 is never in one (R320, R325). -/
def Node.tier (x : Node) : Option Nat :=
  if !bit 112 x.word then some 0
  else if fld 63 32 x.word = 0 || x.pLevel ≤ 0 then none
  else if 0 < x.cLevel then some 0 else some 1

/-- A port-shaper object of side `s` written: the level is set to the burst, or to 0 where PORT_TOKEN_RESET is 1 (R324, R327). -/
def effPortShape (s j t : Nat) : Eff := fun _ v d =>
  let changed := v != d.rd (0x5000 + s) j
  let d1 := d.wr (0x5000 + s) j v
  let x := d1.portAccrue s t
  let full := Int.ofNat (d1.rd (0x5000 + s) 3 * byteUnit)
  (0, when changed (Dev.setSched s { x with level := if d1.rd (0x5000 + s) 5 = 1 then 0 else full }) d1)

/-! ## Selection (R320 to R323) -/

/-- The next item of a rising list after `cur`, going round. -/
def nextOf (l : List Nat) (cur : Option Nat) : Option Nat :=
  match cur with
  | none => l.head?
  | some c => (l.find? (c < ·)).or l.head?

/-- One deficit round robin over the eligible items `l`: `get` reads an item's deficit, `add` gives it its quantum (R321). The answer
is the item whose turn it is, once its deficit is above 0. -/
def drr (l : List Nat) (get : Nat → Dev → Int) (add : Nat → Dev → Dev) : Nat → Option Nat → Dev → Option Nat × Dev
  | 0, _, d => (none, d)
  | f + 1, cur, d =>
    match nextOf l cur with
    | none => (none, d)
    | some c =>
      let d1 := add c d
      if 0 < get c d1 then (some c, d1) else drr l get add f (some c) d1

/-- The turn under deficit round robin: kept while its holder is eligible with a deficit above 0 (R321). -/
def turn (l : List Nat) (get : Nat → Dev → Int) (add : Nat → Dev → Dev) (cur : Option Nat) (d : Dev) : Option Nat × Dev :=
  match cur with
  | some c => if l.contains c && 0 < get c d then (some c, d) else drr l get add (200 * (l.length + 1)) cur d
  | none => drr l get add (200 * (l.length + 1)) none d

/-- A frame dropped for its length; on egress counted OUT_TOO_LONG (R132, R157). -/
def Dev.overSdu (f : Frame) (d : Dev) : Dev := when (!f.line) (Dev.cnt 4 f.pair 1) (d.drop dropOversize f)

/-- The same of a frame over LINE_MTU, which is cause OVERSIZE (R159). -/
def Dev.overLong (f : Frame) (d : Dev) : Dev := (d.overSdu f).cause (.pair f.pair) 9

/-- Frames at the head of queue `x` that can never leave by side `s` dropped: over MAX_SDU, or longer than the class's longest window
(R336, R337). -/
def Dev.purgeHead (s x : Nat) : Nat → Dev → Dev
  | 0, d => d
  | n + 1, d =>
    match (d.queue x).sram with
    | [] => d
    | f :: _ =>
      let len := d.exitLen f
      let exceeds := d.maxSdu s (x % 8) < len
      if exceeds || d.tooLong s (x % 8) len then
        Dev.purgeHead s x n ((if exceeds then (d.dequeue x).2.overSdu f else (d.dequeue x).2.drop dropTooLong f).settleDeficits (x / 8))
      else d

/-- Queue `x` is eligible on side `s` at cycle `t`: a frame in SRAM, not held whole for its verdict, that its gate lets start (R151,
R320). -/
def Dev.queueEligible (d : Dev) (s t x : Nat) : Bool :=
  match (d.queue x).sram with
  | [] => false
  | f :: _ => f.wait != .whole && d.mayStart s (x % 8) (d.exitLen f) (d.quadTime (quadOf (s % 256)) t)

/-- The selection at side `s` in cycle `t`: the queue chosen, and whether as strict (R320 to R323). -/
def Dev.choose (s t : Nat) (d : Dev) : Option (Nat × Bool) × Dev :=
  let live := (d.queuesWhere (d.feeds s)).filter (d.queueEligible s t)
  let nodes := ((live.map (· / 8)).eraseDups).filter (fun c => !d.keys.suspended.contains c)
  let tier := fun (k : Nat) => nodes.filter (fun c => ((d.node c).accrue t).tier = some k)
  let l := if (tier 0).isEmpty then tier 1 else tier 0
  let r := turn l (fun c y => (y.node c).deficit)
    (fun c y => y.setNode c { y.node c with deficit := (y.node c).deficit + Int.ofNat (fld 143 128 (y.node c).word) }) (d.sched s).turn d
  match r.1 with
  | none => (none, r.2)
  | some c =>
    let d1 := r.2.setSched s { r.2.sched s with turn := some c }
    let mine := (live.filter (fun x => x / 8 = c)).map (· % 8)
    let strict := d1.rd (0x5000 + s) 1
    match mine.reverse.find? (fun k => bit k strict) with
    | some k => (some (8 * c + k, true), d1)
    | none =>
      let q := turn mine (fun k y => (y.queue (8 * c + k)).deficit)
        (fun k y => y.setQ (8 * c + k) { y.queue (8 * c + k) with
          deficit := (y.queue (8 * c + k)).deficit + Int.ofNat (y.queue (8 * c + k)).quantum }) (d1.node c).turn d1
      match q.1 with
      | none => (none, q.2)
      | some k => (some (8 * c + k, false), q.2.setNode c { q.2.node c with turn := some k })

/-- Side `s` sends frames: its pair is in FRAME or PASS mode, the side is UP or looped at its PCS, its slice is not fenced, nothing
holds the pair. DESIGN CHOICE: a near-end loopback that replaces the port of an IDLE side still takes its frames (log 164). -/
def Dev.sends (d : Dev) (s : Nat) : Bool :=
  (d.mode (s % 256) = pmFrame || d.mode (s % 256) = pmPass) && (d.sideState s = stUp || d.looped s) && !d.isFenced (pacer s) &&
  !d.quiesced && !d.farLoop s

/-- The port shaper lets side `s` serve (R320). -/
def Dev.portMayServe (d : Dev) (s t : Nat) : Bool := d.rd (0x5000 + s) 2 = 0 || 0 < (d.portAccrue s t).level

/-- The SA that a frame of channel `c` would be bound to is EXHAUSTED (R125). -/
def Dev.saSpent (d : Dev) (c : Nat) : Bool := (d.sa (d.saOf c (chAn (d.chan c)))).state = saExhausted

/-- A frame drawn for side `s` in cycle `t`: it waits for its staging store, toward the line for SA fetch. -/
def Dev.sendFrom (s t : Nat) (f : Frame) (d : Dev) : Dev :=
  (d.setInE (pacer s) (d.inE (pacer s) ++ [⟨f, 0, f.prot && d.saSpent f.chan, false⟩])).refill s t

/-- The port of side `s` may be given another frame: the last one has been handed to its slice in full, one at most is still on its way, and
the slice has room (R323, R348, R353); a slice whose checkpoint is DRAINING takes none (R452). -/
def Dev.mayDraw (d : Dev) (s : Nat) : Bool :=
  d.sliceRoom (pacer s) && d.assay.draining != some (sliceDom (pacer s)) && !d.handing s && (d.staged s).length + (d.drawn s).length < 2

/-- The scheduler of side `s` selects and dequeues one frame in cycle `t` (R323). An uncorrectable error in the first cell read drops
it (`ecc` 2), in a later one ends it with an error block (`ecc` 3, R480); 0 and 1 are no error and a corrected one. An armed
injection of point 0x03 corrupts the read (R486). -/
def Dev.select (s t ecc : Nat) (d : Dev) : Dev :=
  if !d.sends s || !d.mayDraw s || !d.portMayServe s t then d
  else
    let d0 := (d.queuesWhere (d.feeds s)).foldl (fun y x => y.purgeHead s x (y.queue x).sram.length) d
    let r := d0.choose s t
    match r.1 with
    | none => r.2
    | some (x, strict) =>
      let e := r.2.dequeue x
      match e.1 with
      | none => e.2
      | some g =>
        let f : Frame := { g with strict := strict }
        let hit := e.2.armed 0x03 (fun i _ => i = x / 65536)
        let d1 := when hit.isSome Dev.struck e.2
        let ecc := max ecc (hitBits hit)
        if ecc = 2 then ((d1.drop dropMemoryError f).condition 1).settleDeficits (x / 8)
        else if 3 ≤ ecc then ((d1.condition 1).cause (.buffer (x / 65536)) 5).sendFrom s t { f with fcs := .errorBlock }
        else d1.sendFrom s t f

/-- R323: the port scheduler of a side selects and dequeues one frame. -/
def execSchedulerSelect (side t ecc : Nat) (s : State) : Out := actAt (side < 512) t (Dev.ifRuns (bufDom (quadOf (side % 256))) (Dev.select side t ecc)) s

/-- Frame `f` has ended on side `s` in cycle `t`: its charged length taken from the levels and the deficits; the deficit of a queue or
node left empty is 0 (R321, R326). -/
def Dev.charge (s t : Nat) (f : Frame) (d : Dev) : Dev :=
  let len := f.sent + d.overhead s
  let used := Int.ofNat (len * byteUnit)
  let p := d.portAccrue s t
  let d1 := d.setSched s { p with level := p.level - used }
  let n := (d1.node f.chan).accrue t
  let d2 := d1.setNode f.chan { n with cLevel := n.cLevel - used, pLevel := n.pLevel - used, deficit := n.deficit - Int.ofNat len }
  let k := d2.queue (8 * f.chan + f.cls)
  (d2.setQ (8 * f.chan + f.cls) { k with deficit := if f.strict then k.deficit else k.deficit - Int.ofNat len }).settleDeficits f.chan

/-! ## Queue windows (R317, R318) -/

/-- Index and first subindex of queue window n = 4q + w. -/
def qwIndex (n : Nat) : Nat := 0x5001 + 64 * (n / 4)
/-- The first subindex of queue window n = 4q + w. -/
def qwSub (n : Nat) : Nat := 0xC0 + 16 * (n % 4)

/-- DATA0 to DATA3 of a window as one number. -/
def Dev.qwData (d : Dev) (n : Nat) : Nat := (List.range 4).foldl (fun a k => a + d.rd (qwIndex n) (qwSub n + 3 + k) * 2 ^ (64 * k)) 0

/-- STATUS with RESULT `r`. -/
def Dev.qwDone (n r : Nat) (d : Dev) : Dev := d.wr (qwIndex n) (qwSub n + 7) (r * 256)

/-- The record a READ copies, in cycle `t` (R318). -/
def Dev.qwRecord (d : Dev) (q table i t : Nat) : Nat :=
  if table = 0 then (d.queue i).word
  else if table = 1 then
    let x := (d.node i).accrue t
    x.word + b2n (d.keys.suspended.contains i) * 2 ^ 114 + ofInt 32 (x.cLevel / Int.ofNat byteUnit) * 2 ^ 160 +
      ofInt 32 (x.pLevel / Int.ofNat byteUnit) * 2 ^ 192
  else
    let x := (d.policer (1024 * q + i)).accrue t
    x.word + x.cLevel / frameUnit % 2 ^ 16 * 2 ^ 128 + x.pLevel / frameUnit % 2 ^ 16 * 2 ^ 144

/-- A queue record keeps R307 and names its pool as R306 lets it. -/
def Dev.queueWordOk (d : Dev) (q v : Nat) : Bool :=
  fld 7 5 v = 0 && fld 127 82 v = 0 && 1 ≤ fld 24 8 v && fld 24 8 v ≤ 98304 &&
  (!bit 4 v || (32 ≤ fld 41 25 v && fld 41 25 v ≤ fld 24 8 v)) && fld 65 42 v ≤ 12582912 && 64 ≤ fld 81 66 v &&
  (fld 3 0 v = 15 || d.rd (0x5000 + 64 * q) (0xF0 + fld 3 0 v) = 1)

/-- A node record keeps R325. -/
def nodeWordOk (v : Nat) : Bool :=
  fld 127 115 v = 0 && fld 159 144 v = 0 && fld 255 224 v = 0 && 64 ≤ fld 143 128 v &&
  (!bit 112 v || (fld 31 0 v ≤ fld 63 32 v && (fld 31 0 v = 0 || 64 ≤ fld 87 64 v) && (fld 63 32 v = 0 || 64 ≤ fld 111 88 v)))

/-- A policer record keeps R328. -/
def policerWordOk (v : Nat) : Bool :=
  fld 127 98 v = 0 && fld 255 160 v = 0 &&
  (!bit 96 v || (fld 31 0 v ≤ fld 63 32 v && 1 ≤ fld 79 64 v && fld 79 64 v ≤ fld 95 80 v))

/-- A WRITE of a queue record: its RESULT and the block after it (R307, R318). -/
def Dev.writeQueue (q x v : Nat) (d : Dev) : Nat × Dev :=
  let k := d.queue x
  let w := v % 2 ^ 128
  if !d.queueWordOk q w then (2, d)
  else if fld 3 0 w != k.pool && !k.isEmpty then (3, d)
  else (0, d.setQ x { k with word := w })

/-- A WRITE of a node record (R325, R327). -/
def Dev.writeNode (c v t : Nat) (d : Dev) : Nat × Dev :=
  if !nodeWordOk v then (2, d)
  else
    let x := (d.node c).accrue t
    let w := clrBit 114 (v % 2 ^ 144)
    let full := !bit 113 w
    let x1 := { x with word := w }
    (0, d.setNode c (if w % 2 ^ 114 = x.word % 2 ^ 114 then x1
      else { x1 with cLevel := if full then Int.ofNat (fld 87 64 w * byteUnit) else 0,
                     pLevel := if full then Int.ofNat (fld 111 88 w * byteUnit) else 0 }))

/-- A WRITE of a policer record (R327, R328). -/
def Dev.writePolicer (x v t : Nat) (d : Dev) : Nat × Dev :=
  if !policerWordOk v then (2, d)
  else
    let p := (d.policer x).accrue t
    let w := v % 2 ^ 98
    (0, d.setPolicer x (if w = p.word then p
      else { p with word := w, cLevel := if bit 97 w then 0 else fld 79 64 w * frameUnit,
                               pLevel := if bit 97 w then 0 else fld 95 80 w * frameUnit }))

/-- The delay of a queue's head frame in ns at cycle `t`. -/
def Queue.delay (k : Queue) (t : Nat) : Nat :=
  match (k.sram ++ k.spilled).head? with
  | some f => min ((t - f.since) * 5 / 8) (2 ^ 32 - 1)
  | none => 0

/-- The side that queue `x` feeds (R319). -/
def Dev.sideOfQueue (d : Dev) (x : Nat) : Nat := if chRx (d.chan (x / 8)) then 256 + chPair (d.chan (x / 8)) else chPair (d.chan (x / 8))

/-- What STATUS of queue `x` gives, in cycle `t` (R318). -/
def Dev.queueStatus (d : Dev) (x t : Nat) : Nat :=
  let k := d.queue x
  let s := d.sideOfQueue x
  let wait := k.sram.head?.any (fun f => !d.mayStart s (x % 8) (d.exitLen f) (d.quadTime (quadOf (s % 256)) t))
  k.bytes % 2 ^ 48 + b2n (!k.deep.isEmpty) * 2 ^ 48 + b2n wait * 2 ^ 49 + (k.cells % 2 ^ 17 + k.held % 2 ^ 24 * 2 ^ 17) * 2 ^ 64 +
    (min (k.sram.length + k.spilled.length) (2 ^ 32 - 1) + k.delay t * 2 ^ 32) * 2 ^ 128 + ofInt 32 k.deficit * 2 ^ 192

/-- What CMD of queue window `n` does with code `v` in cycle `t` (R317, R318). -/
def effQueueCmd (n t : Nat) : Eff := fun _ v d =>
  let q := n / 4
  let table := d.rd (qwIndex n) (qwSub n + 1)
  let i := d.rd (qwIndex n) (qwSub n + 2)
  let inside := if table = 0 then i / 65536 = q else if table = 1 then i / 8192 = q else i < 1024
  if v = 0 || 4 < v || (2 < v && table != 0) then (0, d.qwDone n 4)
  else if !inside then (0, d.qwDone n 1)
  else
    match v with
    | 1 => (0, (d.putWords (qwIndex n) (qwSub n + 3) 4 (d.qwRecord q table i t)).qwDone n 0)
    | 2 =>
      let r := if table = 0 then d.writeQueue q i (d.qwData n) else if table = 1 then d.writeNode i (d.qwData n) t
        else d.writePolicer (1024 * q + i) (d.qwData n) t
      (0, r.2.qwDone n r.1)
    | 3 => (0, (d.putWords (qwIndex n) (qwSub n + 3) 4 (d.queueStatus i t)).qwDone n 0)
    | _ => (0, (d.emptyQueue i dropUnclassified).qwDone n 0)

/-- A CMD of code `code` on a path at queue window `n`. -/
def Dev.queueCmd (n code t : Nat) (p : Path) (d : Dev) : Dev :=
  Dev.write (effQueueCmd n t) (qwIndex n) (qwSub n) ⟨p, 2, 1, code⟩ d

/-- R318: READ of a queue window. -/
def execQueueWindowRead (n t : Nat) (p : Path) (s : State) : Out := actAt (n < 16) t (Dev.queueCmd n 1 t p) s

/-- R318: WRITE of a queue window. -/
def execQueueWindowWrite (n t : Nat) (p : Path) (s : State) : Out := actAt (n < 16) t (Dev.queueCmd n 2 t p) s

/-- R318: STATUS of a queue window. -/
def execQueueWindowStatus (n t : Nat) (p : Path) (s : State) : Out := actAt (n < 16) t (Dev.queueCmd n 3 t p) s

/-- R318: FLUSH of a queue window. -/
def execFlush (n t : Nat) (p : Path) (s : State) : Out := actAt (n < 16) t (Dev.queueCmd n 4 t p) s

/-! ## Pools (R305, R306) -/

/-- A queue record of quadrant `q` names pool `p`. -/
def Dev.poolNamed (d : Dev) (q p : Nat) : Bool := d.queues.any (fun e => e.1 / 65536 = q && e.2.pool = p)

/-- What a write of POOL_OWNER of pool `p` does (R306). -/
def effPoolOwner (q p : Nat) : Eff := fun _ v d =>
  let i := 0x5000 + 64 * q
  let cur := d.rd i (0xF0 + p)
  if v != 0 && cur != 0 && cur != v then (abConflict, d)
  else if v = 0 && (d.poolUsed q p != 0 || d.poolNamed q p || d.rd i 0xC8 = p) then (abState, d)
  else (0, d.wr i (0xF0 + p) v)

/-- R306: POOL_OWNER of pool `p` of quadrant `q`. -/
def execPoolOwner (q p : Nat) (w : Wr) (s : State) : Out :=
  actIf (q < 4 && p < 15) (Dev.write (effPoolOwner q p) (0x5000 + 64 * q) (0xF0 + p) w) s

/-- What a write of POOL_SIZE of pool `p` does (R305). -/
def effPoolSize (q p : Nat) : Eff := fun _ v d =>
  let i := 0x5000 + 64 * q
  let others := (List.range 15).foldl (fun a k => if k = p then a else a + d.poolSize q k) 0
  if 98304 < others + v then (abRange, d) else (0, (d.wr i (0xD0 + p) v).wr i 0xDF (98304 - (others + v)))

/-- What a write of PUNT_POOL does (R306). -/
def effPuntPool (q : Nat) : Eff := fun _ v d =>
  if v = 15 || d.rd (0x5000 + 64 * q) (0xF0 + v) = 2 then (0, d.wr (0x5000 + 64 * q) 0xC8 v) else (abRange, d)

/-! ## Read-back and stacks (R310, R313) -/

/-- The spilled frames that overlap bytes `lo` to `hi` of the stream, marked as dropped; `a` is the offset of the first. -/
def markDead (lo hi : Nat) : Nat → List (Frame × Bool) → List (Frame × Bool)
  | _, [] => []
  | a, (f, b) :: t => (f, b || (a < hi && lo < a + f.len)) :: markDead lo hi (a + f.len) t

/-- The frames newly marked between two states of a spilled list. -/
def newlyDead (old new : List (Frame × Bool)) : List Frame :=
  (old.zip new).filterMap (fun e => if !e.1.2 && e.2.2 then some e.2.1 else none)

/-- The spilled list of queue `x` made `l`, with its cells; one with nothing left ends spilling, its pages freed. -/
def Dev.dropSpilled (x : Nat) (l : List (Frame × Bool)) (d : Dev) : Dev :=
  let k := d.queue x
  let k1 := { k with deep := l }
  let d1 := (d.giveCells (x / 65536) k.pool (k.partCells - k1.partCells)).setQ x k1
  if l.all (·.2) then
    ((d1.freePages k.pages).setQ x { d1.queue x with deep := [], pages := [], readBack := 0, room := 0 }).settleDeficits (x / 8)
  else d1

/-- The same, frames newly marked being dropped with MEMORY_ERROR. -/
def Dev.setDeep (x : Nat) (l : List (Frame × Bool)) (d : Dev) : Dev :=
  (newlyDead (d.queue x).deep l).foldl (fun y f => y.drop dropMemoryError f) (d.dropSpilled x l)

/-- The frames whole within the first `pos` bytes of the stream, the rest, and the bytes of the first of the rest. -/
def takeWhole : Nat → List (Frame × Bool) → List (Frame × Bool) × List (Frame × Bool) × Nat
  | pos, [] => ([], [], pos)
  | pos, e :: t =>
    if e.1.len ≤ pos then
      let r := takeWhole (pos - e.1.len) t
      (e :: r.1, r.2.1, r.2.2)
    else ([], e :: t, pos)

/-- The oldest page of queue `x` read back whole: its frames move to SRAM, the page is freed (R310). -/
def Dev.readPage (x : Nat) (d : Dev) : Dev :=
  let k := d.queue x
  match k.pages with
  | [] => d
  | p :: rest =>
    let n := if rest.isEmpty then 4096 - k.room else 4096
    let r := takeWhole (k.readBack + n) k.deep
    let done := (r.1.filter (fun e => !e.2)).map (·.1)
    let k1 : Queue := { k with sram := k.sram ++ done, deep := r.2.1, pages := rest, readBack := if r.2.1.isEmpty then 0 else r.2.2,
                               room := if r.2.1.isEmpty then 0 else k.room }
    if d.poolFits (x / 65536) k.pool (k1.cells - k.cells) then
      (((((d.takeCells (x / 65536) k.pool (k1.cells - k.cells)).setQ x k1).freePages [p]).perf (x / 65536) 0x035 0 1).perf 4 0x121 p.stack
        1).settleDeficits (x / 8)
    else d

/-- A page of queue `x` is read back while it spills and holds fewer SRAM cells than SPILL_THRESHOLD; `ecc` 1 is a corrected error,
2 or more an uncorrectable one (R310, R313). An armed injection of point 0x04 corrupts the read (R486). -/
def Dev.readback (x ecc : Nat) (d : Dev) : Dev :=
  let k := d.queue x
  match k.pages with
  | [] => d
  | p :: rest =>
    if k.threshold ≤ k.cells then d
    else
      let n := if rest.isEmpty then 4096 - k.room else 4096
      let hit := d.armed 0x04 (fun i _ => i = p.stack)
      let d := when hit.isSome Dev.struck d
      let ecc := max ecc (hitBits hit)
      if ecc = 0 || 2 ≤ p.stack then d.readPage x
      else if ecc = 1 then ((d.count 64 0x5003 (0xD1 + 8 * p.stack) 1).raise (67 + p.stack)).readPage x
      else (((d.count 64 0x5003 (0xD2 + 8 * p.stack) 1).raise (65 + p.stack)).setDeep x
        (markDead k.readBack (k.readBack + n) 0 k.deep)).condition 1 |>.readPage x

/-- R310: a spilling queue reads its oldest spilled page back. -/
def execReadback (x ecc : Nat) (s : State) : Out := actIf (x / 8 < 32768) (Dev.ifRuns (bufDom (x / 65536)) (Dev.readback x ecc)) s

/-- The last of a list of spilled frames, which is lost with its page, made to fill that page. -/
def padLast (room : Nat) : List (Frame × Bool) → List (Frame × Bool)
  | [] => []
  | [e] => [({ e.1 with data := e.1.data ++ List.replicate room 0 }, e.2)]
  | e :: t => e :: padLast room t

/-- The pages of queue `x` on stack `s` lost: frames wholly or partly in them dropped with MEMORY_ERROR (R313). -/
def Dev.loseQueuePages (s x : Nat) (d : Dev) : Dev :=
  let k := d.queue x
  let hit := (List.range k.pages.length).filter (fun i => (k.pages[i]?.map (·.stack)) = some s)
  let l := hit.foldl (fun a i => markDead (k.readBack + 4096 * i) (k.readBack + 4096 * (i + 1)) 0 a) k.deep
  let newest := (k.pages.getLast?.map (·.stack)) = some s
  let d1 := (d.freePages (k.pages.filter (fun p => p.stack = s))).cntBy 0xA s 3 hit.length
  let d2 := d1.setQ x { k with pages := k.pages.map (fun p => if p.stack = s then { p with stack := 2 } else p),
                               room := if newest then 0 else k.room }
  d2.setDeep x (if newest then padLast k.room l else l)

/-- Every page of stack `s` lost, E70 where it held any (R313). -/
def Dev.losePages (s : Nat) (d : Dev) : Dev :=
  let held := (d.queues.filter (fun e => e.2.pages.any (fun p => p.stack = s))).map (·.1)
  when (!held.isEmpty) (Dev.raise 70) (held.foldl (fun y x => y.loseQueuePages s x) d)

/-- Stack `s` fails (R313): STACK_STATE reads FAILED, its pages are lost. -/
def Dev.stackFails (s : Nat) (d : Dev) : Dev :=
  if d.isLive (137 + s) then ((d.wr 0x5003 (0xD3 + 8 * s) 3).losePages s).syncStacks else d

/-- R313: a stack fails. -/
def execStackFailed (k : Nat) (s : State) : Out := actIf (k < 2) (Dev.stackFails k) s

/-- A stack's training ends (R403): READY or FAILED. -/
def Dev.stackTrained (s : Nat) (ok : Bool) (d : Dev) : Dev :=
  if d.stackState s = 1 then (d.wr 0x5003 (0xD3 + 8 * s) (if ok then 2 else 3)).syncStacks else d

/-- R403: a stack's training ends. -/
def execStackTrainingDone (k : Nat) (ok : Bool) (s : State) : Out := actIf (k < 2) (Dev.stackTrained k ok) s

end Sys2Proof.Machine
end

