-- ==== Sys2Proof/Machine/Gates.lean ====
section
/-! DEFINITION. Gate control lists and their takeover (R331 to R338), and the queue sampler (R339 to R341). -/
namespace Sys2Proof.Machine

/-- Entry `k` of the administrative list of side `s`. -/
def Dev.adminEntry (d : Dev) (s k : Nat) : Nat := d.rd (0x5800 + s) (0x40 + k / 2) / 2 ^ (32 * (k % 2)) % 2 ^ 32

/-- The administrative list of side `s`, its base as compact time. -/
def Dev.adminList (d : Dev) (s : Nat) : GateList :=
  { cycle := d.rd (0x5800 + s) 4, ext := d.rd (0x5800 + s) 5, base := compactOf (d.rd (0x5800 + s) 6),
    entries := (List.range (d.rd (0x5800 + s) 3)).map (d.adminEntry s), states := d.rd (0x5800 + s) 2 }

/-- The earliest base + N × cycle at least 10 µs after `now` (R333). -/
def takeoverAt (l : GateList) (now : Nat) : Nat :=
  if reached (now + 10000) l.base then
    (l.base + ((now + 10000 + 2 ^ 64 - l.base) % 2 ^ 64 + l.cycle - 1) / l.cycle * l.cycle) % 2 ^ 64
  else l.base

/-- What CONFIG_CHANGE of side `s` does (R333). -/
def effConfigChange (s : Nat) : Eff := fun _ _ d =>
  let l := d.adminList s
  let k := takeoverAt l d.compact
  if l.entries.any (fun e => e / 256 < 64) || l.cycle < l.ext || (d.isOn 141 && tooFarAhead d.compact k) then (abRange, d)
  else
    let r := d.schedule (.gate s) k
    if r.1 != 0 then (r.1, d)
    else (0, ((r.2.setGate s { r.2.gate s with submitted := some (l, k) }).wr (0x5800 + s) 9 1).wr (0x5800 + s) 0xA
      (time96Of (k * 2 ^ 32)))

/-- R333: CONFIG_CHANGE. -/
def execConfigChange (g : Nat) (w : Wr) (s : State) : Out :=
  actIf (g < 512) (Dev.write (effConfigChange g) (0x5800 + g) 7 w) s

/-- What CONFIG_CANCEL of side `s` does (R333). -/
def effConfigCancel (s : Nat) : Eff := fun _ _ d =>
  if d.rd (0x5800 + s) 9 = 0 then (abState, d)
  else
    let d1 := d.unschedule (sameOwner (.gate s))
    (0, (d1.setGate s { d1.gate s with submitted := none }).wr (0x5800 + s) 9 0)

/-- R333: CONFIG_CANCEL. -/
def execConfigCancel (g : Nat) (w : Wr) (s : State) : Out :=
  actIf (g < 512) (Dev.write (effConfigCancel g) (0x5800 + g) 8 w) s

/-- The gates of side `s` made to follow their list at cycle `t`: a gate that closes over the frame being sent counts OVERRUN (R331,
R335). -/
def Dev.gateSync (s t : Nat) (d : Dev) : Dev :=
  let g := d.gate s
  let st := (d.gateView s (d.quadTime (quadOf (s % 256)) t)).2
  let d1 := d.setGate s { g with now := st }
  match d.current s with
  | some f =>
    if bit f.cls g.now && !bit f.cls st then (d1.count 64 (0x5800 + s) 0x19 1).cause (.buffer (quadOf (s % 256))) 19 else d1
  | none => d1

/-- R332: a gate list's entry ends and the next one's states apply. -/
def execGateTransition (g t : Nat) (s : State) : Out := actAt (g < 512) t (Dev.ifRuns (bufDom (quadOf (g % 256))) (Dev.gateSync g t)) s

/-- The submitted list of side `s` takes over (R333, R334). -/
def Dev.takeover (s t : Nat) (d : Dev) : Dev :=
  let g := d.gate s
  let i := 0x5800 + s
  match g.submitted with
  | none => d
  | some (l, k) =>
    let d1 := d.setGate s { g with submitted := none, oper := some l }
    let d2 := (((((d1.wr i 0xB l.entries.length).wr i 0xC l.cycle).wr i 0xD l.ext).wr i 0xE (time96Of (l.base * 2 ^ 32))).wr i 0xF
      (time96Of (k * 2 ^ 32))).wr i 9 0
    let d3 := (List.range 8).foldl (fun x c => x.wr i (0x20 + c) (l.longest c)) d2
    (d3.cause (.buffer (quadOf (s % 256))) 18).gateSync s t

/-- A handed action whose target the quadrant's time has reached in cycle `t`, while CCLK runs there (R375, R395, R416). -/
def Dev.due (d : Dev) (q t : Nat) (e : SchedEntry) : Bool :=
  d.runs (bufDom q) && (d.follower q).valid && reached (d.quadTime q t / 2 ^ 32 % 2 ^ 64) e.target

/-- The handed takeover of side `s`, if it is due, taken out and carried out. -/
def Dev.gateTakeover (s t : Nat) (d : Dev) : Dev :=
  if d.time.handed.any (fun e => e.owner = .gate s && d.due (quadOf (s % 256)) t e) then
    ({ d with time := { d.time with handed := d.time.handed.filter (fun e => e.owner != .gate s) } } : Dev).takeover s t
  else d

/-- R334: the takeover of a side's submitted list, in cycle `t`. -/
def execGateTakeover (g t : Nat) (s : State) : Out := actAt (g < 512) t (Dev.ifRuns (bufDom (quadOf (g % 256))) (Dev.gateTakeover g t)) s

/-- What a write of GATE_ENABLE does (R338). -/
def effGateEnable (s t : Nat) : Eff := fun _ v d => (0, (d.wr (0x5800 + s) 1 v).gateSync s t)

/-- R338: GATE_ENABLE. -/
def execGateEnable (g t : Nat) (w : Wr) (s : State) : Out :=
  actAt (g < 512) t (Dev.write (effGateEnable g t) (0x5800 + g) 1 w) s

/-- OPER_PAIR of side `s` (R331). -/
def Dev.operPair (d : Dev) (s : Nat) : Nat :=
  let l := match (d.gate s).oper with
    | some l => l.entries
    | none => []
  nth 0 l (2 * d.rd (0x5800 + s) 0x1A) + nth 0 l (2 * d.rd (0x5800 + s) 0x1A + 1) * 2 ^ 32

/-! ## The sampler (R339 to R341) -/

/-- The sampler of quadrant `q`. -/
def Dev.sampler (d : Dev) (q : Nat) : Sampler := Tbl.get (fun _ => Sampler.init) d.samplers q
/-- The sampler of quadrant `q` replaced. -/
def Dev.setSampler (q : Nat) (x : Sampler) (d : Dev) : Dev := { d with samplers := Tbl.set (fun _ => Sampler.init) d.samplers q x }

/-- The index of the sampler of quadrant `q`. -/
def smp (q : Nat) : Nat := 0x5002 + 64 * q

/-- The sampler may run: a period, a ring, and no write failure since the ring was set (R339, R341). -/
def Dev.samples (d : Dev) (q : Nat) : Bool :=
  d.rd (smp q) 0xC0 != 0 && d.rd (smp q) 0xC5 != 0 && !(d.sampler q).stopped && d.isOn (bufDom q)

/-- One 16-byte record written to the ring, lost where it is full; a failed write stops the sampler (R340, R341). -/
def Dev.sampleRecord (q : Nat) (ok : Bool) (b : Bytes) (d : Dev) : Dev :=
  let n := 2 ^ d.rd (smp q) 0xC5
  let p := d.rd (smp q) 0xC7
  if (p + 1) % n = d.rd (smp q) 0xC8 % n then (d.count 64 (smp q) 0xC9 1).cause (.buffer q) 6
  else if !ok || !d.isOn 139 || d.boot.perstLow then
    (d.setSampler q { d.sampler q with stopped := true, running := false }).cause (.buffer q) 7
  else (d.emit (.hostWrite (d.rd (smp q) 0xC4 + 16 * (p % n)) b)).wr (smp q) 0xC7 ((p + 1) % n)

/-- A pass begins in cycle `t` with its marker (R340). -/
def Dev.passBegin (q t : Nat) (ok : Bool) (d : Dev) : Dev :=
  let pass := d.rd (smp q) 0xCA % 2 ^ 16
  (d.setSampler q { next := 0, pass := pass, stopped := false, running := true }).sampleRecord q ok
    (toLE 4 0xFFFFFFFF ++ toLE 8 (d.quadTime q t / 2 ^ 32) ++ toLE 2 0 ++ toLE 2 pass)

/-- The next pass is due in cycle `t`. -/
def Dev.passStart (q t : Nat) (ok : Bool) (d : Dev) : Dev :=
  if !d.samples q || (d.sampler q).running then d else d.passBegin q t ok

/-- R340: a sampler pass begins; `ok` says whether the host takes the record. -/
def execSamplePassStart (q t : Nat) (ok : Bool) (s : State) : Out := actAt (q < 4) t (Dev.ifRuns (bufDom q) (Dev.passStart q t ok)) s

/-- The queues of a pass: the range cut at the quadrant's last queue (R339). -/
def Dev.sampleCount (d : Dev) (q : Nat) : Nat := min (d.rd (smp q) 0xC2) (65536 * (q + 1) - d.rd (smp q) 0xC1)

/-- The pass ends: counted, with its interrupt (R339). -/
def Dev.passEnd (q : Nat) (d : Dev) : Dev :=
  let d1 := (d.setSampler q { d.sampler q with running := false }).count 64 (smp q) 0xCA 1
  when (bit 7 (d.rd (smp q) 0xC6)) (Dev.sendMsix (fld 5 0 (d.rd (smp q) 0xC6))) d1

/-- The sampler visits the next queue of its range in cycle `t` (R341). -/
def Dev.sampleVisit (q t : Nat) (ok : Bool) (d : Dev) : Dev :=
  let x := d.sampler q
  if !d.samples q || !x.running then d
  else
    let i := d.rd (smp q) 0xC1 + x.next
    let k := d.queue i
    let b := toLE 4 (i + b2n (!k.deep.isEmpty) * 2 ^ 31) ++ toLE 6 k.bytes ++ toLE 4 (k.delay t) ++ toLE 2 x.pass
    let d1 := d.setSampler q { x with next := x.next + 1 }
    let d2 := if bit 0 (d.rd (smp q) 0xC3) && k.isEmpty then d1 else d1.sampleRecord q ok b
    when (d.sampleCount q ≤ x.next + 1 && (d2.sampler q).running) (Dev.passEnd q) d2

/-- R341: the sampler visits a queue. -/
def execSampleVisit (q t : Nat) (ok : Bool) (s : State) : Out := actAt (q < 4) t (Dev.ifRuns (bufDom q) (Dev.sampleVisit q t ok)) s

/-- What a write of a sampler setting does in CCLK cycle `t` (R339, R341): a change of .C0 to .C5 ends the pass in progress and, where the
sampler runs, starts a new one, its marker taken by the host; a write of SAMPLE_SIZE restarts a stopped sampler. -/
def effSampler (q t j : Nat) : Eff := fun _ v d =>
  let x := d.sampler q
  if j = 0xC4 && v % 4096 != 0 || j = 0xC1 && v / 65536 != q then (abRange, d)
  else
    let restart := j ≤ 0xC5 && (v != d.rd (smp q) j || (j = 0xC5 && x.stopped))
    let d1 := d.wr (smp q) j v
    (0, if !restart then d1
        else
          let d2 := d1.setSampler q { x with running := false, stopped := x.stopped && j != 0xC5 }
          if d2.samples q then d2.passBegin q t true else d2)

/-- R341: SAMPLE_SIZE. -/
def execSampleSize (q : Nat) (w : Wr) (t : Nat) (s : State) : Out := actAt (q < 4) t (Dev.write (effSampler q t 0xC5) (smp q) 0xC5 w) s

end Sys2Proof.Machine
end

