-- ==== Sys2Proof/Machine/FrameBase.lean ====
section
/-! DEFINITION. The frame path's shared operations: classification (R121 to R123, R263, R266 to R273), the through path (R27), the
SecTAG (R127 to R137), protection and the parts of a received frame (R130, R131, R136, R139, R140). -/
namespace Sys2Proof.Machine

/-! ## Classification -/

/-- What classification makes of a frame. -/
inductive Fate where
  /-- Dropped with a reason. -/
  | drop (reason : Nat)
  /-- Punted by a TCAM rule: its result word; to the control cluster where `cc`. -/
  | rule (res : Nat) (cc : Bool)
  /-- Punted otherwise, with a reason. -/
  | punt (reason : Nat)
  /-- The record of a channel it reaches has an uncorrectable error (R273). -/
  | bad (chan : Nat)
  /-- To a channel and class; under the cipher; PTP bypass. -/
  | go (chan cls : Nat) (prot ptp : Bool)
  deriving DecidableEq, Repr

/-- ACTIVITY of place `loc` of table `k` set by a data-path match (R272). -/
def Dev.touch (k loc : Nat) (d : Dev) : Dev :=
  let x := d.ent k loc
  { d with slots := Tbl.set (fun _ => Ent.init) d.slots (slotKey k loc) { x with ctl := setBit 1 x.ctl } }

/-- The TCAM search of quadrant `q`: the result that governs, none where nothing matches, an outer none for an uncorrectable error; what
matched has been hit all the same (R268, R272, R273). -/
def Dev.tcamLook (q key : Nat) (d : Dev) : Option (Option Nat) × Dev :=
  let k := 4 * q + 2
  let r := d.tcamSearch k key
  let d1 := r.2.2.perf q 0x020 2 1
  let d2 := match r.1 with
    | some i => d1.touch k i
    | none => d1.perf q 0x021 2 1
  (if r.2.1 then none else some (r.1.map (fun i => (d.ent k i).res)), d2)

/-- An exact-match search on the data path: the entry and its place, none on a miss, an outer none for an uncorrectable error; what
matched has been hit all the same (R270 to R273). -/
def Dev.exactLook (k key : Nat) (d : Dev) : Option (Option (Ent × Nat)) × Dev :=
  let r := d.search k key
  let d1 := r.2.2.perf (k / 4) 0x020 (k % 4) 1
  let d2 := match r.1 with
    | some l => d1.touch k l
    | none => d1.perf (k / 4) 0x021 (k % 4) 1
  (if r.2.1 then none else some (r.1.map (fun l => (d.ent k l, l))), d2)

/-- The E-table key of a frame on pair `n` under a profile (R263). -/
def eKey (n profile : Nat) (b : Bytes) : Nat :=
  let p := parse b
  n + (if bit 0 profile then p.outer * 2 ^ 8 + b2n (!p.tags.isEmpty) * 2 ^ 20 else 0) +
    (if bit 3 profile then b2n (p.tags.length = 2) * 2 ^ 21 + p.inner * 2 ^ 88 else 0) +
    (if bit 1 profile then beAt 0 6 b * 2 ^ 24 else 0) + (if bit 2 profile then p.etype * 2 ^ 72 else 0)

/-- PTP over UDP found by the parser: 4, 6 or 0. -/
def ptpKind (b : Bytes) : Nat :=
  match ptpAt b with
  | some (_, k) => k
  | none => 0

/-- The TCAM key of a frame on pair `n` (R266): `sec` is its SecTAG's SCI (none without a SecTAG), `p` the tags that count. -/
def tcamKey (n : Nat) (rx : Bool) (sec : Option Nat) (p : Parsed) (b : Bytes) : Nat :=
  n + b2n rx * 2 ^ 8 + b2n (!p.tags.isEmpty) * 2 ^ 9 + b2n sec.isSome * 2 ^ 10 + b2n (ptpKind b = 4) * 2 ^ 11 +
    b2n (ptpKind b = 6) * 2 ^ 12 + p.outer * 2 ^ 16 + beAt 0 6 b * 2 ^ 32 + (if sec.isSome then 0x88E5 else p.etype) * 2 ^ 80 +
    sec.getD 0 * 2 ^ 96

/-- The record of channel `c` has an uncorrectable error (R273). -/
def Dev.recordBad (d : Dev) (c : Nat) : Bool := c < 32768 && d.eccHard (slotKey (4 * (c / 8192) + 3) (c % 8192))

/-- The fate of a frame that reaches channel `c` of pair `n`: the record is read, and must be of an enabled channel of the pair and
direction (R118, R123, R273). -/
def Dev.toChannel (d : Dev) (n : Nat) (rx : Bool) (c cls : Nat) (prot ptp : Bool) : Fate :=
  if d.recordBad c then .bad c else if d.chanServes c rx n then .go c cls prot ptp else .drop dropUnclassified

/-- The fate of a frame bypassed to a default channel of pair `n` (R26, R118). -/
def Dev.bypass (d : Dev) (n : Nat) (rx : Bool) (cls : Nat) (ptp : Bool) : Fate :=
  d.toChannel n rx (d.rd (0x2400 + n) (if rx then 0x11 else 0x10)) cls false ptp

/-- The fate that a TCAM result gives a frame on pair `n` (R122, R268). -/
def Dev.ruleFate (d : Dev) (n : Nat) (rx : Bool) (res : Nat) : Fate :=
  let c := quadOf n * 8192 + fld 12 0 res
  match fld 18 16 res with
  | 0 => if rx then .drop dropUnclassified else d.toChannel n false c (fld 15 13 res) true false
  | 1 => d.bypass n rx (fld 15 13 res) false
  | 2 => d.bypass n rx (fld 15 13 res) true
  | 3 => .drop dropUnclassified
  | 4 => .rule res false
  | _ => .rule res true

/-- The fate of a PASS-mode frame (R26): the default channel, its class from the TCAM, the PCP, or 0. -/
def Dev.passFate (d : Dev) (n : Nat) (rx : Bool) (hit : Option Nat) (b : Bytes) : Fate :=
  match hit with
  | some res => d.bypass n rx (fld 15 13 res) (fld 18 16 res = 2)
  | none => d.bypass n rx (parse b).pcp false

/-- The classification of an egress frame on pair `n` (R26, R122, R123, R270): in FRAME mode the TCAM and the E-table are searched
together. -/
def Dev.classifyEgress (n : Nat) (b : Bytes) (d : Dev) : Fate × Dev :=
  let q := quadOf n
  let r := d.tcamLook q (tcamKey n false none (parse b) b)
  let pass := d.mode n = pmPass
  let e := if pass then (some none, r.2) else r.2.exactLook (4 * q) (eKey n (d.rd (0x4090 + q) (1 + n % 64)) b)
  let fate := match r.1, e.1 with
    | some hit, some found =>
      if pass then e.2.passFate n false hit b
      else
        match hit, found with
        | some res, _ => e.2.ruleFate n false res
        | none, some (x, _) => e.2.toChannel n false (q * 8192 + fld 12 0 x.res) (fld 15 13 x.res) true false
        | none, none =>
          let u := d.rd (0x2400 + n) 1
          if u = 0 then e.2.bypass n false (parse b).pcp false else if u = 1 then .drop dropUnclassified else .punt 2
    | _, _ => .drop dropMemoryError
  (fate, e.2)

/-! ## The through path (R27, R28) -/

/-- A calendar slot of side `s` is free: the port has no frame in progress in its slice or its staging store and is not short (R346). -/
def Dev.slotFree (d : Dev) (s : Nat) : Bool := (d.current s).isNone && !d.isShort (pacer s) (s % 256)

/-- A frame of queue `x` may take the through path of side `s` in cycle `t` (R27). -/
def Dev.through (d : Dev) (s x t : Nat) : Bool :=
  d.sends s && (d.queue x).isEmpty && (((d.node (x / 8)).accrue t).tier).isSome && !d.keys.suspended.contains (x / 8) &&
  d.portMayServe s t && d.mayStart s (x % 8) (d.maxSdu s (x % 8)) (d.quadTime (quadOf (s % 256)) t) && d.slotFree s

/-- A frame that starts on the through path of its side in cycle `t`. -/
def Dev.goThrough (t : Nat) (f : Frame) (d : Dev) : Dev :=
  (((d.cnt 5 f.chan (if f.line then 9 else 6)).perf (quadOf f.pair) 0x032 0 1)).sendFrom f.exit t { f with strict := true }

/-- The greatest length that a frame on the through path may have as it leaves: `mtu` where the mode has one, and MAX_SDU of its class
(R132, R336). -/
def Dev.cutLen (d : Dev) (f : Frame) (mtu : Option Nat) : Nat := min (mtu.getD 65536) (d.maxSdu f.exit f.cls)

/-! ## Protection (R124 to R131, R154) -/

/-- The bytes of the secure data that stay clear under a PROTECT code, of `len` (R131). -/
def clearPart (protect len : Nat) : Nat :=
  match protect with
  | 0 => len
  | 2 => min 30 len
  | 3 => min 50 len
  | _ => 0

/-- The 96-bit IV of an SA for a PN (R130). -/
def ivOf (x : Sa) (sci pn : Nat) : Nat := if x.suite < 2 then sci * 2 ^ 32 + pn % 2 ^ 32 else (x.ssci * 2 ^ 64 + pn % 2 ^ 64) ^^^ x.salt

/-- The SecTAG of a frame of a channel record (R127, R128). -/
def secTag (r pn len : Nat) : Bytes :=
  let sc := bit 77 r
  let e := chProtect r != 0
  let tci := 64 * b2n (!sc && bit 78 r) + 32 * b2n sc + 16 * b2n (!sc && bit 79 r) + 12 * b2n e + chAn r
  [0x88, 0xE5, BitVec.ofNat 8 tci, BitVec.ofNat 8 (if len < 48 then len else 0)] ++ toBE 4 pn ++ (if sc then toBE 8 (chSci r) else [])

/-- A frame protected under SA `x` of a channel record with a PN; `whole` is false for a frame cut short, which gets no ICV (R127 to
R132). -/
def protect (r : Nat) (x : Sa) (pn : Nat) (whole : Bool) (b : Bytes) : Bytes :=
  let t := min (fld 85 84 r) (parse b).tags.length
  let head := b.take (12 + 4 * t)
  let sec := b.drop (12 + 4 * t)
  let n := clearPart (chProtect r) sec.length
  let tag := secTag r pn sec.length
  let a := b.take 12 ++ tag ++ sec.take n
  let key := toBE x.keyLen x.key
  let iv := toBE 12 (ivOf x (chSci r) pn)
  let c := gcmText key iv (sec.drop n)
  head ++ tag ++ sec.take n ++ c ++ (if whole then gcmTag key iv a c else [])

/-! ## The SecTAG of a received frame (R134 to R137) -/

/-- A SecTAG found: offset of its EtherType, tags ahead of it, TCI/AN, SL, PN field, length with SCI if announced. -/
structure Tag where
  off : Nat
  tci : Nat
  sl : Nat
  pn : Nat
  len : Nat
  deriving DecidableEq, Repr

/-- The SecTAG of a frame that accepts `k` clear tags (R134). -/
def findTag (k : Nat) (b : Bytes) : Option Tag :=
  let p := parseTags k (b.take 128) 12 []
  if p.etype = 0x88E5 then
    let tci := beAt (p.off + 2) 1 b
    some ⟨p.off, tci, beAt (p.off + 3) 1 b, beAt (p.off + 4) 4 b, if bit 5 tci then 16 else 8⟩
  else none

/-- The SecTAG is bad, the SA's suite apart (R135). -/
def Tag.bad (g : Tag) (b : Bytes) : Bool :=
  let after := b.length - (g.off + g.len)
  bit 7 g.tci || (bit 6 g.tci && bit 5 g.tci) || (bit 5 g.tci && bit 4 g.tci) || (!bit 3 g.tci && bit 2 g.tci) || 64 ≤ g.sl ||
  48 ≤ g.sl || (g.sl != 0 && after < g.sl + 16) || (g.sl = 0 && after < 64) || b.length < g.off + g.len

/-- The SCI of a SecTAG, none where it has none (R137). -/
def Tag.sci (g : Tag) (implicit : Nat) (b : Bytes) : Option Nat :=
  if bit 5 g.tci then some (beAt (g.off + 8) 8 b)
  else if bit 6 g.tci then some (beAt 6 6 b * 2 ^ 16 + 1)
  else if implicit = 0 then none else some implicit

/-- Octets of secure data of a frame with SecTAG `g` (R136). -/
def Tag.secure (g : Tag) (b : Bytes) : Nat := if g.sl != 0 then g.sl else b.length - (g.off + g.len) - 16

/-- The PN of a frame: the field as it is, or recovered about the lowest acceptable PN (R140). -/
def recoverPn (x : Sa) (p : Nat) : Nat :=
  if x.suite < 2 then p else if x.lowPn % 2 ^ 32 ≤ p then x.lowPn / 2 ^ 32 * 2 ^ 32 + p else ((x.lowPn / 2 ^ 32 + 1) * 2 ^ 32 + p) % 2 ^ 64

/-- The frame delivered from its head, its clear part and its text: padded with zeros to 64 bytes with its FCS (R153). -/
def delivered (head lead text : Bytes) : Bytes :=
  let b := head ++ lead ++ text
  b ++ List.replicate (60 - b.length) 0

end Sys2Proof.Machine
end

