-- ==== Sys2Proof/Machine/Frames.lean ====
section
/-! DEFINITION. The frame path: egress frames, SA fetch, ingress frames and verdicts (R117 to R160), and the cause registers. -/
namespace Sys2Proof.Machine

/-- Pair `n` runs frames: FRAME or PASS mode. -/
def Dev.runsFrames (d : Dev) (n : Nat) : Bool := d.mode n = pmFrame || d.mode n = pmPass

/-- The record of channel `c` read: a corrected error in it is reported (R273). -/
def Dev.recordMet (c : Nat) (d : Dev) : Dev := d.lookAt (4 * (c / 8192) + 3) [c % 8192]

/-- A frame that met an uncorrectable error in the record of channel `c`, now read, dropped (R273). -/
def Dev.dropBadRecord (c : Nat) (f : Frame) (d : Dev) : Dev :=
  ((d.recordMet c).eccMet (4 * (c / 8192) + 3) (c % 8192)).drop dropMemoryError f

/-- The entry of SA `s` reads with an uncorrectable error (R479). -/
def Dev.saBad (d : Dev) (s : Nat) : Bool := d.eccHard (slotKey 16 s)

/-- A frame that met an uncorrectable error in the entry of SA `s` dropped, before any PN (R479). -/
def Dev.dropBadSa (f : Frame) (d : Dev) : Dev := (d.raise (quadEvent (quadOf f.pair) 1)).drop dropMemoryError f

/-- A frame as it arrives in cycle `t` on pair `n`; its receive timestamp on SF is 0 without valid time (R373, R377). -/
def Dev.newFrame (d : Dev) (n : Nat) (line own : Bool) (b : Bytes) (t : Nat) : Frame :=
  let s := if line then n else 256 + n
  { no := d.frameNo, line := line, pair := n, chan := 0, cls := 0, data := b, fcs := .good, prot := false, ptp := false, own := own,
    rxSf := if (d.follower (quadOf n)).valid then Int.ofNat (d.quadSf (quadOf n) t) - Int.ofNat (d.rxDelay s) else 0, since := t, wait := .none, strict := false, long := false }

/-- The number of the next frame to arrive moved on. -/
def Dev.countFrame (d : Dev) : Dev := { d with frameNo := d.frameNo + 1 }

/-- LINE_MTU of pair `n` where its mode has one (R117, R132). -/
def Dev.lineMtu (d : Dev) (n : Nat) : Option Nat := if d.mode n = pmFrame then some (d.rd (0x2400 + n) 5) else none

/-- A frame of `len` bytes is over LINE_MTU of pair `n`. -/
def Dev.overMtu (d : Dev) (n len : Nat) : Bool :=
  match d.lineMtu n with
  | some m => m < len
  | none => false

/-- The compact receive timestamp of a frame that arrives by side `s` in cycle `t`, in 2^-32 ns (R377). -/
def Dev.rxTime (d : Dev) (s t : Nat) : Nat :=
  if (d.follower (quadOf (s % 256))).valid then
    (d.quadTime (quadOf (s % 256)) t % 2 ^ 96 + 2 ^ 96 - d.rxDelay s) % 2 ^ 96 else 0

/-- A punt by a TCAM rule (R296). -/
def Dev.puntRule (res : Nat) (cc : Bool) (ts t : Nat) (f : Frame) (d : Dev) : Dev :=
  let q := quadOf f.pair
  let r := if bit 42 res then d.police (1024 * q + fld 41 32 res) t else (true, d)
  if !r.1 then r.2.drop dropPolicerRed f
  else if cc then r.2.puntFirm 1 0xFFFFFFFF ts f
  else r.2.puntTo (fld 25 20 res) 1 0xFFFFFFFF ts f

/-- An egress frame classified to a channel goes through, or is queued; its length and FCS are judged (R27, R132, R133, R336). DESIGN CHOICE:
one that its length ends on the through path has as many bytes sent as its limit lets, its expansion included (log 204). -/
def Dev.egressGo (t : Nat) (bad : Bool) (f : Frame) (d : Dev) : Dev :=
  let long := d.overMtu f.pair (d.exitLen f)
  if d.through f.pair (8 * f.chan + f.cls) t then
    let most := d.cutLen f (d.lineMtu f.pair)
    d.goThrough t (if most < d.exitLen f then
        { f with fcs := .errorBlock, long := long, data := f.data.take (most - 4 - (d.exitLen f - f.len)) }
      else if bad then { f with fcs := .stomped } else f)
  else if long then d.overLong f
  else if bad then d.drop dropFcsErrorIn f
  else d.admission t f

/-- A frame of `len` bytes as it came that is to be punted: over LINE_MTU it is dropped (R132, R153). -/
def Dev.punted (f : Frame) (g : Dev → Dev) (d : Dev) : Dev := if d.overMtu f.pair f.len then d.overLong f else g d

/-- A frame from SPn in cycle `t`, one the part returns to itself where `own` (R122, R133, R446). A bad FCS is counted EG_FCS_BAD, which
Table 802.1AE statistics names for the system side (log 165). -/
def Dev.egressIn (n : Nat) (own : Bool) (b : Bytes) (fcsOk : Bool) (t : Nat) (d : Dev) : Dev :=
    let f := d.newFrame n false own b t
    let bad := !fcsOk || b.length < 60
    let d1 := when (!own) (Dev.received n false f.len) d.countFrame
    let d2 := when bad (fun x => (x.cnt 4 n 9).cause (.pair n) 10) d1
    let tm := d.rxTime (256 + n) t
    if d.quiesced || d.shut n then
      (d2.stamp (256 + n) b false tm false).drop (if d.quiesced then dropQuiesced else dropCrossingReset) f
    else
      let r := d2.classifyEgress n b
      let isPtp := match r.1 with
        | .go _ _ _ p => p
        | _ => false
      let d3 := r.2.stamp (256 + n) b isPtp tm false
      match r.1 with
      | .drop k => d3.drop k f
      | .rule res cc => if bad then d3.drop dropFcsErrorIn f else d3.punted f (Dev.puntRule res cc (tm / 2 ^ 32) t f)
      | .punt k => if bad then d3.drop dropFcsErrorIn f else d3.punted f (Dev.puntPlain k (tm / 2 ^ 32) t f)
      | .bad c => d3.dropBadRecord c f
      | .go c k p ptp => (d3.recordMet c).egressGo t bad { f with chan := c, cls := k, prot := p, ptp := ptp }

/-- A frame comes in by side `s`: frames run there, the side is UP and no loopback replaces it (R482). -/
def Dev.takes (d : Dev) (s : Nat) : Bool := d.runsFrames (s % 256) && d.sideState s = stUp && !d.looped s

/-- A frame from SPn in cycle `t`, stored bits of the tables having flipped since (R273); a far-end loopback retransmits it (R482). -/
def Dev.egressFrame (n : Nat) (b : Bytes) (fcsOk : Bool) (t : Nat) (flips : List (Nat × Nat)) (d : Dev) : Dev :=
  when (d.takes (256 + n)) (Dev.egressIn n false b fcsOk t)
    (when (d.runsFrames n) (Dev.echo (256 + n) (fun ls => .retransmit (256 + n) ls b fcsOk)) (d.flip flips))

/-- R122: a frame from a system port. -/
def execEgressFrame (n : Nat) (b : List Byte) (fcsOk : Bool) (t : Nat) (flips : List (Nat × Nat)) (s : State) : Out :=
  actAt (n < 256) t (Dev.egressFrame n b fcsOk t flips) s

/-- SA `x` of a frame on pair `n` is unusable as if ZEROISED: it holds a test key and the pair runs no loopback (R252). -/
def Dev.testBarred (d : Dev) (n : Nat) (x : Sa) : Bool := x.source = 3 && d.loopOf n = 0

/-- SA fetch of one frame (R124 to R126, R252, R479): the frame as it leaves with the SA that enciphers it, none where it is dropped. A
frame to be sent truncated at LINE_MTU is counted OUT_TOO_LONG (R132). -/
def Dev.saBind (spent : Bool) (f : Frame) (d : Dev) : Option (Frame × Option Nat) × Dev :=
  let sendNow := fun (g : Frame) (a : Option Nat) (y : Dev) =>
    (some (g, a), when f.long (fun z => (z.cnt 4 f.pair 1).cause (.pair f.pair) 9) y)
  if !f.prot then sendNow f none d
  else
    let d0 := d.perf (quadOf f.pair) 0x050 0 1
    let r := d0.chan f.chan
    let a := d0.saOf f.chan (chAn r)
    let x := d0.sa a
    let d1 := (d0.recordMet f.chan).readSlots [slotKey 16 a]
    if d0.recordBad f.chan then (none, d0.dropBadRecord f.chan f)
    else if !chSaOk r (chAn r) then (none, (d0.recordMet f.chan).drop dropKeyAbsent f)
    else if d0.saBad a then (none, d1.dropBadSa f)
    else if x.state = saExhausted && !spent && !d1.testBarred f.pair x then (none, d1.drop dropPnExhausted f)
    else if x.state != saActive || d1.testBarred f.pair x then (none, d1.drop dropKeyAbsent f)
    else
      let p := d1.assignPn f.chan a
      let v := if chProtect r = 0 then 0 else 1
      let octets := f.data.length - 12 - 4 * min (fld 85 84 r) (parse f.data).tags.length
      sendNow { f with data := protect r x p.1 (f.fcs != .errorBlock) f.data, tally := some (a, v, octets) } (some a) p.2

/-- A drawn frame of the line bound in cycle `t`: it enters the staging store of its port, or is dropped (R124, R348). -/
def Dev.bindDrawn (t : Nat) (e : Drawn) (d : Dev) : Dev :=
  let r := d.saBind e.spent e.frame
  match r.1 with
  | none => r.2.settleDeficits e.frame.chan
  | some (g, a) => r.2.intoStaging t ⟨g, min e.done g.sent, false, a, e.hold⟩

/-- A drawn frame is for a line port whose staging store is empty. -/
def Dev.mayBind (d : Dev) (e : Drawn) : Bool := e.frame.exit < 256 && (d.staged e.frame.exit).isEmpty

/-- SA fetch in E-slice `s` in cycle `t`, of the oldest frame whose staging store is free for it: a store holds one frame, and no later frame of
its port is bound before it (R124, R348). -/
def Dev.saFetch (s t : Nat) (d : Dev) : Dev :=
  match (d.inE s).find? d.mayBind with
  | none => d
  | some e => if d.isFenced s then d else (d.setInE s ((d.inE s).eraseP d.mayBind)).bindDrawn t e

/-- R124: SA fetch of an E-slice's oldest frame. -/
def execEgressSaFetch (k t : Nat) (flips : List (Nat × Nat)) (s : State) : Out :=
  actAt (k < 64) t (Dev.ifRuns (sliceDom k) (fun d => (d.flip flips).saFetch k t)) s

/-- A frame of side `n` bound to SA `i` is still in its E-slice (R231). -/
def Dev.boundIn (d : Dev) (n i : Nat) : Bool := (d.staged n).any (fun x => x.sa = some i && !x.full)

/-- A RETIRING TX SA with no frame bound to it left in the E-slice becomes EMPTY; while the slice is fenced, not before RECLAIM has
booked the frozen frames (R231, R477). -/
def Dev.txRetire (i : Nat) (d : Dev) : Dev :=
  let x := d.sa i
  let n := chPair (d.chan (i / 16384 * 8192 + x.channel))
  let e := eSliceOf n
  when (!x.rx && x.state = saRetiring && !d.boundIn n i && (!d.isFenced e || d.assay.reclaimed.contains e)) (Dev.retire i) d

/-- R231: a TX SA's retirement completes. -/
def execTxRetire (i : Nat) (s : State) : Out := actIf (i < 65536) (Dev.ifRuns (tabDom (i / 16384)) (Dev.txRetire i)) s

/-! ## Frames that leave (R149, R326, R349, R359) -/

/-- A complete background frame leaves its staging store in cycle `t`, a protected one through SA fetch: so its PN comes in the order in
which frames leave the port (R126, R359; log 166). DESIGN CHOICE: where its SA has become EXHAUSTED, it is dropped with KEY_ABSENT (log 218). -/
def Dev.sendBg (t : Nat) (f : Frame) (d : Dev) : Dev :=
  let r := d.saBind true f
  match r.1 with
  | none => r.2
  | some (g, _) => r.2.emitFrame t g

/-- A complete background frame of side `s` leaves where none of the port's own frames stands in the store and the transmitters are on, or
looped (R112, R359). -/
def Dev.flushBg (s t : Nat) (d : Dev) : Dev :=
  if (d.staged s).isEmpty && d.carriesOut s then (d.stagedBgOf s).foldl (fun y f => y.sendBg t f) (d.setStagedBg s []) else d

/-- Between two frames of side `s`: the complete background frame leaves, then the next of the port's own begins (R359). -/
def Dev.between (s t : Nat) (d : Dev) : Dev := ((d.flushBg s t).refill s t).leave s t

/-- The frame that leaves by side `s` ends in cycle `t`: charged, counted, put out; one that an armed injection of point 0x0E hits with an
error block and cause UNDERRUN (R349, R486). -/
def Dev.endHead (s t : Nat) (d : Dev) : Dev :=
  match d.staged s with
  | [] => d
  | x :: rest =>
    let hit := (d.armed 0x0E (fun i _ => i = pacer s)).isSome
    let f : Frame := if hit then { x.frame with fcs := .errorBlock, wait := .none } else x.frame
    let d1 := when hit (fun y => y.struck.cause (.calendar (y.calOf (pacer s))) 2) d
    (((d1.setStaged s rest).charge s t f).land f).between s t

/-- The end of the frame side `s` is sending, in cycle `t`. A store that a short or fenced slice lets run empty ends it with an error
block and cause UNDERRUN; otherwise a frame ends once its slice has processed it whole and its verdict is formed (R146, R326, R349,
R475). -/
def Dev.frameEnd (s t : Nat) (d : Dev) : Dev :=
  match d.staged s with
  | [] => d
  | x :: _ =>
    let k := pacer s
    let whole := x.full && x.frame.wait = .none
    if !x.left then d
    else if whole then d.endHead s t
    else if d.isFenced k || (d.isShort k (s % 256) && !x.full) then
      ((d.cutHead s).cause (.calendar (d.calOf k)) 2).endHead s t
    else d

/-- R326: the end of the frame a side is sending. -/
def execFrameEndCharge (side t : Nat) (s : State) : Out := actAt (side < 512) t (Dev.ifRuns (bufDom (quadOf (side % 256))) (Dev.frameEnd side t)) s

/-- The frames that a zeroised SA enciphers in the slices ended at once with an error block (R150). -/
def Dev.cutZeroised (t : Nat) (d : Dev) : Dev :=
  let hit := d.staging.filter (fun e => e.2.any (fun x => x.sa.isSome && !x.full))
  hit.foldl (fun y e =>
    let l := (y.staged e.1).map (fun x => if x.sa.isSome && !x.full then
      { x with frame := { x.frame with data := x.frame.data.take x.done, fcs := .errorBlock }, done := min x.done x.frame.data.length,
               sa := none } else x)
    (((y.cause (.pair (e.1 % 256)) 7).setStaged e.1 l).leave e.1 t).frameEnd e.1 t) d

/-! ## Toward the system side (R27, R146, R151, R153) -/

/-- HOLD of the channel of a frame, which level 1 makes 1 (R151, R152). -/
def Dev.holds (d : Dev) (c : Nat) : Bool := bit 83 (d.readRecord c)

/-- A frame of queue `x` at its head in SRAM, held whole until now, leaves by the through path where that is still free, unless it is longer
than its class lets it be (R151, R336). -/
def Dev.throughHeld (t : Nat) (f : Frame) (d : Dev) : Dev :=
  let x := 8 * f.chan + f.cls
  let s := f.exit
  let first := fun (y : Dev) => decide (((y.queue x).sram.head?.map (·.no)) = some f.no)
  if first d && d.sends s && d.slotFree s && d.portMayServe s t then
    let d1 := d.purgeHead s x 1
    if first d1 && d1.queueEligible s t x then
      let e := d1.dequeue x
      match e.1 with
      | some g => e.2.goThrough t g
      | none => d1
    else d1
  else d

/-! ## The verdict (R143) -/

/-- The SA of a frame past SA fetch still holds the key that the frame was fetched with: it has not been erased, or loaded anew, since (R231). -/
def Dev.holdsKey (d : Dev) (h : Held) : Bool :=
  let x := d.sa h.sa
  [saReady, saActive, saRetiring, saExhausted].contains x.state && toBE x.keyLen x.key = h.key

/-- N and L advanced by a frame (R142); a verified one activates its SA (R246). An SA erased meanwhile stays as it is: EMPTY is left by SUBMIT
alone (R231). -/
def Dev.advanceFor (h : Held) (verified : Bool) (d : Dev) : Dev :=
  if !d.holdsKey h then d
  else (when verified (Dev.activateRx h.chan h.sa) d).advanceWindow h.sa h.pn (chWindow h.word) verified

/-- The verdict of a frame: none for PASS, the hold-mode reason for STOMP; and the counts it makes (R143). An armed
injection of point 0x0B fails the next frame of its channel to verify (R486). -/
def Dev.verdictOf (h : Held) (d : Dev) : Option Nat × Dev :=
  let n := h.frame.pair
  let hit := d.armed 0x0B (fun i _ => i = h.chan)
  let ok := hit.isNone && gcmTag h.key (toBE 12 h.iv) h.aad h.text = h.icv
  let v := chValidate h.word
  let d1 := when hit.isSome Dev.struck d
  if h.fcsBad then (some dropFcsErrorIn, d.cnt 4 n 8)
  else if (d.sa h.sa).state = saZeroised then (some dropKeyAbsent, d)
  else if v = 0 && !h.e then (none, (d.cnt 5 h.chan 2).advanceFor h false)
  else if !ok then
    if h.e || v = 2 then (some dropIcvFail, d1.cnt 6 h.sa 2) else (none, (d1.cnt 6 h.sa 1).cause (.pair n) 5)
  else if h.pn < (d1.sa h.sa).lowPn then
    if bit 82 h.word then (some dropReplayLate, d1.cnt 5 h.chan 4) else (none, (d1.cnt 5 h.chan 3).advanceFor h false)
  else
    (none, ((d1.cnt 6 h.sa 0).cntBy 5 h.chan (if h.e then 6 else 5) h.octets).advanceFor h true)

/-- The frame numbered as `f` changed by `g`, wherever it stands: in its staging store, on its way there or in its queue. -/
def Dev.onFrame (f : Frame) (g : Frame → Frame) (d : Dev) : Dev :=
  let h := fun (y : Frame) => if y.no = f.no then g y else y
  let x := 8 * f.chan + f.cls
  let k := d.queue x
  let e := pacer f.exit
  ((d.setStaged f.exit ((d.staged f.exit).map (fun y => { y with frame := h y.frame }))).setInE e
    ((d.inE e).map (fun y => { y with frame := h y.frame }))).setQ x { k with sram := k.sram.map h, deep := k.deep.map (fun e => (h e.1, e.2)) }

/-- Frame `f` taken out of its queue and dropped, its cells freed (R151); one that is no longer there has been dropped before, and sets the
causes of what its verdict found alone (R159). -/
def Dev.withdraw (reason : Nat) (f : Frame) (d : Dev) : Dev :=
  let x := 8 * f.chan + f.cls
  let k := d.queue x
  let mine := fun (y : Frame) => decide (y.no = f.no)
  if k.sram.any mine then
    (((d.giveCells (x / 65536) k.pool (cellsOf f.len)).setQ x { k with sram := k.sram.filter (fun y => !mine y) }).drop reason f).settleDeficits
      f.chan
  else if k.deep.any (fun e => mine e.1 && !e.2) then
    (d.dropSpilled x (k.deep.map (fun e => (e.1, e.2 || mine e.1)))).drop reason f
  else d.dropCauses f.pair f.line reason

/-- The verdict of `h` formed and applied in cycle `t` (R143, R146, R148, R151). -/
def Dev.judgeFrame (t : Nat) (h : Held) (d : Dev) : Dev :=
  let r := d.verdictOf h
  let hold := bit 83 h.word
  match r.1 with
  | none =>
    let d1 := r.2.onFrame h.frame (fun f => { f with wait := .none })
    when (hold && h.through) (Dev.throughHeld t h.frame) d1
  | some k =>
    if hold then r.2.withdraw k h.frame
    else
      let d1 := match dropCause k true with
        | some i => r.2.cause (.pair h.frame.pair) i
        | none => r.2
      d1.onFrame h.frame (fun f => { f with wait := .none, fcs := if f.fcs = .good then .stomped else f.fcs })

/-- The verdict of the oldest frame of D-slice `s`, in cycle `t`. -/
def Dev.verdict (s t : Nat) (d : Dev) : Dev :=
  match d.inD s with
  | [] => d
  | h :: rest => if d.isFenced s then d else (d.setInD s rest).judgeFrame t h

/-- The oldest verdicts of D-slice `s` formed in cycle `t` until it has room, at most `n` of them (R147, R353; log 168). -/
def Dev.makeRoom (s t : Nat) : Nat → Dev → Dev
  | 0, d => d
  | n + 1, d => if d.sliceRoom s then d else Dev.makeRoom s t n (d.verdict s t)

/-- R143: the verdict of a D-slice's oldest frame. -/
def execVerdict (k t : Nat) (s : State) : Out := actAt (k < 64) t (Dev.ifRuns (sliceDom k) (Dev.verdict k t)) s

/-- A frame toward the system side that awaits no verdict, `rcv` bytes long as received (R27, R148, R151, R153, R158, R336): in hold
mode a bad FCS or a length over LINE_MTU drops it, and it is stored whole; else a bad FCS stomps it, and a length over a limit ends it
on the through path and drops it on the other. A full D-slice forms its oldest verdicts first (R147; log 168). -/
def Dev.toSystem (t rcv : Nat) (bad : Bool) (f : Frame) (d0 : Dev) : Dev :=
  let s := dSliceOf f.pair
  let d := d0.makeRoom s t (d0.inD s).length
  let long := d.overMtu f.pair rcv
  let go := d.through f.exit (8 * f.chan + f.cls) t
  let most := d.cutLen f ((d.lineMtu f.pair).map (fun m => m - (rcv - f.len)))
  if d.holds f.chan then
    if long then d.overLong f
    else if bad then d.drop dropFcsErrorIn f
    else when go (Dev.throughHeld t f) (d.admission t f)
  else if go then
    (when long (Dev.cause (.pair f.pair) 9) d).goThrough t (if most < f.len then
        { f with fcs := .errorBlock, data := f.data.take (most - 4) }
      else if bad then { f with fcs := .stomped } else f)
  else if long then d.overLong f
  else d.admission t (if bad then { f with fcs := .stomped } else f)

/-- The frame in the staging store of side `s` processed whole, and gone to its end, in cycle `t`. -/
def Dev.finish (s t : Nat) (d : Dev) : Dev :=
  ((d.setStaged s ((d.staged s).map (fun x => { x with done := x.frame.sent }))).leave s t).endHead s t

/-- What stands ahead of side `s` and has not begun to leave dropped with a reason: staged, drawn and background frames (R112, R316, R411). -/
def Dev.dropWaiting (s reason : Nat) (d : Dev) : Dev :=
  let own := ((d.staged s).filter (fun x => !x.left)).map (·.frame) ++ (d.drawn s).map (·.frame)
  let d1 := (own ++ d.stagedBgOf s).foldl (fun y f => y.drop reason f)
    (((d.setStaged s ((d.staged s).filter (·.left))).setInE (pacer s) ((d.inE (pacer s)).filter (fun e => e.frame.exit != s))).setStagedBg s [])
  own.foldl (fun y f => y.settleDeficits f.chan) d1

/-- The frames on their way out by side `s` leave to their ends in cycle `t`, toward the line each bound as its turn comes; a background
frame that cannot leave is dropped. A fenced slice lets only what has begun to leave end, and a side without transmitters drops the rest
(R94, R112, R316, R475). -/
def Dev.runOut (s t : Nat) (d : Dev) : Dev :=
  if d.isFenced (pacer s) then d.frameEnd s t
  else if !d.carriesOut s then
    let d1 := d.dropWaiting s dropUnclassified
    if (d1.staged s).isEmpty then d1 else d1.finish s t
  else
    let d1 := (d.staged s).foldl (fun y _ => y.finish s t) d
    let d2 := (d1.drawn s).foldl (fun y e =>
      (if s < 256 then (y.setInE (pacer s) ((y.inE (pacer s)).eraseP (fun x => x.frame.exit = s))).bindDrawn t e else y).finish s t) d1
    ((d2.stagedBgOf s).foldl (fun y f => y.drop dropUnclassified f) (d2.flushBg s t)).setStagedBg s []

/-- The frames of pair `n` in transit reach their ends, those that await their verdicts getting them first (R94, R316). What a fenced slice
holds stays frozen (R475). -/
def Dev.runOutPair (n t : Nat) (d : Dev) : Dev :=
  let s := dSliceOf n
  let mine := fun (h : Held) => decide (h.frame.pair = n) && !d.isFenced s
  let d1 := ((d.inD s).filter mine).foldl (fun y h => y.judgeFrame t h) (d.setInD s ((d.inD s).filter (fun h => !mine h)))
  (d1.runOut n t).runOut (256 + n) t

/-! ## Ingress -/

/-- A frame dropped with NO_SCI, counted IN_NO_SCI. -/
def Dev.noSci (f : Frame) (d : Dev) : Dev := (d.cnt 4 f.pair 5).drop dropNoSci f

/-- What a frame meets at a PENDING entry with ACTION `a` (R138 rule 6). -/
def Dev.pendingFate (a reason ts t : Nat) (f : Frame) (d : Dev) : Dev :=
  if a = 2 then d.punted f (Dev.puntPlain reason ts t f) else d.drop dropLearnPending f

/-- A frame of an unknown SCI while LEARN_ENABLE is 1 (R291). -/
def Dev.learn (sci ts t : Nat) (f : Frame) (d : Dev) : Dev :=
  let q := quadOf f.pair
  let k := 4 * q + 1
  let r := d.policeBy q (d.rd (0x4080 + q) 3) t
  if !r.1 then r.2.drop dropPolicerRed f
  else
    let a := d.rd (0x2400 + f.pair) 4 + 1
    let i := r.2.insertEnt k ⟨f.pair + sci * 2 ^ 8, 0, a * 2 ^ 16, 15⟩
    if d.rd (0x4080 + q) 2 ≤ d.rd (0x4080 + q) 6 || d.isLocked k then (r.2.count 64 (0x4080 + q) 0xB 1).noSci f
    else
      match i with
      | (none, _, _) => (r.2.count 64 (0x4080 + q) 0xB 1).noSci f
      | (some l, _, d1) => ((d1.cause (.pair f.pair) 3).learnNote q sci f.pair 1 l).pendingFate a 4 ts t f

/-- The parts of a frame with SecTAG `g` under a channel record: additional data, clear part, text, ICV, head (R131, R136, R155). DESIGN
CHOICE: an enciphered frame on a channel of PROTECT 0 is taken at offset 0 (log 167). -/
def tagParts (g : Tag) (r : Nat) (b : Bytes) : Bytes × Bytes × Bytes × Bytes × Bytes :=
  let n := g.secure b
  let sec := slice (g.off + g.len) n b
  let c := if bit 3 g.tci then clearPart (if chProtect r = 0 then 1 else chProtect r) n else n
  (b.take 12 ++ slice g.off g.len b ++ sec.take c, sec.take c, sec.drop c, slice (g.off + g.len + n) 16 b, b.take g.off)

/-- Frame `f` is in the part: staged, drawn or queued, so that it is delivered where nothing ends it later. -/
def Dev.carries (d : Dev) (f : Frame) : Bool :=
  let k := d.queue (8 * f.chan + f.cls)
  let mine := fun (y : Frame) => decide (y.no = f.no)
  (d.staged f.exit).any (fun x => mine x.frame) || (d.inE (pacer f.exit)).any (fun x => mine x.frame) || k.sram.any mine ||
    k.deep.any (fun e => mine e.1 && !e.2)

/-- A frame whose AN names no SA in use (R139); IN_UNUSED_SA counts one that goes on its way (R157). -/
def Dev.saNotInUse (t : Nat) (g : Tag) (bad : Bool) (r : Nat) (f : Frame) (d : Dev) : Dev :=
  if bit 3 g.tci || chValidate r = 2 then (d.cnt 5 f.chan 0).drop dropSaNotInUse f
  else
    let p := tagParts g r f.data
    let d1 := (d.cause (.pair f.pair) 8).toSystem t f.len bad { f with data := delivered p.2.2.2.2 p.2.1 p.2.2.1 }
    when (d1.carries f) (Dev.cnt 5 f.chan 1) d1

/-- The frame enters the cipher stage of its D-slice after the pre-check (R140, R141, R146, R151, R153, R336): on the through path its
plaintext starts to leave; else, and in hold mode, its RX queue takes it, with what the verdict still withholds. DESIGN CHOICE: a cut-through
frame that LINE_MTU ends gets no verdict (log 205). -/
def Dev.enterCipher (t a : Nat) (g : Tag) (bad : Bool) (r : Nat) (f : Frame) (d : Dev) : Dev :=
  let x := d.sa a
  let pn := recoverPn x g.pn
  let s := dSliceOf f.pair
  let hold := d.holds f.chan
  let go := d.through (256 + f.pair) (8 * f.chan) t
  let p := tagParts g r f.data
  let key := toBE x.keyLen x.key
  let iv := ivOf x (chSci r) pn
  let data := delivered p.2.2.2.2 p.2.1 (if bit 3 g.tci then gcmText key (toBE 12 iv) p.2.2.1 else p.2.2.1)
  let long := d.overMtu f.pair f.len
  let f1 : Frame := { f with data := data, wait := if hold then .whole else .fcs }
  if bit 82 r && pn < x.lowPn then (d.cnt 5 f.chan 4).drop dropReplayLate f
  else if long && (hold || !go) then d.overLong f
  else if long then
    (d.cause (.pair f.pair) 9).goThrough t { f1 with fcs := .errorBlock, wait := .none,
                                                     data := data.take (min (d.rd (0x2400 + f.pair) 5 - g.len) (d.cutLen f1 none) - 4) }
  else
    let most := d.cutLen f none
    let d1 := if go && !hold then
        d.goThrough t (if most < f1.len then { f1 with fcs := .errorBlock, data := data.take (most - 4) } else f1)
      else d.admission t f1
    d1.setInD s (d1.inD s ++ [{ frame := f1, chan := f.chan, sa := a, word := setFld 83 83 r (b2n hold), key := key, pn := pn,
                                e := bit 3 g.tci, fcsBad := bad, aad := p.1, text := p.2.2.1, icv := p.2.2.2.1, iv := iv,
                                octets := p.2.1.length + p.2.2.1.length, through := go }])


/-- SA fetch of a frame for RX channel `f.chan` (R135, R139, R252, R479). A D-slice that holds 128 frames forms its oldest verdicts, which
are overdue, first (R147; log 168). -/
def Dev.ingressSa (t : Nat) (g : Tag) (bad : Bool) (f : Frame) (d0 : Dev) : Dev :=
  let dr := (d0.perf (quadOf f.pair) 0x050 1 1).recordMet f.chan
  let r := dr.chan f.chan
  let an := g.tci % 4
  let a := dr.saOf f.chan an
  let x := dr.sa a
  let s := dSliceOf f.pair
  let d := dr.readSlots [slotKey 16 a]
  if !chSaOk r an then dr.saNotInUse t g bad r f
  else if dr.saBad a then d.dropBadSa f
  else if x.state = saZeroised || d.testBarred f.pair x then d.drop dropKeyAbsent f
  else if x.state = saEmpty || x.state = saLoading then d.saNotInUse t g bad r f
  else if x.state = saExhausted then d.drop dropPnExhausted f
  else if x.suite < 2 && g.pn = 0 then (d.cnt 4 f.pair 4).drop dropBadTag f
  else (d.makeRoom s t (d.inD s).length).enterCipher t a g bad r f

/-- Rules 3 to 8 of R138 for a frame with SecTAG `g`, given what the I-table holds for it: none where the frame goes on to SA fetch. -/
def Dev.ingressTag (t ts : Nat) (g : Tag) (sci : Option Nat) (found : Option Ent) (bad fenced : Bool) (f : Frame) (d : Dev) : Dev :=
  let n := f.pair
  if g.bad f.data then (d.cnt 4 n 4).drop dropBadTag f
  else
    match sci, found with
    | none, _ => d.noSci f
    | some v, none =>
      if d.rd (0x2400 + n) 3 = 1 then (if fenced then d.drop dropSliceFenced f else d.learn v ts t f) else d.noSci f
    | some _, some x =>
      if x.action != 0 then (if fenced && x.action = 2 then d.drop dropSliceFenced f else d.pendingFate x.action 5 ts t f)
      else
        let c := quadOf n * 8192 + fld 12 0 x.res
        if d.recordBad c then d.dropBadRecord c f
        else if !d.chanServes c true n then d.noSci f
        else if fenced then d.drop dropSliceFenced f
        else d.ingressSa t g bad { f with chan := c, prot := true }

/-- A frame without a SecTAG (R138 rule 2). DESIGN CHOICE: one that PASS sends to no valid DEFAULT_RX_CH is dropped with UNCLASSIFIED under
R118 and counted in no counter of untagged frames (log 169). -/
def Dev.ingressUntagged (t ts : Nat) (bad fenced : Bool) (f : Frame) (d : Dev) : Dev :=
  let n := f.pair
  let u := d.rd (0x2400 + n) 2
  if u = 0 then ((d.cnt 4 n 3).cause (.pair n) 11).drop dropUnclassified f
  else if fenced then d.drop dropSliceFenced f
  else if u = 2 then d.punted f (Dev.puntPlain 3 ts t f)
  else
    match d.bypass n true (parse f.data).pcp false with
    | .bad c => d.dropBadRecord c f
    | .go c k _ _ =>
      let f1 : Frame := { f with chan := c, cls := k }
      let d1 := (d.recordMet c).toSystem t f.len bad f1
      when (d1.carries f1) (Dev.cnt 4 n 2) d1
    | _ => d.drop dropUnclassified f

/-- What the TCAM or the mode decides of an ingress frame, else the rules from 2 on (R26, R138). DESIGN CHOICE: a frame with a bad FCS
that is to be punted is punted as received (log 170). -/
def Dev.ingressFate (t ts : Nat) (g : Option Tag) (sci : Option Nat) (found : Option Ent) (fate : Option Fate) (bad fenced : Bool) (f : Frame)
    (d : Dev) : Dev :=
  match fate, g with
  | some (.drop k), _ => d.drop k f
  | some (.rule res cc), _ => if fenced then d.drop dropSliceFenced f else d.punted f (Dev.puntRule res cc ts t f)
  | some (.punt k), _ => if fenced then d.drop dropSliceFenced f else d.punted f (Dev.puntPlain k ts t f)
  | some (.bad c), _ => d.dropBadRecord c f
  | some (.go c k _ p), _ =>
    if fenced then d.drop dropSliceFenced f else (d.recordMet c).toSystem t f.len bad { f with chan := c, cls := k, ptp := p }
  | none, none => d.ingressUntagged t ts bad fenced f
  | none, some g => d.ingressTag t ts g sci found bad fenced f

/-- The search of the I-table for a frame of pair `n` with a SecTAG that is not bad and has an SCI (R135, R138, R264): an outer none for
an uncorrectable error. -/
def Dev.searchI (n : Nat) (g : Option Tag) (sci : Option Nat) (b : Bytes) (d : Dev) : Option (Option (Ent × Nat)) × Dev :=
  match g, sci with
  | some x, some v => if x.bad b then (some none, d) else d.exactLook (4 * quadOf n + 1) (n + v * 2 ^ 8)
  | _, _ => (some none, d)

/-- A frame from LPn in cycle `t`, one the part returns to itself where `own` (R134 to R141, R270, R446): the TCAM and the I-table are
searched together. PRESUMED: a frame shorter than 64 bytes from the line has a bad FCS, as R133 says of the system side (log 206). -/
def Dev.ingressIn (n : Nat) (own : Bool) (b : Bytes) (fcsOk : Bool) (t : Nat) (d : Dev) : Dev :=
    let f := d.newFrame n true own b t
    let q := quadOf n
    let frameMode := d.mode n = pmFrame
    let bad := !fcsOk || b.length < 60
    let badFcs := Dev.cause (.pair n) 10
    let tags := if frameMode then d.rd (0x2400 + n) 6 else 2
    let g := if frameMode then findTag tags b else none
    let sci := g.bind (fun x => x.sci (d.rd (0x2400 + n) 7) b)
    let d1 := when (!own) (Dev.received n true f.len) d.countFrame
    let tm := d.rxTime n t
    if d.quiesced || d.shut n then
      ((when bad (fun x => badFcs (x.cnt 4 n 8)) d1).stamp n b false tm false).drop (if d.quiesced then dropQuiesced else dropCrossingReset) f
    else
      let p := if g.isSome then parseTags tags (b.take 128) 12 [] else ⟨[], (parse b).off, (parse b).etype⟩
      let r := d1.tcamLook q (tcamKey n true (g.map (fun _ => sci.getD 0)) p b)
      let e := r.2.searchI n g sci b
      let fate := match r.1, e.1 with
        | some hit, some _ => if !frameMode then some (e.2.passFate n true hit b) else hit.map (e.2.ruleFate n true)
        | _, _ => some (.drop dropMemoryError)
      let found := match e.1 with
        | some (some (x, _)) => some x
        | _ => none
      let isPtp := match fate with
        | some (.go _ _ _ p) => p
        | _ => false
      let d2 := e.2.stamp n b isPtp tm false
      let s := dSliceOf n
      let d3 := d2.ingressFate t (tm / 2 ^ 32) g sci found fate bad (d.isFenced s) f
      when bad (fun x => badFcs (if (x.inD s).any (fun h => h.frame.no = f.no) then x else x.cnt 4 n 8)) d3

/-- A frame from LPn in cycle `t`, stored bits of the tables having flipped since (R273); a far-end loopback retransmits it (R482). -/
def Dev.ingressFrame (n : Nat) (b : Bytes) (fcsOk : Bool) (t : Nat) (flips : List (Nat × Nat)) (d : Dev) : Dev :=
  when (d.takes n) (Dev.ingressIn n false b fcsOk t)
    (when (d.runsFrames n) (Dev.echo n (fun ls => .retransmit n ls b fcsOk)) (d.flip flips))

/-- R138: a frame from a line port. -/
def execIngressFrame (n : Nat) (b : List Byte) (fcsOk : Bool) (t : Nat) (flips : List (Nat × Nat)) (s : State) : Out :=
  actAt (n < 256) t (Dev.ingressFrame n b fcsOk t flips) s

/-! ## Cause registers (R159) -/

/-- A calendar of a fenced slice or of a bond partner refuses every write and EXEC (R19, R351, R353). -/
def Dev.causeHeld (d : Dev) (b : CauseBlock) : Bool :=
  match b with
  | .calendar s => d.isFenced s || d.rd (0x6000 + s) 5 = 2
  | _ => false

/-- What CAUSE_CLEAR of a block does; the conditions `again` occur in the same cycle. -/
def effCauseClear (b : CauseBlock) (again : Nat) : Eff := fun _ v d => unless' (d.causeHeld b) abState d (0, d.causeClear b v again)

/-- R159: CAUSE_CLEAR. -/
def execCauseClear (b : CauseBlock) (again : Nat) (w : Wr) (s : State) : Out :=
  actIf (causeOk b) (Dev.write (effCauseClear b again) (causeAt b).1 (causeAt b).2.2.1 w) s

/-- What a write of CAUSE_ENABLE of a block does. -/
def effCauseEnable (b : CauseBlock) : Eff := fun _ v d => unless' (d.causeHeld b) abState d (0, d.causeEnable b v)

/-- R159: CAUSE_ENABLE. -/
def execCauseEnable (b : CauseBlock) (w : Wr) (s : State) : Out :=
  actIf (causeOk b) (Dev.write (effCauseEnable b) (causeAt b).1 (causeAt b).2.2.2 w) s

end Sys2Proof.Machine
end

