-- ==== Sys2Proof/Machine/Calendars.lean ====
section
/-! DEFINITION. Slice calendars and background arbitration (R344 to R365). -/
namespace Sys2Proof.Machine

/-- Slice `s` leads or follows in a bond. -/
def Dev.bonded (d : Dev) (s : Nat) : Bool := d.rd (0x6000 + s) 5 != 0

/-- The index and subindex of the word that holds slot `i` of bank `k` of slice `s` (R351). -/
def bankSub (k i : Nat) : Nat := (if i < 128 then 0x10 else 0x30) + 0x10 * k + i % 128 / 8

/-- Slot `i` of bank `k` of slice `s`. -/
def Dev.slotEntry (d : Dev) (s k i : Nat) : Nat := fld (8 * (i % 8) + 7) (8 * (i % 8)) (d.rd (0x6000 + s) (bankSub k i))

/-- Slot `i` of bank `k` of slice `s` made `e`. -/
def Dev.setSlot (s k i e : Nat) (d : Dev) : Dev :=
  d.wr (0x6000 + s) (bankSub k i) (setFld (8 * (i % 8) + 7) (8 * (i % 8)) (d.rd (0x6000 + s) (bankSub k i)) e)

/-- ACTIVE_BANK of slice `s`. -/
def Dev.activeBank (d : Dev) (s : Nat) : Nat := d.rd (0x6000 + s) 1

/-- The slots of the calendar of slice `s` (R344). -/
def Dev.calLen (d : Dev) (s : Nat) : Nat := if d.bonded s then 256 else 128

/-- The slots that bank `k` of slice `s` gives an anchor offset. -/
def Dev.slotsFor (d : Dev) (s k off : Nat) : Nat := ((List.range (d.calLen s)).filter (fun i => d.slotEntry s k i = off)).length

/-- The slots a running pair needs (R204, R347). -/
def Dev.slotsNeeded (d : Dev) (n : Nat) : Nat :=
  let w := d.width n
  if w = 16 then 256
  else
    match d.rd (0x2000 + n) 5 with
    | 1 => 2 | 2 => 4 | 3 => 8 | 4 => 16 | 5 => 32 | 6 => 64 | 7 => 128
    | 0x20 => 4 * w | 0x21 => 8 * w | 0x22 => 16 * w | _ => 0

/-- The running pairs anchored in the group of slice `s`. -/
def Dev.groupPairs (d : Dev) (s : Nat) : List Nat := d.formedPairs.filter (fun n => eSliceOf n = s || dSliceOf n = s)

/-- The running pair of slice `s` at an anchor offset (R345). -/
def Dev.ownerAt (d : Dev) (s off : Nat) : Option Nat := (d.groupPairs s).find? (fun n => n % 8 = off)

/-- SHORT_MASK of slice `s` made to follow its active bank; SLOT_SHORT where a port becomes short (R349). -/
def Dev.evalShort (s : Nat) (d : Dev) : Dev :=
  let was := d.rd (0x6000 + s) 6
  let now := (d.groupPairs s).foldl (fun m n =>
    if d.slotsFor s (d.activeBank s) (n % 8) < d.slotsNeeded n then setBit (n % 8) m else m) 0
  when (andNot now was != 0) (Dev.cause (.calendar s) 1) (d.wr (0x6000 + s) 6 now)

/-- Bank `k` would make a running carrier of slice `s` short that is not short now (R350). -/
def Dev.bankBreaks (d : Dev) (s k : Nat) : Bool :=
  (d.groupPairs s).any (fun n => d.mode n = pmCarrier && !bit (n % 8) (d.rd (0x6000 + s) 6) && d.slotsFor s k (n % 8) < d.slotsNeeded n)

/-- A slot entry keeps R345. -/
def Dev.entryOk (d : Dev) (s e : Nat) : Bool := if d.bonded s then e = 0 || e = 0x80 else e < 8 || e = 0x80

/-- The calendar of slice `s` accepts accesses: it is not fenced and no bond partner (R351, R353). -/
def Dev.calWrites (d : Dev) (s : Nat) : Bool := !d.isFenced s && d.rd (0x6000 + s) 5 != 2

/-- What a write of a bank word does (R345, R351, R354). -/
def effBank (s j : Nat) : Eff := fun _ v d =>
  let bank := j / 16 % 2
  let b := if bank = 1 then 0 else 1
  if (List.range 8).any (fun k => !d.entryOk s (fld (8 * k + 7) (8 * k) v)) then (abRange, d)
  else if !d.calWrites s || (0x30 ≤ j && !d.bonded s) || b = d.activeBank s || d.rd (0x6000 + s) 3 = 1 then (abState, d)
  else (0, d.wr (0x6000 + s) j v)

/-- A write of another calendar object. -/
def effCalStore (s j : Nat) : Eff := fun _ v d => if !d.calWrites s then (abState, d) else (0, d.wr (0x6000 + s) j v)

/-- The record of calendar `s`. -/
def Dev.cal (d : Dev) (s : Nat) : Cal := Tbl.get (fun _ => Cal.init) d.cals s
/-- The record of calendar `s` replaced, BG_GRANT following (R351). -/
def Dev.setCal (s : Nat) (c : Cal) (d : Dev) : Dev :=
  ({ d with cals := Tbl.set (fun _ => Cal.init) d.cals s c } : Dev).wr (0x6000 + s) 0x54 (c.grant.getD 7 + 8 * b2n c.parked)

/-! ## Swaps and hot edits -/

/-- What SWAP does (R355). -/
def effSwap (s : Nat) : Eff := fun r _ d =>
  if !d.calWrites s then (abState, d)
  else if d.rd (0x6000 + s) 3 = 1 then (abBusy, d)
  else (0, (d.wr (0x6000 + s) 3 1).startPend (0x6000 + s) 2 (pathOf r))

/-- R355: SWAP. -/
def execSwap (k : Nat) (w : Wr) (s : State) : Out := actIf (k < 64) (Dev.write (effSwap k) (0x6000 + k) 2 w) s

/-- The wrap with a swap pending: the calendar is about to visit slot 0 (R355). -/
def Dev.swapAtWrap (s : Nat) (d : Dev) : Dev :=
  let i := 0x6000 + s
  if d.rd i 3 != 1 || d.isFenced s || (d.cal s).slot != 0 then d
  else if d.bankBreaks s (1 - d.activeBank s) then (d.wr i 3 0).endPend i 2 abRange
  else ((((d.wr i 1 (1 - d.activeBank s)).wr i 3 0).evalShort s).cause (.calendar s) 0).endPend i 2 0

/-- R355: the wrap. -/
def execSwapAtWrap (k : Nat) (s : State) : Out := actIf (k < 64) (Dev.ifRuns (sliceDom k) (Dev.swapAtWrap k)) s

/-- What HOT_EDIT does (R350, R356, R357). -/
def effHotEdit (s : Nat) : Eff := fun r v d =>
  let i := v % 256
  let e := v / 256
  let bank := d.activeBank s
  let old := d.slotEntry s bank i
  let d1 := d.setSlot s bank i e
  if d.calLen s ≤ i || !d.entryOk s e || d1.bankBreaks s bank then (abRange, d)
  else if !d.calWrites s || d.rd (0x6000 + s) 3 = 1 then (abState, d)
  else if e != old && (d.ownerAt s old).isSome && (d.ownerAt s e).isSome then (abConflict, d)
  else (0, (d1.setCal s { d1.cal s with edit := some (bank, i) }).startPend (0x6000 + s) 4 (pathOf r))

/-- R356: HOT_EDIT. -/
def execHotEdit (k : Nat) (w : Wr) (s : State) : Out := actIf (k < 64) (Dev.write (effHotEdit k) (0x6000 + k) 4 w) s

/-- A hot edit of slot `i` governs its first visit, its bank being the active one: R349 is evaluated and the EXEC completes (R356). -/
def Dev.editDone (s i : Nat) (d : Dev) : Dev :=
  if (d.cal s).edit = some (d.activeBank s, i) then ((d.setCal s { d.cal s with edit := none }).evalShort s).endPend (0x6000 + s) 4 0
  else d

/-! ## Background requesters (R358 to R364) -/

/-- Base priority of requester `r` of slice `s`. -/
def Dev.bgBase (d : Dev) (s r : Nat) : Nat := fld (4 * r + 3) (4 * r) (d.rd (0x6000 + s) 0x50)
/-- Level of requester `r` of slice `s`. -/
def Dev.bgLevel (d : Dev) (s r : Nat) : Nat := fld (4 * r + 3) (4 * r) (d.rd (0x6000 + s) 0x53)
/-- Level of requester `r` of slice `s` made `v`. -/
def Dev.setBgLevel (s r v : Nat) (d : Dev) : Dev := d.wr (0x6000 + s) 0x53 (setFld (4 * r + 3) (4 * r) (d.rd (0x6000 + s) 0x53) v)

/-- The slice through which generator `q` sends. -/
def Dev.genSlice (d : Dev) (q : Nat) : Nat :=
  let i := 0x9010 + q
  if d.rd i 2 = 0 then eSliceOf (d.rd i 1) else dSliceOf (d.rd i 1)

/-- A checkpoint is DRAINING slice `s`, which admits no new background frame either (R452). -/
def Dev.drains (d : Dev) (s : Nat) : Bool := d.assay.draining = some (sliceDom s)

/-- Requester `r` of slice `s` asks: it has a frame for the slice, or TEST_GEN a stream, of which a slice that drains takes no new frame (R358,
R452). -/
def Dev.asks (d : Dev) (s r : Nat) : Bool :=
  !(d.bgOf (8 * s + r)).isEmpty || (r = 2 && d.genSlice (s / 16) = s && d.genMore (s / 16) && !d.drains s)

/-- The staging store of side `k` has room for a background frame: it holds none, and none for it has begun in slice `s` (R348; log 207). -/
def Dev.bgRoom (d : Dev) (s k : Nat) : Bool :=
  (d.stagedBgOf k).isEmpty && !(List.range 3).any (fun r => (d.bgOf (8 * s + r)).any (fun x => x.done != 0 && x.frame.exit = k))

/-- A frame that requester `r` is to begin with finds room: in its slice, and in the store of the port that it is to leave by. DESIGN CHOICE:
until it does, the slots granted to its requester carry no beat (log 207). -/
def Dev.bgFits (d : Dev) (s r : Nat) (x : BgFrame) : Bool := x.done != 0 || (d.sliceRoom s && (3 ≤ r || d.bgRoom s x.frame.exit))

/-- The requesters of slice `s` that ask. -/
def Dev.asking (d : Dev) (s : Nat) : List Nat := (List.range 5).filter (d.asks s)

/-- The requester holding the grant of slice `s` or parked on it, and whether it is parked: none once another asks while it is parked
(R362). -/
def Dev.grantOf (d : Dev) (s : Nat) : Option Nat × Bool :=
  let c := d.cal s
  if c.parked && (d.asking s).any (fun r => some r != c.grant) then (none, false) else (c.grant, c.parked)

/-- A contest among the asking requesters of slice `s` (R360): a holder at its break point competes at its base (R363). -/
def Dev.contest (s : Nat) (d : Dev) : Dev :=
  let l := d.asking s
  let d0 := match d.grantOf s with
    | (some h, false) => d.setBgLevel s h (d.bgBase s h)
    | _ => d
  let top := l.foldl (fun m r => max m (d0.bgLevel s r)) 0
  match l.find? (fun r => d0.bgLevel s r = top) with
  | none => d0
  | some w =>
    let d1 := l.foldl (fun x r =>
      if r = w then x.setBgLevel s r (x.bgBase s r)
      else if x.rd (0x6000 + s) 0x51 ≤ x.bgLevel s r then x else x.setBgLevel s r (x.bgLevel s r + 1)) d0
    (d1.count 64 (0x6000 + s) (0x58 + w) 1).setCal s { d1.cal s with grant := some w, parked := false }

/-- BREAK_CHUNK of slice `s` in bytes. -/
def Dev.chunk (d : Dev) (s : Nat) : Nat := if d.rd (0x6000 + s) 0x52 = 1 then 1024 else 256

/-- The wait of requester `r` ends at its first granted beat (R351, R364). -/
def Dev.waitEnds (s r : Nat) (d : Dev) : Dev :=
  let c := d.cal s
  let w := nth 0 c.waits r
  (d.setCal s { c with waits := setNth 0 c.waits r, flagged := c.flagged.filter (· != r) }).wr (0x6000 + s) (0x60 + r)
    (max (d.rd (0x6000 + s) (0x60 + r)) (min w (2 ^ 32 - 1)))

/-- A background frame is complete in cycle `t` (R358, R359, R482 to R484): one of a loopback enters its port's receive path, one of the
known-answer test ends here, any other waits in the staging store of its port for a frame end; where the port sends nothing that is at
once, its transmitters being on (log 166); where its pair has gone OFF meanwhile it is dropped. -/
def Dev.bgDone (s r t : Nat) (f : Frame) (d : Dev) : Dev :=
  if r = 4 then
    if f.exit < 256 then d.ingressIn f.pair true f.data (f.fcs = .good) t else d.egressIn f.pair true f.data (f.fcs = .good) t
  else if r = 3 then d
  else
    let d1 := when (r = 2) (fun x => (x.count 64 (0x9010 + s / 16) 0xB 1).genEnd (s / 16)) d
    if !d1.formed f.pair then d1.drop dropUnclassified f
    else (d1.setStagedBg f.exit (d1.stagedBgOf f.exit ++ [f])).flushBg f.exit t

/-- The frame that generator `q` sends as number `k` (R483). -/
def Dev.genFrame (d : Dev) (q k t : Nat) : Frame :=
  let i := 0x9010 + q
  let len := d.rd i 3
  { no := d.frameNo, line := d.rd i 2 = 1, pair := d.rd i 1, chan := if d.rd i 5 < 32768 then d.rd i 5 else 0, cls := 0,
    data := (toBE 12 (d.rd i 6)).take 6 ++ (toBE 12 (d.rd i 7)).take 6 ++ [0x88, 0xB5] ++ toBE 4 k ++
      (List.range (len - 22)).map Config.prbs31,
    fcs := .good, prot := d.rd i 5 < 32768 && d.rd i 2 = 0, ptp := false, own := true, rxSf := 0, since := t, wait := .none,
    strict := false, long := false }

/-- The next frame of the stream of slice `s`'s quadrant put at requester 2 (R483). -/
def Dev.generate (s t : Nat) (d : Dev) : Dev :=
  let q := s / 16
  let x := d.gen q
  (d.countFrame.setGen q (x.1 + 1, x.2)).setBg (8 * s + 2) [⟨d.genFrame q x.1 t, 0⟩]

/-- Holder `h` of the grant of slice `s` stands at a break point: with another asking a contest is held, with none the grant is parked, at the
holder's base (R361 to R363). -/
def Dev.breakPoint (s h : Nat) (d : Dev) : Dev :=
  if (d.asking s).any (· != h) then d.contest s
  else (d.setBgLevel s h (d.bgBase s h)).setCal s { d.cal s with grant := some h, parked := true }

/-- The holder `h` of the grant takes one unused slot of slice `s`: 64 bytes of its frame, up to a break point (R361). A frame without room is
not begun, and the holder stands at a break point. -/
def Dev.bgBeat (s h t : Nat) (d : Dev) : Dev :=
  let dg := if (d.bgOf (8 * s + h)).isEmpty && h = 2 then d.generate s t else d
  match dg.bgOf (8 * s + h) with
  | [] => d
  | x :: rest =>
    if !dg.bgFits s h x then dg.breakPoint s h
    else
      let d0 := ((if x.done = 0 then dg.waitEnds s h else dg).perf (s / 16) 0x010 (s % 16) 1).perf (s / 16) 0x012 (s % 16) 1
      let n := x.done + 64
      let ended := x.frame.len ≤ n
      let d1 := if ended then (d0.setBg (8 * s + h) rest).bgDone s h t x.frame
        else (d0.setBg (8 * s + h) ({ x with done := n } :: rest)).noteFlight s
      if ended || n % d.chunk s = 0 then d1.breakPoint s h else d1

/-- What has changed in the asking since the last visit of calendar `s`: a parked grant is withdrawn where another asks (R362); the wait of a
requester that no longer asks has ended (R364). -/
def Dev.settleAsks (s : Nat) (d : Dev) : Dev :=
  let g := d.grantOf s
  let d1 := d.setCal s { d.cal s with grant := g.1, parked := g.2 }
  ((List.range 5).filter (fun r => !d.asks s r && (nth 0 (d.cal s).waits r != 0 || (d.cal s).flagged.contains r))).foldl
    (fun x r => x.waitEnds s r) d1

/-- Every requester with a frame or stream that has no beat yet has waited one more cycle (R364). -/
def Dev.waitAll (s : Nat) (d : Dev) : Dev :=
  ((List.range 5).filter (d.asks s)).foldl (fun x r =>
    if ((x.bgOf (8 * s + r)).headD ⟨d.genFrame (s / 16) 0 0, 0⟩).done = 0 then
      x.setCal s { x.cal s with waits := setNth (nth 0 (x.cal s).waits r + 1) (x.cal s).waits r }
    else x) d

/-- An unused slot goes to the background requesters of slice `s` in cycle `t` (R361, R362). -/
def Dev.bgSlot (s t : Nat) (d : Dev) : Dev :=
  match d.grantOf s with
  | (none, _) => d.contest s
  | (some h, true) => if d.asks s h then (d.setCal s { d.cal s with parked := false }).bgBeat s h t else d
  | (some h, false) => if d.asks s h then d.bgBeat s h t else d.contest s

/-- The side that slice `s` paces for pair `n`. -/
def pacedSide (s n : Nat) : Nat := if s / 8 % 2 = 0 then n else 256 + n

/-- Slot `i` of slice `s`, which pair `n` owns, is one that its carrier takes (R203, R204; log 171): of a bond's 256 all but four, as many of the
lead's as of the partner's; of another calendar as many as R204 counts, evenly among those it owns. -/
def Dev.takesSlot (d : Dev) (s n i : Nat) : Bool :=
  let k := d.calOf s
  let mine := (List.range (d.calLen k)).filter (fun j => d.slotEntry k (d.activeBank k) j = n % 8)
  let before := (mine.filter (· < i)).length
  let c := d.slotsNeeded n
  if d.bonded s then i % 128 < 126 else mine.length ≤ c || before * c / mine.length < (before + 1) * c / mine.length

/-- The carrier of pair `n` has a stream for its slice: toward the line while it enciphers, its transmitters on; toward the system side while
it receives frames under a key (R168, R185, R198, R204). -/
def Dev.carrierBeats (d : Dev) (line : Bool) (n : Nat) : Bool :=
  if line then d.rd (0x2500 + n) 0x10 = 3 && (d.carrier n).txCur.isSome && d.txOn n
  else !d.sideIdle n && (d.side n).aligned && (d.carrier n).rxCur.isSome

/-- The owner of slot `i` has a beat ready in slice `s` (R204, R345): a carrier while its cipher has a stream, another port while a frame is
being handed over. -/
def Dev.ready (d : Dev) (s n i : Nat) : Bool :=
  if d.mode n = pmCarrier then d.carrierBeats (s / 8 % 2 = 0) n && d.takesSlot s n i else d.handing (pacedSide s n)

/-- A used slot of side `s` in cycle `t`: 64 bytes of the port's frames, one that its scheduler selects now taking what the frame in progress
leaves of them (R323, R346). -/
def Dev.beat (s t : Nat) (d : Dev) : Dev :=
  let r := d.hand s 64
  (if r.1 = 0 then r.2 else ((r.2.select s t 0).hand s r.1).2).leave s t

/-- Slice `s` visits slot `i` of calendar `k` in cycle `t` (R344 to R346, R358): the slot is used by its owner's frame in progress or one
that its scheduler selects now, or it goes to the background requesters. -/
def Dev.visit (s k i t : Nat) (d : Dev) : Dev :=
  let unused := fun (x : Dev) => (x.perf (s / 16) 0x011 (s % 16) 1).bgSlot k t
  match d.ownerAt k (d.slotEntry k (d.activeBank k) i) with
  | none => unused d
  | some n =>
    let side := pacedSide s n
    let d0 := (d.flushBg side t).leave side t
    let d1 := if d.mode n != pmCarrier && !d0.handing side then d0.select side t 0 else d0
    if d1.ready s n i then
      let d2 := d1.perf (s / 16) 0x010 (s % 16) 1
      if d.mode n = pmCarrier then d2 else d2.beat side t
    else unused d1

/-- Slice `s` works: it is ON and not fenced. -/
def Dev.sliceWorks (d : Dev) (s : Nat) : Bool := d.isOn (sliceDom s) && !d.isFenced s

/-- A slot of a slice `s` that does not run, of calendar `k`: the background requesters take it where `bg` (R476, R478). -/
def Dev.idleSlot (s k t : Nat) (bg : Bool) (d : Dev) : Dev :=
  if bg then (d.perf (s / 16) 0x011 (s % 16) 1).bgSlot k t else d

/-- The calendar of slice `s` visits its next slot in cycle `t`, a pending swap taking place at the wrap; a bond visits slot 2j for its
lead and 2j+1 for the partner; while one is fenced the other serves the background requesters in every slot. A fenced slice takes the
frame of its known-answer test alone (R344, R355, R476, R478). -/
def Dev.slotVisit (s t : Nat) (d : Dev) : Dev :=
  if d.rd (0x6000 + s) 5 = 2 then d
  else
    let d0 := if (d.cal s).slot = 0 then d.swapAtWrap s else d
    let j := (d0.cal s).slot
    let d1 := d0.setCal s { d0.cal s with slot := (j + 1) % 128 }
    let testing := fun (k : Nat) => d.isOn (sliceDom k) && d.isPending (0x2600 + k) 0x11
    if !d1.bonded s then
      let d2 := ((d1.editDone s j).settleAsks s).waitAll s
      if d2.sliceWorks s then d2.visit s s j t else d2.idleSlot s s t (testing s)
    else
      let d2 := (((d1.editDone s (2 * j)).editDone s (2 * j + 1)).settleAsks s).waitAll s
      let half := fun (k other i : Nat) (x : Dev) =>
        if !x.sliceWorks k then x.idleSlot k s t (testing k)
        else if x.isFenced other then x.idleSlot k s t true
        else x.visit k s i t
      half (s + 1) s (2 * j + 1) (half s (s + 1) (2 * j) d2)

/-- R346: the calendar visits a slot. -/
def execSlotVisit (k t : Nat) (s : State) : Out := actAt (k < 64) t (Dev.ifRuns (sliceDom k) (Dev.slotVisit k t)) s

/-- What a write of BG_BASE (subindex 0x50) or PRIO_CEIL (0x51) does (R363). -/
def effBgBase (s j : Nat) : Eff := fun _ v d =>
  if !d.calWrites s then (abState, d)
  else
    let d1 := d.wr (0x6000 + s) j v
    let holds := fun r => d1.grantOf s = (some r, false)
    (0, if j = 0x51 then d1
      else (List.range 5).foldl (fun x r => if holds r then x else x.setBgLevel s r (x.bgBase s r)) d1)

/-- R363: BG_BASE, or PRIO_CEIL where `ceil`. -/
def execBgBase (k : Nat) (ceil : Bool) (w : Wr) (s : State) : Out :=
  actIf (k < 64) (Dev.write (effBgBase k (if ceil then 0x51 else 0x50)) (0x6000 + k) (if ceil then 0x51 else 0x50) w) s

/-- A wait of requester `r` past BG_WAIT_LIMIT, once per wait (R364). -/
def Dev.bgWait (s r : Nat) (d : Dev) : Dev :=
  let c := d.cal s
  let lim := d.rd (0x6000 + s) 0x55
  if lim != 0 && lim < nth 0 c.waits r && !c.flagged.contains r then
    (d.setCal s { c with flagged := r :: c.flagged }).cause (.calendar s) 3
  else d

/-- R364: a requester's wait passes BG_WAIT_LIMIT. -/
def execBgWait (k r : Nat) (s : State) : Out := actIf (k < 64) (Dev.ifRuns (sliceDom k) (Dev.bgWait k r)) s

/-- What BG_WAIT_CLEAR does (R351). -/
def effBgWaitClear (s : Nat) : Eff := fun _ _ d =>
  if !d.calWrites s then (abState, d)
  else (0, (List.range 5).foldl (fun x r => x.wr (0x6000 + s) (0x60 + r) 0) d)

/-- R351: BG_WAIT_CLEAR. -/
def execBgWaitClear (k : Nat) (w : Wr) (s : State) : Out :=
  actIf (k < 64) (Dev.write (effBgWaitClear k) (0x6000 + k) 0x65 w) s

/-- A bond formed between lead `s` and slice `s + 1` (R19, R352). -/
def Dev.bondForm (s : Nat) (d : Dev) : Dev :=
  let d1 := (List.range 64).foldl (fun x j => x.wr (0x6000 + s) (0x10 + j) 0) (d.wr (0x6000 + s) 1 0)
  ((((d1.wr (0x6000 + s) 5 1).wr (0x6000 + s + 1) 5 2).wr (0x2600 + s) 3 (s + 1)).wr (0x2600 + s + 1) 3 s)

/-- A bond dissolved: the calendar objects of both slices return to their defaults; a SWAP or HOT_EDIT in progress there completes with
STATE, as a write of the dissolved calendar would (R352; log 172). -/
def Dev.bondEnd (s : Nat) (d : Dev) : Dev :=
  ((({ d with cals := Tbl.drop (fun k => k = s || k = s + 1) d.cals } : Dev).endPend (0x6000 + s) 2 abState).endPend (0x6000 + s) 4
    abState).defaults (fun i j =>
    i = 0x6000 + s || i = 0x6000 + s + 1 || ((i = 0x2600 + s || i = 0x2600 + s + 1) && j = 3))

end Sys2Proof.Machine
end

