-- ==== Sys2Proof/Machine/Jobs.lean ====
section
/-! DEFINITION. Planisher jobs: windows, queues, root caches, and what each job does (R217 to R229, R252). -/
namespace Sys2Proof.Machine

/-- VAULT_STATE is NORMAL. -/
def Dev.vaultNormal (d : Dev) : Bool := d.rd 0x3000 2 = 0

/-- USAGE of slot `s`. -/
def Dev.usage (d : Dev) (s : Nat) : Nat := d.rd (0x3010 + s) 1

/-- Slot `s` is LOADED. -/
def Dev.slotLoaded (d : Dev) (s : Nat) : Bool := d.rd (0x3010 + s) 2 = 1

/-- The content of slot `s`, 0 where overwritten. -/
def Dev.slotKey (d : Dev) (s : Nat) : Nat := (Tbl.get (fun _ => none) d.keys.slots s).getD 0

/-- The content of slot `s` replaced. -/
def Dev.setSlotKey (s : Nat) (k : Option Nat) (d : Dev) : Dev :=
  { d with keys := { d.keys with slots := Tbl.set (fun _ => none) d.keys.slots s k } }

/-- Planisher `p`. -/
def Dev.pl (d : Dev) (p : Nat) : Planisher := Tbl.get (fun _ => Planisher.init) d.keys.planishers p

/-- The jobs of a planisher: the one executing, then the queue. -/
def Planisher.jobs (x : Planisher) : List Job := x.exec.toList ++ x.queue

/-- Planisher `p` replaced, PL_STATE, QUEUED and ROOT_CACHE following (R218, R219). -/
def Dev.setPl (p : Nat) (x : Planisher) (d : Dev) : Dev :=
  let d1 := { d with keys := { d.keys with planishers := Tbl.set (fun _ => Planisher.init) d.keys.planishers p x } }
  ((d1.wr (0x3050 + p) 1 (b2n x.exec.isSome)).wr (0x3050 + p) 2 x.jobs.length).wr (0x3050 + p) 6
    (x.cache.foldl (fun m e => setBit e.1 m) 0)

/-- CACHED_IN of slot `s` made to follow the root caches (R208). -/
def Dev.syncCached (s : Nat) (d : Dev) : Dev :=
  d.wr (0x3010 + s) 5 ((List.range 5).foldl (fun m p => if (d.pl p).cache.any (fun e => e.1 == s) then setBit p m else m) 0)

/-- Slot `s` taken out of planisher `p`'s cache. -/
def Dev.uncache (p s : Nat) (d : Dev) : Dev :=
  let x := d.pl p
  (d.setPl p { x with cache := x.cache.filter (fun e => e.1 != s) }).syncCached s

/-- Planisher `p`'s whole cache erased. -/
def Dev.clearCache (p : Nat) (d : Dev) : Dev :=
  let x := d.pl p
  x.cache.foldl (fun y e => y.syncCached e.1) (d.setPl p { x with cache := [] })

/-- Slot `s` with content `k` put in planisher `p`'s cache, the least recently used of nine leaving (R220). -/
def Dev.cacheRoot (p s k : Nat) (d : Dev) : Dev :=
  let x := d.pl p
  let c := (s, k) :: x.cache.filter (fun e => e.1 != s)
  let out := c.drop 8
  out.foldl (fun y e => y.syncCached e.1) ((d.setPl p { x with cache := c.take 8 }).syncCached s)

/-- The root key a job on planisher `p` takes: none where the slot is not LOADED or its USAGE is none of `us` any longer, which ends the
job as an empty slot does (R210, R222, R224; log 178); fetched over the key bus where it is not cached (R220). -/
def Dev.root (us : List Nat) (p s : Nat) (d : Dev) : Option (Nat × Dev) :=
  if s < 64 && d.slotLoaded s && us.contains (d.usage s) then
    match (d.pl p).cache.find? (fun e => e.1 == s) with
    | some e => some (e.2, d.cacheRoot p s e.2)
    | none => some (d.slotKey s, d.cacheRoot p s (d.slotKey s))
  else none

/-- The usages whose roots planisher `p` accepts (R220). -/
def rootUsages (p : Nat) : List Nat := if p < 4 then [1, 2] else [3, 4, 5]

/-! ## Windows and queues (R219, R221, R222) -/

/-- The claimant of a job (R219): 0 FIRM, 1 HOST, 2 BATCH, 3 none. -/
def Job.claimant (j : Job) : Nat :=
  if j.code = 0x80 then 3 else if j.code = 2 then 2 else if j.role = .firm || j.role = .boot then 0 else 1

/-- Entries reserved to claimant `c` on planisher `p`. -/
def Dev.quota (d : Dev) (p c : Nat) : Nat := if c < 3 then 8 * popCount 8 (d.rd (0x3050 + p) (3 + c)) else 0

/-- The entry a job of claimant `c` takes on planisher `p`: its claimant's own, else an unreserved one, else none (R219). Jobs beyond
their claimant's blocks as these now stand hold unreserved entries. -/
def Dev.entryFor (d : Dev) (p c : Nat) : Option Bool :=
  let js := (d.pl p).jobs
  let mine := fun k => (js.filter (fun j => j.own && j.claimant = k)).length
  let free := (js.filter (fun j => !j.own)).length + (mine 0 - d.quota p 0) + (mine 1 - d.quota p 1) + (mine 2 - d.quota p 2)
  if mine c < d.quota p c && js.length < 64 then some true
  else if free + d.quota p 0 + d.quota p 1 + d.quota p 2 < 64 && js.length < 64 then some false
  else none

/-- A job put at the end of planisher `p`'s queue. -/
def Dev.enqueueJob (p : Nat) (j : Job) (d : Dev) : Dev :=
  let x := d.pl p
  d.setPl p { x with queue := x.queue ++ [j] }

/-- The MKA contexts a role may name (R248). -/
def ctxOk (r : Role) (c : Nat) : Bool := if r = .firm then c < 128 else 128 ≤ c && c < 256

/-- The 64 inline bytes of window `w`, DATA0 byte 0 first. -/
def Dev.winData (d : Dev) (w : Nat) : Bytes := (List.range 8).flatMap (fun k => toBE 8 (d.rd (0x3060 + w) (0x10 + k)))

/-- A job of quadrant `p` names an SA of it (R222). -/
def saIn (p target : Nat) : Bool := target / 16384 = p && target < 65536

/-- The RANGE checks of SUBMIT for window `w` (R222, R223). -/
def Dev.jobRangeOk (d : Dev) (r : Role) (w : Nat) : Bool :=
  let g := fun j => d.rd (0x3060 + w) j
  let p := g 2
  let slot := g 3
  let target := g 4
  let kn := fld 31 0 (g 6)
  let len := g 9
  let usageIs := fun u => slot < 64 && d.usage slot = u
  match g 1 with
  | 1 => p < 4 && usageIs 2 && saIn p target && fld 39 32 (g 6) = kn % 4 && fld 39 32 (g 6) = (d.sa target).an
  | 2 => p < 4 && usageIs 2 && target / 8192 = p && 1 ≤ g 7 && g 7 ≤ 8192 && (target + g 7 - 1) / 8192 = p
  | 3 => slot < 64 && (rootUsages p).contains (d.usage slot)
  | 4 => p = 4 && slot < 63 && 1 ≤ d.usage slot && d.usage slot ≤ 4 && len = 48
  | 5 => p = 4 && usageIs 3 && ctxOk r target && 1 ≤ len && len ≤ 32
  | 6 => p = 4 && ctxOk r target && 16 ≤ len && len ≤ 1500
  | 7 => p = 4 && ctxOk r target
  | 8 => p = 4 && ctxOk r target && (len = 24 || len = 40)
  | 9 => p < 4 && saIn p target && ctxOk r (fld 7 0 (g 7))
  | 10 => p < 4 && saIn p target && 0x80 ≤ slot && slot ≤ 0x83
  | _ => false

/-- A job loads an SA. -/
def loadsSa (code : Nat) : Bool := code = 1 || code = 9 || code = 10

/-- An UNWRAP_BLOB job has reserved slot `s` (R222). -/
def Dev.slotReserved (d : Dev) (s : Nat) : Bool := (d.pl 4).jobs.any (fun j => j.code = 4 && j.slot = s)

/-- The STATE checks of SUBMIT (R222). -/
def Dev.jobStateOk (d : Dev) (w : Nat) : Bool :=
  let g := fun j => d.rd (0x3060 + w) j
  d.vaultNormal && (!loadsSa (g 1) || (d.sa (g 4)).state = saEmpty) &&
  (g 1 != 4 || (d.rd (0x3010 + g 3) 2 = 0 && !d.slotReserved (g 3)))

/-- Window `w` has a job outstanding (R221). -/
def Dev.winBusy (d : Dev) (w : Nat) : Bool := d.rd (0x3060 + w) 0xB = 1 || d.rd (0x3060 + w) 0xB = 2

/-- An SA goes from EMPTY to LOADING, its counters zeroed (R231, R458). -/
def Dev.saLoads (s : Nat) (d : Dev) : Dev := (d.setSa s { d.sa s with state := saLoading }).zeroCounters 6 s

/-- What SUBMIT of window `w` does, on core `core` of the control cluster where FIRM submits (R222). DESIGN CHOICE: inline data beyond the 64
bytes of the window are zeros (log 211). -/
def effSubmit (w core : Nat) : Eff := fun r _ d =>
  let g := fun j => d.rd (0x3060 + w) j
  let p := g 2
  if p < 4 && d.answersOff (tabDom p) then (abPoweredOff, d)
  else if !d.jobRangeOk r w then (abRange, d)
  else if !d.jobStateOk w then (abState, d)
  else if d.winBusy w then (abBusy, d)
  else
    let j : Job := { code := g 1, win := some w, role := r, core := core, slot := g 3, target := g 4, ctxA := g 5, ctxB := g 6,
                     param := g 7, data := (d.winData w).take (g 9), dataAddr := g 8, own := false, started := false, pos := 0,
                     derived := 0, skipped := 0, stop := false, out := [] }
    match d.entryFor p j.claimant with
    | none => (abBusy, d)
    | some own =>
      let d1 := if p < 4 then d.wake (tabDom p) else d
      let d2 := when (loadsSa j.code) (Dev.saLoads j.target) d1
      let d3 := d2.enqueueJob p { j with own := own, data := if g 8 = 0 then j.data ++ List.replicate (g 9 - j.data.length) 0 else [],
                                         pos := 0 }
      (0, (d3.wr (0x3060 + w) 0xB 1).wr (0x3060 + w) 0x1D r.bitNo)

/-- The length of input data that a job's window gave, kept for the read at DATA_ADDR. -/
def jobDataLen (d : Dev) (w : Nat) : Nat := d.rd (0x3060 + w) 9

/-! ## Ends of jobs (R224) -/

/-- The MKA binding that Dymbiloth submitted a job for: its context's number (R249, R250). -/
def Job.binding (j : Job) : Option Nat :=
  if j.win.isSome || j.code = 0x80 then none else some (if j.code = 9 then fld 7 0 j.param else j.target)

/-- The end of a job of an MKA binding noted for it. -/
def Dev.mkaTold (j : Job) (res : Nat) (d : Dev) : Dev :=
  match j.binding with
  | none => d
  | some b => { d with keys := { d.keys with mkaDone := d.keys.mkaDone ++ [(b, res, j.out)] } }

/-- A job ends with result `res`: its window, the counts, the event, and its target SA where the result is not OK (R224). -/
def Dev.endJob (p : Nat) (j : Job) (res : Nat) (d : Dev) : Dev :=
  let d1 := match j.win with
    | some w => ((d.wr (0x3060 + w) 0xB (if res = 0 then 3 else 4)).wr (0x3060 + w) 0xC res)
    | none => d
  let d2 := when (j.code = 2) (fun x => match j.win with
    | some w => x.wr (0x3060 + w) 0xD (j.derived * 2 ^ 32 + j.skipped)
    | none => x) d1
  let d3 := when (res != 0 && loadsSa j.code && (d2.sa j.target).state = saLoading)
    (fun x => x.setSa j.target { x.sa j.target with state := saEmpty }) d2
  let d4 := (d3.mkaTold j res).count 64 (0x3050 + p) (if res = 0 then 7 else 8) 1
  if p < 4 then d4.raise (quadEvent p 2) else d4.raise (if res = 0 then 53 else 54)

/-- The jobs of planisher `p` on which `f` holds end with result `res`; the rest stay. -/
def Dev.endJobs (p res : Nat) (f : Job → Bool) (d : Dev) : Dev :=
  let x := d.pl p
  let gone := x.jobs.filter f
  let d1 := d.setPl p { x with queue := x.queue.filter (fun j => !f j), exec := x.exec.filter (fun j => !f j) }
  gone.foldl (fun y j => y.endJob p j res) d1

/-- What CANCEL of window `w` does (R226). -/
def effCancel (w : Nat) : Eff := fun _ _ d =>
  let p := d.rd (0x3060 + w) 2
  let x := d.pl p
  match x.jobs.find? (fun j => j.win == some w) with
  | none => (abState, d)
  | some j =>
    if !j.started then (0, d.endJobs p 9 (fun y => y.win == some w))
    else if j.code != 2 then (abState, d)
    else if x.queue.any (fun y => y.win == some w) then (0, d.endJobs p 9 (fun y => y.win == some w))
    else (0, d.setPl p { x with exec := some { j with stop := true } })

/-! ## What the jobs do (R223, R227, R228) -/

/-- The bytes of the label "Quinoaro-channel". -/
def labelChannel : Bytes := toBE 16 0x5175696E6F61726F2D6368616E6E656C

/-- The bytes of the label "Quinoaro-carrier". -/
def labelCarrier : Bytes := toBE 16 0x5175696E6F61726F2D63617272696572

/-- The bytes of the label "Quinoaro-DAP". -/
def labelDap : Bytes := toBE 12 0x5175696E6F61726F2D444150

/-- Bits of derived output for a suite (R228). -/
def suiteBits (suite : Nat) : Nat := 8 * suiteKeyLen suite + (if suite < 2 then 0 else 96)

/-- H of a key: AES of a zero block (R130). -/
def hOf (key : Bytes) : Nat := beN (aesBlk (roundKeys (nums key)) (List.replicate 16 0))

/-- SA `s` filled with a key and salt: READY (R223). -/
def Dev.fillSa (s : Nat) (key : Bytes) (salt source kn : Nat) (d : Dev) : Dev :=
  let x := { d.sa s with state := saReady, source := source, key := ofBE key, keyLen := key.length, h := hOf key, salt := salt, keyNo := kn }
  ((Dev.eccClear (Machine.slotKey 16 s) d).setSa s x).saBecomesReady s

/-- The key and salt that a channel SA derives (R227, R228). -/
def channelKey (root suite sci an kn : Nat) : Bytes × Nat :=
  let o := kdf (toBE 32 root) labelChannel (toBE 8 sci ++ toBE 1 an ++ toBE 4 kn) (suiteBits suite)
  (o.take (suiteKeyLen suite), ofBE (o.drop (suiteKeyLen suite)))

/-- R229 refuses key number `kn` for SA `s`: it does not exceed the highest derived into the TX channel's SAs. -/
def Dev.knRefused (d : Dev) (s kn : Nat) : Bool :=
  let x := d.sa s
  !x.rx && kn + 1 ≤ Tbl.get (fun _ => 0) d.keys.highKn (s / 16384 * 8192 + x.channel)

/-- A derivation of key number `kn` into SA `s` from `root` (R223, R229). -/
def Dev.derive (s root sci kn : Nat) (d : Dev) : Dev :=
  let x := d.sa s
  let k := channelKey root x.suite sci x.an kn
  let d1 := d.fillSa s k.1 k.2 1 kn
  if x.rx then d1
  else { d1 with keys := { d1.keys with
           highKn := Tbl.set (fun _ => 0) d1.keys.highKn (s / 16384 * 8192 + x.channel) (kn + 1) } }

/-- The first channel of a batch, from offset `i` on, whose SA at the key number can be derived (R223): its offset, channel and SA,
and how many DERIVED channels were skipped before it. -/
def Dev.batchNext (d : Dev) (j : Job) : Nat → Nat → Nat → Option (Nat × Nat) × Nat
  | 0, _, sk => (none, sk)
  | f + 1, i, sk =>
    let c := j.target + i
    let kn := fld 31 0 j.ctxB
    let a := kn % 4
    let r := d.chan c
    let s := d.saOf c a
    let x := d.sa s
    if !chDerived r then d.batchNext j f (i + 1) sk
    else if chSaOk r a && x.state = saEmpty && x.an = a && x.rx = chRx r && x.channel = c % 8192 && !d.knRefused s kn then
      (some (i, s), sk)
    else d.batchNext j f (i + 1) (sk + 1)

/-- Context `c` (R248). -/
def Dev.ctx (d : Dev) (c : Nat) : Ctx := Tbl.get (fun _ => Ctx.init) d.keys.ctxs c

/-- Context `c` replaced. -/
def Dev.setCtx (c : Nat) (x : Ctx) (d : Dev) : Dev :=
  { d with keys := { d.keys with ctxs := Tbl.set (fun _ => Ctx.init) d.keys.ctxs c x } }

/-- The IEEE 802.1X key derivation: AES-CMAC over count (1 byte) ‖ label ‖ 0x00 ‖ context ‖ length (2 bytes); the block counts of
Table Job timing are these (log 14). -/
def kdfDot1x (key label context : Bytes) : Bytes :=
  ((List.range (key.length / 16)).flatMap (fun i =>
    cmac key (toBE 1 (i + 1) ++ label ++ [0] ++ context ++ toBE 2 (8 * key.length)))).take key.length

/-- "IEEE8021 ICK". -/
def labelIck : Bytes := toBE 12 0x494545453830323120_49434B
/-- "IEEE8021 KEK". -/
def labelKek : Bytes := toBE 12 0x494545453830323120_4B454B

/-- A test key of R252, 32 bytes. -/
def testKey (slot : Nat) : Bytes :=
  match slot with
  | 0x80 => List.replicate 32 0
  | 0x81 => (List.range 32).map (BitVec.ofNat 8)
  | 0x82 => List.replicate 32 0xFF
  | _ => (List.replicate 16 [0x5A, 0xA5]).flatten

/-- The default initial value of RFC 3394. -/
def wrapIv : Bytes := List.replicate 8 0xA6

/-- The 40-byte WRAPPED area of window `w` written. -/
def Dev.putWrapped (w : Nat) (b : Bytes) (d : Dev) : Dev :=
  (List.range 5).foldl (fun x k => x.wr (0x3060 + w) (0x18 + k) (ofBE (slice (8 * k) 8 (b ++ List.replicate 40 0)))) d

/-- RESULT_LO ‖ RESULT_HI of window `w` written. -/
def Dev.putResult (w : Nat) (b : Bytes) (d : Dev) : Dev :=
  (d.wr (0x3060 + w) 0xD (beAt 0 8 b)).wr (0x3060 + w) 0xE (beAt 8 8 b)

/-- An operation on the window a job came from. -/
def onWin (j : Job) (f : Nat → Dev → Dev) (d : Dev) : Dev := match j.win with
  | some w => f w d
  | none => d

/-- UNWRAP_BLOB (R214, R215): its source is the entry key in slot 63, taken as any job takes its root (R220). -/
def Dev.runBlob (j : Job) (b : Bytes) (d : Dev) : Nat × Dev :=
  let s := j.slot
  match d.root [5] 4 63 with
  | none => (1, d)
  | some (k, d1) =>
    let u := d1.usage s
    let w := keyUnwrap (toBE 32 k) (slice 8 40 b)
    let iv : Bytes := [0xA6, 0xA6, 0xA6, 0xA6, BitVec.ofNat 8 u, BitVec.ofNat 8 s, 0xA6, 0xA6]
    if beAt 0 4 b = 0x514B4231 && beAt 4 1 b = 1 && beAt 5 1 b = u && beAt 6 1 b = s && d1.rd (0x3010 + s) 2 = 0 && w.1 = iv then
      (0, ((d1.setSlotKey s (some (ofBE w.2))).wr (0x3010 + s) 2 1).count 32 (0x3010 + s) 3 1)
    else (2, d1.raise 52)

/-- MKA_KEYS (R210, R223): ICK and KEK from the CAK and the first 16 octets of the CKN, zero-filled. -/
def Dev.runMkaKeys (j : Job) (ckn : Bytes) (d : Dev) : Nat × Dev :=
  match d.root [3] 4 j.slot with
  | none => (1, d)
  | some (k, d1) =>
    let n := if bit 0 j.param then 32 else 16
    let cak := (toBE 32 k).take n
    let id := (ckn ++ List.replicate 16 0).take 16
    let x := d1.ctx j.target
    (0, d1.setCtx j.target { x with hasKeys := true, ick := ofBE (kdfDot1x cak labelIck id), kek := ofBE (kdfDot1x cak labelKek id),
                                    cakLen := n, cakSlot := j.slot })

/-- MKA_ICV (R223): the result, the ICV and the block. -/
def Dev.runIcv (j : Job) (msg : Bytes) (d : Dev) : Nat × Bytes × Dev :=
  let x := d.ctx j.target
  if !x.hasKeys then (4, [], d)
  else
    let icv := cmac (toBE x.cakLen x.ick) msg
    if bit 0 j.param && ofBE icv != j.ctxA * 2 ^ 64 + j.ctxB then (3, [], d) else (0, icv, d)

/-- RANDOM_SAK (R216, R223): the result, the wrapped SAK and the block. -/
def Dev.runRandomSak (j : Job) (d : Dev) : Nat × Bytes × Dev :=
  let x := d.ctx j.target
  if !x.hasKeys then (4, [], d)
  else if d.rd 0x3000 6 != 0 then (7, [], d)
  else
    let n := if bit 0 j.param then 32 else 16
    let (v, d1) := d.draw
    let sak := (toBE 32 v).take n
    let d2 := { d1 with keys := { d1.keys with requests := d1.keys.requests + 1 } }
    (0, keyWrap (toBE x.cakLen x.kek) wrapIv sak,
      d2.setCtx j.target { x with hasSak := true, sak := ofBE sak, sakLen := n, spent := false })

/-- UNWRAP_SAK (R223). -/
def Dev.runUnwrapSak (j : Job) (b : Bytes) (d : Dev) : Nat × Dev :=
  let x := d.ctx j.target
  if !x.hasKeys then (4, d)
  else
    let w := keyUnwrap (toBE x.cakLen x.kek) b
    if w.1 != wrapIv then (8, d)
    else (0, d.setCtx j.target { x with hasSak := true, sak := ofBE w.2, sakLen := w.2.length, spent := false })

/-- The XPN salt of an MKA SAK: the key server's MI its upper 32 bits exclusive-ored with KN's halves exchanged, as IEEE 802.1X forms it
(log 14). -/
def mkaSalt (mi kn : Nat) : Nat := mi ^^^ (fld 15 0 kn * 2 ^ 80 + fld 31 16 kn * 2 ^ 64)

/-- HASHKEY (R223, R240). -/
def Dev.runHashkey (j : Job) (d : Dev) : Nat × Dev :=
  let c := fld 7 0 j.param
  let x := d.ctx c
  let s := d.sa j.target
  if !x.hasSak || x.sakLen != suiteKeyLen s.suite || (x.spent && !s.rx) then (4, d)
  else
    let kn := fld 31 0 j.ctxB
    let mi := j.ctxA * 2 ^ 32 + fld 63 32 j.ctxB
    let d1 := when (!s.rx) (Dev.setCtx c { x with spent := true }) d
    (0, d1.fillSa j.target (toBE x.sakLen x.sak) (if s.suite < 2 then 0 else mkaSalt mi kn) 2 kn)

/-- A job's whole effect: its result, what it puts out, and the block; `b` is its input data (R223, R224). -/
def Dev.runJob (p : Nat) (j : Job) (b : Bytes) (d : Dev) : Nat × Bytes × Dev :=
  let plain := fun (r : Nat × Dev) => (r.1, ([] : Bytes), r.2)
  match j.code with
  | 1 =>
    match d.root [2] p j.slot with
    | none => (1, [], d)
    | some (k, d1) =>
      let kn := fld 31 0 j.ctxB
      if d1.knRefused j.target kn then (5, [], d1) else (0, [], d1.derive j.target k j.ctxA kn)
  | 3 =>
    match d.root (rootUsages p) p j.slot with
    | none => (1, [], d)
    | some (_, d1) => (0, [], d1)
  | 4 => plain (d.runBlob j b)
  | 5 => plain (d.runMkaKeys j b)
  | 6 => d.runIcv j b
  | 7 => d.runRandomSak j
  | 8 => plain (d.runUnwrapSak j b)
  | 9 => plain (d.runHashkey j)
  | _ =>
    let s := d.sa j.target
    (0, [], d.fillSa j.target ((testKey j.slot).take (suiteKeyLen s.suite)) 0 3 s.keyNo)

/-- A job's output written to its window: RESULT_LO and RESULT_HI, or WRAPPED (R221, R223). -/
def Dev.deliverOut (j : Job) (out : Bytes) (d : Dev) : Dev :=
  if out.isEmpty then d else onWin j (fun w => if j.code = 6 then Dev.putResult w out else Dev.putWrapped w out) d

/-- The executing job of planisher `p` replaced. -/
def Dev.setExec (p : Nat) (j : Option Job) (d : Dev) : Dev := d.setPl p { d.pl p with exec := j }

/-- A batch works on its next channel (R223, R225): one SA derived, then it lets every job queued at that moment run; at its end it
has result OK, or CANCELLED where CANCEL was accepted before (R226). -/
def Dev.runBatch (p : Nat) (j : Job) (d : Dev) : Dev :=
  match d.root [2] p j.slot with
  | none => (d.setExec p none).endJob p j 1
  | some (k, d1) =>
    match d1.batchNext j (j.param - j.pos) j.pos 0 with
    | (none, sk) => (d1.setExec p none).endJob p { j with skipped := j.skipped + sk } (if j.stop then 9 else 0)
    | (some (i, s), sk) =>
      let c := j.target + i
      let d2 := d1.derive s k (chSci (d1.chan c)) (fld 31 0 j.ctxB)
      let d3 := (d2.zeroCounters 6 s)
      let j1 := { j with pos := i + 1, derived := j.derived + 1, skipped := j.skipped + sk }
      if j.stop then (d3.setExec p none).endJob p j1 9
      else if (d3.pl p).queue.isEmpty then d3.setExec p (some j1)
      else (d3.setExec p none).enqueueJob p j1

/-- The planisher takes the job at its queue's head where it executes none; `cont` says the head is a batch that has started. -/
def Dev.startJob (cont : Bool) (p : Nat) (d : Dev) : Dev :=
  let x := d.pl p
  match x.exec, x.queue with
  | none, j :: rest =>
    if j.started = cont then
      let d1 := d.setPl p { x with queue := rest, exec := some { j with started := true } }
      match j.win with
      | some w => d1.wr (0x3060 + w) 0xB 2
      | none => d1
    else d
  | _, _ => d

/-- The job takes input bytes, inline or at DATA_ADDR (R223). -/
def takesData (code : Nat) : Bool := code = 4 || code = 5 || code = 6 || code = 8

/-- The executing job of planisher `p` ends; `mem` is what was read at DATA_ADDR, none where the read failed (R223, R224); of two
failures the one of lesser code is its result (log 90). Carrier derivations end by CARRIER_KEY_LOADED. -/
def Dev.completeJob (p : Nat) (mem : Option Bytes) (d : Dev) : Dev :=
  match (d.pl p).exec with
  | none => d
  | some j =>
    if j.code = 0x80 then d
    else if j.code = 2 then d.runBatch p j
    else
      let d1 := d.setExec p none
      let r := d1.runJob p j (if j.dataAddr = 0 then j.data else mem.getD [])
      if takesData j.code && j.dataAddr != 0 && mem.isNone && r.1 != 1 && r.1 != 4 then d1.endJob p j 8
      else (r.2.2.deliverOut j r.2.1).endJob p { j with out := r.2.1 } r.1

/-- The slot that a job takes its root from, and the usages that fit, none where it takes no root (R220, R223). -/
def Job.source (p : Nat) (j : Job) : Option (Nat × List Nat) :=
  match j.code with
  | 1 | 2 => some (j.slot, [2])
  | 3 => some (j.slot, rootUsages p)
  | 4 => some (63, [5])
  | 5 => some (j.slot, [3])
  | 0x80 => some (j.slot, [1])
  | _ => none

/-- A transfer on the key bus for the executing job of planisher `p` (R217, R220): the root into its cache, or a SAK on its way to
an SA; a CRC failure ends the job with KEY_BUS_ERROR and raises E55. The bus is stopped while zeroisation runs (R254). An armed
injection of point 0x07 fails the transfer (R486). -/
def Dev.keyBus (p : Nat) (ok : Bool) (d : Dev) : Dev :=
  match (d.pl p).exec with
  | none => d
  | some j =>
    let hit := (d.armed 0x07 (fun i _ => i = p)).isSome
    if d.rd 0x3000 2 = 1 then d
    else if ok && !hit then
      let d := d.perf 4 0x150 0 1
      match j.source p with
      | some (s, us) =>
        if s < 64 && d.slotLoaded s && us.contains (d.usage s) && !(d.pl p).cache.any (fun e => e.1 == s) then
          d.cacheRoot p s (d.slotKey s)
        else d
      | none => d
    else
      let d1 := (((when hit Dev.struck d).perf 4 0x150 0 1).setExec p none).raise 55
      d1.endJob p j 6

/-- A job that a control-cluster core among `cores` submitted as FIRM, Dymbiloth's own for its MKA included, or as BOOT through a window; what
AUTO_LOAD queues is no core's (R193, R226, R250). -/
def Job.ofCores (j : Job) (cores : List Nat) : Bool :=
  (j.role = .firm || (j.role = .boot && j.win.isSome)) && cores.contains j.core

end Sys2Proof.Machine
end

