-- ==== Sys2Proof/Machine/LaneBase.lean ====
section
/-! DEFINITION. What the lanes and sides of a pair share: their states (R89, R90, R97 to R99), alignment (R102, R104, R184), forming and
releasing a pair (R93, R94), and the carrier's record at its anchor (R161). -/
namespace Sys2Proof.Machine

/-- Bit `b` of DEFECTS of carrier `n`. -/
def Dev.defect (d : Dev) (n b : Nat) : Bool := bit b (d.rd (0x2500 + n) 0x11)

/-- CARRIER_STATE of carrier `n` made `v`; a change is cause STATE_CHANGE (R207). -/
def Dev.setCarrierState (n v : Nat) (d : Dev) : Dev :=
  if d.rd (0x2500 + n) 0x10 = v then d else (d.wr (0x2500 + n) 0x10 v).cause (.carrier n) 0

/-- Every lane of side `s` is LOCKED. -/
def Dev.lanesLocked (d : Dev) (s : Nat) : Bool := (d.sideLanes s).all (fun l => d.laneState l = lnLocked)

/-- Side `s` is the line side of a carrier. -/
def Dev.carrierLine (d : Dev) (s : Nat) : Bool := s < 256 && d.mode s = pmCarrier

/-- The state side `s` is in (R97, R99, R105, R112, R187). -/
def Dev.sideTarget (d : Dev) (s : Nat) : Nat :=
  let x := d.side s
  if d.mode (s % 256) = pmOff || d.sideIdle s || d.power.forming.contains (s % 256) || d.power.exiting.contains s then stDown
  else if x.fault != 0 || (d.carrierLine s && d.rd (0x2500 + s) 0x11 % 32 != 0) then stDefect
  else if d.lanesLocked s && x.aligned then stUp
  else if x.wasUp then stDefect
  else if d.lanesLocked s then stAligning else stTraining

/-- The state of side `s` made to follow; entries of DEFECT are counted, a change of PORT_STATE raises the pair's event (R89, R90). -/
def Dev.evalSide (s : Nat) (d : Dev) : Dev :=
  tracking [s % 256] (fun y =>
    let t := y.sideTarget s
    let y1 := when (t = stDefect && y.sideState s != stDefect)
      (Dev.count 64 (0x2000 + s) (if s < 256 then 0x18 else 0x19) 1) (y.setSideState s t)
    when (t = stUp) (Dev.setSide s { y1.side s with wasUp := true }) y1) d

/-- DEFECTS bit OOF of carrier `n`: a lane is not IN_FRAME, or deskew has not succeeded (R184). -/
def Dev.syncOof (n : Nat) (d : Dev) : Dev :=
  if d.carrierLine n then d.wrBit (0x2500 + n) 0x11 5 (!(d.side n).aligned) else d

/-- Side `s` loses its alignment. -/
def Dev.unalign (s : Nat) (d : Dev) : Dev :=
  (((d.setSide s { d.side s with aligned := false }).wr (0x2000 + s) 0x12 (2 ^ 64 - 1)).wr (0x2000 + s) 0x13 0).syncOof s

/-- Lane `l` starts over with its stored adaptation: no codeword lock, no frame, no inverted match pending, its polarity kept. -/
def Dev.restartLane (l state : Nat) (d : Dev) : Dev :=
  let x := d.lane l
  let d1 := (d.setLane l { Lane.init with adapt := x.adapt, polDone := x.polDone }).setLaneState l state
  if l < 256 then d1.wr (0x2200 + l) 0x11 0 else d1

/-- The numbers of a permutation: each of 0 to w-1 stands once in `pos`. -/
def isOrder (w : Nat) (pos : List Nat) : Bool := pos.length = w && (List.range w).all (fun i => pos.contains i)

/-- Side `s` aligned: lane i of it stands at position `pos[i]` of the transmitter's order and arrives `skew[i]` ps late, so that it lags the
earliest lane by the difference (R102, R104, R105, R184). A skew beyond 180 ns, or a set of positions that is no order, leaves it unaligned. -/
def Dev.alignSide (s : Nat) (pos skew : List Nat) (d : Dev) : Dev :=
  let ls := d.sideLanes s
  let w := ls.length
  let first := (List.range w).foldl (fun a i => min a (nth 0 skew i)) (nth 0 skew 0)
  let lag := fun i => nth 0 skew i - first
  let top := (List.range w).foldl (fun a i => max a (lag i)) 0
  let d1 := (List.range w).foldl (fun x i => x.wr (0x2200 + nth 0 ls i) 8 (lag i % 2 ^ 32)) d
  if 180000 < top || !isOrder w pos then (d1.unalign s).evalSide s
  else
    let was := (d.side s).aligned
    let map := (List.range 16).foldl (fun a i => a + (if i < w then nth 0 pos i else 15) * 16 ^ i) 0
    let rev := 1 < w && (List.range w).all (fun i => nth 0 pos i = w - 1 - i)
    let d2 := ((d1.wr (0x2000 + s) 0x12 map).wr (0x2000 + s) 0x13 (b2n rev)).wr (0x2000 + s) 0x17
      (if was then max top (d1.rd (0x2000 + s) 0x17) else top)
    ((d2.setSide s { d2.side s with aligned := true }).syncOof s).evalSide s

/-- The lanes of side `s` begin bring-up, or wait in IDLE where its power object says so (R93, R97, R112). -/
def Dev.startSide (s : Nat) (d : Dev) : Dev :=
  let st := if d.sideIdle s then lnIdle else lnSignalWait
  let d1 := (d.sideLanes s).foldl (fun x l => (x.setLane l Lane.init).restartLane l st) d
  ((d1.setSide s Side.init).unalign s).evalSide s

/-- The lanes of side `s` released: transmitters off, nothing stored. -/
def Dev.releaseSide (s : Nat) (d : Dev) : Dev :=
  let d1 := (d.sideLanes s).foldl (fun x l => ((x.setLane l Lane.init).restartLane l lnOff).wr (0x2200 + l) 4 0) d
  (d1.unalign s).setSide s Side.init

/-! ## Forming and releasing -/

/-- SYS_FEC code `f` is allowed on the system port of pair `n` in mode `m` (R86, R88; gearbox lanes run RS(544,514), log 17). DESIGN
CHOICE: no row covers the system port of a CBR client, which takes NONE alone, nor of a 1.6TbE client, which takes RS(544,514) alone
(log 161). -/
def Dev.sysFecOk (d : Dev) (n m f : Nat) : Bool :=
  let ct := d.rd (0x2500 + n) 2
  f = 0xFF || (if d.gearbox n then f = 3
    else if m = pmCarrier then (if 0x20 ≤ ct then f = 0 else if ct = 5 then f = 3 else fecAllowed (clientRate ct) (d.width n) f)
    else fecAllowed (d.rd (0x2000 + n) 5) (d.width n) f)

/-- Gearbox pairing of pair `n` keeps R95 in mode `m`. -/
def Dev.gearboxOk (d : Dev) (n m : Nat) : Bool :=
  let w := d.width n
  let lr := lineRate (d.rd (0x2000 + n) 5) w
  !d.gearbox n || (2 * w ≤ 16 && n % (2 * w) = 0 &&
    (if m = pmCarrier then clientLaneRate (d.rd (0x2500 + n) 2) w = 5 else lr = 4 || lr = 5))

/-- CARRIER_MAPPING of pair `n` as it reads: 1 at behaviour level 1 (R161). -/
def Dev.mapping (d : Dev) (n : Nat) : Nat := if d.level1 n then 1 else d.rd (0x2500 + n) 1

/-- Width `w` is allowed at anchor `n` in mode `m` (R14). -/
def widthOk (n w m : Nat) : Bool := n % w = 0 && (w ≤ 8 || m = pmCarrier)

/-- The combination of check 2 of R93. -/
def Dev.combinationOk (d : Dev) (n m : Nat) : Bool :=
  let w := d.width n
  let lr := lineRate (d.rd (0x2000 + n) 5) w
  lr != 0 && (if m = pmCarrier then 6 ≤ lr && d.rd (0x2000 + n) 0x10 = 3 && carrierFits (d.rd (0x2500 + n) 2) (d.mapping n) lr w
    else lr ≤ 5 && fecAllowed (d.rd (0x2000 + n) 5) w (d.rd (0x2000 + n) 0x10)) &&
  d.gearboxOk n m && d.sysFecOk n m (d.rd (0x2100 + n) 0x18) &&
  (d.rd (0x2000 + n) 0x14 = 0 || trains lr) && (d.rd (0x2100 + n) 0x14 = 0 || trains (d.sysRate n m))

/-- The abort of a write of PORT_MODE `m` on a pair that is OFF: the first check of R93 that fails, 0 where all pass. Check 3 never fails:
a pair at level 1 has no level-2-only behaviour left to select. -/
def Dev.formAbort (d : Dev) (n m : Nat) : Nat :=
  if !widthOk n (d.width n) m then abRange
  else if !d.combinationOk n m then abRange
  else if (d.pairDomains n).any (fun k => !(d.isOn k || d.pstate k = psRetain)) then abState
  else if (d.pairLanes n).any (fun l => d.rd (0x2200 + l) 0xA != 0 || d.rd (0x2200 + l) 0xB != 0) then abState
  else if (d.pairLanes n).any (fun l => (d.laneHolder l).isSome) then abConflict
  else 0

/-- Both sides of a formed pair whose domains are ON begin bring-up (R93, R404). -/
def Dev.startPair (n : Nat) (d : Dev) : Dev :=
  (({ d with power := { d.power with forming := d.power.forming.filter (· != n) } } : Dev).startSide n).startSide (256 + n)

/-- Pair `n` takes its lanes in mode `m`: the domains in RETAIN wake, a 16-lane carrier forms its bonds, both sides start once every
domain is ON (R19, R93, R352, R404). -/
def Dev.formPair (n m : Nat) (d : Dev) : Dev :=
  let d1 := (d.pairDomains n).foldl (fun x k => x.wake k) d
  let d2 := d1.wr (0x2000 + n) 1 m
  let d3 := if d2.width n = 16 then (d2.bondForm (eSliceOf n)).bondForm (dSliceOf n) else d2
  let d4 := when (m = pmCarrier) (Dev.setCarrierState n 1) d3
  let d5 := if (d4.pairDomains n).all d4.isOn then d4.startPair n
    else { d4 with power := { d4.power with forming := n :: d4.power.forming } }
  (d5.evalShort (eSliceOf n)).evalShort (dSliceOf n)

/-- The entries of the schedule queue that belong to pair `n` removed, submitted gate lists with them (R390). -/
def Dev.unschedulePair (n : Nat) (d : Dev) : Dev :=
  let d1 := d.unschedule (fun o => match o with
    | .carrier a => a = n
    | .gate g => g % 256 = n
    | .channel c _ => chPair (d.chan c) = n)
  [n, 256 + n].foldl (fun x g => (x.setGate g { x.gate g with submitted := none }).wr (0x5800 + g) 9 0) d1

/-- Client frames of the carrier of pair `n` that are in flight as it ends: those taken in are dropped; the one open toward the system side
ends cut where a part of it has left, else it is dropped (R132, R446, R447; DESIGN CHOICE: with UNCLASSIFIED, log 18). -/
def Dev.endClients (n : Nat) (d : Dev) : Dev :=
  let cut := (d.carrier n).opened = 1 && !d.level1 n && 0 < d.ctr 1 n 12
  let d1 := (List.range (d.ctr 1 n 4)).foldl (fun x _ => x.dropped n false dropUnclassified) d
  let d2 := when cut (fun x => (x.forwarded n true 0).cnt 1 n 13) d1
  (List.range (d2.ctr 1 n 12)).foldl (fun x _ => x.dropped n true dropUnclassified) d2

/-- The carrier of pair `n` set OFF: its client frames end, keys and derivations are gone, its status objects at their defaults; EPOCH_HIGH and
the counters stay (R192; log 18). -/
def Dev.carrierOff (n : Nat) (d : Dev) : Dev :=
  let d1 := ((d.endClients n).endJobs (quadOf n) 9 (fun j => j.code = 0x80 && j.target = n)).setCarrier n Carrier.init
  (d1.setCarrierState n 0).defaults (fun i j => i = 0x2500 + n && (j = 0x11 || within 0x15 4 j || j = 0x1C || j = 0x1E))

/-- PORT_MODE of pair `n` written OFF: its queued frames are discarded, those in transit end, its lanes are released, its loopback ends
(R94, R316, R390, R482). -/
def Dev.portOff (n : Nat) (d : Dev) : Dev :=
  if d.mode n = pmOff then d
  else
    tracking [n] (fun y0 =>
      let x := ((y0.emptySide n dropUnclassified).emptySide (256 + n) dropUnclassified).runOutPair n y0.now
      let y : Dev := { x with power := { x.power with forming := x.power.forming.filter (· != n),
                                                      exiting := x.power.exiting.filter (fun s => s % 256 != n) } }
      let y1 := (y.releaseSide n).releaseSide (256 + n)
      let y2 := if y.width n = 16 then (y1.bondEnd (eSliceOf n)).bondEnd (dSliceOf n) else y1
      let y3 := when (y.mode n = pmCarrier) (Dev.carrierOff n) y2
      let y4 := ((y3.unschedulePair n).wr (0x9030 + quadOf n) (1 + n % 64) 0).wr (0x2000 + n) 1 pmOff
      (((y4.setSideState n stDown).setSideState (256 + n) stDown).evalShort (eSliceOf n)).evalShort (dSliceOf n)) d

end Sys2Proof.Machine
end

