-- ==== Sys2Proof/Machine/CarrierBase.lean ====
section
/-! DEFINITION. Carriers: client mapping, keys and epochs, defects, and the frame sent each period (R163 to R195). -/
namespace Sys2Proof.Machine

/-- `f` applied `k` times. -/
def times (k : Nat) (f : Dev → Dev) (d : Dev) : Dev := (List.range k).foldl (fun x _ => f x) d

/-- Exclusive or of two byte strings, as long as the shorter. -/
def xorB (a b : Bytes) : Bytes := List.zipWith (· ^^^ ·) a b

/-! ## The client's coding (R174). PRESUMED: the 256b/257b transcoding is that of IEEE 802.3 Clause 119, each byte's least significant
bit first (log 174) -/

/-- The bits of a byte string, most significant bit of each byte first. -/
def bitsOf (b : Bytes) : List Bool := b.flatMap (fun x => (List.range 8).map x.getMsbD)

/-- A bit string as bytes, the first bit the most significant, the last byte's other bits zeros. -/
def packBits (l : List Bool) : Bytes :=
  (List.range ((l.length + 7) / 8)).map (fun i => BitVec.ofNat 8 ((List.range 8).foldl (fun a k => 2 * a + b2n (l.getD (8 * i + k) false)) 0))

/-- The bits of a byte string in the order a line sends them. -/
def bodyBits (b : Bytes) : List Bool := b.flatMap (fun x => (List.range 8).map x.getLsbD)

/-- The bytes that bits in that order spell. -/
def bodyBytes (l : List Bool) : Bytes :=
  (List.range (l.length / 8)).map (fun i => BitVec.ofNat 8 ((List.range 8).foldl (fun a k => a + b2n (l.getD (8 * i + k) false) * 2 ^ k) 0))

/-- Four 64b/66b blocks as one 257-bit block: four of data; else a flag for each, the second nibble of the first control block's type left
out. -/
def transcode (l : List (Bool × Bytes)) : List Bool :=
  let p := l.flatMap (fun x => bodyBits x.2)
  if l.all (fun x => !x.1) then true :: p
  else
    let c := l.findIdx (·.1)
    false :: l.map (fun x => !x.1) ++ p.take (64 * c + 4) ++ p.drop (64 * c + 8)

/-- The second nibble of a control block's type, by the first one. -/
def typeNibble (n : Nat) : Nat :=
  match n with
  | 0xE => 1 | 0xD => 2 | 3 => 3 | 0xB => 4 | 5 => 5 | 6 => 6 | 8 => 7 | 7 => 8 | 9 => 9 | 0xA => 0xA | 4 => 0xB | 0xC => 0xC | 2 => 0xD
  | 1 => 0xE | 0xF => 0xF | _ => 0

/-- The four 64b/66b blocks of a 257-bit block. -/
def untranscode (l : List Bool) : List (Bool × Bytes) :=
  let blocks := fun (flags p : List Bool) =>
    (List.range 4).map (fun j => (!(flags.getD j true), bodyBytes ((p.drop (64 * j)).take 64)))
  match l with
  | true :: p => blocks [] p
  | _ =>
    let flags := (l.drop 1).take 4
    let p := l.drop 5
    let c := flags.findIdx (!·)
    let at' := 64 * c + 4
    let low := (List.range 4).foldl (fun a k => a + b2n (p.getD (64 * c + k) false) * 2 ^ k) 0
    blocks flags (p.take at' ++ (List.range 4).map (fun k => bit k (typeNibble low)) ++ p.drop at')

/-- Whole groups of four blocks transcoded, and the blocks left. -/
def transcodeAll : Nat → List (Bool × Bytes) → List Bool × List (Bool × Bytes)
  | 0, l => ([], l)
  | k + 1, l => if l.length < 4 then ([], l) else let r := transcodeAll k (l.drop 4); (transcode (l.take 4) ++ r.1, r.2)

/-- Whole 257-bit blocks decoded, and the bits left. -/
def untranscodeAll : Nat → List Bool → List (Bool × Bytes) × List Bool
  | 0, l => ([], l)
  | k + 1, l => if l.length < 257 then ([], l) else let r := untranscodeAll k (l.drop 257); (untranscode (l.take 257) ++ r.1, r.2)

/-- What a client of type `ct` brings taken into the store: its markers removed, 100GbE and above transcoded, 10GBASE-R and 25GBASE-R as 66
bits a block, a constant-bit-rate one bit by bit. -/
def Carrier.take (x : Carrier) (ct : Nat) (l : List ClientItem) : Carrier :=
  let blocks := l.filterMap (fun i => match i with
    | .block c b => some (c, (b ++ List.replicate 8 0).take 8)
    | _ => none)
  if 0x20 ≤ ct then { x with store := x.store ++ l.filterMap (fun i => match i with | .bit v => some v | _ => none) }
  else if 0x10 ≤ ct then { x with store := x.store ++ blocks.flatMap (fun b => b.1 :: (!b.1) :: bodyBits b.2) }
  else
    let r := transcodeAll (x.group.length + blocks.length) (x.group ++ blocks)
    { x with store := x.store ++ r.1, group := r.2 }

/-! ## Client mapping (R173 to R180) -/

/-- D_nom of a client on `w` lanes, in bits (R179). -/
def jcNominal (ct w : Nat) : Nat :=
  match ct with
  | 1 => if w = 1 then 61895 else if w = 2 then 123790 else 247580
  | 2 => if w = 2 then 123790 else if w = 4 then 247580 else 495161
  | 3 => if w = 4 then 247580 else 495161
  | 4 => 495161
  | 5 => 990322
  | 0x10 => 25432
  | 0x20 => 25432
  | _ => 63581

/-- The enciphered span in pointer mode (R175). -/
def ptrSpan (w : Nat) : Nat :=
  match w with
  | 1 => 7739
  | 2 => 15478
  | 4 => 30956
  | 8 => 61911
  | _ => 123822

/-- CLIENT_TYPE of carrier `n`. -/
def Dev.clientType (d : Dev) (n : Nat) : Nat := d.rd (0x2500 + n) 2

/-- The client is a constant-bit-rate one (R173). -/
def Dev.isCbr (d : Dev) (n : Nat) : Bool := 0x20 ≤ d.clientType n

/-- The enciphered span E of carrier `n` in bytes (R175, R179). -/
def Dev.span (d : Dev) (n : Nat) : Nat :=
  if d.mapping n = 0 then ptrSpan (d.width n) else (jcNominal (d.clientType n) (d.width n) + 16 * d.width n + 7) / 8

/-- The I bits and the D bits of the POINTER field (R177). -/
def ptrI : Nat := 0x2AA
/-- The D bits. -/
def ptrD : Nat := 0x155

/-- A JC count held to its range (R179). -/
def jcClamp (c : Int) : Int := if c < -16 then -16 else if 16 < c then 16 else c

/-- The justification of a frame (R176): client bytes of the span skipped before the data, 0 decrement, 2N normal, 4N increment. -/
def justSkip (w : Nat) (adj : Int) : Nat :=
  if Int.ofNat (2 * w) ≤ adj then 0 else if adj ≤ -(Int.ofNat (2 * w)) then 4 * w else 2 * w

/-- Client bits a frame carries: `skip` of pointer mode, or the JC count in force (R177, R179). -/
def Dev.clientBits (d : Dev) (n skip : Nat) (c : Int) : Nat :=
  if d.mapping n = 0 then 8 * (d.span n - skip)
  else (Int.ofNat (jcNominal (d.clientType n) (d.width n)) + c * Int.ofNat (d.width n)).toNat

/-- V of the next frame (R177). -/
def nextV (v bits : Nat) : Nat := (v + 257 * bits - bits) % 257

/-- The enciphered span of a frame as the mapper fills it from the store, most significant bit first (R167, R174, R176, R179). -/
def Dev.mapSpan (d : Dev) (n skip : Nat) (c : Int) (store : List Bool) : Bytes :=
  let bits := d.clientBits n skip c
  let lead := if d.mapping n = 0 then skip else 0
  (List.replicate lead 0 ++ packBits (store.take bits) ++ List.replicate (d.span n) 0).take (d.span n)

/-! ## Keys and epochs (R169, R191 to R196) -/

/-- The direction byte of the frames carrier `n` sends (`tx`) or receives: role A sends 0x01, role B 0x02 (R169). -/
def Dev.direction (d : Dev) (n : Nat) (tx : Bool) : Nat := if (d.rd (0x2500 + n) 4 = 0) = tx then 1 else 2

/-- Carrier key and salt of epoch `e` in a direction from a root (R169, R227). -/
def carrierKey (root ident e dir : Nat) : CKey :=
  let o := kdf (toBE 32 root) labelCarrier (toBE 4 ident ++ toBE 4 e ++ toBE 1 dir) 352
  ⟨e, ofBE (o.take 32), ofBE (o.drop 32), none⟩

/-- The IV of frame counter `fc` under a salt (R168). -/
def carrierIv (ident fc salt : Nat) : Bytes := toBE 12 ((ident * 2 ^ 64 + fc * 2 ^ 16) ^^^ salt)

/-- A derivation for direction `dir` of carrier `n` waits or runs. -/
def Dev.derivePending (d : Dev) (n dir : Nat) : Bool :=
  (d.pl (quadOf n)).jobs.any (fun j => j.code = 0x80 && j.target = n && j.ctxA = dir)

/-- A derivation submitted: none where the planisher has no entry for it (R193, R219, R247), or the vault is not NORMAL and so takes no
job (R255). -/
def Dev.submitDerive (n e : Nat) (tx : Bool) (d : Dev) : Option Dev :=
  let dir := d.direction n tx
  if d.derivePending n dir then some d
  else if !d.vaultNormal then none
  else
    match d.entryFor (quadOf n) 3 with
    | none => none
    | some own => some (d.enqueueJob (quadOf n)
        { code := 0x80, win := none, role := .boot, core := 0, slot := d.rd (0x2500 + n) 5, target := n, ctxA := dir, ctxB := e, param := 0,
          data := [], dataAddr := 0, own := own, started := false, pos := 0, derived := 0, skipped := 0, stop := false, out := [] })

/-- The next keys carrier `n` has free registers for: epoch and direction (R193). -/
def Dev.nextKeys (d : Dev) (n : Nat) : List (Nat × Bool) :=
  let x := d.carrier n
  (match x.txCur with
   | some k => if x.txNext.isNone then [(k.epoch + 1, true)] else []
   | none => []) ++
  (match x.rxCur with
   | some k => if x.rxNext.isNone then [(k.epoch + 1, false)] else []
   | none => [])

/-- Every derivation of `l` submitted, none where one finds no entry. -/
def Dev.submitAll (n : Nat) : List (Nat × Bool) → Dev → Option Dev
  | [], d => some d
  | (e, tx) :: t, d => match d.submitDerive n e tx with
    | none => none
    | some d1 => Dev.submitAll n t d1

/-- AUTO_LOAD: the keys of free registers are derived while they can be (R193). -/
def Dev.autoLoad (n : Nat) (d : Dev) : Dev :=
  if d.rd (0x2500 + n) 0xC = 1 && d.rd (0x2500 + n) 0x10 = 3 then
    (d.nextKeys n).foldl (fun x e => if 0xFFFFFF < e.1 then x else (x.submitDerive n e.1 e.2).getD x) d
  else d

/-- A changeover is allowed (R194). -/
def Dev.switchAllowed (d : Dev) (n : Nat) : Bool :=
  let x := d.carrier n
  x.txNext.isSome && x.rxNext.isSome && 3 ≤ x.ready && x.farReady = some (d.rd (0x2500 + n) 0x15 + 1)

/-- A changeover requested: deferred while it is not allowed (R194). -/
def Dev.requestSwitch (n : Nat) (d : Dev) : Dev :=
  let d1 := d.setCarrier n { d.carrier n with want := true }
  if d.switchAllowed n then d1 else d1.cause (.carrier n) 12

/-- The changeover of the transmit direction (R195). -/
def Dev.txSwitch (n : Nat) (d : Dev) : Dev :=
  let x := d.carrier n
  match x.txNext with
  | none => d
  | some k =>
    let d1 := d.setCarrier n { x with txCur := some k, txNext := none, fc := 0, want := false }
    let d2 := (((d1.wr (0x2500 + n) 0x15 k.epoch).wr (0x2500 + n) 0x19 k.epoch).wr (0x2500 + n) 0xF 0).wr (0x2500 + n) 0x1C 0
    ((d2.unschedule (sameOwner (.carrier n))).cause (.carrier n) 10).autoLoad n

/-- A requested changeover executed where it is allowed at this frame: in JC mode only at the first frame of a triplet (R180, R194). -/
def Dev.trySwitch (n : Nat) (d : Dev) : Dev :=
  let x := d.carrier n
  if d.rd (0x2500 + n) 0x10 = 3 && x.want && d.switchAllowed n && (d.mapping n = 0 || x.fc % 3 = 0) then d.txSwitch n else d

/-- The epoch carrier `n` proposes (R191). -/
def Dev.proposal (d : Dev) (n : Nat) : Nat := max (d.rd (0x2500 + n) 6) (d.rd (0x2500 + n) 0x19 + 1)

/-- A far-end violation counted (R206). -/
def Dev.fev (n : Nat) (d : Dev) : Dev := d.count 64 (0x2500 + n) 0x26 1

/-- The CAPABILITY cell bytes 13 to 15 that carrier `n` sends (R189). -/
def Dev.ownCap (d : Dev) (n : Nat) : Nat :=
  (0x10 + (if d.level1 n then 1 else 2)) * 2 ^ 16 + (d.rd (0x2500 + n) 4 + 2 * d.mapping n) * 2 ^ 8 + d.clientType n

/-- A far-end CAPABILITY agrees: the opposite role, the same mapping, client type and behaviour level (R190). -/
def Dev.capOk (d : Dev) (n cell : Nat) : Bool :=
  let own := d.ownCap n
  fld 19 16 cell = fld 19 16 own && bit 8 cell != bit 8 own && bit 9 cell = bit 9 own && fld 7 0 cell = fld 7 0 own

/-- The epoch agreed where it can be, and its two derivations submitted (R191). -/
def Dev.tryAgree (n : Nat) (d : Dev) : Dev :=
  let x := d.carrier n
  if d.rd (0x2500 + n) 0x10 != 2 then d
  else
    let cap := match x.cap with
      | some c => d.capOk n c
      | none => false
    let p := d.proposal n
    let e := match x.agreed with
      | some e => some e
      | none => if 3 ≤ x.start.2 && cap && p ≤ 0xFFFFFF then some (max p x.start.1) else none
    match e with
    | none => d
    | some e =>
      let d1 := d.setCarrier n { x with agreed := some e }
      [(x.txCur.isNone, true), (x.rxCur.isNone, false)].foldl
        (fun y t => if t.1 then (y.submitDerive n e t.2).getD y else y) d1

/-- KDF_SLOT of carrier `n` names a loaded slot of usage CARRIER_KDF. -/
def Dev.rootReady (d : Dev) (n : Nat) : Bool :=
  let s := d.rd (0x2500 + n) 5
  s < 64 && d.usage s = 1 && d.slotLoaded s

/-- Every carrier key of `n` erased, its derivations with them; the epochs in use read 0 (R191, R197). -/
def Dev.dropKeys (n : Nat) (d : Dev) : Dev :=
  let d1 := d.endJobs (quadOf n) 9 (fun j => j.code = 0x80 && j.target = n)
  let x := d1.carrier n
  (((d1.setCarrier n { x with txCur := none, txNext := none, rxCur := none, rxNext := none, fc := 0, want := false, ready := 0,
                              farReady := none, start := (0, 0), agreed := none, acks := 0 }).wr (0x2500 + n) 0x15 0).wr
    (0x2500 + n) 0x16 0).wr (0x2500 + n) 0x18 0

/-- The carrier starts: KEYING, or UNKEYED without a root key (R171, R191). DESIGN CHOICE: a proposal above 0xFF_FFFF counts FEV and sets no
cause bit (log 200). -/
def Dev.carrierStart (n : Nat) (d : Dev) : Dev :=
  let st := d.rd (0x2500 + n) 0x10
  if d.mode n = pmCarrier && ((st = 1 && d.sideState n = stUp) || (st = 3 && 3 ≤ (d.carrier n).starts)) then
    let d1 := d.dropKeys n
    let d2 := (d1.setCarrier n { d1.carrier n with cap := none, jcSend := 0, jcNow := 0, v := 0, store := [], group := [], votes := [],
                                                   rxJc := 0, starts := 0, x := if d.mapping n = 0 then (d1.carrier n).x else none }).wrBit (0x2500 + n) 0x11 9 false
    if !d2.rootReady n then d2.setCarrierState n 4
    else when (0xFFFFFF < d2.proposal n) (Dev.fev n) (d2.setCarrierState n 2)
  else d

/-- The carrier runs: START_ACK received twice and both keys loaded (R191). -/
def Dev.carrierRun (n : Nat) (d : Dev) : Dev :=
  let x := d.carrier n
  match x.agreed, x.txCur, x.rxCur with
  | some e, some k, some r =>
    if d.rd (0x2500 + n) 0x10 = 2 && 2 ≤ x.acks && k.epoch = e && r.epoch = e && !d.defect n 9 then
      let d1 := d.setCarrier n { x with fc := 0, start := (0, 0), jcSend := 0, jcNow := 0 }
      ((((d1.wr (0x2500 + n) 0x19 e).wr (0x2500 + n) 0x15 e).wr (0x2500 + n) 0x16 e).setCarrierState n 3).autoLoad n
    else d
  | _, _, _ => d

/-- A carrier derivation ends: its key fills the register that is empty, current before next (R193, R224). -/
def Dev.carrierKeyLoaded (n : Nat) (d : Dev) : Dev :=
  let q := quadOf n
  match (d.pl q).exec with
  | none => d
  | some j =>
    if j.code != 0x80 || j.target != n then d
    else
      let d1 := d.setExec q none
      match (if d1.rootReady n then d1.root [1] q j.slot else none) with
      | none => d1.endJob q j 1
      | some (root, d2) =>
        let k := carrierKey root (d2.rd (0x2500 + n) 3) j.ctxB j.ctxA
        let x := d2.carrier n
        let y := if j.ctxA = d2.direction n true then
            (if x.txCur.isNone then { x with txCur := some k } else { x with txNext := some k })
          else (if x.rxCur.isNone then { x with rxCur := some k } else { x with rxNext := some k })
        (d2.setCarrier n y).endJob q j 0

/-! ## Defects (R185 to R187) -/

/-- DEFECTS bit `b` of carrier `n` made `v`; a declaration of LOS, LOF, AIS, RDI or TFB is its cause (R185, R207). -/
def Dev.setDefect (n b : Nat) (v : Bool) (d : Dev) : Dev :=
  if d.defect n b = v then d
  else (when (v && b < 5) (Dev.cause (.carrier n) (b + 1)) (d.wrBit (0x2500 + n) 0x11 b v)).evalSide n

/-- AIS, RDI and TFB cleared, as they are while LOS or LOF is present. -/
def Dev.clearTrio (n : Nat) (d : Dev) : Dev :=
  ([2, 3, 4].foldl (fun x b => x.setDefect n b false) d).setCarrier n
    { ([2, 3, 4].foldl (fun x b => x.setDefect n b false) d).carrier n with ais := 0, rdi := 0, tfb := 0 }

/-- A carrier's line side is formed, not idle, and waits for no domain (R112, R113, R404). -/
def Dev.carrierLive (d : Dev) (n : Nat) : Bool := d.mode n = pmCarrier && d.txOn n

/-- LOS or LOF declared or cleared; LOF only as OOF stands (R185). -/
def Dev.declare (n b : Nat) (v : Bool) (d : Dev) : Dev :=
  if !d.carrierLive n || (b = 1 && d.defect n 5 != v) then d
  else if v then (d.clearTrio n).setDefect n b true else d.setDefect n b false

/-- The local client has failed: LOS on a system lane, or Local Fault received (R186). -/
def Dev.clientFailed (d : Dev) (n : Nat) : Bool :=
  !d.sideIdle (256 + n) &&
  ((d.sideLanes (256 + n)).any (fun l => d.laneState l = lnSignalWait) || (d.side (256 + n)).fault = 1)

/-- AIS is sent (R170, R186, R197, R204, R349). -/
def Dev.sendsAis (d : Dev) (n : Nat) : Bool :=
  let st := d.rd (0x2500 + n) 0x10
  d.defect n 7 || d.quiesced || st = 4 || st = 5 ||
  (d.pairSlices n).any (fun s => (s / 8 % 2 = 0 || d.width n = 16) && d.isFenced s) ||
  d.isShort (eSliceOf n) n

/-- The replacement signal goes toward the system side (R186, R190, R349). -/
def Dev.replaced (d : Dev) (n : Nat) : Bool :=
  d.defect n 0 || d.defect n 1 || d.defect n 2 || d.defect n 4 || d.defect n 9 || d.rd (0x2500 + n) 0x10 != 3 || d.quiesced ||
  (d.pairSlices n).any (fun s => s / 8 % 2 = 1 && d.isFenced s) || d.isShort (dSliceOf n) n

/-! ## The frame sent (R163 to R171, R176 to R180, R188) -/

/-- The width code of a lane word (R165). -/
def widthCode (w : Nat) : Nat := if w = 1 then 0 else if w = 2 then 1 else if w = 4 then 2 else if w = 8 then 3 else 4

/-- The frame alignment word (R165). -/
def faw : Bytes := [0x47, 0xC3, 0x1E, 0x9A, 0xB5, 0x6D]

/-- The received lane of carrier `n` that carries logical lane `i` in frame. -/
def Dev.logicalLane (d : Dev) (n i : Nat) : Option Nat :=
  (d.sideLanes n).find? (fun l => d.rd (0x2200 + l) 0x11 = 2 && (d.lane l).laneNo = i)

/-- The lane word of logical lane `i` (R165). -/
def Dev.laneWord (d : Dev) (n mfi i : Nat) : Bytes :=
  let st := match d.logicalLane n i with
    | some l => (d.lane l).bipErr
    | none => 16
  faw ++ [BitVec.ofNat 8 (i + 16 * widthCode (d.width n)), BitVec.ofNat 8 mfi, BitVec.ofNat 8 (nth 0 (d.carrier n).parity i),
          BitVec.ofNat 8 st] ++ List.replicate 6 0

/-- The mortar cell of a frame (R188, R189). -/
def Dev.mortarCell (d : Dev) (n mfi : Nat) (keyed : Bool) : Bytes :=
  let x := d.carrier n
  let st := d.rd (0x2500 + n) 0x10
  match mfi % 4 with
  | 0 => 1 :: toBE 3 (d.ownCap n)
  | 1 =>
    if keyed then (match x.rxNext with
      | some k => 2 :: toBE 3 k.epoch
      | none => [0, 0, 0, 0])
    else if st = 2 && d.proposal n ≤ 0xFFFFFF then 4 :: toBE 3 (d.proposal n) else [0, 0, 0, 0]
  | 2 => 3 :: (toBE 1 (d.rd (0x2500 + n) 0x11) ++ toBE 2 x.fails)
  | _ => match keyed, x.agreed with
    | false, some e => 5 :: toBE 3 e
    | _, _ => [0, 0, 0, 0]

/-- The overhead word (R166). `ptr` and `jc` are its POINTER field and JC byte. -/
def Dev.carrierOverhead (d : Dev) (n : Nat) (key : Option CKey) (ptr jc : Nat) : Bytes :=
  let x := d.carrier n
  let ep := match key with
    | some k => k.epoch % 2 * 128 + b2n x.rxNext.isSome * 64 + k.epoch % 64
    | none => 0
  let rdi := d.defect n 0 || d.defect n 1 || d.defect n 4
  let flags := b2n (d.sendsAis n) * 128 + b2n rdi * 64 + b2n (d.defect n 7) * 32 + b2n x.tfr * 16
  toBE 1 ep ++ toBE 2 ptr ++ toBE 1 jc ++ toBE 1 flags ++ toBE 5 (x.fc / 256) ++ toBE 1 (d.clientType n) ++ [0] ++
    d.mortarCell n (x.fc % 256) key.isSome

/-- Items i, i+n, i+2n of a list of words, joined (R163). -/
def deal (n i : Nat) (ws : List Bytes) : Bytes :=
  ((List.range ((ws.length + n - 1) / n)).map (fun k => nth [] ws (i + n * k))).flatten

/-- `b` cut into words of 16 bytes. -/
def words : Nat → Bytes → List Bytes
  | 0, _ => []
  | k + 1, b => b.take 16 :: words k (b.drop 16)

/-- The bit-interleaved parity of a lane frame. -/
def bip (b : Bytes) : Nat := (b.foldl (· ^^^ ·) 0).toNat

/-- The lane frames of a carrier frame of overhead, span and tag `f`, joined and striped over the lanes (R101, R103, R163, R165). -/
def Dev.lanesOf (d : Dev) (n : Nat) (f : Bytes × Bytes × Bytes) : List Bytes :=
  let w := d.width n
  let stuff : Bytes := List.replicate (8176 * w - 32 - f.2.1.length) 0
  let ws := (List.range w).map (d.laneWord n ((d.carrier n).fc % 256)) ++ words (511 * w) (f.1 ++ f.2.1 ++ stuff ++ f.2.2)
  (List.range w).map (fun i => deal w i ws)

/-- Lane frames in the order and the form in which the lanes of carrier `n` send them (R101, R103). -/
def Dev.laneForms (d : Dev) (n : Nat) (lanes : List Bytes) : List Bytes :=
  (d.sideLanes n).zipWith d.txForm (if d.rd (0x2000 + n) 0x11 = 1 then lanes.reverse else lanes)

/-- A carrier frame sent, the parity of its lane frames kept for the next (R165). A far-end loopback sends what is received in its place
(R482). -/
def Dev.stripe (n : Nat) (f : Bytes × Bytes × Bytes) (d : Dev) : Dev :=
  let lanes := d.lanesOf n f
  (when (!d.farLoop n) (Dev.emit (.carrier n (d.laneForms n lanes))) d).setCarrier n { d.carrier n with parity := lanes.map bip, tfr := false }

/-- The client frames that the system side brings in the time of a carrier frame received, and those whose last bytes `mapped` are mapped into
it forwarded; while none are mapped, those that begin are dropped. DESIGN CHOICE: with CARRIER_DEFECT (log 226). A constant-bit-rate
client has none (R446). -/
def Dev.countTx (n : Nat) (mapped : Bool) (u : ClientUse) (d : Dev) : Dev :=
  if d.isCbr n then d else
  let d1 := (times u.begins (Dev.received n false 0) d).cntBy 1 n 6 u.octetsIn
  if mapped then (times (min u.ends (d1.ctr 1 n 4)) (Dev.forwarded n false 0) d1).cntBy 1 n 7 u.octetsOut
  else times u.begins (Dev.dropped n false dropCarrierDefect) d1

/-- After frame `fc` is sent: TX_FC, the threshold, SWITCH_AT_FC and the last counter of an epoch (R170, R194). DESIGN CHOICE: a threshold
is reached by the frame that carries it alone: one written at or below the counter, or AUTO_SWITCH set later, acts in the next epoch (log
175). -/
def Dev.afterTx (n : Nat) (keyed : Bool) (d : Dev) : Dev :=
  let x := d.carrier n
  let fc := x.fc
  let d1 := (d.wr (0x2500 + n) 0x17 fc).setCarrier n { x with fc := (fc + 1) % 2 ^ 48 }
  if !keyed then d1
  else
    let d2 := if fc = d.rd (0x2500 + n) 0xE then
        when (d.rd (0x2500 + n) 0xD = 1) (Dev.requestSwitch n) (d1.cause (.carrier n) 13) else d1
    let at' := d.rd (0x2500 + n) 0xF
    let d3 := when (at' != 0 && fc = at') (Dev.requestSwitch n) d2
    if fc = 2 ^ 48 - 1 then
      (((d3.wrBit (0x2500 + n) 0x11 10 true).cause (.carrier n) 14).setCarrier n { d3.carrier n with fc := 0 }).setCarrierState n 5
    else d3

/-- A triplet begins: the count sent in the last one comes into force, `adj` is chosen for the next (R180). -/
def Dev.jcTurn (n : Nat) (adj : Int) (d : Dev) : Dev :=
  let x := d.carrier n
  if x.fc % 3 = 0 then d.setCarrier n { x with jcNow := x.jcSend, jcSend := jcClamp adj } else d

/-- CLIENT_FAIL made to follow the system side (R186). -/
def Dev.syncClient (n : Nat) (d : Dev) : Dev :=
  let f := d.clientFailed n
  if d.defect n 7 = f then d else when f (Dev.cause (.carrier n) 9) (d.wrBit (0x2500 + n) 0x11 7 f)

/-- What carrier `n` sends in the clear (R171): unkeyed frames in KEYING, in UNKEYED without a root key, and in EXHAUSTED. -/
def Dev.sendsUnkeyed (d : Dev) (n : Nat) : Bool :=
  let st := d.rd (0x2500 + n) 0x10
  st = 2 || st = 5 || (st = 4 && !d.rootReady n)

/-- Overhead, span and tag of a frame without a transmit key: an unkeyed one; where R171 lets none be sent, the lane words of R163 with free
content (log 70). -/
def Dev.clearFrame (n : Nat) (d : Dev) : (Bytes × Bytes × Bytes) × Dev :=
  let span := d.span n
  if d.sendsUnkeyed n then
    let ptr := d.mapping n = 0
    let oh := d.carrierOverhead n none (if ptr then (if d.sendsAis n then 0x3FF else (d.carrier n).v) else 0)
      (if ptr then 0 else (d.carrier n).fc % 3 * 64)
    ((oh, List.replicate span 0xFF, List.replicate 16 0), d)
  else
    let r := d.drawBytes (32 + span)
    ((r.1.take 16, (r.1.drop 16).take span, r.1.drop (16 + span)), r.2)

/-- Carrier `n` maps its client: its line side is live, it has a transmit key in force and sends no AIS (R168, R171, R186, R187). -/
def Dev.maps (d : Dev) (n : Nat) : Bool :=
  d.carrierLive n && d.rd (0x2500 + n) 0x10 = 3 && (d.carrier n).txCur.isSome && !d.sendsAis n

/-- The client bits that carrier `n` takes in: while none are mapped they are dropped, the store keeping whole what it holds. -/
def Dev.takeClient (n : Nat) (l : List ClientItem) (d : Dev) : Dev :=
  if d.maps n then d.setCarrier n ((d.carrier n).take (d.clientType n) l) else d

/-- Overhead, enciphered span and tag of a frame under transmit key `k`, and the carrier with what it maps taken from its store (R168, R176 to
R180, R187). DESIGN CHOICE: where AIS begins within a triplet, the count chosen at its start still comes into force in the next (log 222). -/
def Dev.keyedFrame (n : Nat) (k : CKey) (adj : Int) (d : Dev) : (Bytes × Bytes × Bytes) × Dev :=
  let ptr := d.mapping n = 0
  let w := d.width n
  let ais := d.sendsAis n
  let d1 := if ptr then d else d.jcTurn n (if ais then 0 else adj)
  let x := d1.carrier n
  let skip := justSkip w adj
  let bits := d1.clientBits n skip x.jcNow
  let p := if ais then List.replicate (d1.span n) 0xFF else d1.mapSpan n skip x.jcNow x.store
  let f := if ais then 0x3FF else if skip = 0 then x.v ^^^ ptrD else if skip = 4 * w then x.v ^^^ ptrI else x.v
  let oh := if ptr then d1.carrierOverhead n (some k) f 0
    else d1.carrierOverhead n (some k) 0 (x.fc % 3 * 64 + ofInt 6 (if ais then 0 else x.jcSend))
  let kb := toBE 32 k.key
  let iv := carrierIv (d1.rd (0x2500 + n) 3) x.fc k.salt
  let c := gcmText kb iv p
  ((oh, c, gcmTag kb iv oh c), when (!ais) (fun y => y.setCarrier n { y.carrier n with v := nextV x.v bits, store := x.store.drop bits }) d1)

/-- What fills the time of withheld or replaced bits of carrier `n`: `fill` for withheld, ones for a constant-bit-rate client; the
replacement signal where `replaced` (R186, R200, R201). -/
def Dev.filling (d : Dev) (n : Nat) (replaced : Bool) (fill : Fill) : Fill :=
  if d.isCbr n then .ones else if replaced then .localFault else fill

/-- `e` put out by the system side of pair `n`, whose transmitters are off while it is idle (R112) and whose far-end
loopback sends what is received in its place (R482). -/
def Dev.toSystemSide (n : Nat) (e : Emit) (d : Dev) : Dev := when (d.txOn (256 + n) && !d.farLoop (256 + n)) (Dev.emit e) d

/-- The time of `bits` client bits filled; the block they would have completed is lost. -/
def Dev.fillOut (n : Nat) (f : Fill) (bits : Nat) (d : Dev) : Dev :=
  (d.toSystemSide n (.client n (d.txLanes (256 + n)) f bits [])).setCarrier n { d.carrier n with part := none }

/-- The client frame open toward the system side of pair `n` ends at its first withheld byte: at behaviour level 2 it is cut and counted
STOMPED; at level 1, where none of it has left, it is lost with its end still to come (R200, R202). -/
def Dev.cutOpen (n : Nat) (d : Dev) : Dev :=
  let x := d.carrier n
  if d.isCbr n || x.opened != 1 then d
  else if d.level1 n then d.setCarrier n { x with opened := 3, held := [] }
  else let y := (d.forwarded n true 0).cnt 1 n 13; y.setCarrier n { y.carrier n with opened := 2 }

/-- The replacement signal for the time of `bits` client bits: a client frame of which a part has left ends with an error block first (R186,
R200). -/
def Dev.replaceOut (n bits : Nat) (d : Dev) : Dev :=
  let cut := !d.isCbr n && !d.level1 n && (d.carrier n).opened = 1
  (d.cutOpen n).fillOut n (if cut then .cutFault else d.filling n true .idle) bits

/-- Carrier `n` with what its client has brought since the last frame, `client`, counted as `u` says, and the changeovers and derivations that
wait tried (R193, R194). -/
def Dev.readyTx (n : Nat) (client : List ClientItem) (u : ClientUse) (d : Dev) : Dev :=
  let c := d.syncClient n
  let e := ((c.takeClient n client).countTx n (c.maps n) u).echo (256 + n) (fun ls => .retransmitClient (256 + n) ls client)
  if e.carrierLive n then (e.trySwitch n).autoLoad n else e

/-- The key that the next frame of carrier `n` is sent under: while RUNNING, its current one (R171). -/
def Dev.txKey (d : Dev) (n : Nat) : Option CKey := if d.rd (0x2500 + n) 0x10 = 3 then (d.carrier n).txCur else none

/-- One carrier frame sent (R168, R171): `adj` is what the rate-adaptation store holds above its centre, in bytes, or the JC count its
fill asks for. Toward the system side the replacement signal goes out for as long while no carrier frame is received, though the line side be
idle (R112, R186). -/
def Dev.carrierTx (n : Nat) (adj : Int) (client : List ClientItem) (u : ClientUse) (d : Dev) : Dev :=
  if d.mode n != pmCarrier then d
  else
    let y := d.readyTx n client u
    let d0 := if !y.carrierLive n then y
      else
        let r := match y.txKey n with
          | none => y.clearFrame n
          | some k => y.keyedFrame n k adj
        (r.2.stripe n r.1).afterTx n (y.txKey n).isSome
    if (d0.side n).aligned then d0 else d0.replaceOut n (d0.clientBits n (2 * d0.width n) 0)

end Sys2Proof.Machine
end

