-- ==== Sys2Proof/Machine/Ports.lean ====
section
/-! DEFINITION. Behaviour levels, ports and lanes: forming a pair, bring-up, polarity, markers, PRBS, electrical idle (R82 to R114). -/
namespace Sys2Proof.Machine

/-! ## Behaviour levels and port objects (R82, R83, R91 to R94) -/

/-- What a write of BEHAVIOUR_LEVEL does (R82). -/
def effBehaviour : Eff := fun _ v d =>
  if d.boot.compat && v = 2 then (abLevel, d)
  else if !d.formedPairs.isEmpty then (abState, d)
  else (0, d.wr 0x1003 1 v)

/-- R82: a write of BEHAVIOUR_LEVEL. -/
def execBehaviourLevel (w : Wr) (s : State) : Out := act (Dev.write effBehaviour 0x1003 1 w) s

/-- What a write of PORT_COMPAT of pair `n` does (R83). -/
def effPortCompat (n : Nat) : Eff := fun _ v d =>
  if v = 0 && d.levelDev = 1 then (abLevel, d)
  else if d.mode n != pmOff then (abState, d)
  else (0, d.wr (0x2000 + n) 3 v)

/-- R83: a write of PORT_COMPAT. -/
def execPortCompat (n : Nat) (w : Wr) (s : State) : Out := actIf (n < 256) (Dev.write (effPortCompat n) (0x2000 + n) 3 w) s

/-- A write of an object accepted only while PORT_MODE of pair `n` reads OFF (R91, R117, R161). -/
def effWhileOff (n i j : Nat) : Eff := fun _ v d => if d.mode n != pmOff then (abState, d) else (0, d.wr i j v)

/-- The objects of an absorbed pair return to their defaults; EPOCH_HIGH stays (R92, R192). -/
def Dev.absorb (n : Nat) (d : Dev) : Dev :=
  let d1 := d.defaults (fun i j => i = 0x2000 + n || i = 0x2100 + n || i = 0x2400 + n || (i = 0x2500 + n && j != 0x19))
  { d1 with time := { d1.time with fifo := Tbl.drop (fun k => k = n || k = 256 + n) d1.time.fifo } }

/-- What a write of PORT_WIDTH of pair `n` does (R14, R90 to R92): a pair that turns absorbed, or is no longer, changes its PORT_STATE. -/
def effPortWidth (n : Nat) : Eff := fun _ v d =>
  let others := (List.range (v - 1)).map (fun k => n + 1 + k)
  if n % v != 0 then (abRange, d)
  else if d.mode n != pmOff then (abState, d)
  else if others.any (fun k => d.mode k != pmOff) then (abConflict, d)
  else
    (0, tracking ((List.range (max v (d.width n))).map (n + ·)) (fun x => others.foldl (fun y k => y.absorb k) (x.wr (0x2000 + n) 2 v)) d)

/-- R92: a write of PORT_WIDTH. -/
def execPortWidth (n : Nat) (w : Wr) (s : State) : Out := actIf (n < 256) (Dev.write (effPortWidth n) (0x2000 + n) 2 w) s

/-- What a write of PORT_MODE of pair `n` does (R93, R94). A write of the mode the pair has changes nothing. -/
def effPortMode (n : Nat) : Eff := fun _ v d =>
  if v = pmOff then (0, d.portOff n)
  else if d.mode n = v then (0, d)
  else if d.mode n != pmOff then (if widthOk n (d.width n) v then abState else abRange, d)
  else
    let a := d.formAbort n v
    if a != 0 then (a, d) else (0, d.formPair n v)

/-- R93: a write of PORT_MODE. -/
def execPortMode (n : Nat) (w : Wr) (s : State) : Out := actIf (n < 256) (Dev.write (effPortMode n) (0x2000 + n) 1 w) s

/-- R94: a write of OFF to PORT_MODE. -/
def execPortModeOff (n : Nat) (w : Wr) (s : State) : Out :=
  actIf (n < 256) (Dev.write (effPortMode n) (0x2000 + n) 1 { w with value := 0 }) s

/-! ## Bring-up (R97 to R101) -/

/-- Lane `l` becomes LOCKED and stores its adaptation. -/
def Dev.lockLane (l : Nat) (d : Dev) : Dev :=
  let d1 := (d.setLane l { d.lane l with adapt := true }).setLaneState l lnLocked
  match d1.sideOfLane l with
  | some s => d1.evalSide s
  | none => d1

/-- Lane `l` in LANE_STATE `a` acted on by `f`. -/
def Dev.inLaneState (l a : Nat) (f : Dev → Dev) (d : Dev) : Dev := if d.laneState l = a then f d else d

/-- Signal detect held for 1 µs on lane `l`, unless an injection still forces it absent (R97, R486). -/
def Dev.signalDetect (l : Nat) (d : Dev) : Dev :=
  if d.now < Tbl.get (fun _ => 0) d.darkUntil l then d
  else ({ d with darkUntil := Tbl.drop (fun k => k = l) d.darkUntil } : Dev).setLaneState l lnCdrLock

/-- R97: signal detect held for 1 µs. -/
def execSignalDetect (l : Nat) (s : State) : Out :=
  actIf (l < 512) (Dev.inLaneState l lnSignalWait (Dev.signalDetect l)) s

/-- Clock recovery locks: a receiver with stored adaptation is LOCKED at once, any other adapts (R97, R113; log 19). -/
def Dev.cdrLock (l : Nat) (d : Dev) : Dev := if (d.lane l).adapt then d.lockLane l else d.setLaneState l lnAdapt

/-- R97: clock recovery locks. -/
def execCdrLock (l : Nat) (s : State) : Out := actIf (l < 512) (Dev.inLaneState l lnCdrLock (Dev.cdrLock l)) s

/-- R97: clock recovery has not locked within 20 µs. -/
def execCdrLockTimeout (l : Nat) (s : State) : Out :=
  actIf (l < 512) (Dev.inLaneState l lnCdrLock (Dev.setLaneState l lnSignalWait)) s

/-- R97: adaptation or link training completes. -/
def execAdaptComplete (l : Nat) (s : State) : Out := actIf (l < 512) (Dev.inLaneState l lnAdapt (Dev.lockLane l)) s

/-- Lane `l` leaves LOCKED: it restarts at SIGNAL_WAIT with its stored adaptation, its side loses its alignment (R99). -/
def Dev.loseLane (l : Nat) (d : Dev) : Dev :=
  let d1 := d.restartLane l lnSignalWait
  match d1.sideOfLane l with
  | some s => ((d1.setSide s { d1.side s with fault := 0 }).unalign s).evalSide s
  | none => d1

/-- R99: a LOCKED lane loses signal detect or CDR lock. -/
def execLaneLockLost (l : Nat) (s : State) : Out := actIf (l < 512) (Dev.inLaneState l lnLocked (Dev.loseLane l)) s

/-- The form in which the first lock step's pattern `want` stands in what lane `l` received at an expected position: normal (0), inverted
(1), or not at all (2) (R100). -/
def Dev.formAt (d : Dev) (l : Nat) (want got : Bytes) : Nat :=
  if got = want then 0 else if mirrored (isPam4 (d.laneRate l)) got = want then 1 else 2

/-- What lane `l` received at one expected position of the first lock step's pattern: RX_POLARITY 0 takes the normal form at once and the
inverted one after two positions in succession, 1 and 2 take their own form alone; a position without either ends the succession (R100,
R101). -/
def Dev.firstLock (l : Nat) (want got : Bytes) (d : Dev) : Dev :=
  let x := d.lane l
  let p := d.rd (0x2200 + l) 3
  let f := d.formAt l want got
  if d.laneState l != lnLocked || x.polDone then d
  else if f = 2 || (p = 1 && f = 1) || (p = 2 && f = 0) then d.setLane l { x with inverted := 0 }
  else if p = 0 && f = 1 && x.inverted = 0 then d.setLane l { x with inverted := 1 }
  else (d.setLane l { x with inverted := 0, polDone := true }).wr (0x2200 + l) 4 f

/-- R100: the first lock step meets an expected position: the pattern it looks for and what the lane received. -/
def execFirstLock (l : Nat) (want got : List Byte) (s : State) : Out := actIf (l < 512) (Dev.firstLock l want got) s

/-- The position of a lane in the transmitter's order, from the PCS or FEC lane numbers found on it: the lowest divided by how many a
physical lane carries (R102). -/
def lanePosition : List Nat → Nat
  | [] => 0
  | x :: l => l.foldl min x / (l.length + 1)

/-- Side `s` finds its lanes' order and skew, all lanes being LOCKED with their polarity decided and the side not idle (R100, R102, R104):
an Ethernet side from the lane numbers `nums` found on each lane, a carrier's line side from its lane words (R184). -/
def Dev.sideAligned (s : Nat) (nums : List (List Nat)) (skew : List Nat) (d : Dev) : Dev :=
  if d.mode (s % 256) = pmOff || d.sideIdle s || !d.lanesLocked s || !(d.sideLanes s).all (fun l => (d.lane l).polDone) then d
  else if d.carrierLine s then
    if (d.sideLanes s).all (fun l => d.rd (0x2200 + l) 0x11 = 2) then
      d.alignSide s ((d.sideLanes s).map (fun l => (d.lane l).laneNo)) skew
    else d
  else d.alignSide s (nums.map lanePosition) skew

/-- R104: a side's lanes are ordered and deskewed: the lane numbers found on each and when it arrives, in ps. -/
def execSideAligned (side : Nat) (nums : List (List Nat)) (skew : List Nat) (s : State) : Out :=
  actIf (side < 512) (Dev.sideAligned side nums skew) s

/-- An Ethernet side begins to receive `f` (1 Local Fault, 2 Remote Fault, 3 hi_ber), or ends it (0) (R99). -/
def Dev.linkFault (s f : Nat) (d : Dev) : Dev :=
  if d.mode (s % 256) = pmOff || d.carrierLine s || d.sideIdle s || !d.lanesLocked s then d
  else (d.setSide s { d.side s with fault := f % 4 }).evalSide s

/-- R99: Local or Remote Fault, or hi_ber, on an Ethernet side. -/
def execLinkFaultReceived (side f : Nat) (s : State) : Out := actIf (side < 512) (Dev.linkFault side f) s

/-- One codeword that ends on lane `l`: `syms` symbols corrected, or not correctable. A carrier's codeword lies on its lane alone: the lane
locks after 3 correctable ones in a row, its polarity being decided, and loses lock after 8 uncorrectable ones (R100, R106). An Ethernet
codeword lies on every lane of its side, `syms[i]` of them on lane i. While locked or aligned, symbols are counted on the lane each
arrived on, and the codeword once on the side (R89, R107). -/
def Dev.codeword (l : Nat) (syms : List Nat) (ok : Bool) (d : Dev) : Dev :=
  match d.sideOfLane l with
  | none => d
  | some s =>
    if d.laneState l != lnLocked then d
    else
      let x := d.lane l
      let line := d.carrierLine s
      let ls := if line then [l] else d.sideLanes s
      let y := { x with cwGood := if ok then min 3 (x.cwGood + 1) else 0, cwBad := if ok then 0 else min 8 (x.cwBad + 1) }
      let counts := if line then x.cwLock else (d.side s).aligned
      let d1 := if line then d.setLane l y else d
      let d2 := if !counts then d1
        else if ok then
          ((List.range ls.length).foldl (fun z i => z.count 64 (0x2200 + nth 0 ls i) 9 (nth 0 syms i)) d1).count 64 (0x2000 + s) 0x15
            (b2n ((List.range ls.length).any (fun i => nth 0 syms i != 0)))
        else d1.count 64 (0x2000 + s) 0x16 1
      if !line then d2
      else if !x.cwLock && 3 ≤ y.cwGood && x.polDone then d2.setLane l { y with cwLock := true }
      else if x.cwLock && 8 ≤ y.cwBad then
        ((((d2.setLane l { y with cwLock := false, cands := [], errored := 0 }).wr (0x2200 + l) 0x11 0)).unalign s).evalSide s
      else d2

/-- R106: a codeword on a lane, with the symbols corrected in it. -/
def execCodewordLock (l : Nat) (syms : List Nat) (ok : Bool) (s : State) : Out := actIf (l < 512) (Dev.codeword l syms ok) s

/-! ## PRBS (R108 to R111) -/

/-- Pattern `p` suits LANE_RATE code `r` (R109). DESIGN CHOICE: no pattern but NONE suits code 0, which is no rate and which LANE_RATE reads
at the reset value the model chose (logs 11 and 198). -/
def prbsFits (p r : Nat) : Bool :=
  p = 0 || (r != 0 && (if p ≤ 2 then !isPam4 r else if p ≤ 6 || p = 10 then true else isPam4 r))

/-- The taps of a pattern's polynomial, greatest first; PRBS13Q and PRBS31Q carry the bits of PRBS13 and PRBS31 (R109). -/
def prbsTaps (p : Nat) : List Nat :=
  match p with
  | 1 => [7, 6]
  | 2 => [9, 5]
  | 3 | 7 => [13, 12, 2, 1]
  | 4 => [15, 14]
  | 5 => [23, 18]
  | 6 | 8 => [31, 28]
  | _ => [32]

/-- How many bits determine the next one of a pattern. -/
def prbsDegree (p : Nat) : Nat := nth 0 (prbsTaps p) 0

/-- The bit of pattern `p` that follows the bits in `r`, newest at bit 0 (R109). -/
def prbsNext (p r : Nat) : Bool :=
  if p = 9 then Config.ssprqNext (BitVec.ofNat 32 r) else ((prbsTaps p).filter (fun t => bit (t - 1) r)).length % 2 = 1

/-- A register with `b` shifted in. -/
def shiftIn (p r : Nat) (b : Bool) : Nat := (2 * r + b2n b) % 2 ^ prbsDegree p

/-- The next bit of a generator of pattern `p` and its register after it; the square wave counts: 8 ones and 8 zeros (NRZ), 8 symbols of
level 3 and 8 of level 0 (PAM4), level 3 being the bits 10 (R109). -/
def genBit (p : Nat) (pam4 : Bool) (r : Nat) : Bool × Nat :=
  if p = 10 then
    if pam4 then (r < 16 && r % 2 = 0, (r + 1) % 32) else (r < 8, (r + 1) % 16)
  else (prbsNext p r, shiftIn p r (prbsNext p r))

/-- The next `k` bits of the generator of a lane, with the bits that PRBS_INSERT inverts 1,024 apart (R108, R111). -/
def Lane.generate (p : Nat) (pam4 : Bool) : Nat → Lane → List Bool × Lane
  | 0, x => ([], x)
  | k + 1, x =>
    let g := genBit p pam4 x.gen
    let flip := x.insert != 0 && x.gap = 0
    let y := { x with gen := g.2, insert := if flip then x.insert - 1 else x.insert, gap := if flip then 1023 else x.gap - 1 }
    let r := Lane.generate p pam4 k y
    ((g.1 != flip) :: r.1, r.2)

/-- Bits in the inverted form of a lane, the first of them the first of its symbol (R100, R101). -/
def mirrorBits (pam4 : Bool) (l : List Bool) : List Bool :=
  (List.range l.length).map (fun i => if pam4 && i % 2 = 1 then nth false l i else !(nth false l i))

/-- The PRBS generator of lane `l`, where it runs in an ON domain, sends its next 64 bits, inverted while TX_INVERT is 1 (R101, R108). -/
def Dev.prbsSend (l : Nat) (d : Dev) : Dev :=
  let p := d.rd (0x2200 + l) 0xA
  if p = 0 || !d.isOn (laneDom l) then d
  else
    let pam4 := isPam4 (d.laneRate l)
    let g := Lane.generate p pam4 64 (d.lane l)
    (d.setLane l g.2).emit (.prbs l (if d.rd (0x2200 + l) 5 = 1 then mirrorBits pam4 g.1 else g.1))

/-- Every PRBS generator that runs sends its next bits. -/
def Dev.prbsRound (d : Dev) : Dev :=
  (d.dict.filter (fun e => within 0x2200 512 (e.1 / 256) && e.1 % 256 = 0xA)).foldl (fun x e => x.prbsSend (e.1 / 256 - 0x2200)) d

/-- LANE_STATE of a lane outside every pair follows its PRBS objects (R97). -/
def Dev.prbsState (l : Nat) (d : Dev) : Dev :=
  d.setLaneState l (if d.rd (0x2200 + l) 0xA = 0 && d.rd (0x2200 + l) 0xB = 0 then lnOff else lnPrbs)

/-- A generator set anew starts with its register all ones (the square wave at its first bit), a checker set anew seeds itself (R108, R110;
log 160). -/
def Dev.prbsFresh (l j v : Nat) (d : Dev) : Dev :=
  let x := d.lane l
  if j = 0xA then d.setLane l { x with gen := if v = 10 then 0 else 2 ^ prbsDegree v - 1, insert := 0, gap := 0 }
  else (d.setLane l { x with chk := Checker.init }).wr (0x2200 + l) 0xC (d.rd (0x2200 + l) 0xC / 4 * 4)

/-- What a write of PRBS_PATTERN (.0A) or PRBS_CHECK (.0B) of lane `l` does: judged by the rate the lane runs at (R108 to R110). -/
def effPrbs (l j : Nat) : Eff := fun _ v d =>
  if !prbsFits v (d.laneRate l) then (abRange, d)
  else if (d.laneHolder l).isSome then (abState, d)
  else (0, ((d.wr (0x2200 + l) j v).prbsFresh l j v).prbsState l)

/-- R108: a write of PRBS_PATTERN. -/
def execPrbsPattern (l : Nat) (w : Wr) (s : State) : Out := actIf (l < 512) (Dev.write (effPrbs l 0xA) (0x2200 + l) 0xA w) s

/-- R108: a write of PRBS_CHECK. -/
def execPrbsCheck (l : Nat) (w : Wr) (s : State) : Out := actIf (l < 512) (Dev.write (effPrbs l 0xB) (0x2200 + l) 0xB w) s

/-- What a write of LANE_RATE of lane `l` does (R85, R108). -/
def effLaneRate (l : Nat) : Eff := fun _ v d =>
  if 256 ≤ l && 5 < v then (abRange, d)
  else if (d.laneHolder l).isSome then (abState, d)
  else (0, d.wr (0x2200 + l) 2 v)

/-- One received bit taken by a checker of pattern `p` that has no lock: it seeds itself in either form, then counts the bits in a row that
follow the pattern (R110). DESIGN CHOICE: no seed is refused, so that after an all-zero one further zeros count as following the pattern
(log 199). -/
def Checker.seed (p : Nat) (pam4 : Bool) (b : Bool) (c : Checker) : Checker :=
  let m := if pam4 && c.second then b else !b
  let full := prbsDegree p ≤ c.seen
  { c with seen := if full then c.seen else c.seen + 1
           reg := shiftIn p c.reg b
           regInv := shiftIn p c.regInv m
           run := if full && b = prbsNext p c.reg then c.run + 1 else 0
           runInv := if full && m = prbsNext p c.regInv then c.runInv + 1 else 0
           second := pam4 && !c.second }

/-- One received bit compared by a locked checker: whether it is in error, and the checker after it (R110). -/
def Checker.compare (p : Nat) (pam4 : Bool) (b : Bool) (c : Checker) : Bool × Checker :=
  let want := prbsNext p c.reg
  let bad := (if c.inv && !(pam4 && c.second) then !b else b) != want
  (bad, { c with reg := shiftIn p c.reg want
                 second := pam4 && !c.second
                 window := (2 * c.window + b2n bad) % 2 ^ 2048
                 errs := c.errs + b2n bad - b2n (bit 2047 c.window) })

/-- One bit received by the checker of lane `l` (R110): after 64 in a row without error it locks, in the form they came in; locked, it
counts each bit and each error, and loses lock where more than 512 of the last 2,048 are in error. -/
def Dev.prbsBit (l : Nat) (d : Dev) (b : Bool) : Dev :=
  let i := 0x2200 + l
  let p := d.rd i 0xB
  let pam4 := isPam4 (d.laneRate l)
  let st := d.rd i 0xC
  let x := d.lane l
  if bit 0 st then
    let r := x.chk.compare p pam4 b
    let d1 := (d.count 64 i 0xD (b2n r.1)).count 64 i 0xE 1
    if 512 < r.2.errs then
      (d1.setLane l { x with chk := { Checker.init with second := r.2.second } }).wr i 0xC (setBit 2 (clrBit 0 st))
    else d1.setLane l { x with chk := r.2 }
  else
    let c := x.chk.seed p pam4 b
    if 64 ≤ c.run || 64 ≤ c.runInv then
      let inv := c.run < 64
      (d.setLane l { x with chk := { c with inv := inv, reg := if inv then c.regInv else c.reg, window := 0, errs := 0 } }).wr i 0xC
        (putBit 1 (setBit 0 st) inv)
    else d.setLane l { x with chk := c }

/-- Bits received in a row by lane `l`, after Gray decoding on a PAM4 lane, where its checker runs in an ON domain (R108, R110). -/
def Dev.prbsRun (l : Nat) (bits : List Bool) (d : Dev) : Dev :=
  if d.rd (0x2200 + l) 0xB = 0 || !d.isOn (laneDom l) then d else bits.foldl (fun x b => x.prbsBit l b) d

/-- R110: the PRBS checker takes received bits. -/
def execPrbsLock (l : Nat) (bits : List Bool) (s : State) : Out := actIf (l < 512) (Dev.prbsRun l bits) s

/-- What PRBS_CLEAR of lane `l` does (R110). -/
def effPrbsClear (l : Nat) : Eff := fun _ _ d =>
  (0, ((d.wr (0x2200 + l) 0xD 0).wr (0x2200 + l) 0xE 0).wr (0x2200 + l) 0xC (clrBit 2 (d.rd (0x2200 + l) 0xC)))

/-- R110: PRBS_CLEAR. -/
def execPrbsClear (l : Nat) (w : Wr) (s : State) : Out := actIf (l < 512) (Dev.write (effPrbsClear l) (0x2200 + l) 0xF w) s

/-- What PRBS_INSERT of lane `l` does: the generator inverts `v` more single bits (R111). -/
def effPrbsInsert (l : Nat) : Eff := fun _ v d =>
  if v = 0 || d.rd (0x2200 + l) 0xA = 0 then (abRange, d)
  else (0, d.setLane l { d.lane l with insert := (d.lane l).insert + v })

/-- R111: PRBS_INSERT. -/
def execPrbsInsert (l : Nat) (w : Wr) (s : State) : Out := actIf (l < 512) (Dev.write (effPrbsInsert l) (0x2200 + l) 0x10 w) s

/-! ## Electrical idle (R112 to R114) -/

/-- Side `s` goes to electrical idle: its lanes are IDLE with their adaptation, LOS and LOF of a carrier's line side clear (R112). -/
def Dev.idleSide (s : Nat) (d0 : Dev) : Dev :=
  let d : Dev := { d0 with power := { d0.power with exiting := d0.power.exiting.filter (· != s) } }
  let d1 := (d.sideLanes s).foldl (fun x l => x.restartLane l lnIdle) d
  let d2 := when (d.carrierLine s) (fun x => (x.wr (0x2500 + s) 0x11 (andNot (x.rd (0x2500 + s) 0x11) 3)).setCarrier s
    { x.carrier s with parity := [] }) d1
  ((d2.setSide s Side.init).unalign s).evalSide s

/-- The lane domains of side `s`. -/
def Dev.sideDomains (d : Dev) (s : Nat) : List Nat :=
  ((d.sideLanes s).map (fun l => if l < 256 then lineDom (groupOf l) else sysDom (groupOf (l - 256)))).eraseDups

/-- The LANE_RATE code lane `l` of side `s` runs at. -/
def Dev.sideRate (d : Dev) (s : Nat) : Nat :=
  if s < 256 then lineRate (d.rd (0x2000 + s) 5) (d.width s) else d.sysRate (s - 256) (d.mode (s - 256))

/-- The transmitters of side `s` send their bursts and its receivers wait for signal (R113). -/
def Dev.burstSide (s : Nat) (d : Dev) : Dev :=
  let d1 : Dev := { d with power := { d.power with exiting := d.power.exiting.filter (· != s) } }
  ((d1.sideLanes s).foldl (fun x l => (x.restartLane l lnSignalWait).emit (.burst l (isPam4 (d.sideRate s)))) d1).evalSide s

/-- Side `s` leaves electrical idle: a lane domain in RETAIN wakes first (R113, R114, R404). -/
def Dev.exitIdle (s : Nat) (d : Dev) : Dev :=
  let d1 := (d.sideDomains s).foldl (fun x k => x.wake k) d
  if (d1.sideDomains s).all d1.isOn then d1.burstSide s
  else { d1 with power := { d1.power with exiting := s :: d1.power.exiting.filter (· != s) } }

/-- Pairs and sides that waited for domains that are ON now go on (R404). -/
def Dev.domainsOn (d : Dev) : Dev :=
  let d1 := d.power.forming.foldl (fun x n => if (x.pairDomains n).all x.isOn then x.startPair n else x) d
  d1.power.exiting.foldl (fun x s => if (x.sideDomains s).all x.isOn then x.burstSide s else x) d1

/-- What a write of PORT_POWER or SYS_POWER of side `s` does (R112, R113). -/
def effPortPower (s : Nat) : Eff := fun _ v d =>
  let d1 := d.wr (0x2000 + s) 6 v
  if v = d.rd (0x2000 + s) 6 || d.mode (s % 256) = pmOff then (0, d1)
  else (0, if v = 1 then d1.idleSide s else d1.exitIdle s)

/-- R112: a write of 1 to PORT_POWER or SYS_POWER. -/
def execPortPowerIdle (side : Nat) (w : Wr) (s : State) : Out :=
  actIf (side < 512) (Dev.write (effPortPower side) (0x2000 + side) 6 { w with value := 1 }) s

/-- R113: a write of 0 to PORT_POWER or SYS_POWER. -/
def execFastExit (side : Nat) (w : Wr) (s : State) : Out :=
  actIf (side < 512) (Dev.write (effPortPower side) (0x2000 + side) 6 { w with value := 0 }) s

/-- Lane `l` has not relocked within 50 µs of signal detect: it takes the full adaptation (R114). -/
def Dev.relockTimeout (l : Nat) (d : Dev) : Dev :=
  if d.laneState l = lnCdrLock || d.laneState l = lnSignalWait then d.setLane l { d.lane l with adapt := false } else d

/-- R114: no relock within 50 µs of signal detect. -/
def execFastRelockTimeout (l : Nat) (s : State) : Out := actIf (l < 512) (Dev.relockTimeout l) s

/-- Side `s` has been idle longer than IDLE_RETAIN_LIMIT: its stored adaptation is discarded (R114). -/
def Dev.retainExpiry (s : Nat) (d : Dev) : Dev :=
  if d.mode (s % 256) != pmOff && d.sideIdle s then
    (d.sideLanes s).foldl (fun x l => x.setLane l { x.lane l with adapt := false }) d
  else d

/-- R114: a side has been idle longer than IDLE_RETAIN_LIMIT. -/
def execIdleRetainExpiry (side : Nat) (s : State) : Out := actIf (side < 512) (Dev.retainExpiry side) s

end Sys2Proof.Machine
end

