-- ==== Sys2Proof/Machine/Carriers.lean ====
section
/-! DEFINITION. Carriers: lane words and deskew, the frame received, its verdict, and the carrier's commands (R161 to R202). -/
namespace Sys2Proof.Machine

/-! ## Frame search on a lane (R181 to R184) -/

/-- Bits in which two byte strings differ. -/
def bitsDiffer (a b : Bytes) : Nat := (xorB a b).foldl (fun n x => n + popCount 8 x.toNat) 0

/-- FRAME_STATE of lane `l` made to follow its tracker while it is not in frame. -/
def Dev.searchState (l : Nat) (d : Dev) : Dev := d.wr (0x2200 + l) 0x11 (if (d.lane l).cands.isEmpty then 0 else 1)

/-- A lane that is not in frame examines a word at bit position `pos`: a candidate there is confirmed or dropped, an exact FAW elsewhere
becomes one (R181, R206). DESIGN CHOICE: the word that drops a candidate by another lane number becomes none itself (log 219). -/
def Dev.searchWord (n l pos : Nat) (b : Bytes) (d : Dev) : Dev :=
  let x := d.lane l
  let no := beAt 6 1 b % 16
  let exact := b.take 6 = faw
  let fits := no < d.width n && beAt 6 1 b / 16 = widthCode (d.width n)
  match x.cands.find? (fun c => c.1 = pos) with
  | some (_, m, k) =>
    if exact && fits && no = m then
      if d.rd (0x2500 + n) 7 ≤ k + 1 then
        (d.setLane l { x with cands := [], fpos := pos, laneNo := m, errored := 0, bipErr := 0 }).wr (0x2200 + l) 0x11 2
      else (d.setLane l { x with cands := x.cands.map (fun c => if c.1 = pos then (pos, m, k + 1) else c) }).searchState l
    else when (exact && !fits) (Dev.fev n) ((d.setLane l { x with cands := x.cands.filter (fun c => c.1 != pos) }).searchState l)
  | none =>
    if !exact then d
    else if !fits then d.fev n
    else if 4 ≤ x.cands.length then d
    else (d.setLane l { x with cands := x.cands ++ [(pos, no, 0)] }).searchState l

/-- A lane word of a lane in frame: errored or not, with its parity and the far end's count (R162, R165, R183). `mfi0` is the MFI of
logical lane 0 for the same carrier frame, `parity` that of the lane frame before it as received, none where it was not received
whole. DESIGN CHOICE: the BIP and STATUS of an errored word count nothing, and the far-end indication keeps the last word's (log 176);
bytes 10 to 15 are not looked at, so that none of them is a far-end violation (log 201). -/
def Dev.frameWord (n l : Nat) (b : Bytes) (mfi0 : Nat) (parity : Option Nat) (d : Dev) : Dev :=
  let x := d.lane l
  let far := beAt 7 1 b != mfi0
  let bad := 3 < bitsDiffer (b.take 6) faw || beAt 6 1 b != x.laneNo + 16 * widthCode (d.width n) || far
  let d1 := when far (Dev.fev n) d
  if bad then
    if d.rd (0x2500 + n) 8 ≤ x.errored + 1 then
      (((d1.setLane l { x with cands := [], errored := 0 }).wr (0x2200 + l) 0x11 0).unalign n).evalSide n
    else d1.setLane l { x with errored := x.errored + 1 }
  else
    let e := match parity with
      | some p => popCount 8 ((p % 256) ^^^ beAt 8 1 b)
      | none => 0
    ((d1.setLane l { x with errored := 0, bipErr := e }).count 64 (0x2200 + l) 0x12 e).count 64 (0x2200 + l) 0x13 (beAt 9 1 b % 16)

/-- Deskew once every lane is in frame: lane numbers that are no order are a far-end violation (R184, R206). -/
def Dev.deskew (n : Nat) (skew : List Nat) (d : Dev) : Dev :=
  let ls := d.sideLanes n
  let pos := ls.map (fun l => (d.lane l).laneNo)
  if (d.side n).aligned || !ls.all (fun l => d.rd (0x2200 + l) 0x11 = 2) then d
  else (when (!isOrder ls.length pos) (Dev.fev n) d).alignSide n pos skew

/-- A lane word as received on lane `l` at bit position `pos` of the lane frame (R100, R181 to R184): with codeword lock held.
An armed injection of point 0x08 errors it (R486). -/
def Dev.laneWordRx (l pos : Nat) (got : Bytes) (mfi0 : Nat) (parity : Option Nat) (skew : List Nat) (d : Dev) : Dev :=
  let b := d.rxForm l got
  match d.sideOfLane l with
  | none => d
  | some n =>
    if !d.carrierLine n || d.laneState l != lnLocked || !(d.lane l).cwLock then d
    else
      let d1 := if d.rd (0x2200 + l) 0x11 = 2 then
          (if pos = (d.lane l).fpos then
            (if (d.armed 0x08 (fun i _ => i = l)).isSome then d.struck.frameWord n l ((b.take 6).map (· ^^^ 0xFF) ++ b.drop 6) mfi0 parity
             else d.frameWord n l b mfi0 parity)
          else d)
        else d.searchWord n l pos b
      d1.deskew n skew

/-- R181: a lane word arrives. -/
def execLaneWordRx (l pos : Nat) (b : List Byte) (mfi0 : Nat) (parity : Option Nat) (skew : List Nat) (s : State) : Out :=
  actIf (l < 256) (Dev.laneWordRx l pos b mfi0 parity skew) s

/-! ## The frame received (R171, R178, R180, R188 to R191) -/

/-- A mortar cell received: CAPABILITY, READY, START and START_ACK act; IDLE and DEFECT do not; an unknown type and
reserved bits that are not 0 count (R189 to R191, R206). -/
def Dev.mortarRx (n : Nat) (cell : Bytes) (d : Dev) : Dev :=
  let x := d.carrier n
  let v := beAt 1 3 cell
  let st := d.rd (0x2500 + n) 0x10
  let odd := when ((beAt 0 1 cell = 0 && v != 0) || (beAt 0 1 cell = 1 && fld 15 10 v != 0)) (fun y => (y.fev n).cause (.carrier n) 20)
  let d1 := match beAt 0 1 cell with
    | 0 => odd d
    | 1 =>
      let ok := d.capOk n v
      let d1 := odd ((d.setCarrier n { x with cap := some v }).wrBit (0x2500 + n) 0x11 9 (!ok))
      if ok then d1 else (d1.fev n).cause (.carrier n) 18
    | 2 => d.setCarrier n { x with farReady := some v }
    | 3 => d
    | 4 =>
      if st = 3 then d.setCarrier n { x with starts := x.starts + 1 }
      else if st = 2 then d.setCarrier n { x with start := if x.start.1 = v then (v, x.start.2 + 1) else (v, 1) }
      else d
    | 5 => d.setCarrier n { x with acks := if x.agreed = some v then x.acks + 1 else 0 }
    | _ => (d.fev n).cause (.carrier n) 20
  d1.tryAgree n

/-- The vote on a POINTER field `f` while locked on `x`: client bytes of the span skipped, and whether it counts PTR_INVALID (R178). -/
def ptrVote (w f x : Nat) : Nat × Bool :=
  let i := popCount 10 ((f ^^^ x) &&& ptrI)
  let c := popCount 10 ((f ^^^ x) &&& ptrD)
  if 3 ≤ i && c ≤ 2 then (4 * w, false)
  else if i ≤ 2 && 3 ≤ c then (0, false)
  else (2 * w, !(i ≤ 2 && c ≤ 2) || f != x)

/-- The pointer of a keyed frame (R178): the block after it, the bytes skipped, and whether pointer lock is held for this frame. Without
lock the field itself foretells the next frame's. -/
def Dev.ptrRx (n f : Nat) (d : Dev) : Dev × Nat × Bool :=
  let x := d.carrier n
  let w := d.width n
  let reg := d.rd (0x2500 + n) 0x1E
  let d0 := d.wr (0x2500 + n) 0x1E (reg / 2 ^ 15 * 2 ^ 15 + f)
  let next := fun (v skip : Nat) => some (nextV (v % 257) (8 * (d.span n - skip)))
  match bit 15 reg, x.x with
  | true, some p =>
    let r := ptrVote w f p
    let d1 := when (r.1 = 4 * w) (Dev.count 64 (0x2500 + n) 0x22 1) (when (r.1 = 0) (Dev.count 64 (0x2500 + n) 0x23 1) d0)
    let d2 := when r.2 (fun y => (y.count 64 (0x2500 + n) 0x25 1).cause (.carrier n) 16) d1
    let bad := if r.2 then x.invalids + 1 else 0
    if 3 ≤ bad then
      ((d2.setCarrier n { x with x := none, normals := 0, invalids := 0 }).wr (0x2500 + n) 0x1E f, r.1, false)
    else (d2.setCarrier n { x with x := next p r.1, invalids := bad }, r.1, true)
  | _, p =>
    let k := if p = some f then x.normals + 1 else 0
    let d1 := d0.setCarrier n { x with x := next f (2 * w), normals := k, invalids := 0 }
    (if 3 ≤ k then d1.wr (0x2500 + n) 0x1E (2 ^ 15 + f) else d1, 2 * w, false)

/-- The count that most of three received JC values name: a value outside its range agrees with none (R180). -/
def jcMajority (l : List Nat) : Option Int :=
  let ok := fun (v : Nat) => v % 64 ≤ 16 || 48 ≤ v % 64
  match l with
  | [a, b, c] =>
    if (a = b || a = c) && ok a then some (toInt 6 a) else if b = c && ok b then some (toInt 6 b) else none
  | _ => some 0

/-- The JC byte of a keyed frame (R180): the three counts of a triplet decide the count of the next. -/
def Dev.jcRx (n fc jc : Nat) (d : Dev) : Dev :=
  let x := d.carrier n
  let votes := (if fc % 3 = 0 then [] else x.votes) ++ [jc % 64]
  if fc % 3 != 2 || votes.length != 3 then d.setCarrier n { x with votes := votes }
  else
    match jcMajority votes with
    | some c => d.setCarrier n { x with votes := [], rxJc := c }
    | none => ((d.setCarrier n { x with votes := [], rxJc := 0 }).count 64 (0x2500 + n) 0x24 1).cause (.carrier n) 17

/-- The receive key that EPOCH selects (R193, R196). -/
def Carrier.rxKey (x : Carrier) (ep : Bool) : Option CKey :=
  match x.rxCur, x.rxNext with
  | some k, some m => if (k.epoch % 2 = 1) = ep then some k else if (m.epoch % 2 = 1) = ep then some m else none
  | some k, none => if (k.epoch % 2 = 1) = ep then some k else none
  | none, some m => if (m.epoch % 2 = 1) = ep then some m else none
  | none, none => none

/-- The bits of one block of carrier `n`'s client stream: 257, or 66 of a client carried as 64b/66b (R174). -/
def Dev.blockBits (d : Dev) (n : Nat) : Nat := if 0x10 ≤ d.clientType n then 66 else 257

/-- Where the first block that begins lies, `k` bits later in a stream of blocks of `b` bits. -/
def offAfter (b off k : Nat) : Nat := (off + (b - 1) * k) % b

/-- Whole 66-bit blocks decoded, control where their first bit is 1, and the bits left. -/
def decode66 : Nat → List Bool → List (Bool × Bytes) × List Bool
  | 0, l => ([], l)
  | k + 1, l => if l.length < 66 then ([], l) else let r := decode66 k (l.drop 66); ((l.getD 0 false, bodyBytes ((l.drop 2).take 64)) :: r.1, r.2)

/-- The 64b/66b blocks that the first `k` bits of a stream of blocks of `b` bits reach into. -/
def blocksReached (b k : Nat) : Nat :=
  if k = 0 then 0 else if b = 66 then (k + 65) / 66 else 4 * ((k - 1) / 257) + min 3 (((k - 1) % 257 - 1) / 64) + 1

/-- An idle block. -/
def idleBlock : Bool × Bytes := (true, 0x1E :: List.replicate 7 0)

/-- Bits released toward the system side of pair `n`: of an Ethernet client the 64b/66b blocks they complete, `off` bits ahead of the first
block that begins among them; of a constant-bit-rate client as they are (R174, R177). Of the first `lost` of them, which belong to a client
frame already lost, idle blocks take the place, block by block (R200). -/
def Dev.putOut (n off lost : Nat) (l : List Bool) (d : Dev) : Dev :=
  let ls := d.txLanes (256 + n)
  if d.isCbr n then d.toSystemSide n (.client n ls .data l.length (packBits l))
  else
    let x := d.carrier n
    let bits := match x.part with
      | some p => p ++ l
      | none => l.drop off
    let b := d.blockBits n
    let r := if b = 66 then decode66 bits.length bits else untranscodeAll bits.length bits
    let k := blocksReached b (if lost = 0 then 0 else lost + bits.length - l.length)
    let out := (List.range r.1.length).map (fun i => if i < k then idleBlock else nth idleBlock r.1 i)
    (d.toSystemSide n (.blocks n ls out)).setCarrier n { x with part := some r.2 }

/-- The client bits of a carrier frame released toward the system side, or the replacement signal for as long. -/
def Dev.release (n : Nat) (r : CarrierRx) (d : Dev) : Dev :=
  if d.replaced n || !r.locked then d.replaceOut n r.bits else d.putOut n r.off 0 ((bitsOf r.data).take r.bits)

/-- A CBR client without CBR_HOLD: its bits leave before the verdict (R201). -/
def Dev.unheld (d : Dev) (n : Nat) : Bool := d.isCbr n && d.rd (0x2500 + n) 0xB = 0

/-- A carrier frame's bits deciphered under the key that EPOCH selects and demapped; without a key the bits of a constant-bit-rate client,
which leave ahead of the verdict, are free values (R168, R178, R196, R201; log 177). -/
def Dev.demap (n fc skip : Nat) (c : Int) (locked : Bool) (off : Nat) (oh payload tag : Bytes) (u : ClientUse) (d : Dev) :
    CarrierRx × Dev :=
  let bits := d.clientBits n skip c
  let span := payload.take (d.span n)
  match (d.carrier n).rxKey (bit 7 (beAt 0 1 oh)) with
  | none =>
    let r := if d.unheld n then d.drawBytes ((bits + 7) / 8) else ([], d)
    (⟨false, none, false, fc, oh, bits, r.1, locked, off, u⟩, r.2)
  | some k =>
    let iv := carrierIv (d.rd (0x2500 + n) 3) fc k.salt
    let p := gcmText (toBE 32 k.key) iv span
    (⟨false, some k.epoch, gcmTag (toBE 32 k.key) iv oh span = tag, fc, oh, bits,
      if d.mapping n = 0 then p.drop skip else p, locked, off, u⟩, d)

/-- A received carrier frame waits for its verdict; the bits of a client that is not held leave. -/
def Dev.awaitVerdict (n : Nat) (r : CarrierRx) (d : Dev) : Dev :=
  when (d.unheld n) (Dev.release n r) (d.setCarrier n { d.carrier n with rx := (d.carrier n).rx ++ [r] })

/-- In JC mode, where the first block begins in the frame now received: the model counts blocks on from the frame before; from the first
frame of a carrier on, where the receiver's own block lock finds it, a free value (DESIGN CHOICE, log 197). -/
def Dev.jcOff (n : Nat) (d : Dev) : Nat × Dev :=
  match (d.carrier n).x with
  | some v => (v, d)
  | none => let r := d.draw; (r.1 % d.blockBits n, r.2)

/-- A keyed frame's overhead decoded, its bits demapped (R178 to R180, R193, R196). -/
def Dev.keyedRx (n fc : Nat) (oh payload tag : Bytes) (u : ClientUse) (d : Dev) : Dev :=
  let x := d.carrier n
  if d.mapping n = 0 then
    let (d1, skip, locked) := d.ptrRx n (beAt 1 2 oh % 1024)
    let r := d1.demap n fc skip 0 locked (x.x.getD 0) oh payload tag u
    r.2.awaitVerdict n r.1
  else
    let o := d.jcOff n
    let d1 := o.2.jcRx n fc (beAt 3 1 oh)
    let r := d1.demap n fc 0 x.rxJc true o.1 oh payload tag u
    let d2 := r.2.setCarrier n { r.2.carrier n with x := some (offAfter (d.blockBits n) o.1 r.1.bits) }
    d2.awaitVerdict n r.1

/-- An unkeyed frame: its overhead is read for the defects and the mortar channel, its bits leave like those of any other where the client
is not held (R171, R201). -/
def Dev.unkeyedRx (n fc : Nat) (oh payload : Bytes) (u : ClientUse) (d : Dev) : Dev :=
  let d1 := (d.cause (.carrier n) 19).mortarRx n (oh.drop 12)
  let r := d1.demap n fc (2 * d1.width n) (d1.carrier n).rxJc (d1.mapping n != 0 || bit 15 (d1.rd (0x2500 + n) 0x1E)) 0 oh payload [] u
  r.2.awaitVerdict n { r.1 with unkeyed := true, epoch := none, tagOk := false, fc := 0 }

/-- One carrier frame received, its lanes joined in the order of the carrier words (R163, R171, R178). -/
def Dev.carrierRx (n : Nat) (b : Bytes) (u : ClientUse) (d : Dev) : Dev :=
  let w := d.width n
  if !d.carrierLive n || !(d.side n).aligned || b.length != 8192 * w then d
  else
    let oh := slice (16 * w) 16 b
    let payload := slice (16 * w + 16) (8176 * w - 32) b
    let tag := b.drop (8192 * w - 16)
    let unkeyed := tag.all (· = 0)
    let fc := beAt 5 5 oh * 256 + beAt 7 1 b
    let d1 := d.wrBit (0x2500 + n) 0x11 8 unkeyed
    if unkeyed then d1.unkeyedRx n fc oh payload u else d1.keyedRx n fc oh payload tag u

/-! ## The verdict (R185, R195 to R202) -/

/-- The mapping bit of the far end's last CAPABILITY agrees, as far as one has come. -/
def Dev.mappingAgrees (d : Dev) (n : Nat) : Bool :=
  match (d.carrier n).cap with
  | some c => bit 9 c = (d.mapping n = 1)
  | none => true

/-- A count of frames in a row toward a change of DEFECTS bit `b`: at `top` the bit becomes `v` (R185). DESIGN CHOICE: a frame
that fails, or finds no key, between two of them leaves the run as it is (log 220). -/
def Dev.runTo (n b top : Nat) (v : Bool) (get : Carrier → Nat) (put : Nat → Carrier → Carrier) (d : Dev) : Dev :=
  let x := d.carrier n
  if d.defect n b = v || d.defect n 0 || d.defect n 1 then d.setCarrier n (put 0 x)
  else if top ≤ get x + 1 then (d.setCarrier n (put 0 x)).setDefect n b v
  else d.setCarrier n (put (get x + 1) x)

/-- TFB after a verdict (R185). -/
def Dev.runTfb (n : Nat) (pass : Bool) (d : Dev) : Dev :=
  d.runTo n 4 (d.rd (0x2500 + n) 0xA) (!pass) (·.tfb) (fun k x => { x with tfb := k })

/-- The flags of a passing frame: AIS, RDI, CSF, TFR, NEXT_READY, and bits that ought to be 0 (R166, R185, R194, R206). -/
def Dev.flagsRx (n : Nat) (oh : Bytes) (d : Dev) : Dev :=
  let f := beAt 4 1 oh
  let x := d.carrier n
  let d1 := d.setCarrier n { x with ready := if bit 6 (beAt 0 1 oh) then min 3 (x.ready + 1) else 0 }
  let d2 := d1.runTo n 2 3 (bit 7 f) (·.ais) (fun k x => { x with ais := k })
  let d3 := d2.runTo n 3 3 (bit 6 f) (·.rdi) (fun k x => { x with rdi := k })
  let d4 := when (bit 5 f) (Dev.cause (.carrier n) 7) (d3.wrBit (0x2500 + n) 0x11 6 (bit 5 f))
  let d5 := when (bit 4 f) (Dev.cause (.carrier n) 8) d4
  let odd := f % 16 != 0 || beAt 11 1 oh != 0 ||
    (if d.mapping n = 0 then 1024 ≤ beAt 1 2 oh || beAt 3 1 oh != 0 else beAt 1 2 oh != 0)
  when odd (fun y => (y.fev n).cause (.carrier n) 20) d5

/-- The client frames of a carrier frame whose bits are released (R200, R202, R446). -/
def Dev.clientPass (n : Nat) (u : ClientUse) (d : Dev) : Dev :=
  let o := (d.carrier n).opened
  let d1 := (times u.begins (Dev.received n true 0) d).cntBy 1 n 14 u.octetsIn
  let all := u.begins + b2n (o != 0)
  let ends := min u.ends all
  let lost := 2 ≤ o && 0 < ends
  let d2 := when (lost && o = 3) (Dev.dropped n true dropCarrierDefect) d1
  let d3 := (times (ends - b2n lost) (Dev.forwarded n true 0) d2).cntBy 1 n 15 u.octetsOut
  let still := if ends = all then 0 else if o != 0 && ends = 0 then o else 1
  d3.setCarrier n { d3.carrier n with opened := still }

/-- The client frames of a carrier frame whose bits are withheld: at level 2 one that began before is ended with an error block and
counted STOMPED, those that begin are dropped; at level 1 each is dropped at its end (R200, R202). -/
def Dev.clientFail (n : Nat) (u : ClientUse) (d : Dev) : Dev :=
  let o := (d.carrier n).opened
  let d1 := (times u.begins (Dev.received n true 0) d).cntBy 1 n 14 u.octetsIn
  let all := u.begins + b2n (o != 0)
  let ends := min u.ends all
  let still := ends < all
  if d.level1 n then
    let d2 := times (ends - b2n (o = 2 && 0 < ends)) (Dev.dropped n true dropCarrierDefect) d1
    d2.setCarrier n { d2.carrier n with opened := if still then (if o = 2 && ends = 0 then 2 else 3) else 0 }
  else
    let d2 := when (o = 1) (fun y => (y.forwarded n true 0).cnt 1 n 13) d1
    let d3 := times u.begins (Dev.dropped n true dropCarrierDefect) d2
    d3.setCarrier n { d3.carrier n with opened := if still then 2 else 0 }

/-- At behaviour level 1, the bits of a carrier frame, `o` the client frame open before it: what belongs to a client frame not yet ended is
held, the rest goes out, or is withheld with a frame of which any part failed (R202). -/
def Dev.gateWhole (n o : Nat) (pass : Bool) (r : CarrierRx) (d : Dev) : Dev :=
  let x := d.carrier n
  let l := (bitsOf r.data ++ List.replicate r.bits false).take r.bits
  let u := r.use
  let ends := min u.ends (u.begins + b2n (o != 0))
  let through := o != 0 && ends = 0
  let head := if o = 0 then 0 else if through then r.bits else min u.head r.bits
  let tail := if ends < u.begins + b2n (o != 0) && !through then min u.tail (r.bits - head) else 0
  let put := fun (ok : Bool) (k : Nat) (b : List Bool) (y : Dev) =>
    if b.isEmpty then y else if ok then y.putOut n (offAfter (d.blockBits n) r.off k) 0 b else y.fillOut n .idle b.length
  if through then d.setCarrier n { x with held := x.held ++ l }
  else
    let back := (d.blockBits n - 1) * x.held.length
    let d1 := put (o = 1 && pass) back (x.held ++ l.take head) (d.setCarrier n { x with held := [] })
    let d2 := put pass head ((l.take (r.bits - tail)).drop head) d1
    d2.setCarrier n { d2.carrier n with held := l.drop (r.bits - tail) }

/-- The client bits of a passing carrier frame at behaviour level 2, `o` the client frame open before it: what is left of one already lost is
withheld, to the last block of it (R200). -/
def Dev.gateThrough (n o : Nat) (r : CarrierRx) (d : Dev) : Dev :=
  d.putOut n r.off (if o ≤ 1 then 0 else if r.use.ends = 0 then r.bits else min r.use.head r.bits) ((bitsOf r.data).take r.bits)

/-- A frame's client bits after its verdict, `repl` where the replacement signal takes their place; an unheld client has sent its own
already (R178, R186, R199 to R202, R206). -/
def Dev.gateRelease (n : Nat) (pass repl : Bool) (r : CarrierRx) (d : Dev) : Dev :=
  let o := (d.carrier n).opened
  let gone := repl || d.replaced n || !r.locked
  let book := fun (y : Dev) => if y.isCbr n then y else if pass && !gone then y.clientPass n r.use else y.clientFail n r.use
  if d.unheld n then book d
  else if gone then
    let d1 := book ((d.replaceOut n r.bits))
    d1.setCarrier n { d1.carrier n with held := [] }
  else if d.level1 n && !d.isCbr n then (book d).gateWhole n o pass r
  else if pass then (book d).gateThrough n o r
  else (book d).fillOut n (d.filling n false (if o = 1 then .cut else .idle)) r.bits

/-- A verdict fails (R198, R206): counted, TFR in the next frame sent, the content withheld, `causes` set; a client or mapping that disagrees
brings the replacement signal. -/
def Dev.verdictFails (n : Nat) (causes : List Nat) (r : CarrierRx) (d : Dev) : Dev :=
  let d1 := d.count 64 (0x2500 + n) 0x20 1
  let d2 := d1.setCarrier n { d1.carrier n with tfr := true, fails := ((d1.carrier n).fails + 1) % 65536 }
  let d3 := (6 :: causes).foldl (fun y c => y.cause (.carrier n) c) d2
  (d3.runTfb n false).gateRelease n false (causes.contains 18) r

/-- The receive key of epoch `e`. -/
def Carrier.rxOf (x : Carrier) (e : Nat) : Option CKey :=
  match x.rxCur with
  | some k => if k.epoch = e then some k else x.rxNext.filter (fun m => m.epoch = e)
  | none => x.rxNext.filter (fun m => m.epoch = e)

/-- The record of the key of epoch `e` made `fc`; the next key becomes current and the old one is erased (R196, R198). -/
def Dev.verified (n e fc : Nat) (d : Dev) : Dev :=
  let x := d.carrier n
  let d1 := match x.rxCur, x.rxNext with
    | some k, some m =>
      if k.epoch = e then d.setCarrier n { x with rxCur := some { k with high := some fc } }
      else
        (((d.setCarrier n { x with rxCur := some { m with high := some fc }, rxNext := none }).wr (0x2500 + n) 0x16 m.epoch).cause
          (.carrier n) 11).autoLoad n
    | some k, none => d.setCarrier n { x with rxCur := some { k with high := some fc } }
    | none, some m => d.setCarrier n { x with rxCur := some { m with high := some fc }, rxNext := none }
    | none, none => d
  d1.wr (0x2500 + n) 0x18 fc

/-- A verdict passes (R196, R198). -/
def Dev.verdictPasses (n : Nat) (k : CKey) (r : CarrierRx) (d : Dev) : Dev :=
  let jump := match k.high with
    | some h => h + 1 < r.fc
    | none => false
  let d1 := when jump (fun y => (y.fev n).cause (.carrier n) 20) d
  let d2 := (d1.verified n k.epoch r.fc).flagsRx n r.oh
  ((d2.runTfb n true).mortarRx n (r.oh.drop 12)).gateRelease n true false r

/-- Counter `fc` does not exceed the highest verified under the key (R198). -/
def CKey.replayed (k : CKey) (fc : Nat) : Bool :=
  match k.high with
  | some h => fc ≤ h
  | none => false

/-- The verdict on the oldest carrier frame received (R198). An unkeyed frame fails it only while the carrier is RUNNING. DESIGN CHOICE: of
several violations the first of tag, replay, epoch count and client alone is answered (log 202). An armed injection of point 0x0A fails it (R486). -/
def Dev.carrierVerdict (n : Nat) (d : Dev) : Dev :=
  let x := d.carrier n
  match x.rx with
  | [] => d
  | r :: rest =>
    let d0 := d.setCarrier n { x with rx := rest }
    if r.unkeyed then
      if d.rd (0x2500 + n) 0x10 = 3 then d0.verdictFails n [19] r else d0.gateRelease n false false r
    else
      match r.epoch.bind x.rxOf with
      | none => (d0.fev n).verdictFails n [] r
      | some k =>
        if (d.armed 0x0A (fun i _ => i = n)).isSome then d0.struck.verdictFails n [] r
        else if !r.tagOk then d0.verdictFails n [] r
        else if k.replayed r.fc then
          (d0.count 64 (0x2500 + n) 0x21 1).verdictFails n [15] r
        else if beAt 0 1 r.oh % 64 != k.epoch % 64 then (d0.fev n).verdictFails n [] r
        else if beAt 10 1 r.oh != d.clientType n || !d.mappingAgrees n then (d0.fev n).verdictFails n [18] r
        else d0.verdictPasses n k r

/-! ## The commands -/

/-- R168: one carrier frame is sent. -/
def execCarrierFrameTx (n : Nat) (adj : Int) (client : List ClientItem) (u : ClientUse) (s : State) : Out :=
  actIf (n < 256) (Dev.ifRuns (sliceDom (eSliceOf n)) (Dev.carrierTx n adj client u)) s

/-- R178: one carrier frame is received. -/
def execCarrierFrameRx (n : Nat) (b : List Byte) (u : ClientUse) (s : State) : Out := actIf (n < 256) (fun d => (when (d.carrierLive n) (Dev.echo n (fun ls => .retransmit n ls b true)) d).carrierRx n b u) s

/-- R198: a carrier frame's verdict is formed. -/
def execCarrierVerdict (n : Nat) (s : State) : Out := actIf (n < 256) (Dev.ifRuns (sliceDom (dSliceOf n)) (Dev.carrierVerdict n)) s

/-- R185: LOS is declared. -/
def execLosDeclare (n : Nat) (s : State) : Out := actIf (n < 256) (Dev.declare n 0 true) s

/-- R185: LOS clears. -/
def execLosClear (n : Nat) (s : State) : Out := actIf (n < 256) (Dev.declare n 0 false) s

/-- R185: LOF is declared. -/
def execLofDeclare (n : Nat) (s : State) : Out := actIf (n < 256) (Dev.declare n 1 true) s

/-- R185: LOF clears. -/
def execLofClear (n : Nat) (s : State) : Out := actIf (n < 256) (Dev.declare n 1 false) s

/-- R191: a carrier starts. -/
def execCarrierStart (n : Nat) (s : State) : Out := actIf (n < 256) (Dev.carrierStart n) s

/-- R191: a carrier runs. -/
def execCarrierRunning (n : Nat) (s : State) : Out := actIf (n < 256) (Dev.carrierRun n) s

/-- R193: a carrier key derivation completes. -/
def execCarrierKeyLoaded (n : Nat) (s : State) : Out := actIf (n < 256) (Dev.carrierKeyLoaded n) s

/-- What LOAD_NEXT of carrier `n` does (R193). Without a current key there is no next epoch: STATE. -/
def effLoadNext (n : Nat) : Eff := fun _ _ d =>
  let x := d.carrier n
  let l := d.nextKeys n
  if l.any (fun e => 0xFFFFFF < e.1) then (abRange, d)
  else if (x.txNext.isSome && x.rxNext.isSome) || (x.txCur.isNone && x.rxCur.isNone) || !d.vaultNormal then (abState, d)
  else match d.submitAll n l with
    | none => (abBusy, d)
    | some d1 => (0, d1)

/-- R193: LOAD_NEXT. -/
def execLoadNext (n : Nat) (w : Wr) (s : State) : Out := actIf (n < 256) (Dev.write (effLoadNext n) (0x2500 + n) 0x1A w) s

/-- What SWITCH_NOW of carrier `n` does (R194). -/
def effSwitchNow (n : Nat) : Eff := fun _ _ d =>
  if d.rd (0x2500 + n) 0x10 = 3 && d.switchAllowed n then (0, d.requestSwitch n) else (abState, d)

/-- R194: SWITCH_NOW. -/
def execSwitchNow (n : Nat) (w : Wr) (s : State) : Out := actIf (n < 256) (Dev.write (effSwitchNow n) (0x2500 + n) 0x1B w) s

/-- What a write of SWITCH_AT_FC of carrier `n` does (R194). DESIGN CHOICE: 0, for none, is accepted though it is at or below TX_FC (log 221). -/
def effSwitchAtFc (n : Nat) : Eff := fun _ v d =>
  if v != 0 && v ≤ d.rd (0x2500 + n) 0x17 then (abRange, d) else (0, d.wr (0x2500 + n) 0xF v)

/-- What a write of SWITCH_AT_TIME of carrier `n` does (R194, R374, R389, R390). -/
def effSwitchAtTime (n : Nat) : Eff := fun _ v d =>
  if v = 0 then (0, (d.unschedule (sameOwner (.carrier n))).wr (0x2500 + n) 0x1C 0)
  else if d.badTarget v then (abRange, d)
  else
    let r := d.schedule (.carrier n) (compactOf v)
    (r.1, if r.1 = 0 then r.2.wr (0x2500 + n) 0x1C v else d)

/-- R194: a write of SWITCH_AT_TIME. -/
def execSwitchAtTime (n : Nat) (w : Wr) (s : State) : Out := actIf (n < 256) (Dev.write (effSwitchAtTime n) (0x2500 + n) 0x1C w) s

/-- What EPOCH_HIGH_CLEAR of carrier `n` does (R192). -/
def effEpochHighClear (n : Nat) : Eff := fun _ _ d => if d.mode n != pmOff then (abState, d) else (0, d.wr (0x2500 + n) 0x19 0)

/-- R192: EPOCH_HIGH_CLEAR. -/
def execEpochHighClear (n : Nat) (w : Wr) (s : State) : Out :=
  actIf (n < 256) (Dev.write (effEpochHighClear n) (0x2500 + n) 0x1F w) s

/-- What a write of CARRIER_MAPPING of pair `n` does (R161). -/
def effMapping (n : Nat) : Eff := fun r v d =>
  if v = 0 && d.level1 n then (abLevel, d) else effWhileOff n (0x2500 + n) 1 r v d

/-- What a write of KDF_SLOT of pair `n` does (R161). -/
def effKdfSlot (n : Nat) : Eff := fun _ v d =>
  if v != 0xFF && (64 ≤ v || d.usage v != 1) then (abRange, d)
  else if d.mode n != pmOff then (abState, d)
  else (0, d.wr (0x2500 + n) 5 v)

/-- KEY_STATUS of carrier `n` (R161). DESIGN CHOICE: FAR_READY reads 1 where the far end's part of R194 holds: 3 passing frames in a row with
NEXT_READY and a last READY that names TX_EPOCH + 1 (log 203). -/
def Dev.keyStatus (d : Dev) (n : Nat) : Nat :=
  let x := d.carrier n
  b2n x.txNext.isSome + 2 * b2n x.rxNext.isSome + 4 * b2n (3 ≤ x.ready && x.farReady = some (d.rd (0x2500 + n) 0x15 + 1)) + 8 * b2n x.want

/-- Zeroisation erases every carrier key; a carrier that keys or runs is UNKEYED, the unkeyed count of any other runs on (R171, R197). -/
def Dev.unkeyAll (d : Dev) : Dev :=
  (d.formedPairs.filter (fun n => d.mode n = pmCarrier)).foldl (fun x n =>
    let y := x.dropKeys n
    if y.rd (0x2500 + n) 0x10 = 2 || y.rd (0x2500 + n) 0x10 = 3 then y.setCarrierState n 4
    else y.setCarrier n { y.carrier n with fc := (x.carrier n).fc }) d

/-- What a write of AUTO_LOAD of carrier `n` does: registers that are free are loaded at once (R193). -/
def effAutoLoad (n : Nat) : Eff := fun _ v d => (0, (d.wr (0x2500 + n) 0xC v).autoLoad n)

/-- A slot erased: the carriers that name it act as for an empty slot (R171, R212). -/
def Dev.unkeySlot (slot : Nat) (d : Dev) : Dev :=
  (d.formedPairs.filter (fun n => d.mode n = pmCarrier && d.rd (0x2500 + n) 5 = slot)).foldl (fun x n =>
    if x.rd (0x2500 + n) 0x10 = 2 || x.rd (0x2500 + n) 0x10 = 3 then (x.dropKeys n).setCarrierState n 4 else x) d

end Sys2Proof.Machine
end

