-- ==== Sys2Proof/Machine/SaStore.lean ====
section
/-! DEFINITION. The SA-store windows (R232, R233), notifications, scheduled changeovers, the changeover port, retirement and the MKA
contexts (R234 to R248). -/
namespace Sys2Proof.Machine

/-- Behaviour level 2 governs the threshold of an SA: the level of its channel's pair (R84, R238). -/
def Dev.saLevel2 (d : Dev) (s : Nat) : Bool := !d.level1 (chPair (d.chan (s / 16384 * 8192 + (d.sa s).channel)))

/-- The view written by CONFIGURE to an EMPTY SA (R233). -/
def configured (v0 v1 v2 v3 v4 : Nat) : Sa :=
  let rx := bit 2 v0
  { Sa.init with
    suite := fld 1 0 v0, rx := rx, an := fld 4 3 v0, channel := fld 28 16 v0, ssci := fld 63 32 v0,
    nextPn := if rx then v2 else v1, lowPn := if rx then v2 else 1, thresh := v3, keyNo := fld 31 0 v4 }

/-- The RANGE check of CONFIGURE (R233). -/
def configRangeOk (v0 v1 v2 v3 : Nat) : Bool :=
  let top := largestPn (fld 1 0 v0)
  let pn := if bit 2 v0 then v2 else v1
  1 ≤ pn && pn ≤ top && v3 ≤ top

/-- One SA-store operation `code` on SA `s` with the view words as written: the RESULT, and the block after it (R233). -/
def Dev.saOp (win code s v0 v1 v2 v3 v4 : Nat) (d : Dev) : Nat × Dev :=
  let x := d.sa s
  match code with
  | 1 =>
    let view := saView x
    (0, (List.range 5).foldl (fun y k => y.wr (0x3100 + win) (3 + k) (fld (64 * k + 63) (64 * k) view)) d)
  | 2 =>
    if !configRangeOk v0 v1 v2 v3 then (3, d)
    else if !d.vaultNormal then (5, d)
    else if x.state != saEmpty then (2, d)
    else (0, d.setSa s (configured v0 v1 v2 v3 v4))
  | 3 =>
    if x.state = saZeroised then (2, d)
    else (0, d.setSa s { x with thresh := v3, thHit := x.thHit && !d.saLevel2 s })
  | 4 =>
    let pn := if x.rx then v2 else v1
    if x.rx then
      if x.state = saReady || x.state = saActive || x.state = saRetiring then
        let l := max x.lowPn pn
        let n := max x.nextPn l
        (0, when (x.nextPn < n) (Dev.threshold s (x.thresh < n)) (d.setSa s { x with lowPn := l, nextPn := n }))
      else (2, d)
    else if x.state = saReady then (0, d.setSa s { x with nextPn := pn })
    else (2, d)
  | _ =>
    if x.state = saEmpty || x.state = saReady || x.state = saRetiring || x.state = saExhausted then
      (0, (Dev.eccClear (Machine.slotKey 16 s) d).setSa s Sa.init)
    else (2, d)

/-- What CMD of SA-store window `win` does: the operation completes, its RESULT in STATUS (R232, R233). -/
def effSaCmd (win : Nat) : Eff := fun _ v d =>
  let g := fun j => d.rd (0x3100 + win) j
  let i := g 2
  let r :=
    if v = 0 || 5 < v then (4, d)
    else if 16383 < i then (1, d)
    else d.saOp win v (win / 4 * 16384 + i) (g 3) (g 4) (g 5) (g 6) (g 7)
  (0, r.2.wr (0x3100 + win) 8 (r.1 * 256))

/-- A CMD of code `code` on a path. -/
def cmdWr (p : Path) (code : Nat) : Wr := ⟨p, 2, 1, code⟩

/-- R233: CONFIGURE. -/
def execConfigure (win : Nat) (p : Path) (s : State) : Out :=
  actIf (win < 16) (Dev.write (effSaCmd win) (0x3100 + win) 1 (cmdWr p 2)) s

/-- R233: READ. -/
def execSaRead (win : Nat) (p : Path) (s : State) : Out :=
  actIf (win < 16) (Dev.write (effSaCmd win) (0x3100 + win) 1 (cmdWr p 1)) s

/-- R233: SET_THRESHOLD. -/
def execSetThreshold (win : Nat) (p : Path) (s : State) : Out :=
  actIf (win < 16) (Dev.write (effSaCmd win) (0x3100 + win) 1 (cmdWr p 3)) s

/-- R233: SET_PN. -/
def execSetPn (win : Nat) (p : Path) (s : State) : Out :=
  actIf (win < 16) (Dev.write (effSaCmd win) (0x3100 + win) 1 (cmdWr p 4)) s

/-- R233: ERASE of an SA. -/
def execSaErase (win : Nat) (p : Path) (s : State) : Out :=
  actIf (win < 16) (Dev.write (effSaCmd win) (0x3100 + win) 1 (cmdWr p 5)) s

/-- What NOTE_POP does: the oldest notification moves to NOTE, 0 where there is none (R234). -/
def effNotePop (q : Nat) : Eff := fun _ _ d =>
  match d.notes q with
  | [] => (0, d.wr (0x3110 + q) 3 0)
  | v :: rest => (0, (d.setNotes q rest).wr (0x3110 + q) 3 v)

/-- R234: NOTE_POP. -/
def execNotePop (q : Nat) (w : Wr) (s : State) : Out := actIf (q < 4) (Dev.write (effNotePop q) (0x3110 + q) 2 w) s

/-- What SCHED_SUBMIT does (R243, R389). -/
def effSchedSubmit (q : Nat) : Eff := fun _ _ d =>
  let c := d.rd (0x3110 + q) 6
  if c / 8192 != q || chRx (d.chan c) then (abRange, d)
  else d.schedule (.channel c (d.rd (0x3110 + q) 7)) (compactOf (d.rd (0x3110 + q) 8))

/-- R243: SCHED_SUBMIT. -/
def execSchedSubmit (q : Nat) (w : Wr) (s : State) : Out :=
  actIf (q < 4) (Dev.write (effSchedSubmit q) (0x3110 + q) 9 w) s

/-- What SCHED_CANCEL does (R234): a channel outside the quadrant is refused, one with nothing scheduled completes. -/
def effSchedCancel (q : Nat) : Eff := fun _ v d =>
  if v / 8192 != q then (abRange, d) else (0, d.unschedule (sameOwner (.channel v 0)))

/-- R234: SCHED_CANCEL. -/
def execSchedCancel (q : Nat) (w : Wr) (s : State) : Out :=
  actIf (q < 4) (Dev.write (effSchedCancel q) (0x3110 + q) 0xA w) s

/-- R245: the changeover port of a quadrant serves one trigger. -/
def execChangeover (q : Nat) (s : State) : Out := actIf (q < 4) (Dev.ifRuns (tabDom q) (Dev.servePort q)) s

/-- A RETIRING RX SA whose RETIRE_DELAY has passed becomes EMPTY (R246). -/
def Dev.rxRetire (i : Nat) (d : Dev) : Dev :=
  let x := d.sa i
  when (x.rx && x.state = saRetiring) (Dev.retire i) d

/-- R246: RETIRE_DELAY of an RX SA has passed. -/
def execRetireDelayExpiry (i : Nat) (s : State) : Out := actIf (i < 65536) (Dev.ifRuns (tabDom (i / 16384)) (Dev.rxRetire i)) s

/-- What CTX_ERASE does: the selected context is erased (R248). -/
def effCtxErase : Eff := fun _ _ d => (0, d.setCtx (d.rd 0x3070 1) Ctx.init)

/-- R248: CTX_ERASE. -/
def execCtxErase (w : Wr) (s : State) : Out := act (Dev.write effCtxErase 0x3070 3 w) s

/-- CTX_STATUS of the selected context (R248). -/
def Dev.ctxStatus (d : Dev) : Nat :=
  let x := d.ctx (d.rd 0x3070 1)
  b2n x.hasKeys + 2 * b2n x.hasSak + 4 * b2n x.spent + x.cakSlot * 2 ^ 8 + x.sakLen * 2 ^ 16 + x.cakLen * 2 ^ 24

end Sys2Proof.Machine
end

