-- ==== Sys2Proof/Machine/Mka.lean ====
section
/-! DEFINITION. MKA as Dymbiloth runs it for each enabled binding (R249, R250): the MKPDUs and the protocol of IEEE 802.1X-2020 (PRESUMED,
log 179), its jobs on the planishers, its rules in the policy TCAM, its SAs and changeovers. -/
namespace Sys2Proof.Machine

/-! ## Bindings -/

/-- The record of enabled binding `b`. -/
def Dev.mkaOf (d : Dev) (b : Nat) : Option Mka := Tbl.get (fun _ => none) d.keys.mka b

/-- The record of binding `b` made `x`. -/
def Dev.setMkaOf (b : Nat) (x : Option Mka) (d : Dev) : Dev := { d with keys := { d.keys with mka := Tbl.set (fun _ => none) d.keys.mka b x } }

/-- MKA_STATUS of binding `b` made `v`; a change raises E56 (R468). -/
def Dev.setMka (b v : Nat) (d : Dev) : Dev :=
  if d.rd (0x3080 + b) 0x10 = v then d else (d.wr (0x3080 + b) 0x10 v).raise 56

/-- PEERS and KEY_SERVER of binding `b`. -/
def Dev.mkaShow (b peers server : Nat) (d : Dev) : Dev := (d.wr (0x3080 + b) 0x11 peers).wr (0x3080 + b) 0x12 server

/-- PAIR of binding `b`. -/
def Dev.mkaPair (d : Dev) (b : Nat) : Nat := d.rd (0x3080 + b) 2

/-- TX_CH of binding `b`. -/
def Dev.mkaTx (d : Dev) (b : Nat) : Nat := d.rd (0x3080 + b) 0xD

/-- The channels of the RX pool of binding `b`. -/
def Dev.mkaPool (d : Dev) (b : Nat) : List Nat := (List.range (d.rd (0x3080 + b) 0xF)).map (d.rd (0x3080 + b) 0xE + ·)

/-- Binding `b` starts, or starts again after ZEROISE_CLEAR (R249, R257): a fresh member identifier, no peer; its rules stay. -/
def Dev.mkaStarts (b : Nat) (d : Dev) : Dev :=
  let r := d.draw
  let rules := ((d.mkaOf b).map (·.rules)).getD []
  let stale := ((List.range 5).flatMap (fun p => (d.pl p).jobs)).countP (fun j => j.binding = some b) +
    d.keys.mkaDone.countP (fun e => e.1 = b)
  ((r.2.setMkaOf b (some { Mka.init (r.1 % 2 ^ 96) with rules := rules, stale := stale })).setMka b 1).mkaShow b 0 0

/-- Binding `b` fails: it does nothing more until it is disabled or ZEROISE_CLEAR restarts it (R255). -/
def Dev.mkaFails (b : Nat) (d : Dev) : Dev :=
  ((d.setMkaOf b ((d.mkaOf b).map (fun x => { Mka.init x.mi with rules := x.rules, todo := [] }))).setMka b 4).mkaShow b 0 0

/-! ## The rules in the policy TCAM (R250) -/

/-- KEY and MASK of the ingress rule of pair `n`, EtherType 0x888E from LPn, and of the egress rule, that EtherType to 01-80-C2-00-00-03
from SPn. -/
def mkaRule (n : Nat) (rx : Bool) : Nat × Nat :=
  let key := n + b2n rx * 2 ^ 8 + 0x888E * 2 ^ 80
  let mask := 0xFF + 2 ^ 8 + 0xFFFF * 2 ^ 80
  if rx then (key, mask) else (key + 0x0180C2000003 * 2 ^ 32, mask + 0xFFFFFFFFFFFF * 2 ^ 32)

/-- TCAM `k` can be written from window 0 now: its domain runs and no other role holds its lock. -/
def Dev.mkaMayWrite (d : Dev) (k : Nat) : Bool := d.tableOn k && !d.lockedFor k .firm

/-- Command `v` given to window 0 of TCAM `k` for entry `i`. -/
def Dev.mkaWindow (k i v : Nat) (d : Dev) : Dev := (effTableCmd (4 * k) false .firm v (d.wr (0x4040 + 4 * k) 2 i)).2

/-- Entry `i` of TCAM `k` written through window 0 (R267, R284). -/
def Dev.mkaInstall (k i key mask res : Nat) (d : Dev) : Dev :=
  let n := 0x4040 + 4 * k
  ((((d.putWords n 4 3 key).putWords n 9 3 mask).wr n 0xC res).wr n 0xD 1).mkaWindow k i 3

/-- The lowest entry of TCAM `k` that is not valid. -/
def Dev.mkaFree (d : Dev) (k : Nat) : Option Nat := (List.range 1024).find? (fun i => !(d.ent k i).valid)

/-- The next rule that binding `b` still lacks installed: the ingress rule punts to the control cluster, the egress rule drops. -/
def Dev.mkaAddRule (b : Nat) (x : Mka) (d : Dev) : Dev :=
  let n := d.mkaPair b
  let k := 4 * quadOf n + 2
  let rx := x.rules.isEmpty
  let r := mkaRule n rx
  match if d.mkaMayWrite k then d.mkaFree k else none with
  | none => d
  | some i => (d.mkaInstall k i r.1 r.2 ((if rx then 5 else 3) * 2 ^ 16)).setMkaOf b (some { x with rules := x.rules ++ [i] })

/-- The first rule of a disabled binding that can be removed now is removed. -/
def Dev.mkaDropRule (d : Dev) : Dev :=
  match d.keys.mkaGone.find? (fun e => d.mkaMayWrite e.1) with
  | none => d
  | some e => ({ d with keys := { d.keys with mkaGone := d.keys.mkaGone.erase e } } : Dev).mkaWindow e.1 e.2 4

/-! ## ENABLE (R249) -/

/-- Channel `c` is an MKA-managed channel of pair `n` in a direction, enabled or not (R249). -/
def Dev.mkaChannel (d : Dev) (n c : Nat) (rx : Bool) : Bool :=
  c < 32768 && chRx (d.chan c) = rx && chPair (d.chan c) = n && chMka (d.chan c)

/-- What a write of ENABLE of binding `b` does (R249, R250): set, the binding starts and its rules go in; cleared, they are to go. -/
def effMkaEnable (b : Nat) : Eff := fun _ v d =>
  let n := d.mkaPair b
  if v = 0 then
    let gone := (((d.mkaOf b).map (·.rules)).getD []).map (fun i => (4 * quadOf n + 2, i))
    let d1 : Dev := { d with keys := { d.keys with mkaGone := d.keys.mkaGone ++ gone } }
    (0, (((d1.setMkaOf b none).wr (0x3080 + b) 1 0).setMka b 0).mkaShow b 0 0)
  else if d.rd (0x3080 + b) 1 = 1 then (0, d)
  else if !d.mkaChannel n (d.mkaTx b) false || !(d.mkaPool b).all (fun c => d.mkaChannel n c true) then (abRange, d)
  else if d.mkaBound n then (abConflict, d)
  else (0, (d.wr (0x3080 + b) 1 1).mkaStarts b)

/-- R249: ENABLE of an MKA binding. -/
def execMkaBindingEnable (b : Nat) (w : Wr) (s : State) : Out :=
  actIf (b < 64) (Dev.write (effMkaEnable b) (0x3080 + b) 1 w) s

/-! ## MKPDUs (IEEE 802.1X-2020, 11.11) -/

/-- A parameter set: type, second byte, upper nibble of the third, body, filled to a multiple of four bytes. -/
def mkaSet (ty b1 flags : Nat) (body : Bytes) : Bytes :=
  toBE 1 ty ++ toBE 1 b1 ++ toBE 2 (flags * 2 ^ 12 + body.length) ++ body ++ List.replicate ((4 - body.length % 4) % 4) 0

/-- The parameter sets of a message: type, second byte, upper nibble of the third, body. -/
def mkaSets : Nat → Bytes → List (Nat × Nat × Nat × Bytes)
  | 0, _ => []
  | f + 1, b =>
    if b.length < 4 then []
    else
      let n := beAt 2 2 b % 4096
      (beAt 0 1 b, beAt 1 1 b, beAt 2 1 b / 16, slice 4 n b) :: mkaSets f (b.drop (4 + (n + 3) / 4 * 4))

/-- The members of a peer list: identifier and message number. -/
def mkaMembers (b : Bytes) : List (Nat × Nat) := (List.range (b.length / 16)).map (fun i => (beAt (16 * i) 12 b, beAt (16 * i + 12) 4 b))

/-- What a received MKPDU says. -/
structure Pdu where
  prio : Nat
  sci : Nat
  mi : Nat
  mn : Nat
  ckn : Bytes
  /-- The members it lists, live or potential. -/
  heard : List (Nat × Nat)
  /-- The latest SAK it reports: key server, key number, AN, whether it is installed for receiving, the lowest acceptable PN. -/
  use : Option (Nat × Nat × Nat × Bool × Nat)
  /-- The SAK it distributes: key number, AN, wrapped SAK. -/
  dist : Option (Nat × Nat × Bytes)
  deriving DecidableEq, Repr

/-- The body of the first parameter set of type `ty`, with its second byte. -/
def mkaFind (ty : Nat) (l : List (Nat × Nat × Nat × Bytes)) : Option (Nat × Bytes) :=
  (l.find? (fun e => e.1 = ty)).map (fun e => (e.2.1, e.2.2.2))

/-- The message of a received EAPOL frame apart from its ICV, and the ICV; none where it is no MKPDU. -/
def mkaSplit (f : Bytes) : Option (Bytes × Bytes) :=
  let n := 18 + beAt 16 2 f
  if beAt 15 1 f = 5 && 16 + 52 ≤ n && n ≤ f.length then some (f.take (n - 16), slice (n - 16) 16 f) else none

/-- A message without its ICV read. -/
def readPdu (m : Bytes) : Option Pdu :=
  match mkaSets 64 (m.drop 18) with
  | [] => none
  | (_, prio, _, h) :: l =>
    let members := fun t => ((mkaFind t l).map (fun e => mkaMembers e.2)).getD []
    let high := ((mkaFind 8 l).map (fun e => beAt 0 4 e.2)).getD 0
    some { prio := prio, sci := beAt 0 8 h, mi := beAt 8 12 h, mn := beAt 20 4 h, ckn := h.drop 28, heard := members 1 ++ members 2,
           use := (mkaFind 3 l).map (fun e => (beAt 0 12 e.2, beAt 12 4 e.2, e.1 / 64, bit 4 e.1, high * 2 ^ 32 + beAt 16 4 e.2)),
           dist := (mkaFind 4 l).map (fun e => (beAt 0 4 e.2, e.1 / 64, e.2.drop (if e.2.length = 28 then 4 else 12))) }

/-! ## Election (IEEE 802.1X-2020, 9.5) -/

/-- The live peers. -/
def Mka.live (x : Mka) : List MkaPeer := x.peers.filter (·.live)

/-- The SCI of this end: that of its TX channel. -/
def Dev.mkaSci (d : Dev) (b : Nat) : Nat := chSci (d.chan (d.mkaTx b))

/-- Of two members, the first is preferred as key server: the lower priority value, then the lower SCI. -/
def mkaBefore (p q : Nat × Nat) : Bool := p.1 < q.1 || (p.1 = q.1 && p.2 < q.2)

/-- The live peer that is key server; none where this end is. -/
def Dev.mkaServer (d : Dev) (b : Nat) (x : Mka) : Option MkaPeer :=
  x.live.foldl (fun a p =>
    let best := match a with
      | some q => (q.prio, q.sci)
      | none => (d.rd (0x3080 + b) 0xA, d.mkaSci b)
    if mkaBefore (p.prio, p.sci) best then some p else a) none

/-- This end is key server: it has live peers, and none goes before it. -/
def Dev.mkaServes (d : Dev) (b : Nat) (x : Mka) : Bool := !x.live.isEmpty && (d.mkaServer b x).isNone

/-! ## SAs of the latest SAK -/

/-- The channels that use the SAK: those bound to the live peers, then TX_CH. -/
def Dev.mkaChans (d : Dev) (b : Nat) (x : Mka) : List Nat := x.live.filterMap (·.chan) ++ [d.mkaTx b]

/-- A task that loads the SAK into a channel. -/
def MkaTask.isHash : MkaTask → Bool
  | .hash _ => true
  | _ => false

/-- Channel `c` holds the latest SAK at its AN. -/
def Dev.mkaHas (d : Dev) (x : Mka) (c : Nat) : Bool :=
  let a := d.sa (d.saOf c x.an)
  chSaOk (d.chan c) x.an && a.keyNo = x.kn && (a.state = saReady || a.state = saActive || a.state = saRetiring)

/-- Every channel holds the latest SAK. -/
def Dev.mkaInstalled (d : Dev) (b : Nat) (x : Mka) : Bool := 
  x.kn != 0 && !(x.todo ++ x.busy.toList).any (·.isHash) && (d.mkaChans b x).all (d.mkaHas x)

/-- The SSCI of the member with SCI `sci` (IEEE 802.1X-2020, 10.7.13): its place among the members by SCI, the greatest first. -/
def Dev.mkaSsci (d : Dev) (b : Nat) (x : Mka) (sci : Nat) : Nat := 1 + ((d.mkaSci b :: x.live.map (·.sci)).filter (sci < ·)).length

/-- PN_THRESHOLD of a suite: three quarters of its PN space (R250). -/
def mkaThreshold (suite : Nat) : Nat := if suite < 2 then 0xC0000000 else 0xC000000000000000

/-- The cipher suite identifiers of IEEE 802.1AE for the suites of R130. -/
def mkaSuiteId (suite : Nat) : Nat :=
  match suite with
  | 0 => 0x0080C20001000001
  | 1 => 0x0080C20001000002
  | 2 => 0x0080C20001000003
  | _ => 0x0080C20001000004

/-! ## Sending -/

/-- CKN of binding `b`. -/
def Dev.mkaCkn (d : Dev) (b : Nat) : Bytes := ((List.range 4).flatMap (fun k => toBE 8 (d.rd (0x3080 + b) (6 + k)))).take (d.rd (0x3080 + b) 5)

/-- The next MKPDU of binding `b` as an EAPOL frame, without its ICV. -/
def Dev.mkaMessage (d : Dev) (b : Nat) (x : Mka) : Bytes :=
  let g := fun j => d.rd (0x3080 + b) j
  let sci := d.mkaSci b
  let suite := g 0xB
  let has := d.mkaInstalled b x
  let tx := d.mkaTx b
  let a := d.sa (d.saOf tx x.an)
  let low := if chAn (d.chan tx) = x.an then a.nextPn else 1
  let list := fun ty (l : List MkaPeer) => if l.isEmpty then [] else mkaSet ty 0 0 (l.flatMap (fun p => toBE 12 p.mi ++ toBE 4 p.mn))
  let sets := mkaSet 3 (g 0xA) (8 * b2n (d.mkaServes b x) + 4 + 3)
      (toBE 8 sci ++ toBE 12 x.mi ++ toBE 4 (x.mn + 1) ++ toBE 4 0x0080C201 ++ d.mkaCkn b) ++
    list 1 x.live ++ list 2 (x.peers.filter (fun p => !p.live)) ++
    (if x.kn = 0 then []
     else mkaSet 3 (x.an * 64 + b2n (has && chAn (d.chan tx) = x.an) * 32 + b2n has * 16) 0
        (toBE 12 x.ks ++ toBE 4 x.kn ++ toBE 4 (low % 2 ^ 32) ++ List.replicate 20 0) ++
       (if suite < 2 then [] else mkaSet 8 0 0 (toBE 4 (low / 2 ^ 32) ++ List.replicate 4 0))) ++
    (if x.ks = x.mi && x.kn != 0 then
       mkaSet 4 (x.an * 64 + g 0xC * 16) 0 (toBE 4 x.kn ++ (if suite = 0 then [] else toBE 8 (mkaSuiteId suite)) ++ x.wrapped)
     else [])
  toBE 6 0x0180C2000003 ++ toBE 6 (sci / 2 ^ 16) ++ [0x88, 0x8E, 3, 5] ++ toBE 2 (sets.length + 16) ++ sets

/-- An MKPDU of pair `n` handed to INJECT_CC of its E-slice, in clear (R250). -/
def Dev.mkaSend (n : Nat) (b : Bytes) (d : Dev) : Dev :=
  if !d.isUp n || !d.runsFrames n || d.shut n then d
  else
    let k := 8 * eSliceOf n + 1
    d.countFrame.setBg k (d.bgOf k ++ [⟨d.newFrame n false true (b ++ List.replicate (60 - b.length) 0) d.now, 0⟩])

/-! ## Jobs -/

/-- A job of Dymbiloth's MKA for the claimant FIRM; none where the planisher takes none now (R219, R222). -/
def Dev.mkaJob (p code slot target ctxA ctxB param : Nat) (data : Bytes) (d : Dev) : Option Dev :=
  if !d.vaultNormal || (p < 4 && d.answersOff (tabDom p)) then none
  else
    (d.entryFor p 0).map (fun own =>
      (if p < 4 then d.wake (tabDom p) else d).enqueueJob p
        { code := code, win := none, role := .firm, core := 0, slot := slot, target := target, ctxA := ctxA, ctxB := ctxB, param := param,
          data := data, dataAddr := 0, own := own, started := false, pos := 0, derived := 0, skipped := 0, stop := false, out := [] })

/-- The SA that channel `c` names for the latest AN made to hold its SAK (R223, R233, R250): what the SA still holds of an older SAK
erased, CONFIGURE with the PN threshold, and HASHKEY. None while the SA is in use or retiring. -/
def Dev.mkaHash (b : Nat) (x : Mka) (c : Nat) (d : Dev) : Option Dev :=
  let s := d.saOf c x.an
  let suite := d.rd (0x3080 + b) 0xB
  let rx := chRx (d.chan c)
  let sci := if rx then ((x.live.find? (fun p => p.chan = some c)).map (·.sci)).getD 0 else d.mkaSci b
  let v0 := suite + b2n rx * 4 + x.an * 8 + c % 8192 * 2 ^ 16 + (if suite < 2 then 0 else d.mkaSsci b x sci) * 2 ^ 32
  let st := (d.sa s).state
  let d1 := if st = saReady || st = saExhausted then (d.saOp 0 5 s 0 0 0 0 0).2 else d
  if (d1.sa s).state != saEmpty then none
  else
    let d2 := (d1.saOp 0 2 s v0 1 1 (mkaThreshold suite) x.kn).2
    (d2.mkaJob (c / 8192) 9 0xFF s (x.ks / 2 ^ 32) (x.ks % 2 ^ 32 * 2 ^ 32 + x.kn) b []).map (Dev.saLoads s)

/-- Task `t` of binding `b` begun: the message its job works on and the block; none while it cannot begin, a message of none where it is
dropped. -/
def Dev.mkaBegin (b : Nat) (x : Mka) (t : MkaTask) (d : Dev) : Option (Option Bytes × Dev) :=
  let g := fun j => d.rd (0x3080 + b) j
  let ran := fun (m : Bytes) (y : Option Dev) => y.map (fun z => (some m, z))
  match t with
  | .keys => ran [] (d.mkaJob 4 5 (g 3) b 0 0 (b2n (g 4 = 32)) (d.mkaCkn b))
  | .hello =>
    let m := d.mkaMessage b x
    ran m (d.mkaJob 4 6 0xFF b 0 0 0 m)
  | .check f =>
    match mkaSplit f with
    | none => some (none, d)
    | some (m, icv) => ran m (d.mkaJob 4 6 0xFF b (beAt 0 8 icv) (beAt 8 8 icv) 1 m)
  | .random => ran [] (d.mkaJob 4 7 0xFF b 0 0 (b2n (g 0xB % 2 = 1)) [])
  | .unwrap _ _ _ w => if w.length = 24 || w.length = 40 then ran [] (d.mkaJob 4 8 0xFF b 0 0 0 w) else some (none, d)
  | .hash c => if chSaOk (d.chan c) x.an then ran [] (d.mkaHash b x c) else some (none, d)

/-- A new SAK is the latest of binding `b`: it goes into every channel, and the peers are told (R250). -/
def Dev.mkaNewKey (b ks kn an : Nat) (wrapped : Bytes) (x : Mka) (d : Dev) : Mka :=
  { x with ks := ks, kn := kn, an := an, wrapped := wrapped, rekey := false, peers := x.peers.map (fun p => { p with has := false }),
           todo := x.todo.filter (fun t => !t.isHash) ++ (d.mkaChans b x).map .hash ++ [.hello] }

/-! ## Peers -/

/-- A task put at the end of the list, once. -/
def Mka.add (t : MkaTask) (x : Mka) : Mka := if x.todo.contains t then x else { x with todo := x.todo ++ [t] }

/-- A verified MKPDU heard by binding `b` (R250; IEEE 802.1X-2020, 9.4): its sender is live where it has heard this end and the RX pool has
a channel for it; a new live peer asks for a new SAK; the SAK of the elected key server is taken. -/
def Dev.mkaHear (b : Nat) (x : Mka) (p : Pdu) (d : Dev) : Mka :=
  let old := x.peers.find? (fun q => q.mi = p.mi)
  if p.ckn != d.mkaCkn b || p.mi = x.mi || (old.map (fun q => decide (p.mn ≤ q.mn))).getD false then x
  else
    let others := x.peers.filter (fun q => q.mi != p.mi)
    let free := (d.mkaPool b).find? (fun c => !others.any (fun q => q.chan = some c))
    let chan := (old.bind (·.chan)).or (if p.heard.any (fun e => e.1 = x.mi) then free else none)
    let has := match p.use with
      | some (ks, kn, _, rx, _) => x.kn != 0 && ks = x.ks && kn = x.kn && rx
      | none => false
    let low := match p.use with
      | some (_, _, _, _, l) => l
      | none => 0
    let peer : MkaPeer := ⟨p.mi, p.mn, p.sci, p.prio, chan.isSome, d.now, chan, low, has⟩
    let joined := chan.isSome && !(old.map (·.live)).getD false
    let y := { x with peers := others ++ [peer], rekey := x.rekey || joined }
    let z := match p.dist, d.mkaServer b y with
      | some (kn, an, w), some s => if s.mi = p.mi && !(y.ks = p.mi && y.kn = kn) then y.add (.unwrap p.mi kn an w) else y
      | _, _ => y
    if old.isNone || joined || (old.map (·.has)) != some has then z.add .hello else z

/-- L of the SAs of the latest SAK raised to the lowest acceptable PNs the peers report (R250). -/
def Dev.mkaLows (x : Mka) (d : Dev) : Dev :=
  x.live.foldl (fun y p => match p.chan with
    | some c =>
      let s := y.saOf c x.an
      if p.has && y.mkaHas x c && (y.sa s).lowPn < p.low then (y.saOp 0 4 s 0 0 p.low 0 0).2 else y
    | none => y) d

/-- A live peer's SCI bound to its channel: the record takes the SCI, and the learned PENDING entry becomes a working one (R250, R295). -/
def Dev.mkaBind (b : Nat) (p : MkaPeer) (d : Dev) : Dev :=
  let n := d.mkaPair b
  let k := 4 * quadOf n + 1
  let key := n + p.sci * 2 ^ 8
  match p.chan with
  | none => d
  | some c =>
    let r := d.chan c
    let d1 := if chSci r != p.sci && d.mkaMayWrite (k + 2) then (d.writeRecord c (setFld 63 0 r p.sci) false).2 else d
    match if d1.mkaMayWrite k then d1.findKey k key else none with
    | none => d1
    | some l =>
      let e := d1.ent k l
      if e.action = 0 then d1
      else (d1.putEnt k l { e with res := c % 8192, ctl := updateCtl k e.ctl 2 (c % 8192) }).eccClear (Sys2Proof.Machine.slotKey k l)

/-! ## The engine -/

/-- The end of a job of binding `b` with its result and output (R224, R250); one that a reset of its core or a domain has CANCELLED is submitted
again (R226, R471). -/
def Dev.mkaEnded (b res : Nat) (out : Bytes) (d : Dev) : Dev :=
  match d.mkaOf b with
  | none => d
  | some x0 =>
    let x := { x0 with busy := none, msg := [] }
    if 0 < x0.stale then d.setMkaOf b (some { x0 with stale := x0.stale - 1 })
    else
    match x0.busy, res with
    | some .keys, 0 => d.setMkaOf b (some (({ x with ready := true } : Mka).add .hello))
    | some .hello, 0 => (d.mkaSend (d.mkaPair b) (x0.msg ++ out)).setMkaOf b (some { x with mn := x.mn + 1, sent := d.now })
    | some (.check _), 0 => d.setMkaOf b (some (((readPdu x0.msg).map (fun p => d.mkaHear b x p)).getD x))
    | some .random, 0 =>
      let kn := if x.ks = x.mi then x.kn + 1 else 1
      d.setMkaOf b (some (d.mkaNewKey b x.mi kn ((chAn (d.chan (d.mkaTx b)) + 1) % 4) out x))
    | some (.unwrap ks kn an _), 0 => d.setMkaOf b (some (d.mkaNewKey b ks kn an [] x))
    | some t, 9 => d.setMkaOf b (some { x with todo := t :: x.todo })
    | some .keys, _ | some .random, _ => d.mkaFails b
    | _, _ => d.setMkaOf b (some x)

/-- Hello Time and Life Time of IEEE 802.1X-2020, 2 s and 6 s, in CCLK cycles. -/
def mkaHello : Nat := 3200000000
/-- See `mkaHello`. -/
def mkaLife : Nat := 9600000000

/-- A binding's SAs near the end of their PNs: PN_THRESHOLD has fired on one that uses the latest SAK (R250). -/
def Dev.mkaSpent (d : Dev) (b : Nat) (x : Mka) : Bool := (d.mkaChans b x).any (fun c => d.mkaHas x c && (d.sa (d.saOf c x.an)).thHit)

/-- Binding `b` with nothing outstanding: peers silent for a life time leave; the rest are bound and their PNs taken; TX changes over by
record write once every live peer reports the new SAK installed; the key server makes a new SAK where one is due; the status follows; an
MKPDU is due every hello time (R249, R250). -/
def Dev.mkaIdle (b : Nat) (x0 : Mka) (d0 : Dev) : Dev :=
  let x1 := { x0 with peers := x0.peers.filter (fun p => d0.now ≤ p.seen + mkaLife) }
  let x2 := if x1.live.isEmpty then { x1 with ks := 0, kn := 0, wrapped := [], rekey := false } else x1
  let d := (x2.live.foldl (fun y p => y.mkaBind b p) d0).mkaLows x2
  let tx := d.mkaTx b
  let moves := d.mkaInstalled b x2 && x2.live.all (·.has) && chAn (d.chan tx) != x2.an && d.mkaMayWrite (4 * (tx / 8192) + 3)
  let d1 := if moves then (d.writeRecord tx (setFld 87 86 (d.chan tx) x2.an) true).2 else d
  let server := d1.mkaServes b x2
  let secured := d1.mkaInstalled b x2 && chAn (d1.chan tx) = x2.an && (d1.sa (d1.saOf tx x2.an)).state = saActive
  let st := if x2.live.isEmpty then 1 else if secured then 3 else 2
  let x3 := if server && (x2.rekey || x2.kn = 0 || x2.ks != x2.mi || d1.mkaSpent b x2) then
    ({ x2 with rekey := false } : Mka).add .random else x2
  let x4 := if x3.todo.isEmpty && (moves || x3.sent + mkaHello ≤ d1.now) then x3.add .hello else x3
  ((d1.setMkaOf b (some x4)).setMka b st).mkaShow b x2.live.length (b2n server)

/-- The task at the front of the list of binding `b` begins where it can; with an empty list the binding looks after its peers. -/
def Dev.mkaTask (b : Nat) (x : Mka) (d : Dev) : Dev :=
  match x.todo with
  | [] => if x.ready then d.mkaIdle b x else d
  | t :: rest =>
    match d.mkaBegin b x t with
    | none => d.setMkaOf b (some { x with todo := rest ++ [t] })
    | some (none, y) => y.setMkaOf b (some { x with todo := rest })
    | some (some m, y) => y.setMkaOf b (some { x with todo := rest, busy := some t, msg := m })

/-- One round of binding `b`, unless it has failed: a rule it lacks goes in; then, where no job of its is outstanding, its next task
begins. -/
def Dev.mkaStep (b : Nat) (d : Dev) : Dev :=
  let run := fun (x : Mka) (y : Dev) => if x.busy.isSome || 0 < x.stale then y else y.mkaTask b x
  match if d.rd (0x3080 + b) 0x10 = 4 then none else d.mkaOf b with
  | none => d
  | some x =>
    let d1 := if x.rules.length < 2 then d.mkaAddRule b x else d
    run ((d1.mkaOf b).getD x) d1

/-- The oldest MKPDU punted to Dymbiloth handed to the binding of its pair. -/
def Dev.mkaTake (d : Dev) : Dev :=
  match d.keys.mkaIn with
  | [] => d
  | (n, f) :: rest =>
    let d1 : Dev := { d with keys := { d.keys with mkaIn := rest } }
    match (List.range 64).find? (fun b => d.rd (0x3080 + b) 1 = 1 && d.mkaPair b = n) with
    | none => d1
    | some b =>
      match d1.mkaOf b with
      | none => d1
      | some x => if x.ready then d1.setMkaOf b (some (x.add (.check f))) else d1

/-- The oldest end of a binding's job handed to it. -/
def Dev.mkaReap (d : Dev) : Dev :=
  match d.keys.mkaDone with
  | [] => d
  | (b, res, out) :: rest => ({ d with keys := { d.keys with mkaDone := rest } } : Dev).mkaEnded b res out

/-- Dymbiloth runs: the device is ready, domain 136 is ON with its clock, and core 0 is not held in reset (R398, R405, R471, R509). -/
def Dev.dymbiloth (d : Dev) : Bool :=
  d.rd 0x1020 4 = 5 && d.engineRuns && d.boot.clusterRuns && d.isOn 136 && d.rd 0x1215 1 != 1 && !d.wdHeld.contains 0

/-- One round of MKA, while Dymbiloth runs (R249, R250; log 179). -/
def Dev.mkaRound (d : Dev) : Dev :=
  if !d.dymbiloth then d
  else
    let d1 := d.mkaReap.mkaTake.mkaDropRule
    d1.keys.mka.foldl (fun x e => x.mkaStep e.1) d1

end Sys2Proof.Machine
end

