-- ==== Sys2Proof/Machine/Time.lean ====
section
/-! DEFINITION. The commands of the time unit (R366 to R393, R413). -/
namespace Sys2Proof.Machine

/-- R368: one tick of the time clock. -/
def execTimeTick (s : State) : Out := act Dev.tick s

/-- R368: a write of INCREMENT; the rate changes from the next tick. -/
def execIncrement (w : Wr) (s : State) : Out := act (Dev.write (store 0x7000 4) 0x7000 4 w) s

/-- R369: STEP. -/
def execStep (w : Wr) (s : State) : Out := act (Dev.write effStep 0x7000 5 w) s

/-- R370: TIME_SET. -/
def execTimeSet (w : Wr) (s : State) : Out := act (Dev.write effTimeSet 0x7000 7 w) s

/-- The earliest entry of the schedule queue handed to its block once its target lies within 1 s; more than LATE_LIMIT after the
target it counts SCHED_LATE and raises E38 (R375, R391). -/
def Dev.scheduleFire (d : Dev) : Dev :=
  match d.time.queue with
  | [] => d
  | e :: rest =>
    let now := d.compact
    let late := (now + 2 ^ 64 - e.target) % 2 ^ 64
    if !d.timeRuns || (!reached now e.target && 1000000000 < (e.target + 2 ^ 64 - now) % 2 ^ 64) then d
    else
      let d1 := { d with time := { d.time with handed := d.time.handed ++ [e] } }
      let d2 := (d1.setQueue rest).count 64 0x7020 3 1
      when (reached now e.target && d2.rd 0x7020 5 < late) (fun x => (x.count 64 0x7020 4 1).raise 38) d2

/-- R374, R375: the queue hands its earliest entry to the block. -/
def execScheduleFire (s : State) : Out := act Dev.scheduleFire s

/-- The dictionary index of the timestamp objects of side `s` (R378). -/
def tsIndex (s : Nat) : Nat := 0x2000 + s

/-- What TS_POP does: the oldest entry moves to TS_ENTRY, 0 where there is none (R378). -/
def effTsPop (side : Nat) : Eff := fun _ _ d =>
  match Tbl.get (fun _ => []) d.time.fifo side with
  | [] => (0, d.wr (tsIndex side) 0x32 0)
  | e :: rest =>
    let d1 := { d with time := { d.time with fifo := Tbl.set (fun _ => []) d.time.fifo side rest,
                                             full := Tbl.set (fun _ => false) d.time.full side false } }
    (0, (d1.wr (tsIndex side) 0x32 e).wr (tsIndex side) 0x33 rest.length)

/-- R378: TS_POP of a line port (side n) or system port (side 256 + n). -/
def execTsPop (side : Nat) (w : Wr) (s : State) : Out :=
  actIf (side < 512) (Dev.write (effTsPop side) (tsIndex side) 0x31 w) s

/-- The latest instant of comparator `k`'s series not after TIME, in 2^-32 ns: whole seconds for PPS; TARGET + m × PERIOD for PERIODIC, where
the compact time has reached TARGET (R374, R386). -/
def Dev.instant (d : Dev) (k : Nat) : Option Nat :=
  let i := 0x7010 + k
  let ns := d.time.time / 2 ^ 32
  if d.rd i 1 = 1 then some (ns / 1000000000 * 1000000000 * 2 ^ 32)
  else if d.rd i 1 = 2 then
    let target := compactOf (d.rd i 2)
    let since := (d.compact + 2 ^ 64 - target) % 2 ^ 64 % d.rd i 3
    if reached d.compact target && since ≤ ns then some ((ns - since) * 2 ^ 32) else none
  else none

/-- The pin comparator `k` drives: PPS_OUT at its placement, or the GPIO named (R385, R520). -/
def Dev.compPin (d : Dev) (k : Nat) : String :=
  if d.rd (0x7010 + k) 1 = 1 then (if d.rd 0x1040 1 = 1 then "GPIO15" else "PPS_OUT")
  else "GPIO" ++ toString (d.rd (0x7010 + k) 5)

/-- An instant lies after what `o` says is past. -/
def after (t : Nat) (o : Option Nat) : Bool := match o with
  | some l => l < t
  | none => true

/-- An edge of comparator `k` where one is due (R386, R388): low once WIDTH of SF has passed since the rise, high at an instant of
the series reached within the latest tick, after the last one produced and not passed by a forward step. -/
def Dev.pulseEdge (k : Nat) (d : Dev) : Dev :=
  let i := 0x7010 + k
  let c := d.comp k
  if !d.timeRuns then d
  else if c.high then
    if d.rd i 4 * 2 ^ 32 ≤ d.time.sf - c.riseSf then
      ((d.setComp k { c with high := false }).emit (.pin (d.compPin k) false)).count 64 i 6 1
    else d
  else
    match d.instant k with
    | none => d
    | some t =>
      if d.time.time - t < d.rd 0x7000 4 && after t c.last && after t c.passed then
        ((d.setComp k { c with high := true, riseSf := d.time.sf, last := some t }).emit (.pin (d.compPin k) true)).count 64 i 6 1
      else d

/-- R386: an edge of a PPS or PERIODIC comparator. -/
def execPulseEdge (k : Nat) (s : State) : Out := actIf (k < 8) (Dev.pulseEdge k) s

/-- An EVENT_AT_TIME comparator whose TARGET is reached raises its event, counts FIRED and releases itself (R387). -/
def Dev.eventAtTime (k : Nat) (d : Dev) : Dev :=
  let i := 0x7010 + k
  if d.isOn 141 && d.rd i 1 = 3 && reached d.compact (compactOf (d.rd i 2)) then
    ((d.count 64 i 6 1).wr i 1 0).raise (40 + k)
  else d

/-- R387: an EVENT_AT_TIME comparator fires. -/
def execEventAtTime (k : Nat) (s : State) : Out := actIf (k < 8) (Dev.eventAtTime k) s

/-- An edge of PPS_IN (R392): the selected edge is timestamped unless it follows within 0.5 s of the last one taken. -/
def Dev.ppsIn (falling : Bool) (d : Dev) : Dev :=
  let near := match d.time.ppsLast with
    | some t => d.time.sf - t < 500000000 * 2 ^ 32
    | none => false
  if d.isOn 141 && d.rd 0x7000 12 = b2n falling && !near then
    let d1 := { d with time := { d.time with ppsLast := some d.time.sf, ppsLost := false } }
    (d1.wr 0x7000 11 d1.timeNow).raise 34
  else d

/-- R392: an edge of PPS_IN. -/
def execPpsInEdge (falling : Bool) (s : State) : Out := act (Dev.ppsIn falling) s

/-- No selected edge for 1.5 s after the last one raises E35 once (R392). -/
def Dev.ppsInLost (d : Dev) : Dev :=
  match d.time.ppsLast with
  | none => d
  | some t =>
    if d.isOn 141 && !d.time.ppsLost && 1500000000 * 2 ^ 32 ≤ d.time.sf - t then
      ({ d with time := { d.time with ppsLost := true } } : Dev).raise 35
    else d

/-- R392: PPS_IN lost. -/
def execPpsInLost (s : State) : Out := act Dev.ppsInLost s

/-- The end of a count of 10,000,000 CLK10M_IN cycles (R393): CLK10M_OFFSET takes the SF elapsed less 10^9 ns in 2^-16 ns, and the
next count starts; with no count running, this edge starts one (log 13). -/
def Dev.clk10mCount (d : Dev) : Dev :=
  if d.isOn 141 && d.rd 0x7000 13 = 1 then
    let d1 := { d with time := { d.time with clk10m := some d.time.sf } }
    match d.time.clk10m with
    | some t => d1.wr 0x7000 14 (ofInt 64 ((Int.ofNat (d.time.sf - t) - 1000000000 * 2 ^ 32) / 2 ^ 16))
    | none => d1
  else d

/-- R393: a CLK10M_IN measurement ends. -/
def execClk10mMeasurement (s : State) : Out := act Dev.clk10mCount s

/-- CLK10M_IN absent for 1 µs: a measurement in progress is discarded and E36 raised (R393). -/
def Dev.clk10mGone (d : Dev) : Dev :=
  if d.isOn 141 && d.rd 0x7000 13 = 1 then
    ({ d with time := { d.time with clk10m := none } } : Dev).raise 36
  else d

/-- R393: CLK10M_IN lost. -/
def execClk10mLost (s : State) : Out := act Dev.clk10mGone s

/-- An epoch boundary, 512 ticks after the last: every quadrant whose domain 34q+33 is ON and whose PLL is locked loads the
boundary's value in CCLK cycle `t` (R413, R416). -/
def Dev.epochBoundary (t : Nat) (d : Dev) : Dev :=
  if d.timeRuns && 512 ≤ d.time.epochTick then
    let v := d.epochValue t
    let d1 := { d with time := { d.time with epochTick := 0, epochs := d.time.epochs + 1 } }
    (List.range 4).foldl (fun x q => if x.isOn (bufDom q) && x.rd (0x1210 + q) 1 = 2 then x.setFollower q v else x) d1
  else d

/-- R413: an epoch boundary. -/
def execEpochBoundary (t : Nat) (s : State) : Out := actAt true t (Dev.epochBoundary t) s

end Sys2Proof.Machine
end

