-- ==== Sys2Proof/Machine/Pins.lean ====
section
/-! DEFINITION. The pin-function table, the comparators' claims, PPS placement and the test access port (R384 to R387, R517 to R520,
R527). -/
namespace Sys2Proof.Machine

/-! ## GPIO (R518 to R520) -/

/-- The level that the part drives on GPIO `i`: OUTPUT its GPIO_OUT, CAN_STBY high while domain 140 is not ON, SPI_WP_N high while the
BOOT role exists, a comparator's pin its output; none for an input (R519). -/
def Dev.gpioLevel (d : Dev) (i : Nat) : Option Bool :=
  match d.rd (0x1030 + i) 1 with
  | 1 => some (d.rd (0x1030 + i) 2 = 1)
  | 2 => some ((d.comp (d.rd (0x1030 + i) 5 % 16)).high)
  | 3 => some ((List.range 8).any (fun k => d.rd (0x7010 + k) 1 = 1 && (d.comp k).high))
  | 4 => some (!d.isOn 140)
  | 5 => some (!d.boot.sealed)
  | _ => none

/-- GPIO `i` put at the level it is driven to. -/
def Dev.driveGpio (i : Nat) (d : Dev) : Dev :=
  match d.gpioLevel i with
  | some b => d.emit (.pin ("GPIO" ++ toString i) b)
  | none => d

/-- GPIO `i` with function `f` and owner `o` in the pin-function table. -/
def Dev.setGpio (i f o : Nat) (d : Dev) : Dev := ((d.wr (0x1030 + i) 1 f).wr (0x1030 + i) 5 o).driveGpio i

/-- What a write of GPIO_FUNC does (R519). -/
def effGpioFunc (i : Nat) : Eff := fun _ v d =>
  let o := d.rd (0x1030 + i) 5
  if v = 2 || v = 3 || 5 < v || (v = 4 && i != 14) || (v = 5 && i != 13) then (abRange, d)
  else if v = 0 then (if 1 < o then (abState, d) else (0, d.setGpio i 0 0))
  else if 1 < o then (abConflict, d)
  else (0, d.setGpio i v 1)

/-- R519: GPIO_FUNC. -/
def execGpioFunc (i : Nat) (w : Wr) (s : State) : Out := actIf (i < 16) (Dev.write (effGpioFunc i) (0x1030 + i) 1 w) s

/-- What a write of GPIO_OUT does: the level follows while the pin is OUTPUT (R518). -/
def effGpioOut (i : Nat) : Eff := fun _ v d =>
  let d1 := d.wr (0x1030 + i) 2 v
  (0, when (d1.rd (0x1030 + i) 1 = 1) (Dev.driveGpio i) d1)

/-- Some comparator holds FUNCTION PPS. -/
def Dev.ppsHeld (d : Dev) : Bool := (List.range 8).any (fun k => d.rd (0x7010 + k) 1 = 1)

/-- What a write of PPS_PLACE does (R520): on GPIO 15 the PPS_OUT ball is driven low. -/
def effPpsPlace : Eff := fun _ v d =>
  let o := d.rd 0x103F 5
  if d.ppsHeld then (abState, d)
  else if v = 1 then
    if o != 0 && o != 0x20 then (abConflict, d)
    else (0, (((d.wr 0x1040 1 1).setGpio 15 3 0x20)).emit (.pin "PPS_OUT" false))
  else (0, when (o = 0x20) (Dev.setGpio 15 0 0) (d.wr 0x1040 1 0))

/-- R520: PPS_PLACE. -/
def execPpsPlace (w : Wr) (s : State) : Out := act (Dev.write effPpsPlace 0x1040 1 w) s

/-! ## Comparators (R384, R385) -/

/-- Comparator `k` released: a pulse in progress ends, its GPIO becomes free (R384). -/
def Dev.releaseComp (k : Nat) (d : Dev) : Dev :=
  let i := 0x7010 + k
  let d1 := when (d.comp k).high (Dev.emit (.pin (d.compPin k) false)) (d.setComp k Comp.init)
  let g := d.rd i 5
  let d2 := when (d.rd i 1 = 2 && g < 16 && d.rd (0x1030 + g) 5 = 0x10 + k) (Dev.setGpio g 0 0) d1
  d2.wr i 1 0

/-- What a write of FUNCTION of comparator `k` does (R384, R385). -/
def effFunction (k : Nat) : Eff := fun _ v d =>
  let i := 0x7010 + k
  let g := d.rd i 5
  if v = 0 then (0, d.releaseComp k)
  else if v = 1 && 1000000000 ≤ d.rd i 4 then (abRange, d)
  else if v = 2 && (g = 0xFF || d.rd i 3 ≤ d.rd i 4) then (abRange, d)
  else if d.rd i 1 != 0 then (abConflict, d)
  else if v = 1 && d.ppsHeld then (abConflict, d)
  else if v = 2 && d.rd (0x1030 + g) 5 != 0 then (abConflict, d)
  else
    let d1 := (d.setComp k Comp.init).wr i 1 v
    (0, when (v = 2) (Dev.setGpio g 2 (0x10 + k)) d1)

/-- R385: FUNCTION of a comparator. -/
def execFunction (k : Nat) (w : Wr) (s : State) : Out := actIf (k < 8) (Dev.write (effFunction k) (0x7010 + k) 1 w) s

/-- What a write of TARGET, PERIOD, WIDTH or GPIO of comparator `k` does; WIDTH is at most PERIOD less 10 ns (R374, R384). -/
def effComparator (k j : Nat) : Eff := fun _ v d =>
  if j = 2 && d.badTarget v || j = 4 && d.rd (0x7010 + k) 3 < v + 10 then (abRange, d)
  else if d.rd (0x7010 + k) 1 != 0 then (abState, d)
  else (0, d.wr (0x7010 + k) j v)

/-! ## The test access port (R527) -/

/-- The TAP answers: the 1.8 V bank has power, with VDD_IO in range (R421, R516). A scan comes about with TRST_N driven high: low or left
open it holds the port in reset (R527; log 191). -/
def Dev.tapRuns (d : Dev) : Bool := d.power.supply = 0 || d.power.supply = 3

/-- Bits of a number, least significant first. -/
def lsbFirst (n v : Nat) : List Bool := (List.range n).map (fun i => bit i v)

/-- The IDCODE (R527). -/
def Dev.idcode (d : Dev) : Nat := fld 3 0 (d.rd 0x1001 1) * 2 ^ 28 + 0x0256 * 2 ^ 12 + 0x5A7 * 2 + 1

/-- A scan of `tdi` through a register that holds `r`: what leaves on TDO, and what the register holds after it. -/
def scan (r tdi : List Bool) : List Bool × List Bool := ((r ++ tdi).take tdi.length, (r ++ tdi).drop tdi.length)

/-- Instruction `n` in effect, with a scan of `tdi` through the bypass register, which captures 0. -/
def Dev.tapBypass (n : Nat) (tdi : List Bool) (d : Dev) : Dev :=
  ({ d with tap := { d.tap with inst := n } } : Dev).emit (.tdo (scan [false] tdi).1)

/-- BYPASS. -/
def Dev.tapBypassOnly (tdi : List Bool) (d : Dev) : Dev := when d.tapRuns (Dev.tapBypass 0 tdi) d

/-- IDCODE: the register's 32 bits, bit 0 first. -/
def Dev.tapIdcode (tdi : List Bool) (d : Dev) : Dev :=
  when d.tapRuns (fun x => ({ x with tap := { x.tap with inst := 1 } } : Dev).emit (.tdo (scan (lsbFirst 32 x.idcode) tdi).1)) d

/-- The boundary-scan register captures the balls and takes `tdi`, instruction `n` in effect. -/
def Dev.tapCapture (n : Nat) (balls tdi : List Bool) (d : Dev) : Dev :=
  ({ d with tap := ⟨n, (scan balls tdi).2⟩ } : Dev).emit (.tdo (scan balls tdi).1)

/-- SAMPLE/PRELOAD: the balls sampled, the boundary-scan register preloaded. -/
def Dev.tapSample (balls tdi : List Bool) (d : Dev) : Dev := when d.tapRuns (Dev.tapCapture 2 balls tdi) d

/-- EXTEST (3), EXTEST_PULSE (4) or EXTEST_TRAIN (5) while SYS_RST_N is low: the balls driven from the boundary-scan register, then
captured, then driven from what was shifted in; at any other time BYPASS. -/
def Dev.tapExtest (n : Nat) (balls tdi : List Bool) (d : Dev) : Dev :=
  if !d.tapRuns then d
  else if !d.boot.sysRstLow then d.tapBypass 0 tdi
  else
    let d1 := (d.emit (.balls (n - 3) d.tap.cells)).tapCapture n balls tdi
    d1.emit (.balls (n - 3) d1.tap.cells)

/-- CLAMP (6) or HIGHZ (7) while SYS_RST_N is low: the balls held from the boundary-scan register, or in high impedance, the bypass
register between TDI and TDO; at any other time BYPASS. -/
def Dev.tapHold (n : Nat) (tdi : List Bool) (d : Dev) : Dev :=
  if !d.tapRuns then d
  else if !d.boot.sysRstLow then d.tapBypass 0 tdi
  else (d.emit (if n = 6 then .balls 0 d.tap.cells else .balls 3 [])).tapBypass n tdi

/-- SYS_RST_N rises: an instruction that acts only while it is low is replaced by BYPASS. -/
def Dev.tapRelease (d : Dev) : Dev := if 3 ≤ d.tap.inst then { d with tap := { d.tap with inst := 0 } } else d

/-- R527: BYPASS. -/
def execBypass (tdi : List Bool) (s : State) : Out := act (Dev.tapBypassOnly tdi) s
/-- R527: IDCODE. -/
def execIdcode (tdi : List Bool) (s : State) : Out := act (Dev.tapIdcode tdi) s
/-- R527: SAMPLE/PRELOAD. -/
def execSamplePreload (balls tdi : List Bool) (s : State) : Out := act (Dev.tapSample balls tdi) s
/-- R527: EXTEST. -/
def execExtest (balls tdi : List Bool) (s : State) : Out := act (Dev.tapExtest 3 balls tdi) s
/-- R527: EXTEST_PULSE. -/
def execExtestPulse (balls tdi : List Bool) (s : State) : Out := act (Dev.tapExtest 4 balls tdi) s
/-- R527: EXTEST_TRAIN. -/
def execExtestTrain (balls tdi : List Bool) (s : State) : Out := act (Dev.tapExtest 5 balls tdi) s
/-- R527: CLAMP. -/
def execClamp (tdi : List Bool) (s : State) : Out := act (Dev.tapHold 6 tdi) s
/-- R527: HIGHZ. -/
def execHighz (tdi : List Bool) (s : State) : Out := act (Dev.tapHold 7 tdi) s

end Sys2Proof.Machine
end

