-- ==== Sys2Proof/Machine/RingBase.lean ====
section
/-! DEFINITION. The rings of BAR2 (R58): when one runs, and the device's advance of its own index. -/
namespace Sys2Proof.Machine

/-- Ring `r`: punt p at p, inject p at 64+p, table-DMA t at 128+t. -/
def Dev.ring (d : Dev) (r : Nat) : Ring := Tbl.get (fun _ => Ring.init) d.rings r

/-- Ring `r` replaced. -/
def Dev.setRing (r : Nat) (x : Ring) (d : Dev) : Dev := { d with rings := Tbl.set (fun _ => Ring.init) d.rings r x }

/-- A ring whose SIZE is 6 to 16 and whose BASE is aligned can start. -/
def Ring.ok (x : Ring) : Bool := 6 ≤ x.size && x.size ≤ 16 && x.base % 4096 = 0

/-- STATUS.RUNNING. -/
def Ring.runs (x : Ring) : Bool := x.enable && x.ok

/-- STATUS.ERROR: a SIZE outside 6 to 16 other than 0, or a start with a BASE that is not aligned (R58). -/
def Ring.error (x : Ring) : Bool := (x.size != 0 && !(6 ≤ x.size && x.size ≤ 16)) || x.baseError

/-- An index moved on by one, modulo 2^SIZE. -/
def Ring.succ (x : Ring) (i : Nat) : Nat := (i + 1) % 2 ^ x.size

/-- The host rings have work: posted buffers on a punt ring (PROD ≠ CONS: the host posts by CONS), descriptors on the others. -/
def Ring.avail (x : Ring) : Bool := x.runs && x.prod != x.cons

/-- The device advances its own index of ring `r`: PROD of a punt ring, CONS of the others; the write-back and the interrupt follow
(R58). -/
def Dev.advanceRing (r : Nat) (d : Dev) : Dev :=
  let x := d.ring r
  let i := if r < 64 then x.succ x.prod else x.succ x.cons
  let d1 := d.setRing r (if r < 64 then { x with prod := i } else { x with cons := i })
  let d2 := when (x.wb != 0) (Dev.emit (.hostWrite x.wb (toLE 4 i))) d1
  let d3 := if r < 64 then d2.perf 4 0x130 0 1 else if r < 128 then d2.perf 4 0x131 0 1 else d2
  when (bit 31 x.vector) (Dev.sendMsix (fld 5 0 x.vector)) d3

/-- The host address of the descriptor at the device's own index. -/
def Ring.descAddr (r : Nat) (x : Ring) : Nat := x.base + 32 * (if r < 64 then x.prod else x.cons)

end Sys2Proof.Machine
end

