-- ==== Sys2Proof/Machine/TableDma.lean ====
section
/-! DEFINITION. The table-DMA operations (R286 to R288, R300). -/
namespace Sys2Proof.Machine

/-- The 64-byte image of an exact-match slot: key, result, control, check bits (R260, R263). -/
def slotImage (x : Ent) : Bytes :=
  toLE 40 x.key ++ toLE 8 x.res ++ toLE 8 x.ctl ++
    toLE 8 (Config.secded (BitVec.ofNat 448 (x.key + x.res * 2 ^ 320 + x.ctl * 2 ^ 384))).toNat

/-- The 64-byte image of a TCAM entry (R266). -/
def tcamImage (x : Ent) : Bytes := toLE 24 x.key ++ toLE 24 x.mask ++ toLE 8 x.res ++ toLE 8 x.ctl

/-- The slot an image spells. -/
def imageSlot (b : Bytes) : Ent := ⟨leAt 0 40 b, 0, leAt 40 8 b, leAt 48 8 b⟩

/-- The TCAM entry an image spells. -/
def imageTcam (b : Bytes) : Ent := ⟨leAt 0 24 b, leAt 24 24 b, leAt 48 8 b, leAt 56 8 b % 4⟩

/-- Operation `op` runs on table `k` (R286). -/
def dmaFits (op k : Nat) : Bool :=
  if op ≤ 4 then k % 4 < 2 else if op ≤ 6 then k % 4 = 2 else if op ≤ 8 then k % 4 = 3 else op = 9

/-- The units of operation `op` on table `k`, and the bytes of one. -/
def dmaUnits (op k : Nat) : Nat × Nat :=
  if op ≤ 2 then (8192, 256) else if op ≤ 4 then (64, 64) else if op ≤ 6 then (1024, 64) else if op ≤ 8 then (8192, 32)
  else (plumbBlocks k, 8)

/-- Operation `op` writes the table and needs its lock. -/
def dmaWrites (op : Nat) : Bool := op = 2 || op = 4 || op = 6 || op = 8

/-- Unit `u` of table `k` as a read operation copies it to the host. -/
def Dev.dmaRead (d : Dev) (op k u : Nat) : Bytes :=
  if op = 1 then (bucketLocs u).flatMap (fun l => slotImage (d.ent k l))
  else if op = 3 then slotImage (d.ent k (0x8000 + u))
  else if op = 5 then tcamImage (d.ent k u)
  else toLE 32 (d.readRecord (k / 4 * 8192 + u))

/-- The control word that a slot image leaves at a place that held `o` (R265, R287): VALID as `ok` says, ACTIVITY and AGE_ENABLE as the
image has them, SHADOWED 0, the EPOCH in force; LEARNED is the device's own, kept where the same entry stays PENDING. -/
def Dev.imageCtl (d : Dev) (k : Nat) (o e : Ent) (ok : Bool) : Nat :=
  let kept := ok && k % 4 = 1 && o.valid && bit 3 o.ctl && o.key = e.key && e.action != 0
  putBit 5 (putBit 3 (putBit 0 (e.ctl % 8) ok) kept) ((d.tab k).epoch = 1)

/-- One slot of a bulk image written at `loc` (R287): a valid slot that fails its checks is written invalid and counted. -/
def Dev.dmaSlot (k loc : Nat) (b : Bytes) (x : Nat × Dev) : Nat × Dev :=
  let e := imageSlot b
  let d := x.2
  let n := bucketsOf (d.seedsNow k) e.key
  let fits := exactOk k e.key e.res e.ctl && (0x8000 ≤ loc || n.1 = loc / 4 || n.2 = loc / 4)
  (x.1 + b2n (e.valid && !fits),
    (d.putEnt k loc { e with ctl := d.imageCtl k (d.ent k loc) e (e.valid && fits) }).eccClear (Sys2Proof.Machine.slotKey k loc))

/-- One unit of a write operation: how many slots or records it refused, and the block after it (R287, R300). -/
def Dev.dmaUnit (op k u : Nat) (setAn : Bool) (b : Bytes) (x : Nat × Dev) : Nat × Dev :=
  match op with
  | 2 => (List.range 4).foldl (fun y j => Dev.dmaSlot k (4 * u + j) (slice (64 * j) 64 b) y) x
  | 4 => Dev.dmaSlot k (0x8000 + u) b x
  | 6 =>
    let e := imageTcam b
    if 32 ≤ u && tcamOk (k / 4) e.key e.mask e.res then (x.1, (x.2.putEnt k u e).eccClear (Sys2Proof.Machine.slotKey k u)) else (x.1 + 1, x.2)
  | 8 =>
    let r := x.2.writeRecord (k / 4 * 8192 + u) (ofLE b) setAn
    if r.1 = 0 then (x.1, r.2) else (x.1 + 1, r.2)
  | _ => (x.1, x.2.plumbWrite k u (leAt 0 4 b + leAt 4 1 b % 2 * 2 ^ 32))

/-- What ends a descriptor before its next unit (R286, R287, R290): 6 POWERED_OFF, or 1 NOT_LOCKED where it needs the lock and the host
does not hold it. -/
def Dev.dmaBar (d : Dev) (op k : Nat) : Option Nat :=
  if d.answersOff (tabDom (k / 4)) then some 6
  else if dmaWrites op && (d.tab k).lock.map (·.1) != some Role.host then some 1
  else none

/-- The RESULT of a descriptor that does not begin (R286, R287): 2 RANGE, what bars it, or 4 DATA_ERROR where the image could not be read
whole; none where it begins. -/
def Dev.dmaRefusal (d : Dev) (op : Nat) (g : DmaDesc) (img : Option Bytes) : Option Nat :=
  let u := dmaUnits op g.table
  if 16 ≤ g.table || !dmaFits op g.table || g.addr % 64 != 0 || g.count = 0 || u.1 < g.first + g.count then some 2
  else
    match d.dmaBar op g.table, img with
    | some r, _ => some r
    | none, none => some 4
    | none, some b => if (op % 2 = 0 || op = 9) && b.length < u.2 * g.count then some 4 else none

/-- A descriptor at the front of table-DMA ring `t` ends (R286, R287): DONE, ERROR, RESULT and REFUSED written back, the ring advanced; a
RESULT other than OK raises E89 and sets cause DMA_ERROR. -/
def Dev.dmaEnd (t : Nat) (g : DmaDesc) (res refused : Nat) (d : Dev) : Dev :=
  let flags := 1 + 2 * b2n (res != 0) + 4 * b2n g.setAn
  let d1 := d.emit (.hostWrite ((d.ring (128 + t)).descAddr (128 + t) + 16) ([BitVec.ofNat 8 flags, BitVec.ofNat 8 res] ++ toLE 2 refused))
  let d2 := d1.advanceRing (128 + t)
  if res = 0 then d2
  else
    let d3 := d2.raise 89
    if g.table < 16 && d3.isLive (tabDom (g.table / 4)) then d3.cause (.table g.table) 9 else d3

/-- The RESULT of a descriptor that has run to its end with `refused` refusals (R287). -/
def dmaResult (op refused : Nat) : Nat := if refused = 0 then 0 else if op = 2 || op = 4 then 3 else 5

/-- The next unit of a descriptor in progress: copied to the host, or written (R286, R287). -/
def Dev.dmaNext (j : DmaJob) (d : Dev) : Nat × Dev :=
  let g := j.desc
  let n := (dmaUnits j.op g.table).2
  if j.op % 2 = 1 && j.op != 9 then (0, d.emit (.hostWrite (g.addr + n * j.next) (d.dmaRead j.op g.table (g.first + j.next))))
  else Dev.dmaUnit j.op g.table (g.first + j.next) g.setAn (slice (n * j.next) n j.img) (0, d)

/-- The next unit of a descriptor in progress waits: its tables' domain is on its way to ON, or it writes and the domain is in RETAIN, which it
wakes, or CCLK is stopped there (R43, R398, R400). -/
def Dev.dmaWaits (d : Dev) (j : DmaJob) : Bool :=
  let k := tabDom (j.desc.table / 4)
  d.pstate k = psToOn || ((j.op % 2 = 0 || j.op = 9) && d.isLive k && (d.pstate k = psRetain || !d.clocked (k / 34)))

/-- The table-DMA engine serves one unit of the descriptor whose turn it is, those that wait passed over (R286). -/
def Dev.dmaServe (d0 : Dev) : Dev :=
  let held := d0.dmaRuns.takeWhile (fun e => d0.dmaWaits e.2)
  let d := held.foldl (fun x e => x.wake (tabDom (e.2.desc.table / 4))) d0
  match d.dmaRuns.drop held.length with
  | [] => d
  | (t, j) :: rest =>
    let d1 : Dev := { d with dmaRuns := held ++ rest }
    match d1.dmaBar j.op j.desc.table with
    | some r => d1.dmaEnd t j.desc r j.refused
    | none =>
      let x := d1.dmaNext j
      let n := j.refused + x.1
      if j.desc.count ≤ j.next + 1 then x.2.dmaEnd t j.desc (dmaResult j.op n) n
      else { x.2 with dmaRuns := x.2.dmaRuns ++ [(t, { j with next := j.next + 1, refused := n })] }

/-- The descriptor in progress of ring `t` brought to its end, the others in progress served in their turns. -/
def Dev.dmaDrain (t : Nat) : Nat → Dev → Dev
  | 0, d => d
  | f + 1, d => if d.dmaRuns.any (fun e => e.1 = t) then Dev.dmaDrain t f d.dmaServe else d

/-- The units still to be served. -/
def Dev.dmaLeft (d : Dev) : Nat := d.dmaRuns.foldl (fun a e => a + (e.2.desc.count - e.2.next)) 0

/-- The next descriptor of table-DMA ring `t`: after the one in progress there it begins, behind those of the other rings, and the engine
serves one unit (R286); the rest follow while no command waits (log 5). It is not taken while the one in progress there waits. -/
def Dev.dma (op t : Nat) (g : DmaDesc) (img : Option Bytes) (d : Dev) : Dev :=
  let d0 := d.dmaDrain t d.dmaLeft
  if !(d0.ring (128 + t)).avail || !d0.endpointUp || d0.dmaRuns.any (fun e => e.1 = t) then d0
  else
    match d0.dmaRefusal op g img with
    | some r => d0.dmaEnd t g r 0
    | none => ({ d0 with dmaRuns := d0.dmaRuns ++ [(t, ⟨op, g, img.getD [], 0, 0⟩)] } : Dev).dmaServe

/-- The lease of table `k`'s lock ends: revoked, cause LEASE_EXPIRED; a write in progress on the table ends with NOT_LOCKED (R290). -/
def Dev.leaseEnds (k : Nat) (d : Dev) : Dev :=
  if !d.isLocked k then d
  else
    let mine := fun (e : Nat × DmaJob) => decide (e.2.desc.table = k) && dmaWrites e.2.op
    let d1 : Dev := { (d.unlock k).cause (.table k) 4 with dmaRuns := d.dmaRuns.filter (fun e => !mine e) }
    (d.dmaRuns.filter mine).foldl (fun y e => y.dmaEnd e.1 e.2.desc 1 e.2.refused) d1

/-- R290: a lease expires; it is counted where CCLK runs (R395, R400). -/
def execLeaseExpiry (k : Nat) (s : State) : Out := actIf (k < 16) (Dev.ifRuns (tabDom (k / 4)) (Dev.leaseEnds k)) s

/-- R286: READ_BUCKETS. -/
def execReadBuckets (t : Nat) (g : DmaDesc) (img : Option (List Byte)) (s : State) : Out := actIf (t < 8) (Dev.dma 1 t g img) s

/-- R287: WRITE_BUCKETS. -/
def execWriteBuckets (t : Nat) (g : DmaDesc) (img : Option (List Byte)) (s : State) : Out := actIf (t < 8) (Dev.dma 2 t g img) s

/-- R286: READ_STASH. -/
def execReadStash (t : Nat) (g : DmaDesc) (img : Option (List Byte)) (s : State) : Out := actIf (t < 8) (Dev.dma 3 t g img) s

/-- R287: WRITE_STASH. -/
def execWriteStash (t : Nat) (g : DmaDesc) (img : Option (List Byte)) (s : State) : Out := actIf (t < 8) (Dev.dma 4 t g img) s

/-- R286: READ_ENTRIES. -/
def execReadEntries (t : Nat) (g : DmaDesc) (img : Option (List Byte)) (s : State) : Out := actIf (t < 8) (Dev.dma 5 t g img) s

/-- R287: WRITE_ENTRIES. -/
def execWriteEntries (t : Nat) (g : DmaDesc) (img : Option (List Byte)) (s : State) : Out := actIf (t < 8) (Dev.dma 6 t g img) s

/-- R286: READ_RECORDS. -/
def execReadRecords (t : Nat) (g : DmaDesc) (img : Option (List Byte)) (s : State) : Out := actIf (t < 8) (Dev.dma 7 t g img) s

/-- R287: WRITE_RECORDS. -/
def execWriteRecords (t : Nat) (g : DmaDesc) (img : Option (List Byte)) (s : State) : Out := actIf (t < 8) (Dev.dma 8 t g img) s

/-- R300: LOAD_PLUMB. -/
def execLoadPlumb (t : Nat) (g : DmaDesc) (img : Option (List Byte)) (s : State) : Out := actIf (t < 8) (Dev.dma 9 t g img) s

end Sys2Proof.Machine
end

