-- ==== Sys2Proof/Machine/Whole.lean ====
section
/-! DEFINITION. What a domain loses when it passes through OFF (R39, R61, R64, R80, R226, R313, R373, R406, R494). -/
namespace Sys2Proof.Machine

/-- The domain object `i.j` lies in (R43). -/
def domainAt (i j : Nat) : Option Nat :=
  match objAt i j with
  | some (c, n, _) => domainIn c n j
  | none => none

/-- The objects of domain `k` return to their defaults, and accesses in progress on them are answered with POWERED_OFF (R39, R43). -/
def Dev.defaultsOf (k : Nat) (d : Dev) : Dev :=
  let hit := fun (key : Nat) => domainAt (key / 256) (key % 256) = some k
  let d0 := (d.wakeWaits.filter (fun w => w.unit = k)).foldl (fun x w => x.failWake abPoweredOff w)
    ({ d with wakeWaits := d.wakeWaits.filter (fun w => w.unit != k) } : Dev)
  let d1 := ((d0.pend.filter (fun p => hit p.key)).map (·.key)).foldl (fun x key => x.endPend (key / 256) (key % 256) abPoweredOff) d0
  d1.defaults (fun i j => domainAt i j = some k)

/-- Every frame in slice `s` and its staging stores dropped with a reason, one that awaits its verdict taken from its queue; one that has
begun to leave ends first (R406, R454, R475). -/
def Dev.bookSlice (s reason : Nat) (d : Dev) : Dev :=
  let mine := fun (k : Nat) => (pacedSides s).contains k
  let d0 := (pacedSides s).foldl (fun y k => y.frameEnd k y.now) d
  let staged := (pacedSides s).flatMap (fun k => (d0.staged k).map (·.frame) ++ d0.stagedBgOf k)
  let bg := (List.range 5).flatMap (fun r => (d0.bgOf (8 * s + r)).map (·.frame))
  let d1 := (d0.inD s).foldl (fun x h => (when h.fcsBad (Dev.cnt 4 h.frame.pair 8) x).withdraw reason h.frame) d0
  let d2 := ((d1.inE s).map (·.frame) ++ staged ++ bg).foldl (fun x f => x.drop reason f) d1
  let own := (d1.inE s).map (·.frame) ++ (pacedSides s).flatMap (fun k => (d0.staged k).map (·.frame))
  let d3 : Dev := { d2 with eFlight := Tbl.drop (fun k => k = s) d2.eFlight, dFlight := Tbl.drop (fun k => k = s) d2.dFlight
                            staging := Tbl.drop mine d2.staging, stagedBg := Tbl.drop mine d2.stagedBg
                            bg := Tbl.drop (fun k => k / 8 = s) d2.bg }
  (own.foldl (fun y f => y.settleDeficits f.chan) d3).genEnd (s / 16)

/-- Slice `s` loses what it holds. -/
def Dev.loseSlice (s : Nat) (d : Dev) : Dev :=
  let d1 := d.bookSlice s dropCrossingReset
  tracking (d1.slicePairs s) (Dev.wr (0x2600 + s) 1 0)
    { d1 with cals := Tbl.drop (fun k => k = s) d1.cals,
              assay := { d1.assay with reclaimed := d1.assay.reclaimed.filter (· != s) } }

/-- Lane group `g` of the line (0 to 31) or system side (32 to 63) loses what it holds: lanes, sides, timestamps. -/
def Dev.loseLanes (g : Nat) (d : Dev) : Dev :=
  let mine := fun (k : Nat) => k / 8 = g
  { d with lanes := Tbl.drop mine d.lanes, sides := Tbl.drop mine d.sides,
           time := { d.time with fifo := Tbl.drop mine d.time.fifo, full := Tbl.drop mine d.time.full } }

/-- The tables and SA store of quadrant `q` lose what they hold: jobs are cancelled, tables, records, SAs and notifications are gone,
channel changeovers leave the schedule queue (R226, R229, R390). -/
def Dev.loseTables (q : Nat) (d : Dev) : Dev :=
  let d1 := (d.endJobs q 9 (fun _ => true)).clearCache q
  let d2 := d1.unschedule (fun o => match o with
    | .channel c _ => c / 8192 = q
    | _ => false)
  let slotIn := fun (k : Nat) => k / 262144 = q || (1048576 ≤ k && (k - 1048576) / 16384 = q)
  { d2 with
    slots := Tbl.drop (fun k => k / 262144 = q) d2.slots
    chans := Tbl.drop (fun c => c / 8192 = q) d2.chans
    tabs := Tbl.drop (fun k => k / 4 = q) d2.tabs
    eccBad := d2.eccBad.filter (fun k => !slotIn k)
    eccSoft := d2.eccSoft.filter (fun k => !slotIn k)
    learnNotes := Tbl.drop (fun k => k = q) d2.learnNotes
    keys := { d2.keys with
      sas := Tbl.drop (fun s => s / 16384 = q) d2.keys.sas
      notes := Tbl.drop (fun k => k = q) d2.keys.notes
      highKn := Tbl.drop (fun c => c / 8192 = q) d2.keys.highKn
      zeroed := d2.keys.zeroed.filter (· != q)
      triggers := Tbl.drop (fun k => k = q) d2.keys.triggers
      auto := Tbl.drop (fun c => c / 8192 = q) d2.keys.auto
      suspended := d2.keys.suspended.filter (fun c => c / 8192 != q)
      mka := d2.keys.mka.map (fun e => (e.1, if quadOf (d2.rd (0x3080 + e.1) 2) = q then e.2.map (fun x => { x with rules := [] }) else e.2))
      mkaGone := d2.keys.mkaGone.filter (fun e => e.1 / 4 != q) } }

/-- The quadrant whose domain 34q+33 keeps entity `e` of counter block `kind` (R457); 4 for none. -/
def counterQuad (kind e : Nat) : Nat :=
  if kind ≤ 4 then e / 64 else if kind = 5 then e / 8192 else if kind = 6 then e / 16384 else if kind = 7 then e / 65536
  else if kind = 8 then e / 1024 else if kind = 9 then e else 4

/-- The counters of quadrant `q` lost. -/
def Dev.loseCounters (q : Nat) (d : Dev) : Dev :=
  { d with counters := Tbl.drop (fun k => counterQuad (k / 2 ^ 23) (k / 32 % 2 ^ 18) = q) d.counters }

/-- Every frame in the queues and the punt queue of quadrant `q` dropped with CROSSING_RESET. -/
def Dev.emptyQuad (q : Nat) (d : Dev) : Dev :=
  let d1 := (d.queuesWhere (fun x => x / 65536 = q)).foldl (fun x k => x.emptyQueue k dropCrossingReset) d
  ((d1.puntQ q).foldl (fun x p =>
    when (!p.own) (Dev.dropped p.pair p.line dropCrossingReset) (x.puntCells q p.pool 0 (cellsOf p.len))) d1).setPuntQ q []

/-- The accesses that wait for link `q` answered with abort `a` (R481). -/
def Dev.endLinkWaits (q a : Nat) (d : Dev) : Dev :=
  (d.linkWaits.filter (fun w => w.unit = q)).foldl (fun x w => x.failWait a w)
    { d with linkWaits := d.linkWaits.filter (fun w => w.unit != q) }

/-- The buffer, scheduler, counters, time follower and link of quadrant `q` lose what they hold. -/
def Dev.loseBuffer (q : Nat) (d : Dev) : Dev :=
  let d0 := ((d.emptyQuad q).loseCounters q).endLinkWaits q abPoweredOff
  let d1 := d0.unschedule (fun o => match o with
    | .gate g => g % 256 / 64 = q
    | _ => false)
  let side := fun (k : Nat) => k % 256 / 64 = q
  ({ d1 with
    queues := Tbl.drop (fun x => x / 65536 = q) d1.queues
    nodes := Tbl.drop (fun c => c / 8192 = q) d1.nodes
    policers := Tbl.drop (fun x => x / 1024 = q) d1.policers
    scheds := Tbl.drop side d1.scheds
    gates := Tbl.drop side d1.gates
    samplers := Tbl.drop (fun k => k = q) d1.samplers
    punts := Tbl.drop (fun k => k = q) d1.punts
    spills := d1.spills.filter (fun g => g.2.1 != q)
    genSent := Tbl.drop (fun k => k = q) d1.genSent
    time := { d1.time with followers := Tbl.drop (fun k => k = q) d1.time.followers } } : Dev).wr (0x141C + q) 1 0 |>.wr (0x9010 + q) 0xA 0

/-- The PCI Express endpoint reset: the link is down, every ring stops with its registers at their defaults, unconsumed descriptors, the BAR0 capture and
staging, the MSI-X table and pending bits are lost (R61, R494). -/
def Dev.loseEndpoint (d : Dev) : Dev :=
  ({ d with
      rings := []
      dmaRuns := []
      msix := ⟨false, false, [], 0⟩
      bar0 := { d.bar0 with capture := none, stagingOf := none, staging := [] }
      boot := { d.boot with configReady := false, imageAddr := 0, imageLen := 0 } } : Dev).wr 0x1530 1 0

/-- Every session closed, the reassembly and the segments that wait dropped (R64, R400). -/
def Dev.loseSessions (d : Dev) : Dev :=
  { d with dap := { d.dap with sessions := [], reasm := none, waits := [], canOut := [] } }

/-- The time unit loses its counts, queue and claims; the quadrants read no time from it until it is ON again (R373). -/
def Dev.loseTime (d : Dev) : Dev :=
  let d0 := (List.range 8).foldl (fun x k => x.releaseComp k) d
  { d0 with
    gates := d0.gates.map (fun e => (e.1, { e.2 with submitted := none }))
    time := { d0.time with time := 0, sf := 0, steps := [], queue := [], handed := [], e37 := false, comps := [], followers := [], epochTick := 0, epochs := 0,
                           ppsLast := none, ppsLost := false, clk10m := none } }

/-- Gate lists that wait for a takeover that will not come: CONFIG_PENDING clears (R390). -/
def Dev.syncGates (d : Dev) : Dev :=
  { d with gates := d.gates.filter (fun e => e.2 != Gate.init),
           dict := d.dict.filter (fun e => !(within 0x5800 512 (e.1 / 256) && e.1 % 256 = 9)) }

/-- The control cluster loses what it holds: the jobs of its cores are cancelled, its MKA bindings start over (R406, R492; log 183). -/
def Dev.loseCluster (d : Dev) : Dev :=
  let d1 := (List.range 5).foldl (fun x p => x.endJobs p 9 (fun j => j.ofCores [0, 1, 2, 3])) ({ d with wdHeld := [] } : Dev)
  (List.range 64).foldl (fun x b => if x.rd (0x3080 + b) 1 = 1 && x.rd (0x3080 + b) 0x10 != 4 then x.mkaStarts b else x) d1

/-- What domain `k` holds is lost (R406). -/
def Dev.loseDomain (k : Nat) (d : Dev) : Dev :=
  let q := k / 34
  let m := k % 34
  let d1 :=
    if k < 136 then
      if m < 16 then d.loseSlice (16 * q + m)
      else if m < 32 then d.loseLanes (if m < 24 then 8 * q + (m - 16) else 32 + 8 * q + (m - 24))
      else if m = 32 then d.loseTables q
      else d.loseBuffer q
    else if k = 136 then d.loseCluster
    else if k = 139 then d.loseEndpoint
    else if k = 140 then d.loseSessions
    else if k = 141 then d.loseTime.syncGates
    else d
  d1.defaultsOf k

/-- The pages and counters of a stack lost as its domain leaves ON (R313). -/
def Dev.loseStack (s : Nat) (d : Dev) : Dev :=
  let d1 := ((d.losePages s).wr 0x5003 (0xD3 + 8 * s) 0).syncStacks
  { d1 with counters := Tbl.drop (fun k => k / 2 ^ 23 = 0xA && k / 32 % 2 ^ 18 = s) d1.counters }

/-- CONDITIONS bit DOMAIN_LOST unless the domain was checkpointed (R445). -/
def Dev.lawsLost (k : Nat) (d : Dev) : Dev :=
  when ((k < 136 || k = 137 || k = 138) && !d.assay.marks.contains k) (Dev.condition 2) d

/-- Domain `k` passes through OFF (R80, R94, R406): frames still queued there are dropped with CROSSING_RESET, pairs that need it are
released, what it held is gone, the pulse crossing of a quadrant or of the time unit resets with it (R412), and its credit loops start again
from INITIAL (R411). -/
def Dev.passOff (k : Nat) (d : Dev) : Dev :=
  let d0 := if k < 136 && k % 34 = 33 then d.crossReset (k / 34) else if k = 141 then d.crossReset 5 else if k = 136 then d.crossReset 4 else d
  let d1 := if k < 136 && k % 34 = 33 then d0.emptyQuad (k / 34)
    else if k < 136 && k % 34 < 16 then d0.bookSlice (16 * (k / 34) + k % 34) dropCrossingReset
    else if k = 137 || k = 138 then d0.loseStack (k - 137) else d0
  let d2 := (d1.formedPairs.filter (fun n => (d1.pairDomains n).contains k)).foldl (fun x n => x.portOff n) d1
  ((d2.lawsLost k).loseDomain k).restoreCredits (creditsOf k)

end Sys2Proof.Machine
end

