-- ==== Sys2Proof/Machine/Power.lean ====
section
/-! DEFINITION. Clocks and power: the power controller (R400 to R407), the PLLs and clock monitors (R395 to R399), pulse crossings
(R410, R412), and the reset of one domain (R496). -/
namespace Sys2Proof.Machine

/-- POWER_REQ of domain `k`. -/
def Dev.powerReq (d : Dev) (k : Nat) : Nat := d.rd (0x1100 + k) 1

/-- POWER_STATE of domain `k` made `v`. -/
def Dev.setPower (k v : Nat) (d : Dev) : Dev := d.wr (0x1100 + k) 2 v

/-- The PLL that clocks domain `k`: its quadrant's, 5 for the cluster, 6 for the time unit, 4 for the rest (R395). -/
def pllOf (k : Nat) : Nat := if k < 136 then k / 34 else if k = 136 then 5 else if k = 141 then 6 else 4

/-- PLL_STATE of PLL `p`. -/
def Dev.pll (d : Dev) (p : Nat) : Nat := d.rd (0x1210 + p) 1

/-- Domain `k` is OFF for the checks of R402: FAULT counts as OFF. -/
def Dev.countsOff (d : Dev) (k : Nat) : Bool := d.pstate k = psOff || d.pstate k = psFault

/-- The children of domain `k`. -/
def childrenOf (k : Nat) : List Nat := if k < 136 && k % 34 = 33 then (List.range 33).map (fun i => k - 33 + i) else []

/-- Every side that uses lane domain `k` reads IDLE (R404). -/
def Dev.lanesIdle (d : Dev) (k : Nat) : Bool :=
  16 ≤ k % 34 && k % 34 < 32 && k < 136 &&
  d.formedPairs.all (fun n => [n, 256 + n].all (fun s => d.sideIdle s || !(d.sideDomains s).contains k))

/-- A PLL starts: LOCKING where it was OFF, with no lock to have left (R396, R445). -/
def Dev.startPll (p : Nat) (d : Dev) : Dev :=
  if d.pll p = 0 then { d.wr (0x1210 + p) 1 1 with power := { d.power with relock := d.power.relock.filter (· != p) } } else d

/-- The PLL of domain `k` stops where no domain needs it any longer (R396). -/
def Dev.stopPll (k : Nat) (d : Dev) : Dev :=
  if k = 141 then d.wr 0x1216 1 0
  else if k < 136 && ((List.range 34).map (k / 34 * 34 + ·)).all d.countsOff then d.wr (0x1210 + k / 34) 1 0
  else d

/-- What domain `k` is initialised to as it reaches ON from OFF (R403): a slice takes part, a link is up, a stack trains. -/
def Dev.initOn (k : Nat) (d : Dev) : Dev :=
  if k < 136 && k % 34 < 16 then d.wr (0x2600 + 16 * (k / 34) + k % 34) 1 1
  else if k < 136 && k % 34 = 33 then d.wr (0x141C + k / 34) 1 2
  else if k = 137 || k = 138 then d.wr 0x5003 (0xD3 + 8 * (k - 137)) 1
  else d

/-- CAN_STBY follows domain 140 (R519). -/
def Dev.canStby (k : Nat) (d : Dev) : Dev := when (k = 140 && d.rd 0x103E 1 = 4) (Dev.driveGpio 14) d

/-- Domain `k` reaches state `st`: TRANSITIONS, LAST_CHANGE, E8 where it is the state requested and NOTIFY is set (R401, R403); at ON
its checkpoint mark ends (R452). -/
def Dev.reach (k st : Nat) (d : Dev) : Dev :=
  let d1 := ((d.setPower k st).count 64 (0x1100 + k) 7 1).wr (0x1100 + k) 8 (if d.timeValid then d.compact else 0)
  let d2 := { d1 with power := { d1.power with warm := d1.power.warm.filter (· != k) }
                      assay := { d1.assay with marks := if st = psOn then d1.assay.marks.filter (· != k) else d1.assay.marks } }
  (when (st = d.powerReq k && d.rd (0x1100 + k) 3 = 1) (Dev.raise 8) d2).canStby k

/-- The domains that are being switched on from OFF. -/
def Dev.inrush (d : Dev) : List Nat := (List.range 142).filter (fun k => d.pstate k = psToOn && !d.power.warm.contains k)

/-- Domain `k` leaves OFF (R396, R403). -/
def Dev.leaveOff (k : Nat) (d : Dev) : Dev :=
  let d1 := (d.setPower k psToOn).startPll (pllOf k)
  { d1 with assay := { d1.assay with marks := d1.assay.marks.filter (· != k) } }

/-- Domain `k` leaves for OFF; a stack loses its pages and the transports their sessions at once (R64, R313). -/
def Dev.leaveOn (k : Nat) (d : Dev) : Dev :=
  let d1 := d.setPower k psToOff
  if k = 137 || k = 138 then d1.loseStack (k - 137) else if k = 140 then d1.loseSessions.canStby k else d1

/-- The next step the power controller takes for domain `k` (R402, R403): a child waits for its parent, at most four domains leave OFF
at once, HOLD_RESET keeps domains 0 to 135 OFF (R432), OFF waits for a checkpoint that is DRAINING (R452), and a
domain woken to clear its keys stays ON until they are cleared (R407). -/
def Dev.actDomain (k : Nat) (d : Dev) : Dev :=
  let req := d.powerReq k
  let st := d.pstate k
  let par := parentOf k
  let parentOk := par = 0xFF || d.isOn par
  let held := k < 136 && bit 1 (d.rd 0x7800 5)
  if d.power.zeroWoken.contains k then d
  else if st = psOff && req != 0 && !held then
    if !parentOk then (if d.pstate par = psRetain then d.warmUp par else d)
    else if 4 ≤ d.inrush.length then d
    else d.leaveOff k
  else if st = psRetain && req = 2 then
    if !parentOk then (if d.pstate par = psRetain then d.warmUp par else d) else d.warmUp k
  else if (st = psOn || st = psRetain) && req = 0 then
    if d.assay.draining = some k then d else d.leaveOn k
  else if st = psOn && req = 1 then d.setPower k psToRetain
  else d

/-- Every domain takes the step it can, in ascending number (R403). -/
def Dev.settle (d : Dev) : Dev := (List.range 142).foldl (fun x k => x.actDomain k) d

/-- What a write of POWER_REQ of domain `k` does (R402); under HOLD_RESET it is accepted for a domain whose parent the hold keeps OFF (R432). -/
def effPowerReq (k : Nat) : Eff := fun r v d =>
  let par := parentOf k
  let hold := k < 136 && bit 1 (d.rd 0x7800 5)
  if !bit v (statesAllowed k) then (abRange, d)
  else if v = 0 && ((k = 139 && r = .host) || (k = 140 && (r = .oob || r = .field))) then (abState, d)
  else if v != 0 && par != 0xFF && !hold && (d.countsOff par || d.pstate par = psToOff) then (abState, d)
  else if v = 0 && (childrenOf k).any (fun c => !d.countsOff c) then (abState, d)
  else if v = 1 && (childrenOf k).any (fun c => d.isOn c || d.pstate c = psToOn) then (abState, d)
  else if v != 2 && d.isHeld k && !(v = 1 && d.lanesIdle k) then (abState, d)
  else
    let d1 := d.wr (0x1100 + k) 1 v
    (0, (if d.pstate k = psFault then d1.setPower k psOff else d1).settle)

/-- R402: a write of POWER_REQ. -/
def execPowerReq (k : Nat) (w : Wr) (s : State) : Out := actIf (k < 142) (Dev.write (effPowerReq k) (0x1100 + k) 1 w) s

/-- Every level of quadrant `q` at its burst: of the nodes, the port shapers and the policers (R326). -/
def Dev.fullLevels (q : Nat) (d : Dev) : Dev :=
  let d1 := (d.nodes.filter (fun e => e.1 / 8192 = q)).foldl (fun y e =>
    y.setNode e.1 { e.2 with cLevel := Int.ofNat (fld 87 64 e.2.word * byteUnit), pLevel := Int.ofNat (fld 111 88 e.2.word * byteUnit) }) d
  let d2 := (d1.policers.filter (fun e => e.1 / 1024 = q)).foldl (fun y e =>
    y.setPolicer e.1 { e.2 with cLevel := fld 79 64 e.2.word * frameUnit, pLevel := fld 95 80 e.2.word * frameUnit }) d1
  (List.range 128).foldl (fun y i =>
    let s := 256 * (i / 64) + 64 * q + i % 64
    y.setSched s { y.sched s with level := Int.ofNat (y.rd (0x5000 + s) 3 * byteUnit) }) d2

/-- Domain `k` enters ON, from OFF or from RETAIN: a slice's IN_FLIGHT_MAX starts over (R353); a quadrant's levels are full (R326) and its
follower is invalid until the next epoch (R416). -/
def Dev.enterOn (k : Nat) (d : Dev) : Dev :=
  if k < 136 && k % 34 < 16 then let s := 16 * (k / 34) + k % 34; d.wr (0x2600 + s) 5 (d.inFlight s)
  else if k < 136 && k % 34 = 33 then (d.fullLevels (k / 34)).setFollower (k / 34) Follower.init
  else d

/-- The transition of domain `k` in progress completes (R403); one to ON needs its PLL locked (R396). -/
def Dev.transitionDone (k : Nat) (d : Dev) : Dev :=
  let st := d.pstate k
  if st = psToOn then
    if d.pll (pllOf k) != 2 then d
    else
      let warm := d.power.warm.contains k
      ((((if warm then d else d.initOn k).enterOn k).reach k psOn).settle).domainsOn
  else if st = psToRetain then (d.reach k psRetain).settle
  else if st = psToOff then (((d.passOff k).reach k psOff).stopPll k).settle
  else d

/-- A domain that has not reached ON within 100 µs is switched OFF and reads FAULT (R403). -/
def Dev.domainFault (k : Nat) (d : Dev) : Dev :=
  if d.pstate k = psToOn && !d.power.warm.contains k then (((d.setPower k psFault).stopPll k).raise 9).settle else d

/-- R403: a domain fails to reach ON. -/
def execDomainFault (k : Nat) (s : State) : Out := actIf (k < 142) (Dev.domainFault k) s

/-- What DOMAIN_RESET does with domain `v` (R496). -/
def effDomainReset : Eff := fun _ v d =>
  if 141 < v then (abRange, d)
  else if d.isHeld v || !d.isOn v then (abState, d)
  else
    let d1 := d.passOff v
    let d2 := ({ d1 with assay := { d1.assay with marks := d1.assay.marks.filter (· != v) } } : Dev).initOn v
    (0, d2)

/-- R496: DOMAIN_RESET. -/
def execDomainReset (w : Wr) (s : State) : Out := act (Dev.write effDomainReset 0x1020 7 w) s

/-! ## PLLs and clock monitors (R396 to R398) -/

/-- PLL `p` locks; PLL 6 relocks with the counts it held and TIME_VALID 0 (R396, R398). -/
def Dev.pllLocked (p : Nat) (d : Dev) : Dev :=
  if d.pll p = 1 then
    let d1 := d.wr (0x1210 + p) 1 2
    let d2 := when (p = 6) (Dev.wr 0x7000 8 0) d1
    if p = 4 || p = 7 then { d2 with boot := { d2.boot with holding := if d2.pll 4 = 2 && d2.pll 7 = 2 then clrBit 2 d2.boot.holding
                                                                       else d2.boot.holding } }
    else d2
  else d

/-- R396: a PLL locks. -/
def execPllLocked (p : Nat) (s : State) : Out := actIf (p < 8) (Dev.pllLocked p) s

/-- The lanes of quadrant `q` that are LOCKED. -/
def Dev.lockedLanes (d : Dev) (q : Nat) : List Nat :=
  (List.range 64).flatMap (fun i => [64 * q + i, 256 + 64 * q + i].filter (fun l => d.laneState l = lnLocked))

/-- The client frame of which a carrier has put a part out by system side `s` lost in the crossing FIFO there: at behaviour level 2, since at
level 1 none of it has left (R202, R411, R447). -/
def Dev.clientLost (s : Nat) (d : Dev) : Dev :=
  let n := s % 256
  if s < 256 || d.mode n != pmCarrier || (d.carrier n).opened != 1 || d.level1 n then d
  else (d.dropped n true dropCrossingReset).setCarrier n { (d.dropped n true dropCrossingReset).carrier n with opened := 2 }

/-- The crossing FIFO of side `s` resets in cycle `t`: the frames in it are lost, what has left of one ended with an error block (R411). -/
def Dev.fifoReset (s t : Nat) (d : Dev) : Dev :=
  let left := (d.staged s).filter (·.left)
  let gone := ((d.staged s).filter (fun x => !x.left)).map (·.frame)
  let d1 := left.foldl (fun y x =>
    let f : Frame := { x.frame with data := x.frame.data.take x.done, fcs := .errorBlock, wait := .none }
    ((y.charge s t f).encode s f).drop dropCrossingReset f) ((d.setStaged s []).setStagedBg s [])
  let d2 := (gone ++ d.stagedBgOf s).foldl (fun y f => y.drop dropCrossingReset f) d1
  ((gone.foldl (fun y f => y.settleDeficits f.chan) d2).clientLost s).refill s t

/-- Quadrant `q` loses its CCLK (R398): CONDITIONS bit OPERATING, its crossing FIFOs and pulse crossing reset with their credits, its
followers invalid, its locked lanes lost. -/
def Dev.quadClockLost (q : Nat) (d : Dev) : Dev :=
  let d1 := when (!((List.range 34).map (q * 34 + ·)).all d.countsOff) (Dev.condition 0) d
  let d2 := ((List.range 512).filter (fun s => quadOf (s % 256) = q)).foldl (fun x s => x.fifoReset s x.now) (d1.crossReset q)
  let d3 := d2.restoreCredits (q :: (List.range 16).map (0x100 + 16 * q + ·))
  ((d3.lockedLanes q).foldl (fun x l => x.loseLane l) d3).setFollower q Follower.init

/-- R396: a quadrant's PLL loses lock; LOCKING, LOCK_LOSSES and E10 first (R398). -/
def Dev.pllLossOf (p : Nat) (d : Dev) : Dev :=
  (({ d with power := { d.power with relock := p :: d.power.relock.filter (· != p) } } : Dev).wr (0x1210 + p) 1 1 |>.count 32 (0x1210 + p) 2 1).raise 10

/-! ## Clock windows (R397) -/

/-- One REFCLK input judged at the end of a window: its offset, and whether an edge was missing for 1 µs; the bit sets with E11, and
clears after one whole window within range. The inputs have no power on backup alone (R516). -/
def Dev.refWindow (i : Nat) (ppb : Int) (gone : Bool) (d : Dev) : Dev :=
  let bad := gone || 200000 < ppb.natAbs
  let was := bit i (d.rd 0x1200 4)
  let d1 := (d.wr 0x1200 (0x10 + i) (ofInt 64 ppb)).wrBit 0x1200 4 i bad
  if !d.onMain then d else when (bad && !was) (Dev.raise 11) d1

/-- R397: a 1 ms window ends for a REFCLK input. -/
def execRefclkWindow (i : Nat) (ppb : Int) (gone : Bool) (s : State) : Out := actIf (i < 8) (Dev.refWindow i ppb gone) s

/-- SYSCLK judged against the crystal at the end of a window, on main power (R397, R445, R516). -/
def Dev.sysWindow (ppb : Int) (d : Dev) : Dev :=
  let bad := 500000 < ppb.natAbs
  let was := d.rd 0x1200 1 = 1
  let d1 := (d.wr 0x1200 2 (ofInt 64 ppb)).wr 0x1200 1 (b2n bad)
  if !d.onMain then d else when (bad && !was) (fun x => (x.raise 12).condition 0) d1

/-- R397: a 125 ms window ends. -/
def execSysclkWindow (ppb : Int) (s : State) : Out := act (Dev.sysWindow ppb) s

/-! ## Pulse crossings (R410, R412) -/

/-- Pulses beyond 15 in the count of a crossing under PULSE_OVERFLOW bit `b` are lost: it stands full, and the bit sets (R410). -/
def Dev.pulseOverflow (b : Nat) (d : Dev) : Dev := (d.setOverflow b).setCrossing (400 + b) 16 d.now

/-- R410: pulses beyond 15 lost at a crossing. -/
def execPulseOverflow (b : Nat) (s : State) : Out := actIf (b < 8) (Dev.pulseOverflow b) s

/-- What PULSE_OVERFLOW_CLEAR does (R410). -/
def effPulseClear : Eff := fun _ v d => (0, d.wr 0x1200 5 (andNot (d.rd 0x1200 5) v))

/-- R410: PULSE_OVERFLOW_CLEAR. -/
def execPulseOverflowClear (w : Wr) (s : State) : Out := act (Dev.write effPulseClear 0x1200 6 w) s

end Sys2Proof.Machine
end

