-- ==== Sys2Proof/Machine/Assay.lean ====
section
/-! DEFINITION. The assay (R444 to R454), the counter windows (R455 to R458) and the performance counters' commands (R459 to R462). -/
namespace Sys2Proof.Machine

/-! ## Mismatches (R449 to R451) -/

/-- The place of a law's check: LAW code, location, and direction (law 1), census 0 or linked 1 (law 2), direction (law 3). -/
def placeKey (law loc dir : Nat) : Nat := (law * 65536 + loc) * 2 + dir

/-- What the counters say of a place (R449): frames in flight, free or linked cells or pages. -/
def Dev.counted (d : Dev) (law loc dir : Nat) : Int :=
  match law with
  | 1 => Int.ofNat (d.ctr 1 loc (8 * dir)) - Int.ofNat (d.ctr 1 loc (8 * dir + 1)) - Int.ofNat (d.ctr 1 loc (8 * dir + 3))
  | 2 => let free := d.rd (0x5000 + 64 * loc) 0xCB
         if dir = 0 then Int.ofNat free else 98304 - Int.ofNat free
  | _ => if dir = 0 then Int.ofNat stackPages - Int.ofNat (d.pagesUsed loc) else Int.ofNat (d.pagesUsed loc)

/-- The event of a mismatch (R463). -/
def lawEvent (law loc : Nat) : Nat :=
  match law with
  | 1 => 96 + loc / 64
  | 2 => 100 + loc
  | 3 => 104 + loc
  | _ => 106

/-- A signed 32-bit quantity, saturating. -/
def clamp32 (x : Int) : Nat := ofInt 32 (if 2 ^ 31 ≤ x then 2 ^ 31 - 1 else if x < -2 ^ 31 then -2 ^ 31 else x)

/-- A mismatch of `x` declared: counted, reported, its event raised (R451). -/
def Dev.mismatch (law loc dir : Nat) (x : Int) (d : Dev) : Dev :=
  let flags := (if law = 1 then dir else 0) + 2 * b2n (d.rd 0x8000 0xA != 0)
  let rep := ((((law * 256 + flags) * 65536 + loc) * 2 ^ 32 + clamp32 x) * 2 ^ 32) + fld 41 10 d.compact
  let d1 := d.count 64 0x8000 3 1
  let d2 := if 32 ≤ d1.assay.reports.length then (d1.count 64 0x8000 7 1).raise 109
    else ({ d1 with assay := { d1.assay with reports := d1.assay.reports ++ [rep] } } : Dev).wr 0x8000 6 (d1.assay.reports.length + 1)
  d2.raise (lawEvent law loc)

/-- A place whose census differs from what is counted by `x`: absorbed silently where its law takes a fresh baseline, else declared
where it differs from the baseline (R451 to R453). -/
def Dev.judge (law loc dir : Nat) (x : Int) (d : Dev) : Dev :=
  let k := placeKey law loc dir
  let b := Tbl.get (fun _ => (0 : Int)) d.assay.base k
  let d1 : Dev := { d with assay := { d.assay with base := Tbl.set (fun _ => (0 : Int)) d.assay.base k x } }
  if d.assay.fresh.contains law then d1
  else if x = b then d
  else d1.mismatch law loc dir (x - b)

/-- The law is checked (R452). -/
def Dev.lawOn (d : Dev) (law : Nat) : Bool := bit (law - 1) (d.rd 0x8000 1)

/-- The place exists: law 1 pairs, law 2 quadrants, law 3 (code of law 2b) stacks. -/
def placeOk (law loc : Nat) : Bool := (law = 1 && loc < 256) || (law = 2 && loc < 4) || (law = 3 && loc < 2)

/-- An armed injection of point 0x11 for a law and location that `here` takes is reported, the baseline not changed (R486). -/
def Dev.injMismatch (here : Nat → Nat → Bool) (d : Dev) : Dev :=
  match d.inject, d.armed 0x11 (fun i a => here (i % 8) (a % 65536)) with
  | some j, some a => d.struck.mismatch (j.inst % 8) (a % 65536) (j.inst / 8) (toInt 16 (a / 65536))
  | _, _ => d

/-- One pass of the audit: what the census found at the places listed (law, location, direction, census); at the others it agrees.
The fresh baselines of laws 1, 2a and 2b are taken (R449, R451, R453). -/
def Dev.auditPass (cs : List (List Nat)) (d : Dev) : Dev :=
  let d1 := cs.foldl (fun x c =>
    let law := nth 0 c 0
    let loc := nth 0 c 1
    let dir := nth 0 c 2 % 2
    if placeOk law loc && x.lawOn law then x.judge law loc dir (Int.ofNat (nth 0 c 3) - x.counted law loc dir) else x) d
  ({ d1 with assay := { d1.assay with fresh := [] } } : Dev).injMismatch (fun law _ => law != 4)

/-- R449: a pass of the audit. -/
def execAuditPass (cs : List (List Nat)) (s : State) : Out := act (Dev.auditPass cs) s

/-- The code of credit interface `i`: links 0 to 3, stacks 4 and 5, slices 6 to 69 (R457). -/
def creditCode (i : Nat) : Nat := if i < 4 then i else if i < 6 then 0x10 + (i - 4) else 0x100 + (i - 6)

/-- The place keys of the credit interfaces, both directions. -/
def creditPlaces : List Nat := (List.range 70).flatMap (fun i => [placeKey 4 (creditCode i) 0, placeKey 4 (creditCode i) 1])

/-- A marker closes the check of interface `i` in direction `dir` (1: away from the keystone or slice) with the counts it found, which
the interface then holds; a place that takes a fresh baseline absorbs the difference silently (R450, R452, R453). While the conditions of R445
hold, no credit is lost: the sender's AVAILABLE is INITIAL less those on their way and those the receiver holds (R444; log 132). -/
def Dev.creditMarker (i : Nat) (dir : Bool) (avail flight held : Nat) (d : Dev) : Dev :=
  let c := creditCode i
  let p := 8 * c + 4 * b2n dir
  let k := placeKey 4 c (b2n dir)
  let whole := (Config.creditInitial c).toNat
  let (a, f, h) := if d.rd 0x8000 0xA = 0 then (whole - flight - held, min flight whole, min held (whole - flight)) else (avail, flight, held)
  let x := Int.ofNat (a + f + h) - Int.ofNat whole
  let set := fun (k v : Nat) (t : Tbl Nat) => Tbl.set (fun _ => 0) t k (v % 2 ^ 64)
  let d1 : Dev := { d with assay := { d.assay with
    credits := set p 1 (set (p + 1) a (set (p + 2) f (set (p + 3) h d.assay.credits))) } }
  let d2 :=
    if !d1.lawOn 4 then d1
    else if d1.assay.freshCredits.contains k then
      { d1 with assay := { d1.assay with base := Tbl.set (fun _ => (0 : Int)) d1.assay.base k x,
                                         freshCredits := d1.assay.freshCredits.filter (· != k) } }
    else d1.judge 4 c (b2n dir) x
  d2.injMismatch (fun law loc => law = 4 && loc = c)

/-- R450: a credit marker arrives. -/
def execCreditMarker (i : Nat) (dir : Bool) (avail flight held : Nat) (s : State) : Out :=
  actIf (i < 70) (Dev.creditMarker i dir avail flight held) s

/-- What REPORT_POP does (R452). -/
def effReportPop : Eff := fun _ _ d =>
  match d.assay.reports with
  | [] => (0, d.wr 0x8000 5 0)
  | e :: rest => (0, (({ d with assay := { d.assay with reports := rest } } : Dev).wr 0x8000 5 e).wr 0x8000 6 rest.length)

/-- R452: REPORT_POP. -/
def execReportPop (w : Wr) (s : State) : Out := act (Dev.write effReportPop 0x8000 4 w) s

/-- A counter or gauge that law 1 names, by its place among the counters (R444, R457). -/
def lawCounter (k : Nat) : Bool := k / 2 ^ 23 = 1 && [0, 1, 3, 4, 8, 9, 11, 12].contains (k % 32)

/-- The CONDITIONS bits whose cause has not ended (R445): SYSCLK out of range, a quadrant's PLL that has left LOCKED, a watched condition of a tamper
source; an uncorrectable error still stored; a domain in TO_OFF; a law's counter at all ones. -/
def Dev.causesNow (d : Dev) : Nat :=
  let op := d.rd 0x1200 1 = 1 ||
    (List.range 4).any (fun q => d.pll q = 1 && d.power.relock.contains q && !((List.range 34).map (34 * q + ·)).all d.countsOff) ||
    [1, 2, 4, 6, 7].any (fun i => (Tbl.get (fun _ => Src.init) d.tamper.srcs i).present)
  let off := (List.range 139).any (fun k => k != 136 && d.pstate k = psToOff && !d.assay.marks.contains k)
  let full := d.counters.any (fun e => lawCounter e.1 && e.2 = 2 ^ 64 - 1)
  b2n op + 2 * b2n (!d.eccBad.isEmpty) + 4 * b2n off + 8 * b2n full

/-- What REBASE does (R452). -/
def effRebase : Eff := fun _ _ d =>
  if d.assay.draining.isSome then (abBusy, d)
  else (0, ({ d with assay := { d.assay with base := [], fresh := [1, 2, 3], freshCredits := creditPlaces } } : Dev).wr 0x8000 0xA (d.rd 0x8000 0xA &&& d.causesNow))

/-- R452: REBASE. -/
def execRebase (w : Wr) (s : State) : Out := act (Dev.write effRebase 0x8000 0xB w) s

/-- What a write of AUDIT_ENABLE does: a law newly checked takes a fresh baseline at the next pass, the old one with its absorbed
differences forgotten (R451, R453). -/
def effAuditEnable : Eff := fun _ v d =>
  let was := d.rd 0x8000 1
  let new := [1, 2, 3, 4].filter (fun l => bit (l - 1) v && !bit (l - 1) was)
  (0, ({ d with assay := { d.assay with
          fresh := d.assay.fresh ++ new.filter (fun l => l != 4 && !d.assay.fresh.contains l)
          freshCredits := if new.contains 4 then creditPlaces else d.assay.freshCredits
          base := Tbl.drop (fun k => new.contains (k / 131072)) d.assay.base } } : Dev).wr 0x8000 1 v)

/-! ## Checkpoint and reclaim (R452, R454) -/

/-- What CHECKPOINT of domain `v` does (R452). -/
def effCheckpoint : Eff := fun _ v d =>
  if !(v < 136 || v = 137 || v = 138) then (abRange, d)
  else if d.countsOff v || d.isHeld v || (136 < v && bit (v - 137) (d.rd 0x5003 0xC3)) then (abState, d)
  else if d.assay.draining.isSome then (abBusy, d)
  else (0, ({ d with assay := { d.assay with draining := some v } } : Dev).wr 0x8000 0x11 (1 + 256 * v))

/-- R452: CHECKPOINT. -/
def execCheckpoint (w : Wr) (s : State) : Out := act (Dev.write effCheckpoint 0x8000 0x10 w) s

/-- The sides whose lanes lie in lane domain `k` (R18, R404). -/
def Dev.sidesIn (d : Dev) (k : Nat) : List Nat :=
  (List.range 512).filter (fun s => d.mode (s % 256) != pmOff &&
    (List.range (((if s < 256 then d.width s else d.sysWidth (s % 256)) + s % 8 + 7) / 8)).any (fun j =>
      (if s < 256 then lineDom (groupOf s + j) else sysDom (groupOf (s % 256) + j)) = k))

/-- What remains in domain `k` is booked: its frames dropped, its cells and pages returned, its credits restored to INITIAL (R452). -/
def Dev.book (k : Nat) (d : Dev) : Dev :=
  let d1 :=
    if 136 < k then (d.losePages (k - 137)).syncStacks
    else if k % 34 < 16 then d.bookSlice (16 * (k / 34) + k % 34) dropCrossingReset
    else if k % 34 < 32 then (d.sidesIn k).foldl (fun x s => x.fifoReset s x.now) d
    else if k % 34 = 33 then d.emptyQuad (k / 34)
    else d
  d1.restoreCredits (creditsOf k)

/-- The checkpoint in progress is done (R452): E107, the domain is marked, a held POWER_REQ of OFF is carried out. -/
def Dev.checkpointDone (d : Dev) : Dev :=
  match d.assay.draining with
  | none => d
  | some k =>
    let d1 := d.book k
    ((({ d1 with assay := { d1.assay with draining := none, marks := k :: d1.assay.marks } } : Dev).wr 0x8000 0x11 (2 + 256 * k)).raise
      107).settle

/-- R452: the checkpoint is done. -/
def execCheckpointDone (s : State) : Out := act Dev.checkpointDone s

/-- What RECLAIM of slice `v` does (R454, R477). -/
def effReclaim : Eff := fun _ v d =>
  if 64 ≤ v then (abRange, d)
  else if !d.isFenced v then (abState, d)
  else if d.assay.reclaiming.isSome then (abBusy, d)
  else (0, ({ d with assay := { d.assay with reclaiming := some v } } : Dev).wr 0x8000 0x13 (1 + 256 * v))

/-- R454: RECLAIM. -/
def execReclaim (w : Wr) (s : State) : Out := act (Dev.write effReclaim 0x8000 0x12 w) s

/-- The reclaim in progress is done (R454): the frozen frames are booked, the cells they held freed and counted, the
slice's credit loop restored to INITIAL, E108. -/
def Dev.reclaimDone (d : Dev) : Dev :=
  match d.assay.reclaiming with
  | none => d
  | some s =>
    let free := fun (y : Dev) => y.rd (0x5000 + 64 * (s / 16)) 0xCB
    let d0 := (d.bookSlice s dropSliceFenced).restoreCredits [0x100 + s]
    let d1 := d0.cntBy 9 (s / 16) 3 (free d0 - free d)
    (({ d1 with assay := { d1.assay with reclaiming := none, reclaimed := s :: d1.assay.reclaimed.filter (· != s) } } : Dev).wr 0x8000 0x13
      (2 + 256 * s)).raise 108

/-- R454: the reclaim is done. -/
def execReclaimDone (s : State) : Out := act Dev.reclaimDone s

/-! ## Counter windows (R455 to R457) -/

/-- The block a SELECT names exists. -/
def blockExists (kind e : Nat) : Bool :=
  match kind with
  | 1 => e < 256
  | 2 => e < 256
  | 3 => e < 256
  | 4 => e < 256
  | 5 => e < 32768
  | 6 => e < 65536
  | 7 => e < 262144
  | 8 => e < 4096
  | 9 => e < 4
  | 0xA => e < 2
  | 0xB => e < 4 || e = 0x10 || e = 0x11 || (0x100 ≤ e && e < 0x140)
  | _ => false

/-- The domain a block lies in (R457). -/
def blockDomain (kind e : Nat) : Option Nat :=
  if kind = 0xA then some (137 + e)
  else if kind = 0xB then (if 0x100 ≤ e then some (bufDom ((e - 0x100) / 16)) else none)
  else some (bufDom (counterQuad kind e))

/-- Value `v` of a block as captured (R457). -/
def Dev.blockValue (d : Dev) (kind e v : Nat) : Nat :=
  if kind = 9 && v < 3 then
    (if v = 0 then 98304 else if v = 1 then d.rd (0x5000 + 64 * e) 0xCB else 98304 - d.rd (0x5000 + 64 * e) 0xCB)
  else if kind = 0xA && v < 3 then
    (if v = 0 then stackPages else if v = 1 then stackPages - d.pagesUsed e else d.pagesUsed e)
  else if kind = 0xB then
    (if 8 ≤ v then 0 else if v % 4 = 0 then (Config.creditInitial e).toNat else d.credit e v)
  else d.ctr kind e v

/-- What a write of SELECT of window `w` does in CCLK cycle `t` (R455). -/
def effSelect (w t : Nat) : Eff := fun _ v d =>
  let kind := v % 256
  let e := fld 31 8 v
  if blockExists kind e && (match blockDomain kind e with | some k => d.answersOff k | none => false) then (abPoweredOff, d)
  else if 2 ^ 32 ≤ v || !blockExists kind e then (abRange, d)
  else
    let i := 0x8010 + w
    let tm := if kind = 0xA || kind = 0xB then d.compact else d.quadTime (counterQuad kind e) t / 2 ^ 32 % 2 ^ 64
    let d1 := ((d.wr i 1 v).wr i 2 tm)
    let d2 := (List.range 32).foldl (fun x k => x.wr i (0x10 + k) (d.blockValue kind e k)) d1
    (0, { d2 with assay := { d2.assay with selected := w :: d2.assay.selected.filter (· != w) } })

/-- R455: SELECT of a counter window. -/
def execSelect (w t : Nat) (x : Wr) (s : State) : Out := actAt (w < 8) t (Dev.write (effSelect w t) (0x8010 + w) 1 x) s

/-- The positions a block uses, and those that may be cleared (R457). -/
def blockMask (kind : Nat) : Nat × Nat :=
  match kind with
  | 1 => (0x3FFFFF, 0x3FE0E0)
  | 2 => (0xFFFFE, 0)
  | 3 => (0xFFFFE, 0)
  | 4 => (0x3FF, 0x3FF)
  | 5 => (0x3FF, 0x3FF)
  | 6 => (7, 7)
  | 7 => (0x1F, 0x1F)
  | 8 => (7, 7)
  | 9 => (0xF, 8)
  | 0xA => (0xF, 8)
  | 0xB => (0xFF, 0)
  | _ => (0, 0)

/-- What CLEAR_MASK of window `w` does (R456). -/
def effClearMask (w : Nat) : Eff := fun _ v d =>
  let sel := d.rd (0x8010 + w) 1
  let kind := sel % 256
  let e := fld 31 8 sel
  let m := v &&& (blockMask kind).1
  if !d.assay.selected.contains w then (abState, d)
  else if (match blockDomain kind e with | some k => d.answersOff k | none => false) then (abPoweredOff, d)
  else if andNot m (blockMask kind).2 != 0 then (abState, d)
  else (0, (List.range 32).foldl (fun x k => if bit k m then x.setCtr kind e k 0 else x) d)

/-- R456: CLEAR_MASK. -/
def execClearMask (w : Nat) (x : Wr) (s : State) : Out := actIf (w < 8) (Dev.write (effClearMask w) (0x8010 + w) 3 x) s

/-! ## Performance counters (R459 to R462) -/

/-- A performance source (R461): it is an occupancy, and how many instances it has; none where the block does not have it. Instance
0xFF stands for all where `all` is so. -/
def perfSource (b ev : Nat) : Option (Bool × Nat × Bool) :=
  if b < 4 then
    match ev with
    | 0x001 => some (false, 1, false)
    | 0x010 => some (false, 16, false)
    | 0x011 => some (false, 16, false)
    | 0x012 => some (false, 16, false)
    | 0x013 => some (true, 16, false)
    | 0x020 => some (false, 3, false)
    | 0x021 => some (false, 3, false)
    | 0x022 => some (false, 2, false)
    | 0x023 => some (true, 2, false)
    | 0x030 => some (false, 1, false)
    | 0x031 => some (false, 1, false)
    | 0x032 => some (false, 1, false)
    | 0x033 => some (true, 16, true)
    | 0x034 => some (false, 1, false)
    | 0x035 => some (false, 1, false)
    | 0x036 => some (true, 1, false)
    | 0x040 => some (false, 128, false)
    | 0x041 => some (false, 128, false)
    | 0x050 => some (false, 2, false)
    | 0x051 => some (false, 1, false)
    | 0x052 => some (true, 1, false)
    | 0x060 => some (true, 2, false)
    | 0x061 => some (false, 2, false)
    | _ => none
  else
    match ev with
    | 0x101 => some (false, 1, false)
    | 0x110 => some (false, 5, true)
    | 0x111 => some (false, 1, false)
    | 0x120 => some (false, 2, false)
    | 0x121 => some (false, 2, false)
    | 0x122 => some (false, 1, false)
    | 0x130 => some (false, 1, false)
    | 0x131 => some (false, 1, false)
    | 0x140 => some (true, 1, false)
    | 0x150 => some (false, 1, false)
    | 0x151 => some (false, 1, false)
    | 0x160 => some (false, 1, false)
    | _ => none

/-- What a write of SELECT of counter `j` of block `b` does (R459, R460). -/
def effPerfSelect (b j : Nat) : Eff := fun _ v d =>
  let mode := fld 13 12 v
  let inst := fld 23 16 v
  let ok := match perfSource b (fld 11 0 v) with
    | none => false
    | some (occ, n, all) => mode < 3 && (mode = 0 || occ) && (inst < n || (all && inst = 0xFF))
  if !ok || fld 15 14 v != 0 || fld 31 24 v != 0 then (abRange, d)
  else if bit j (d.rd (0x8100 + b) 1) then (abState, d)
  else (0, d.wr (0x8100 + b) (0x10 + j) v)

/-- What a write of THRESHOLD of counter `j` of block `b` does (R460). -/
def effPerfThreshold (b j : Nat) : Eff := fun _ v d =>
  if bit j (d.rd (0x8100 + b) 1) then (abState, d) else (0, d.wr (0x8100 + b) (0x50 + j) v)

/-- Counter `j` of block `b` is enabled and counts the busy cycles of the table engines or the dictionary engine, or the beats of the die-to-die
link, which the model does not follow: what it gains is a free amount (R459; log 135). -/
def Dev.perfCycles (d : Dev) (b j : Nat) : Bool :=
  bit j (d.rd (0x8100 + b) 1) && [0x022, 0x061, 0x111].contains (fld 11 0 (d.rd (0x8100 + b) (0x10 + j)))

/-- Such a counter has gained a free amount since it was last looked at, short of its limit, which it reaches in a
step of its own (R461; log 135); one that has stopped at 2^48 - 1 stays there. -/
def Dev.perfFresh (b j : Nat) (d : Dev) : Dev :=
  let was := d.rd (0x8100 + b) (0x90 + j)
  if d.perfCycles b j && was < 2 ^ 48 - 1 then
    let r := d.draw
    r.2.wr (0x8100 + b) (0x90 + j) (was + r.1 % (2 ^ 48 - 1 - was))
  else d

/-- What a write of PC_ENABLE of block `b` does: counters that stop keep what they have reached (R460). -/
def effPcEnable (b : Nat) : Eff := fun _ v d =>
  (0, ((List.range 64).foldl (fun x j => if bit j v then x else x.perfFresh b j) d).wr (0x8100 + b) 1 v)

/-- R460: PC_ENABLE. -/
def execPcEnable (b : Nat) (w : Wr) (s : State) : Out := actIf (b < 5) (Dev.write (effPcEnable b) (0x8100 + b) 1 w) s

/-- What PC_CLEAR of block `b` does (R460). -/
def effPcClear (b : Nat) : Eff := fun _ v d =>
  (0, (List.range (if b = 4 then 32 else 64)).foldl (fun x j => if bit j v then x.wr (0x8100 + b) (0x90 + j) 0 else x) d)

/-- R460: PC_CLEAR. -/
def execPcClear (b : Nat) (w : Wr) (s : State) : Out := actIf (b < 5) (Dev.write (effPcClear b) (0x8100 + b) 2 w) s

/-- What PC_SATURATED_CLEAR of block `b` does (R459). -/
def effPcSaturatedClear (b : Nat) : Eff := fun _ v d => (0, d.wr (0x8100 + b) 3 (andNot (d.rd (0x8100 + b) 3) v))

/-- R459: PC_SATURATED_CLEAR. -/
def execPcSaturatedClear (b : Nat) (w : Wr) (s : State) : Out :=
  actIf (b < 5) (Dev.write (effPcSaturatedClear b) (0x8100 + b) 4 w) s

/-- Such a counter `j` of block `b` reaches its limit: it stops, or wraps at behaviour level 1 (R461); the others do as the clock runs. -/
def Dev.perfLimit (b j : Nat) (d : Dev) : Dev :=
  if d.perfCycles b j then
    ((d.wr (0x8100 + b) (0x90 + j) (if d.levelDev = 1 then 0 else 2 ^ 48 - 1)).wrBit (0x8100 + b) 3 j true).raise 110
  else d

/-- R461: a performance counter that counts by the clock saturates or wraps. -/
def execPcSaturation (b j : Nat) (s : State) : Out := actIf (b < 5 && j < 64) (Dev.perfLimit b j) s

end Sys2Proof.Machine
end

