-- ==== Sys2Proof/Machine/Planisher.lean ====
section
/-! DEFINITION. The planisher commands: submitting each job, starting, completing and cancelling (R217 to R227). -/
namespace Sys2Proof.Machine

/-- A job of code `code` submitted through window `win`: JOB takes the code, then SUBMIT is written (R221, R222). The other inputs
stand in the window. -/
def Dev.submitAs (code win : Nat) (p : Path) (core : Nat) (d : Dev) : Dev :=
  Dev.write (effSubmit win core) (0x3060 + win) 0xA ⟨p, 2, 1, 0⟩
    (Dev.write (fun _ v x => if x.winBusy win then (abBusy, x) else (0, x.wr (0x3060 + win) 1 v)) (0x3060 + win) 1
      ⟨p, 2, 1, code⟩ d)

/-- R223: a DERIVE_SA job is submitted. -/
def execDeriveSa (win : Nat) (p : Path) (core : Nat) (s : State) : Out := actIf (win < 8 && core < 4) (Dev.submitAs 1 win p core) s

/-- R223: a REKEY_BATCH job is submitted. -/
def execRekeyBatch (win : Nat) (p : Path) (core : Nat) (s : State) : Out := actIf (win < 8 && core < 4) (Dev.submitAs 2 win p core) s

/-- R220: a ROOT_LOAD job is submitted. -/
def execRootLoad (win : Nat) (p : Path) (core : Nat) (s : State) : Out := actIf (win < 8 && core < 4) (Dev.submitAs 3 win p core) s

/-- R215: an UNWRAP_BLOB job is submitted. -/
def execUnwrapBlob (win : Nat) (p : Path) (core : Nat) (s : State) : Out := actIf (win < 8 && core < 4) (Dev.submitAs 4 win p core) s

/-- R223: an MKA_KEYS job is submitted. -/
def execMkaKeys (win : Nat) (p : Path) (core : Nat) (s : State) : Out := actIf (win < 8 && core < 4) (Dev.submitAs 5 win p core) s

/-- R223: an MKA_ICV job is submitted. -/
def execMkaIcv (win : Nat) (p : Path) (core : Nat) (s : State) : Out := actIf (win < 8 && core < 4) (Dev.submitAs 6 win p core) s

/-- R223: a RANDOM_SAK job is submitted. -/
def execRandomSak (win : Nat) (p : Path) (core : Nat) (s : State) : Out := actIf (win < 8 && core < 4) (Dev.submitAs 7 win p core) s

/-- R223: an UNWRAP_SAK job is submitted. -/
def execUnwrapSak (win : Nat) (p : Path) (core : Nat) (s : State) : Out := actIf (win < 8 && core < 4) (Dev.submitAs 8 win p core) s

/-- R223: a HASHKEY job is submitted. -/
def execHashkey (win : Nat) (p : Path) (core : Nat) (s : State) : Out := actIf (win < 8 && core < 4) (Dev.submitAs 9 win p core) s

/-- R252: a TEST_LOAD job is submitted. -/
def execTestLoad (win : Nat) (p : Path) (core : Nat) (s : State) : Out := actIf (win < 8 && core < 4) (Dev.submitAs 10 win p core) s

/-- What planisher `p` does where its clock runs: its quadrant's domain 34q+32 with CCLK, the keystone for planisher 4 (R395). -/
def Dev.ifPlanisher (p : Nat) (f : Dev → Dev) (d : Dev) : Dev :=
  if (if p < 4 then d.runs (tabDom p) else d.engineRuns) then f d else d

/-- R225: a planisher takes the job at its queue's head. -/
def execJobStart (p : Nat) (s : State) : Out := actIf (p < 5) (Dev.ifPlanisher p (Dev.startJob false p)) s

/-- R225: after the jobs it let run, a batch goes on. -/
def execRekeyBatchContinue (p : Nat) (s : State) : Out := actIf (p < 5) (Dev.ifPlanisher p (Dev.startJob true p)) s

/-- R224: the executing job ends; `mem` is what its read at DATA_ADDR gave, none where it failed. -/
def execJobComplete (p : Nat) (mem : Option (List Byte)) (s : State) : Out := actIf (p < 5) (Dev.ifPlanisher p (Dev.completeJob p mem)) s

/-- R226: CANCEL. -/
def execCancel (win : Nat) (w : Wr) (s : State) : Out :=
  actIf (win < 8) (Dev.write (effCancel win) (0x3060 + win) 0xF w) s

/-- R217: a key-bus transfer for the executing job. -/
def execKeyBusTransfer (p : Nat) (ok : Bool) (s : State) : Out := actIf (p < 5) (Dev.ifPlanisher p (Dev.keyBus p ok)) s

end Sys2Proof.Machine
end

