-- ==== Sys2Proof/Machine/Vault.lean ====
section
/-! DEFINITION. The vault: slots, the generator, zeroisation and its end (R208 to R217, R253 to R257). -/
namespace Sys2Proof.Machine

/-- VAULT_STATE. -/
def Dev.vaultState (d : Dev) : Nat := d.rd 0x3000 2

/-- VAULT_STATE made `v`. -/
def Dev.setVault (v : Nat) (d : Dev) : Dev := d.wr 0x3000 2 v

/-- The generator instantiated, a new sealing key drawn and the entry key loaded (R213, R216, R314). -/
def Dev.loadKeys (d : Dev) : Dev :=
  let r := d.draw
  let r2 := r.2.draw
  let d1 : Dev := { r2.2 with keys := { r2.2.keys with sealing := some (r.1 * 2 ^ 256 + r2.1), requests := 0 } }
  (((d1.wr 0x5003 0xC2 1).wr 0x3000 6 0).setSlotKey 63 (some entryKey)).wr 0x304F 2 1

/-! ## Slots and the generator (R209, R212, R216) -/

/-- What a write of USAGE of slot `s` does (R209). -/
def effUsage (s : Nat) : Eff := fun _ v d =>
  if 5 ≤ v then (abRange, d)
  else if d.rd (0x3010 + s) 2 != 0 then (abState, d)
  else (0, d.wr (0x3010 + s) 1 v)

/-- R209: USAGE. -/
def execUsage (slot : Nat) (w : Wr) (s : State) : Out := actIf (slot < 64) (Dev.write (effUsage slot) (0x3010 + slot) 1 w) s

/-- Slot `s` is the source of a job that is RUNNING (R212). -/
def Dev.slotInUse (d : Dev) (s : Nat) : Bool :=
  (List.range 5).any (fun p => (d.pl p).jobs.any (fun j => j.started &&
    (if j.code = 4 then s = 63 else [1, 2, 3, 5, 0x80].contains j.code && j.slot = s)))

/-- What ERASE of slot `s` does (R212). -/
def effErase (s : Nat) : Eff := fun _ v d =>
  if v != 0x5A45524F then (abRange, d)
  else if !d.vaultNormal || d.slotInUse s then (abState, d)
  else
    let d1 := (d.setSlotKey s none).wr (0x3010 + s) 2 0
    (0, ((List.range 5).foldl (fun x p => x.uncache p s) d1).unkeySlot s)

/-- R212: ERASE. -/
def execErase (slot : Nat) (w : Wr) (s : State) : Out := actIf (slot < 64) (Dev.write (effErase slot) (0x3010 + slot) 4 w) s

/-- What DRBG_RESEED does: the start-up health tests pass or fail (R216). -/
def effReseed (ok : Bool) : Eff := fun _ _ d =>
  (0, ({ d with keys := { d.keys with requests := 0 } } : Dev).wr 0x3000 6 (if ok then 0 else 2))

/-- R216: DRBG_RESEED. -/
def execDrbgReseed (ok : Bool) (w : Wr) (s : State) : Out := act (Dev.write (effReseed ok) 0x3000 7 w) s

/-- The generator reseeds itself (R216). -/
def Dev.autoReseed (d : Dev) : Dev := if d.rd 0x3000 6 = 0 then { d with keys := { d.keys with requests := 0 } } else d

/-- R216: the generator reseeds itself. -/
def execDrbgAutoReseed (s : State) : Out := act Dev.autoReseed s

/-- A continuous health test fails (R216). -/
def Dev.healthFail (d : Dev) : Dev := when (d.rd 0x3000 6 != 2) (fun x => (x.wr 0x3000 6 2).raise 51) d

/-- R216: a health test of the entropy source fails. -/
def execDrbgHealthFail (s : State) : Out := act Dev.healthFail s

/-! ## Zeroisation (R253 to R256) -/

/-- Every slot overwritten: ZEROISED (R254). -/
def Dev.zeroSlots (d : Dev) : Dev :=
  ({ d with keys := { d.keys with slots := [], ctxs := [], requests := 0 } } : Dev) |> fun x =>
    ((List.range 64).foldl (fun y s => y.wr (0x3010 + s) 2 2) x).clearCache 4

/-- A RETAIN domain that holds key material is woken, its POWER_REQ unchanged (R254, R407). -/
def Dev.zeroWake (k : Nat) (d : Dev) : Dev :=
  if d.pstate k = psRetain then
    { ((((d.setPower k psOn).enterOn k).count 64 (0x1100 + k) 7 1).wr (0x1100 + k) 8 (if d.timeValid then d.compact else 0)) with
      power := { d.power with zeroWoken := k :: d.power.zeroWoken } }
  else d

/-- The domains that hold key material in RETAIN, each after its parent. -/
def Dev.keyDomains (d : Dev) : List Nat :=
  ((List.range 136).filter (fun k => (k % 34 < 16 || k % 34 = 32) && d.pstate k = psRetain)).flatMap (fun k => [parentOf k, k])

/-- A zeroisation starts with ZEROISE_CAUSE `c`; one already in progress absorbs it, and it ends a ZEROISE_CLEAR in progress (R253,
R254, R257). -/
def Dev.zeroise (c : Nat) (d : Dev) : Dev :=
  if d.vaultState = 1 then d
  else
    let d0 := if d.keys.clearing then
        ({ d with keys := { d.keys with clearing := false } } : Dev).endPend 0x3000 3 abState else d
    let d1 := (((d0.setVault 1).wr 0x3000 5 c).wr 0x3000 8 d0.timeNow).raiseUnsaid 48
    let d2 := (List.range 5).foldl (fun x p => x.endJobs p 10 (fun _ => true)) d1
    let d3 := d2.keyDomains.foldl (fun x k => x.zeroWake k) d2.zeroSlots
    { d3 with keys := { d3.keys with dapDue := true } }

/-- The same on backup alone: the slots are the only key material, and the sequence ends at once (R208, R256). -/
def Dev.zeroiseBackup (c : Nat) (d : Dev) : Dev :=
  let d1 := (List.range 64).foldl (fun y s => y.wr (0x3010 + s) 2 2)
    ({ d with keys := { d.keys with slots := [] } } : Dev)
  (((d1.setVault 2).wr 0x3000 5 c).wr 0x3000 8 0).count 32 0x3000 4 1

/-- What a write of ZEROISE does (R44, R253). -/
def effZeroise : Eff := fun r v d =>
  if v != 0x5A45524F then (abRange, d) else (0, d.zeroise (if r = .field then 3 else 4))

/-- R44: ZEROISE. -/
def execZeroise (w : Wr) (s : State) : Out := act (Dev.write effZeroise 0x3000 1 w) s

/-- ZEROISE_N held low for 1 µs, or high again (R253): a low level starts one sequence while main power is present, also where it was low
already on backup alone, when it is sampled instead (R436). -/
def Dev.zeroiseN (low : Bool) (d : Dev) : Dev :=
  let main := d.onMain
  let d1 : Dev := { d with tamper := { d.tamper with zeroLow := low, zeroDone := low && (main || d.tamper.zeroDone) } }
  when (low && main && !d.tamper.zeroDone) (Dev.zeroise 2) d1

/-- R253: ZEROISE_N. -/
def execZeroiseN (low : Bool) (s : State) : Out := act (Dev.zeroiseN low) s

/-- The spilled tail of queue `x` discarded with KEY_ABSENT (R255, R315). -/
def Dev.dropTail (x : Nat) (d : Dev) : Dev :=
  let k := d.queue x
  let d1 := (d.giveCells (x / 65536) k.pool k.partCells).freePages k.pages
  k.spilled.foldl (fun y f => y.drop dropKeyAbsent f)
    ((d1.setQ x { k with deep := [], pages := [], readBack := 0, room := 0 }).settleDeficits (x / 8))

/-- The sealing key cleared, the tails under it with it (R254, R255). -/
def Dev.unseal (d : Dev) : Dev :=
  let xs := (d.queues.filter (fun e => !e.2.deep.isEmpty || !e.2.pages.isEmpty)).map (·.1)
  let d1 := xs.foldl (fun y x => y.dropTail x) d
  ({ d1 with keys := { d1.keys with sealing := none } } : Dev).wr 0x5003 0xC2 0

/-- The SA stores of every quadrant that holds any cleared: every SA there is ZEROISED (R254). -/
def Dev.zeroSas (d : Dev) : Dev :=
  let qs := (List.range 4).filter (fun q => d.isLive (tabDom q))
  let d1 : Dev := { d with keys := { d.keys with
    zeroed := qs, sas := (d.keys.sas.map (fun e => (e.1, { e.2 with key := 0, keyLen := 0, h := 0, salt := 0 }))).filter (fun e => e.2 != Sa.init) } }
  qs.foldl (fun x q => x.clearCache q) d1

/-- The sequence ends (R254, R255, R407); a keystone reset's step 7 that waited for it follows (R492). -/
def Dev.zeroiseDone (d : Dev) : Dev :=
  if d.vaultState != 1 then d
  else
    let d1 := (d.zeroSas.cutZeroised d.now).unkeyAll.unseal
    let d2 := ((d1.setVault 2).count 32 0x3000 4 1).raise 49
    let d3 := (List.range 64).foldl (fun x b => if x.rd (0x3080 + b) 1 = 1 then x.mkaFails b else x) d2
    let d4 := ({ d3 with power := { d3.power with zeroWoken := [] } } : Dev).settle
    if d4.boot.keysWait then ({ d4 with boot := { d4.boot with keysWait := false } } : Dev).loadKeys else d4

/-- R254: every key store is cleared. -/
def execZeroisationComplete (s : State) : Out := act Dev.zeroiseDone s

/-- Every session is sent a NOTIFY of E48, then the DAP keys are erased and the sessions closed (R65). -/
def Dev.dapErase (d : Dev) : Dev :=
  if !d.keys.dapDue then d
  else
    let d1 := (List.range d.dap.sessions.length).foldl (fun x k => x.notifyOn k 48 x.compact) d
    { d1 with dap := { d1.dap with sessions := [], waits := [] }, keys := { d1.keys with dapDue := false } }

/-- R65: the DAP's part of a zeroisation. -/
def execDapZeroiseClose (s : State) : Out := act Dev.dapErase s

/-! ## Leaving the ZEROISED state (R257) -/

/-- A tamper source whose RESPONSE includes ZEROISE is in alarm. -/
def Dev.zeroAlarm (d : Dev) : Bool :=
  (List.range 13).any (fun i => bit i (d.rd 0x7800 3) && bit 4 (d.rd (0x7810 + i) 1))

/-- What ZEROISE_CLEAR does (R257). -/
def effZeroiseClear : Eff := fun r v d =>
  if v != 0x434C4541 then (abRange, d)
  else if d.vaultState != 2 || d.tamper.zeroLow || d.zeroAlarm then (abState, d)
  else (0, ({ d with keys := { d.keys with clearing := true } } : Dev).startPend 0x3000 3 (pathOf r))

/-- R257: ZEROISE_CLEAR. -/
def execZeroiseClear (w : Wr) (s : State) : Out := act (Dev.write effZeroiseClear 0x3000 3 w) s

/-- An accepted ZEROISE_CLEAR completes, and the MKA bindings restart (R257). -/
def Dev.clearDone (d : Dev) : Dev :=
  if !d.keys.clearing then d
  else
    let d1 := (List.range 63).foldl (fun x s => if x.rd (0x3010 + s) 2 = 2 then x.wr (0x3010 + s) 2 0 else x) d
    let d2 : Dev := { d1 with keys := { d1.keys with
      clearing := false, zeroed := [], sas := Tbl.drop (fun s => d1.keys.zeroed.contains (s / 16384)) d1.keys.sas } }
    let d3 := (List.range 64).foldl (fun x b => if x.rd (0x3080 + b) 1 = 1 then x.mkaStarts b else x) (d2.loadKeys.setVault 0)
    (d3.raise 50).endPend 0x3000 3 0

/-- R257: an accepted ZEROISE_CLEAR completes. -/
def execZeroiseClearComplete (s : State) : Out := act Dev.clearDone s

end Sys2Proof.Machine
end

