-- ==== Sys2Proof/Machine/Tamper.lean ====
section
/-! DEFINITION. The tamper monitors and the backup cell (R421 to R443). -/
namespace Sys2Proof.Machine

/-- The record of source `i`. -/
def Dev.src (d : Dev) (i : Nat) : Src := Tbl.get (fun _ => Src.init) d.tamper.srcs i

/-- The record of source `i` replaced. -/
def Dev.setSrc (i : Nat) (x : Src) (d : Dev) : Dev :=
  { d with tamper := { d.tamper with srcs := Tbl.set (fun _ => Src.init) d.tamper.srcs i x } }

/-- Source `i` is in alarm. -/
def Dev.inAlarm (d : Dev) (i : Nat) : Bool := bit i (d.rd 0x7800 3)

/-- Source `i` is fused (R427). -/
def Dev.fused (d : Dev) (i : Nat) : Bool := bit i (d.rd 0x7800 4)

/-- Source `i` counts and alarms: enabled and not fused. -/
def Dev.watches (d : Dev) (i : Nat) : Bool := d.rd (0x7810 + i) 2 = 1 && !d.fused i

/-- RESPONSE of source `i`. -/
def Dev.responseOf (d : Dev) (i : Nat) : Nat := d.rd (0x7810 + i) 1

/-- Sources 0 and 3 are glitch sources. -/
def isGlitch (i : Nat) : Bool := i = 0 || i = 3

/-- Source `i` is disarmed (R424). -/
def Dev.isDisarmed (d : Dev) (i : Nat) : Bool := if i = 3 then d.tamper.disarmed3 else i < 5 && d.tamper.disarmed

/-! ## The log (R429) -/

/-- An entry put in the tamper log; a full log loses its oldest entry and raises E31, on backup alone at the next power-up. -/
def Dev.logTamper (e : Nat) (d : Dev) : Dev :=
  let l := d.tamper.log
  let full := 32 ≤ l.length
  let d1 : Dev := { d with tamper := { d.tamper with log := (if full then l.drop 1 else l) ++ [e],
                                                     overwrote := d.tamper.overwrote || (full && !d.onMain) } }
  when (full && d.onMain) (Dev.raise 31) (d1.wr 0x7800 0xA d1.tamper.log.length)

/-- The 12 bytes of a log entry. -/
def Dev.logEntry (d : Dev) (source executed deferred flags : Nat) : Nat :=
  ((((source * 256 + executed) * 256 + deferred) * 256 + flags) * 2 ^ 48 + d.rd 0x7800 9 % 2 ^ 48) * 2 ^ 16

/-! ## Responses (R432 to R438) -/

/-- QUIESCE: every pair reads QUIESCED and its frames are dropped (R316, R432). -/
def Dev.quiesce (d : Dev) : Dev :=
  if bit 0 (d.rd 0x7800 5) then d
  else
    let d1 := tracking allPairs (Dev.wrBit 0x7800 5 0 true) d
    (d1.queuesWhere (fun _ => true)).foldl (fun x k => x.emptyQueue k dropQuiesced) d1

/-- Domain `k` passes to OFF at once (R432). -/
def Dev.forceOff (k : Nat) (d : Dev) : Dev :=
  if d.pstate k = psOff then d
  else
    let d1 := ((if d.countsOff k then d else d.passOff k).reach k psOff).stopPll k
    { d1 with power := { d1.power with zeroWoken := d1.power.zeroWoken.filter (· != k) } }

/-- HOLD_RESET: domains 0 to 135 go OFF and stay so (R432); those of the buffers first, whose queued frames end with CROSSING_RESET (R406). -/
def Dev.holdReset (d : Dev) : Dev :=
  if bit 1 (d.rd 0x7800 5) then d
  else ([33, 67, 101, 135] ++ List.range 136).foldl (fun x k => x.forceOff k) (d.wrBit 0x7800 5 1 true)

/-- The alarms of the sources `l` that fire together: evidence of each, then the union of their responses in order (R429, R432, R433,
R438, R487). `inj` says they come from an injection, `zero` that ZEROISE may be carried out. -/
def Dev.fire (l : List Nat) (edge inj zero : Bool) (d : Dev) : Dev :=
  let main := d.onMain
  let l := l.filter (fun i => !d.inAlarm i)
  let drop := if zero then 0 else 0x10
  let done := fun (i : Nat) => andNot (d.responseOf i &&& (if main then 0x3F else 0x15)) drop ||| 1
  let later := fun (i : Nat) => if main then 0 else d.responseOf i &&& 0x2A
  let flags := b2n (!main) + 2 * b2n inj + 4 * b2n edge
  let d1 := l.foldl (fun x i => ((x.wrBit 0x7800 1 i true).wrBit 0x7800 3 i true).logTamper
    (x.logEntry i (done i) (later i) flags)) d
  let all := l.foldl (fun a i => a ||| done i) 0
  let late := l.foldl (fun a i => a ||| later i) 0
  let d2 := when (bit 4 all) (fun x => if main then x.zeroise (if inj then 5 else 1) else x.zeroiseBackup 1) d1
  let d3 := when (bit 3 all) Dev.quiesce d2
  let d4 := when (bit 5 all) Dev.holdReset d3
  let d5 := when (bit 2 all) (Dev.wrBit 0x7800 5 2 true) d4
  let d6 := (l.filter (fun i => bit 1 (done i))).foldl (fun x i => x.raise (16 + i)) d5
  let due := b2n (bit 3 late) + 2 * b2n (bit 5 late) + 4 * b2n (bit 1 late)
  { d6.wr 0x7800 5 (d6.rd 0x7800 5 ||| 16 * due) with
    tamper := { d6.tamper with due := d6.tamper.due ||| due,
                               deferred := d6.tamper.deferred ++ l.filter (fun i => bit 1 (later i)) } }

/-! ## Counting on main power (R425, R426) -/

/-- WINDOW of source `i` in CCLK cycles. -/
def Dev.windowOf (d : Dev) (i : Nat) : Nat := 1600 * d.rd (0x7810 + i) 4

/-- One event of source `i` in CCLK cycle `t`: the block, and whether it makes the source alarm. -/
def Dev.countEvent (i t : Nat) (d : Dev) : Bool × Dev :=
  if !d.watches i then (false, d)
  else
    let x := d.src i
    let y := if x.count = 0 || x.opened + d.windowOf i < t then { x with opened := t, count := 1 } else { x with count := x.count + 1 }
    let hit := d.rd (0x7810 + i) 3 ≤ y.count
    (hit, (d.setSrc i (if hit then { y with count := 0 } else y)).count 32 (0x7810 + i) 8 1)

/-- Events of the sources `l` in cycle `t`; those that alarm fire together. -/
def Dev.events (l : List Nat) (t : Nat) (d : Dev) : Dev :=
  let r := l.foldl (fun a i => let e := a.2.countEvent i t; (if e.1 then a.1 ++ [i] else a.1, e.2)) (([] : List Nat), d)
  r.2.fire r.1 false false true

/-- The condition of level source `i` from the levels given: TAMP inputs by POLARITY (R424). -/
def Dev.condIn (d : Dev) (levels i : Nat) : Bool :=
  if 9 ≤ i then bit i levels != (d.rd (0x7810 + i) 6 = 1) else bit i levels

/-- AON_TICKS brought to a moment that carries no count: the crystal runs apart from every other clock, so it has moved on by a free number
of ticks (R428; log 192). -/
def Dev.ticksNow (d : Dev) : Dev := let x := d.draw; x.2.wr 0x7800 9 ((d.rd 0x7800 9 + x.1) % 2 ^ 48)

/-- AON_TICKS as the command finds it. -/
def Dev.ticksTo (ticks : Nat) (d : Dev) : Dev := d.wr 0x7800 9 (ticks % 2 ^ 48)

/-- On main power, in cycle `t`: the glitches that end, and the conditions now qualified of the level sources (R424, R425). A start of a
condition is an event; XTAL_STATUS follows source 8, CONDITIONS bit OPERATING and E29 the sources they name. -/
def Dev.tamperEvent (glitches levels t ticks : Nat) (d : Dev) : Dev :=
  if !d.onMain then d
  else
    let d0 := d.ticksTo ticks
    let lv := [1, 2, 4, 5, 6, 7, 8, 9, 10, 11, 12]
    let now := fun (i : Nat) => d.condIn levels i && !d.isDisarmed i
    let starts := lv.filter (fun i => now i && !(d.src i).present)
    let d1 := lv.foldl (fun x i => x.setSrc i { x.src i with present := now i }) d0
    let d2 := d1.wr 0x1200 3 (b2n (now 8))
    let d3 := when (starts.any (fun i => [1, 2, 4, 6, 7].contains i)) (Dev.condition 0) d2
    let d4 := when (starts.contains 5) (Dev.raise 29) d3
    d4.events ([0, 3].filter (fun i => bit i glitches && !d.isDisarmed i) ++ starts) t

/-- R425: tamper conditions on main power. -/
def execTamperEvent (glitches levels t ticks : Nat) (s : State) : Out := actAt true t (Dev.tamperEvent glitches levels t ticks) s

/-- The level sources of mask `m` whose condition has held for WINDOW without a break: they alarm together (R425). -/
def Dev.levelAlarm (m ticks : Nat) (d : Dev) : Dev :=
  if !d.onMain then d
  else (d.ticksTo ticks).fire ((List.range 13).filter (fun i =>
    bit i m && !isGlitch i && (d.src i).present && d.watches i && !d.isDisarmed i)) false false true

/-- R425: a condition held for WINDOW. -/
def execTamperLevelAlarm (m ticks : Nat) (s : State) : Out := act (Dev.levelAlarm m ticks) s

/-- Source `i` leaves alarm (R425). -/
def Dev.alarmEnd (i : Nat) (d : Dev) : Dev := d.wrBit 0x7800 3 i false

/-- WINDOW has passed on main power since source `i`'s condition ended, or since its last event. -/
def Dev.alarmOver (i : Nat) (d : Dev) : Dev :=
  if d.onMain && d.inAlarm i && (isGlitch i || !(d.src i).present) then d.alarmEnd i else d

/-- R425: a source leaves alarm. -/
def execTamperAlarmEnd (i : Nat) (s : State) : Out := actIf (i < 13) (Dev.alarmOver i) s

/-! ## Supply (R421, R424) -/

/-- Source `i` disarmed: its counting and alarm state discarded (R424, R426). -/
def Dev.discard (i : Nat) (d : Dev) : Dev := (d.setSrc i Src.init).alarmEnd i

/-- Sources 0, 1, 2 and 4 disarmed. -/
def Dev.disarm (d : Dev) : Dev :=
  [0, 1, 2, 4].foldl (fun x i => x.discard i) { d with tamper := { d.tamper with disarmed := true } }

/-- The supply state `v`. -/
def Dev.setSupply (v : Nat) (d : Dev) : Dev := { d with power := { d.power with supply := v } }

/-- VDD_IO falls below 1.45 V, before power-on reset releases too (R421, R424). -/
def Dev.dip (d : Dev) : Dev :=
  if d.power.supply = 0 then (d.setSupply 1).disarm else if d.power.supply = 3 then (d.setSupply 4).disarm else d

/-- R421: VDD_IO falls below 1.45 V. -/
def execVddIoDip (s : State) : Out := act Dev.dip s

/-- VDD_IO is back within 10 µs, in cycle `t`: the sources are armed again and the excursion is an event of source 3 (R421, R424). -/
def Dev.dipEnds (t ticks : Nat) (d : Dev) : Dev :=
  if d.power.supply = 1 || d.power.supply = 4 then
    let d1 := d.setSupply (if d.power.supply = 1 then 0 else 3)
    (({ d1 with tamper := { d1.tamper with disarmed := false } } : Dev).ticksTo ticks).events [3] t
  else d

/-- R421: VDD_IO returns within 10 µs. -/
def execVddIoReturn (t ticks : Nat) (s : State) : Out := actAt true t (Dev.dipEnds t ticks) s

/-! ## On backup alone (R436 to R440) -/

/-- Source `i` at a sample point (R437): the block, and whether it alarms. -/
def Dev.sampleSource (levels i : Nat) (d : Dev) : Bool × Dev :=
  let x := d.src i
  let c := d.condIn levels i
  let d1 := d.setSrc i { x with present := c, samples := if c then min 8 (x.samples + 1) else 0, count := 0 }
  if !d.watches i then (false, d1)
  else if !c then (false, if d.inAlarm i then d1.alarmEnd i else d1)
  else (d.rd (0x7810 + i) 5 ≤ (d1.src i).samples, d1.count 32 (0x7810 + i) 8 1)

/-- A sample point on backup alone: ZEROISE_N, then sources 5 to 12, those that alarm firing together (R436 to R438). -/
def Dev.sample (levels : Nat) (zlow edge : Bool) (ticks : Nat) (d : Dev) : Dev :=
  if d.power.supply != 2 then d
  else
    let d0 := d.ticksTo ticks
    let d1 := when zlow (fun x => (x.zeroiseBackup 2).logTamper (x.logEntry 0x20 0x11 0 (1 + 4 * b2n edge))) d0
    let d2 : Dev := { d1 with tamper := { d1.tamper with zeroLow := zlow, zeroDone := false } }
    let r := [5, 6, 7, 8, 9, 10, 11, 12].foldl (fun a i =>
      let e := a.2.sampleSource levels i
      (if e.1 then a.1 ++ [i] else a.1, e.2)) (([] : List Nat), d2)
    r.2.fire r.1 edge false true

/-- R436: a sample on backup alone. -/
def execTamperSample (levels : Nat) (zlow : Bool) (ticks : Nat) (s : State) : Out := act (Dev.sample levels zlow false ticks) s

/-- An edge on TAMP input `pin` (0 to 3), or a falling one on ZEROISE_N (4), starts a sample where WAKE_ON_EDGE is set (R440). -/
def Dev.edgeWake (pin levels : Nat) (zlow : Bool) (ticks : Nat) (d : Dev) : Dev :=
  if d.rd 0x7800 8 = 1 && (pin = 4 || d.rd (0x7819 + pin) 2 = 1) then d.sample levels zlow true ticks else d

/-- R440: wake on edge. -/
def execWakeOnEdge (pin levels : Nat) (zlow : Bool) (ticks : Nat) (s : State) : Out :=
  actIf (pin < 5) (Dev.edgeWake pin levels zlow ticks) s

/-! ## Commands (R427, R429, R431, R435, R443) -/

/-- What STICKY_CLEAR does (R431). -/
def effStickyClear : Eff := fun _ v d =>
  if v &&& d.rd 0x7800 3 != 0 then (abState, d) else (0, d.wr 0x7800 1 (andNot (d.rd 0x7800 1) v))

/-- R431: STICKY_CLEAR. -/
def execStickyClear (w : Wr) (s : State) : Out := act (Dev.write effStickyClear 0x7800 2 w) s

/-- Side `s` of a formed pair starts over as after DEFECT (R99, R435, R478). -/
def Dev.retrainSide (s : Nat) (d : Dev) : Dev :=
  if d.sideIdle s then d
  else
    let d1 := (d.sideLanes s).foldl (fun x l => x.restartLane l lnSignalWait) d
    ((d1.setSide s { d1.side s with fault := 0 }).unalign s).evalSide s

/-- Both sides of pair `n` retrain as after DEFECT. -/
def Dev.retrain (n : Nat) (d : Dev) : Dev := (d.retrainSide n).retrainSide (256 + n)

/-- A source in alarm has response `b` in its RESPONSE. -/
def Dev.alarmHolds (d : Dev) (b : Nat) : Bool := (List.range 13).any (fun i => d.inAlarm i && bit b (d.responseOf i))

/-- What RESPONSE_CLEAR does (R435). -/
def effResponseClear : Eff := fun _ v d =>
  if (bit 0 v && d.alarmHolds 3) || (bit 1 v && d.alarmHolds 5) || (bit 2 v && d.alarmHolds 2) then (abState, d)
  else
    let was := d.rd 0x7800 5
    let m := v ||| (if bit 0 v then 16 else 0) ||| (if bit 1 v then 32 else 0)
    let d1 := tracking allPairs (Dev.wr 0x7800 5 (andNot was m)) d
    let d2 := if bit 0 v && bit 0 was then d1.formedPairs.foldl (fun x n => x.retrain n) d1 else d1
    (0, if bit 1 v && bit 1 was then d2.settle else d2)

/-- R435: RESPONSE_CLEAR. -/
def execResponseClear (w : Wr) (s : State) : Out := act (Dev.write effResponseClear 0x7800 6 w) s

/-- What FUSE_BLOW of source `i` does (R427). -/
def effFuseBlow (i : Nat) : Eff := fun _ v d =>
  if v != 0x46555345 then (abRange, d)
  else if d.inAlarm i then (abState, d)
  else (0, (d.wrBit 0x7800 4 i true).setSrc i { d.src i with count := 0, samples := 0 })

/-- R427: FUSE_BLOW. -/
def execFuseBlow (i : Nat) (w : Wr) (s : State) : Out := actIf (i < 13) (Dev.write (effFuseBlow i) (0x7810 + i) 9 w) s

/-- What LOG_POP does (R429). -/
def effLogPop : Eff := fun _ _ d =>
  match d.tamper.log with
  | [] => (0, d.wr 0x7800 0xC 0)
  | e :: rest => (0, (({ d with tamper := { d.tamper with log := rest } } : Dev).wr 0x7800 0xC e).wr 0x7800 0xA rest.length)

/-- R429: LOG_POP. -/
def execLogPop (w : Wr) (s : State) : Out := act (Dev.write effLogPop 0x7800 0xB w) s

/-- VBAT measured (R443). -/
def Dev.vbat (mv : Nat) (d : Dev) : Dev :=
  if !d.onMain then d
  else
    let was := d.rd 0x7800 7
    when (mv < 2600 && 2600 ≤ was) (Dev.raise 29) (d.wr 0x7800 7 (mv % 65536))

/-- R443: VBAT measured. -/
def execVbatMeasure (mv : Nat) (s : State) : Out := act (Dev.vbat mv) s

/-- What a write of RESPONSE, ENABLE, COUNT_N, WINDOW, BACKUP_COUNT or POLARITY of source `i` does (R426, R428, R434): LOG reads 1,
clearing ENABLE ends the alarm, COUNT_N and WINDOW restart the count. -/
def effSource (i j : Nat) : Eff := fun _ v d =>
  let d1 := d.wr (0x7810 + i) j (if j = 1 then v ||| 1 else v)
  let d2 := when (j = 2 && v = 0) (Dev.alarmEnd i) d1
  (0, when (j = 3 || j = 4) (Dev.setSrc i { d.src i with count := 0 }) d2)

/-- SOURCE_STATE of source `i` (R428). -/
def Dev.sourceState (d : Dev) (i : Nat) : Nat :=
  b2n (d.src i).present + 2 * b2n (d.inAlarm i) + 4 * b2n (bit i (d.rd 0x7800 1)) + 8 * b2n (d.fused i)

end Sys2Proof.Machine
end

