-- ==== Sys2Proof/Machine/Faults.lean ====
section
/-! DEFINITION. Events (R464 to R468), the watchdog (R469 to R471), slice fencing (R473 to R478), die-to-die links (R481), loopbacks
and the frame generators (R482, R483). -/
namespace Sys2Proof.Machine

/-! ## Event groups (R464 to R466) -/

/-- Event `e` is not reserved (R77, R343, R468). -/
def eventExists (e : Nat) : Bool := e < 400 && !(58 ≤ e && e ≤ 63) && !(72 ≤ e && e ≤ 79) && !(92 ≤ e && e ≤ 95)

/-- R465: an event pulse reaches the keystone; a reserved event is never raised. -/
def execEventRaise (e : Nat) (s : State) : Out := actIf (e < 400) (when (eventExists e) (Dev.raise e)) s

/-- What CLEAR of group `g` does, with the events `again` raised in the same KCLK cycle: they stay set and are delivered (R464, R465). -/
def effClear (g : Nat) (again : List Nat) : Eff := fun _ v d =>
  let d1 := d.wr (0x1400 + g) 1 (andNot (d.rd (0x1400 + g) 1) v)
  (0, (again.filter (fun e => e / 16 = g && eventExists e)).foldl (fun x e => x.raise e) d1)

/-- R464: CLEAR of an event group. -/
def execClear (g : Nat) (again : List Nat) (w : Wr) (s : State) : Out :=
  actIf (g < 25) (Dev.write (effClear g again) (0x1400 + g) 3 w) s

/-- What a write of MASK of group `g` does: where an event of the group becomes pending it is delivered (R466). -/
def effMask (g : Nat) : Eff := fun _ v d =>
  let was := d.rd (0x1400 + g) 2
  let d1 := d.wr (0x1400 + g) 2 v
  let new := (List.range 16).filter (fun i => bit i was && !bit i v && bit i (d.rd (0x1400 + g) 1))
  (0, new.foldl (fun x _ => x.deliver g) d1)

/-- R466: a write of MASK. -/
def execMask (g : Nat) (w : Wr) (s : State) : Out := actIf (g < 25) (Dev.write (effMask g) (0x1400 + g) 2 w) s

/-! ## Watchdog (R469 to R471) -/

/-- The watchdog of core `k` restarts with the WD_TIMEOUT of this moment (R470). -/
def Dev.wdRestart (k : Nat) (d : Dev) : Dev :=
  { d with wdCores := Tbl.set (fun _ => CoreTimer.init) d.wdCores k ⟨d.now, d.rd 0x141A 2⟩ }

/-- What WD_KICK does: core `v`'s timeout restarts (R470). -/
def effKick : Eff := fun _ v d => if 3 < v then (abRange, d) else (0, d.wdRestart v)

/-- What a write of WD_ENABLE does: a core whose bit it sets starts its timeout (R470). -/
def effWdEnable : Eff := fun _ v d =>
  let new := (List.range 4).filter (fun k => bit k v && !bit k (d.rd 0x141A 1))
  (0, new.foldl (fun x k => x.wdRestart k) (d.wr 0x141A 1 v))

/-- R470: WD_KICK. -/
def execWdKick (w : Wr) (s : State) : Out := act (Dev.write effKick 0x141A 3 w) s

/-- The jobs of the cores on planisher `p`: queued ones end with CANCELLED, a running batch stops after its current SA, any other running
job completes (R226, R471). Whether any was cancelled, and the block. -/
def Dev.cancelCores (cores : List Nat) (p : Nat) (x : Bool × Dev) : Bool × Dev :=
  let d := x.2
  let pl := d.pl p
  let gone := pl.queue.filter (fun j => j.ofCores cores)
  let batch := match pl.exec with
    | some j => j.ofCores cores && j.code = 2
    | none => false
  let d1 := if batch then d.setPl p { pl with exec := pl.exec.map (fun j => { j with stop := true }) } else d
  let d2 := d1.endJobs p 9 (fun j => j.ofCores cores && gone.contains j)
  (x.1 || batch || !gone.isEmpty, d2)

/-- The jobs of the cores on every planisher. Whether any was cancelled, and the block. -/
def Dev.cancelAll (cores : List Nat) (d : Dev) : Bool × Dev :=
  (List.range 5).foldl (fun x p => Dev.cancelCores cores p x) (false, d)

/-- The same as the cluster is reset; E57 where any was cancelled. -/
def Dev.cancelJobs (cores : List Nat) (d : Dev) : Dev :=
  let r := Dev.cancelAll cores d
  if r.1 then r.2.raise 57 else r.2

/-- The watchdog of core `k` runs: it is enabled, the cluster runs, and the core is not held in reset. -/
def Dev.wdRuns (d : Dev) (k : Nat) : Bool := bit k (d.rd 0x141A 1) && d.boot.clusterRuns && !d.wdHeld.contains k

/-- Core `k` expires in CCLK cycle `t` (R471), with E57 once for the expiry; the expiries of the last 60 s are kept for R472. -/
def Dev.wdExpires (k t : Nat) (d : Dev) : Dev :=
  if !d.wdRuns k then d
  else
    let d1 : Dev := { d with wdHeld := k :: d.wdHeld, wdTimes := d.wdTimes.filter (fun x => t < x + 96000000000) ++ [t] }
    (Dev.cancelAll [k] (((d1.count 32 0x141A 4 1).wr 0x141A 5 k).raise 5)).2.raise 57

/-- CCLK cycle `t`: core `k` expires where its timeout has passed without a restart (R470). -/
def Dev.wdTime (k t : Nat) (d : Dev) : Dev :=
  let x := Tbl.get (fun _ => CoreTimer.init) d.wdCores k
  if x.since + 1600000 * x.timeout ≤ t then d.wdExpires k t else d

/-- R471: a core's watchdog expires. -/
def execWdExpiry (k t : Nat) (s : State) : Out := actAt (k < 4) t (Dev.wdTime k t) s

/-- Core `k` is released, and its timeout restarts (R471). -/
def Dev.coreRestart (k : Nat) (d : Dev) : Dev :=
  if d.wdHeld.contains k then ({ d with wdHeld := d.wdHeld.filter (· != k) } : Dev).wdRestart k else d

/-- R471: the expired core is released. -/
def execCoreRestart (k : Nat) (s : State) : Out := actIf (k < 4) (Dev.coreRestart k) s

/-! ## Slice fencing (R473 to R478) -/

/-- The slice event. -/
def sliceEvent (s : Nat) : Nat := quadEvent (s / 16) 6

/-- Slice `s` is fenced (R475). -/
def Dev.fence (s : Nat) (d : Dev) : Dev :=
  let d1 : Dev := { d with assay := { d.assay with reclaimed := d.assay.reclaimed.filter (· != s) } }
  tracking (d.slicePairs s) (fun x => ((x.wr (0x2600 + s) 1 2).count 32 (0x2600 + s) 0x15 1).raise (sliceEvent s)) d1

/-- What FENCE of slice `s` does (R474). -/
def effFence (s : Nat) : Eff := fun _ _ d =>
  if d.answersOff (sliceDom s) then (abState, d)
  else if d.isFenced s then (0, d)
  else (0, (d.wrBit (0x2600 + s) 0x13 5 true).fence s)

/-- R474: FENCE. -/
def execFence (k : Nat) (w : Wr) (s : State) : Out := actIf (k < 64) (Dev.write (effFence k) (0x2600 + k) 0x10 w) s

/-- An internal fault of slice `s`: its SLICE_FAULT bit `b`, INJECTED where it came from an injection; the slice is fenced while
FENCE_AUTO is 1, else only the slice event is raised (R474). -/
def Dev.sliceFault (s b : Nat) (inj : Bool) (d : Dev) : Dev :=
  if !d.isOn (sliceDom s) then d
  else
    let d1 := when inj (Dev.wrBit (0x2600 + s) 0x13 6 true) (d.wrBit (0x2600 + s) 0x13 b true)
    if d.isFenced s then d1
    else if d.rd (0x2600 + s) 0x12 = 1 then d1.fence s
    else d1.raise (sliceEvent s)

/-- R474: an internal fault of a slice: 0 DATAPATH_PARITY, 1 KEY_SCHEDULE_ECC, 2 GHASH_CHECK, 3 STAGING_ECC. -/
def execSliceInternalFault (k b : Nat) (s : State) : Out := actIf (k < 64 && b < 4) (Dev.sliceFault k b false) s

/-- The frame that the known-answer test of slice `s` sends through RECIRC, of 60 zero bytes: it never leaves the slice (R478, R484; log
173). -/
def Dev.katFrame (d : Dev) (s : Nat) : Frame :=
  d.newFrame (64 * (s / 16) + s % 8 * 8) (8 ≤ s % 16) true (List.replicate 60 0) d.now

/-- What UNFENCE of slice `s` does: the known-answer test starts (R478). -/
def effUnfence (s : Nat) : Eff := fun r _ d =>
  if !d.isFenced s || !d.assay.reclaimed.contains s || d.rd (0x2600 + s) 0x13 % 32 != 0 then (abState, d)
  else (0, ((d.setBg (8 * d.calOf s + 3) [⟨d.katFrame s, 0⟩]).settleAsks (d.calOf s)).startPend (0x2600 + s) 0x11 (pathOf r))

/-- R478: UNFENCE. -/
def execUnfence (k : Nat) (w : Wr) (s : State) : Out := actIf (k < 64) (Dev.write (effUnfence k) (0x2600 + k) 0x11 w) s

/-- The known-answer test ends (R478): the slice is ON again and its pairs retrain, or KAT_FAIL. -/
def Dev.unfenced (s : Nat) (ok : Bool) (d0 : Dev) : Dev :=
  if !d0.isPending (0x2600 + s) 0x11 then d0
  else
    let d := (d0.setBg (8 * d0.calOf s + 3) []).settleAsks (d0.calOf s)
    if ok then
      let ns := d.slicePairs s
      (ns.foldl (fun x n => x.retrain n) (tracking ns (Dev.wr (0x2600 + s) 1 1) d)).endPend (0x2600 + s) 0x11 0
    else ((d.wrBit (0x2600 + s) 0x13 4 true).raise (sliceEvent s)).endPend (0x2600 + s) 0x11 abInternal

/-- R478: the known-answer test ends. -/
def execUnfenceComplete (k : Nat) (ok : Bool) (s : State) : Out := actIf (k < 64) (Dev.unfenced k ok) s

/-- What FAULT_CLEAR of slice `s` does (R473). -/
def effFaultClear (s : Nat) : Eff := fun _ v d => (0, d.wr (0x2600 + s) 0x13 (andNot (d.rd (0x2600 + s) 0x13) v))

/-- R473: FAULT_CLEAR. -/
def execFaultClear (k : Nat) (w : Wr) (s : State) : Out := actIf (k < 64) (Dev.write (effFaultClear k) (0x2600 + k) 0x14 w) s

/-- One round of Dymbiloth's recovery of fenced slices, as RECOVERY_POLICY asks for it (R469, R477; log 182): the lowest slice fenced and not
reclaimed yet is reclaimed, one at a time; one that is reclaimed and has no fault left is unfenced. -/
def Dev.recoverRound (d : Dev) : Dev :=
  if !d.dymbiloth then d
  else
    let fenced := (List.range 64).filter (fun s => d.isFenced s && d.isOn (bufDom (s / 16)) && (d.linkHolds (0x2600 + s) 0x11).isNone)
    match if bit 0 (d.rd 0x141A 8) && d.assay.reclaiming.isNone then fenced.find? (fun s => !d.assay.reclaimed.contains s) else none with
    | some s => d.write effReclaim 0x8000 0x12 ⟨.cluster, 2, 1, s⟩
    | none =>
      match if bit 1 (d.rd 0x141A 8) then fenced.find? (fun s => d.assay.reclaimed.contains s && d.rd (0x2600 + s) 0x13 % 32 = 0 &&
          !d.isPending (0x2600 + s) 0x11) else none with
      | some s => d.write (effUnfence s) (0x2600 + s) 0x11 ⟨.cluster, 2, 1, 0⟩
      | none => d

/-! ## Die-to-die links (R481) -/

/-- R481: a die-to-die link is reset. -/
def execLinkReset (q : Nat) (s : State) : Out := actIf (q < 4) (Dev.linkReset q) s

/-- The access that has waited longest for link `q` is answered with INTERNAL (R481). -/
def Dev.linkTimeout (q : Nat) (d : Dev) : Dev :=
  if d.rd (0x141C + q) 1 = 2 then d
  else
    match d.linkWaits.find? (fun w => w.unit = q) with
    | none => d
    | some w => ({ d with linkWaits := d.linkWaits.erase w } : Dev).failWait abInternal w

/-- R481: an access has waited 1 ms for its link. -/
def execLinkAccessTimeout (q : Nat) (s : State) : Out := actIf (q < 4) (Dev.linkTimeout q) s

/-! ## Loopbacks and generators (R482, R483) -/

/-- What a write of LOOPBACK of pair `n` does (R482). -/
def effLoopback (n : Nat) : Eff := fun _ v d =>
  if 4 < v || ((v = 1 || v = 3) && d.mode n = pmCarrier) then (abRange, d)
  else if d.mode n = pmOff then (abState, d)
  else (0, (d.wr (0x9030 + quadOf n) (1 + n % 64) v).syncPairLf n)

/-- R482: LOOPBACK. -/
def execLoopback (n : Nat) (w : Wr) (s : State) : Out :=
  actIf (n < 256) (Dev.write (effLoopback n) (0x9030 + n / 64) (1 + n % 64) w) s

/-- What a write of subindex `j` (.01 to .07) of generator `q` does (R483). -/
def effGenerator (q j : Nat) : Eff := fun _ v d =>
  if j = 1 && v / 64 != q then (abRange, d)
  else if d.rd (0x9010 + q) 0xA = 1 then (abState, d)
  else (0, d.wr (0x9010 + q) j v)

/-- What TG_START of generator `q` does (R483). -/
def effTgStart (q : Nat) : Eff := fun _ _ d =>
  let n := d.rd (0x9010 + q) 1
  let c := d.rd (0x9010 + q) 5
  if c != 0xFFFFFFFF && !(c < 32768 && d.chanServes c false n) then (abRange, d)
  else if !d.isUp n then (abState, d)
  else
    let d1 := (d.setGen q (0, false)).wr (0x9010 + q) 0xA 1
    (0, d1.settleAsks (d1.calOf (d1.genSlice q)))

/-- R483: TG_START. -/
def execTgStart (q : Nat) (w : Wr) (s : State) : Out := actIf (q < 4) (Dev.write (effTgStart q) (0x9010 + q) 8 w) s

/-- What TG_STOP of generator `q` does: the stream ends with the frame in progress, at once where there is none (R483). -/
def effTgStop (q : Nat) : Eff := fun _ _ d =>
  let d1 := (d.setGen q ((d.gen q).1, true)).genEnd q
  (0, d1.settleAsks (d1.calOf (d1.genSlice q)))

/-- R483: TG_STOP. -/
def execTgStop (q : Nat) (w : Wr) (s : State) : Out := actIf (q < 4) (Dev.write (effTgStop q) (0x9010 + q) 9 w) s

end Sys2Proof.Machine
end

