-- ==== Sys2Proof/Machine/Boot.lean ====
section
/-! DEFINITION. Resets and start-up (R489 to R510), with the power and clock events that start a keystone reset (R397, R398, R421,
R423, R441). -/
namespace Sys2Proof.Machine

/-- BOOT_STATE codes (R496). -/
def btRom : Nat := 0
def btLoading : Nat := 1
def btVerifying : Nat := 2
def btCode : Nat := 3
def btSealed : Nat := 4
def btReady : Nat := 5
def btFailed : Nat := 6

/-- BOOT_STATE. -/
def Dev.bootState (d : Dev) : Nat := d.rd 0x1020 4

/-- BOOT_STATE made `v`. -/
def Dev.setBoot (v : Nat) (d : Dev) : Dev := d.wr 0x1020 4 v

/-! ## The keystone reset (R491 to R493) -/

/-- The objects a keystone reset keeps (R493): the tamper monitors', the slots' USAGE, SLOT_STATE and GENERATION, VAULT_STATE,
ZEROISE_COUNT and ZEROISE_CAUSE, EPOCH_HIGH, RESET_CAUSE and RESET_COUNT; MIN_SVN and KEY_REVOKED are in antifuse (R502). -/
def keptAcross (i j : Nat) : Bool :=
  i = 0x7800 || within 0x7810 13 i || (i = 0x1020 && (j = 1 || j = 2)) || (within 0x3010 64 i && j ≤ 3) ||
  (i = 0x3000 && [2, 4, 5].contains j) || (within 0x2500 256 i && j = 0x19) || (i = 0x1010 && (j = 5 || j = 6))

/-- XTAL_STATUS: the condition of source 8 (R424). -/
def Dev.xtalStatus (d : Dev) : Dev := d.wr 0x1200 3 (b2n (d.src 8).present)

/-- The balls from the rails' rise on, and as a keystone reset leaves them (R521): VID high-impedance, PPS_OUT and SPI_CLK low, SPI_CS_N and CAN_TXD high. -/
def resetBalls : List Emit :=
  [.vid none, .pin "PPS_OUT" false, .pin "SPI_CLK" false, .pin "SPI_CS_N" true, .pin "CAN_TXD" true]

/-- The steps of R492 up to the release: what is kept stays, all else is as after reset, and the keystone is held: domains 139 to 141
are OFF. -/
def Dev.wipe (d : Dev) : Dev :=
  let d1 := d.defaults (fun i j => !keptAcross i j)
  let held : Dev :=
    { Dev.reset with
      dict := d1.dict
      answer := d.answer
      now := d.now
      emits := (if d.onMain then resetBalls else []) ++ d.emits
      fresh := d.fresh
      tap := d.tap
      tamper := d.tamper
      boot := { Dev.reset.boot with
        compat := d.boot.compat
        bootSrc := d.boot.bootSrc
        clusterRuns := false
        holding := d.boot.holding
        sysRstLow := d.boot.sysRstLow
        perstLow := d.boot.perstLow }
      power := { Dev.reset.power with supply := d.power.supply }
      keys := { Dev.reset.keys with slots := d.keys.slots, sealing := none, dapDue := d.keys.dapDue } }
  d.formedPairs.foldl (fun x n => x.syncPairLf n) (([139, 140, 141].foldl (fun x k => x.setPower k psOff) held).wr 0x1216 1 0).xtalStatus

/-- A keystone reset begins with RESET_CAUSE `cause` and its hold; a further cause extends one in progress (R491). -/
def Dev.keystoneReset (cause hold : Nat) (d : Dev) : Dev :=
  if 2 ≤ d.power.supply then d
  else
    let h := d.boot.holding ||| hold
    let d1 : Dev := { d with boot := { d.boot with holding := h } }
    if d.boot.holding != 0 then d1 else (d1.wipe.wr 0x1020 1 cause).count 32 0x1020 2 1

/-! ## Boot attempts (R497 to R502) -/

/-- The boot ROM begins to read flash copy `c` (R498, R526): the quad-I/O fast read with a 4-byte address and the mode byte; the first
read of an attempt comes after Enable 4-Byte Address Mode. DESIGN CHOICE: one read takes the whole image (log 193). -/
def Dev.flashRead (c : Nat) (d : Dev) : Dev :=
  (when (c = 0) (Dev.emit (.spi [0xB7])) d).emit (.spi (0xEB :: (toBE 4 (c * 0x1000000) ++ [0x00])))

/-- The boot ROM's failure: BOOT_FAIL, E1, and the next source, or FAILED where none remains (R502, R510). After the second flash copy
the host is waited for where it is a source; a firmware restart reads its image again by itself. -/
def Dev.bootFail (code : Nat) (d : Dev) : Dev :=
  let d1 := ({ d with boot := { d.boot with image := none } } : Dev).wr 0x1020 5 code |>.raise 1
  if d.boot.source = 0 then (({ d1 with boot := { d1.boot with source := 1 } } : Dev).setBoot btLoading).flashRead 1
  else if d.boot.source = 1 && d.boot.bootSrc = 2 then
    ({ d1 with boot := { d1.boot with source := 2 } } : Dev).setBoot (if d.boot.restart then btLoading else btRom)
  else ({ d1 with boot := { d1.boot with clusterRuns := false } } : Dev).setBoot btFailed

/-- An attempt stops with no further source (R497, R507, R508): the control cluster halts. -/
def Dev.bootStop (code : Nat) (d : Dev) : Dev :=
  (({ d with boot := { d.boot with clusterRuns := false, image := none } } : Dev).wr 0x1020 5 code |>.raise 1).setBoot btFailed

/-- An attempt begins in BOOT_STATE `st` from the first source of BOOT_SRC: FAIL_DETAIL reads 0 (R497, R499). -/
def Dev.attempt (st : Nat) (d : Dev) : Dev :=
  ({ d with boot := { d.boot with failDetail := 0, record := 0, image := none, clusterRuns := true,
                                  source := if d.boot.bootSrc = 1 then 2 else 0 } } : Dev).setBoot st

/-- An attempt in BOOT_STATE `st` with its read of flash copy A begun, where flash is the first source (R497, R498). -/
def Dev.fetch (st : Nat) (d : Dev) : Dev := when (d.boot.bootSrc = 0 || d.boot.bootSrc = 2) (Dev.flashRead 0) (d.attempt st)

/-- The release of a keystone reset with the straps sampled (R492, R497): the entry key, the generator and the sealing key, where a
zeroisation in progress lets them; VID drives the fused code (R524); domains 139 to 141 start; the boot ROM starts and raises E4 for a cause other than POWER_ON. -/
def Dev.letGo (compat : Bool) (src : Nat) (d : Dev) : Dev :=
  let d1 : Dev := { d with boot := { d.boot with holding := 0, compat := compat, bootSrc := src } }
  let d2 := if d1.vaultState = 1 then ({ d1 with boot := { d1.boot with keysWait := true } } : Dev) else d1.loadKeys
  let d3 := ((d2.emit (.vid (some Config.vidCode.toNat))).fetch btRom).settle
  let d4 := when (d3.rd 0x1020 1 != 0) (Dev.raise 4) d3
  when (src = 3) (Dev.bootStop 9) d4

/-! ## Causes of a keystone reset -/

/-- SYSCLK absent for 1 µs (R397). -/
def execSysclkLost (s : State) : Out := act (Dev.keystoneReset 2 0xA) s

/-- PLL `p` loses lock (R398): it relocks; a quadrant loses its clock, PLLs 4 and 7 hold the keystone in reset. -/
def Dev.pllLoss (p : Nat) (d : Dev) : Dev :=
  if d.pll p != 2 || 2 ≤ d.power.supply then d
  else
    let d1 := d.pllLossOf p
    if p < 4 then d1.quadClockLost p
    else if p = 5 || p = 6 then d1.crossReset (p - 1)
    else if p = 4 || p = 7 then
      let other := 11 - p
      let d2 := d1.keystoneReset 3 0xC
      let d3 := d2.wr (0x1210 + p) 1 1
      if d1.pll other = 2 then d3 else d3.wr (0x1210 + other) 1 1
    else d1

/-- R398: a PLL loses lock. -/
def execPllLockLoss (p : Nat) (s : State) : Out := actIf (p < 8) (Dev.pllLoss p) s

/-- The SYS_RST_N pin low for 1 µs, or high again; its rising edge leaves the test access port in BYPASS (R491). -/
def Dev.sysRst (low : Bool) (d : Dev) : Dev :=
  let d1 : Dev := { d with boot := { d.boot with sysRstLow := low } }
  if low then d1.keystoneReset 1 9
  else
    let d2 : Dev := { d1 with boot := { d1.boot with holding := clrBit 0 d1.boot.holding } }
    when d.boot.sysRstLow Dev.tapRelease d2

/-- R491: SYS_RST_N. -/
def execSysRstN (low : Bool) (s : State) : Out := act (Dev.sysRst low) s

/-- 2 ms after the last cause ended (R491): released, with the straps read. -/
def Dev.resetRelease (compat : Bool) (src : Nat) (d : Dev) : Dev :=
  if d.boot.holding = 0 || bit 0 d.boot.holding || bit 2 d.boot.holding then d else d.letGo compat src

/-- R491: a keystone reset is released. -/
def execResetRelease (compat : Bool) (src : Nat) (s : State) : Out := actIf (src < 4) (Dev.resetRelease compat src) s

/-- What SOFT_RESET does (R495): a keystone reset; the straps are read at its release, and the boot ROM raises E7 (R468). -/
def effSoftReset (compat : Bool) (src : Nat) : Eff := fun _ v d =>
  if v != 0x52535430 then (abRange, d) else (0, ((d.keystoneReset 4 8).letGo compat src).raise 7)

/-- R495: SOFT_RESET. -/
def execSoftReset (compat : Bool) (src : Nat) (w : Wr) (s : State) : Out :=
  actIf (src < 4) (Dev.write (effSoftReset compat src) 0x1020 3 w) s

/-! ## Main power (R421, R423, R441, R490) -/

/-- Every source armed again, its samples forgotten (R424, R437). -/
def Dev.armAll (d : Dev) : Dev :=
  { d with tamper := { d.tamper with disarmed := false, disarmed3 := false,
                                     srcs := d.tamper.srcs.map (fun e => (e.1, { e.2 with samples := 0, count := 0 })) |>.filter
                                       (fun e => e.2 != Src.init) } }

/-- Main power judged lost (R421, R424): everything but AON and VAULT is gone; sources 0 to 4 are disarmed; a zeroisation in progress
runs to its end (R256). -/
def Dev.mainLost (d : Dev) : Dev :=
  if d.power.supply = 2 then d
  else
    let d1 : Dev := { d with power := { d.power with supply := 2 }, boot := { d.boot with holding := 0 } }
    let d2 := (d1.disarm.discard 3).wipe
    let d3 : Dev := { d2 with tamper := { d2.tamper with disarmed3 := true, zeroDone := false }, tap := ⟨1, []⟩ }
    let d4 := d3.count 32 0x7800 0xD 1
    if d4.vaultState = 1 then (d4.setVault 2).count 32 0x3000 4 1 else d4

/-- R421: main power is judged lost. -/
def execMainPowerLost (s : State) : Out := act Dev.mainLost s

/-- Main power judged restored: the balls take their states (R521), and the deferred responses are carried out before power-on reset releases
(R424, R441). -/
def Dev.mainBack (d : Dev) : Dev :=
  if d.power.supply != 2 then d
  else
    let t := d.tamper
    let d1 := ({ d with power := { d.power with supply := 3 }, emits := resetBalls ++ d.emits, tamper := { t with due := 0, deferred := [], overwrote := false } } : Dev).armAll.xtalStatus
    let d2 := when (bit 0 t.due) Dev.quiesce d1
    let d3 := when (bit 1 t.due) Dev.holdReset d2
    let d4 := t.deferred.foldl (fun x i => x.raise (16 + i)) d3
    let d5 := when (t.due != 0) (Dev.raise 30) d4
    when t.overwrote (Dev.raise 31) d5

/-- R441: main power is judged restored. -/
def execMainPowerRestored (s : State) : Out := act Dev.mainBack s

/-- Power-on reset releases (R490): RESET_CAUSE is POWER_ON; where SYS_RST_N is low, its reset goes on holding the keystone and the balls (R521). -/
def Dev.powerOn (compat : Bool) (src : Nat) (d : Dev) : Dev :=
  if d.power.supply != 3 then d
  else
    let d1 := ({ d with power := { d.power with supply := 0 } } : Dev).wr 0x1020 1 0
    if d.boot.sysRstLow then d1.keystoneReset 1 9 else d1.letGo compat src

/-- R490: power-on reset releases. -/
def execPowerOnReset (compat : Bool) (src : Nat) (s : State) : Out := actIf (src < 4) (Dev.powerOn compat src) s

/-- AON powered after both supplies were absent (R423): every AON and VAULT object takes its default, the slots are empty, STICKY bit
5 is set; what is fused stays. -/
def Dev.aonUp (d : Dev) : Dev :=
  let fuses := d.defaults (fun i j => !((i = 0x7800 && j = 4) || (i = 0x1010 && (j = 5 || j = 6))))
  let d1 : Dev := { d with
    dict := fuses.dict
    keys := { d.keys with slots := [], dapDue := false }
    tamper := { Dev.reset.tamper with disarmed := true, disarmed3 := true, zeroLow := d.tamper.zeroLow }
    power := { d.power with supply := 2 }
    boot := { d.boot with holding := 0 }
    tap := ⟨1, []⟩ }
  (d1.wrBit 0x7800 1 5 true).wipe

/-- R423: AON is powered up. -/
def execAonPowerUp (s : State) : Out := act Dev.aonUp s

/-! ## The endpoint (R494, R500) -/

/-- A host boot is reading its image. -/
def Dev.hostReads (d : Dev) : Bool := d.boot.source = 2 && d.bootState = btLoading

/-- PERST_N falls or rises (R494, R499). -/
def Dev.perst (low : Bool) (d : Dev) : Dev :=
  let d1 : Dev := { d with boot := { d.boot with perstLow := low } }
  if low then
    let d2 := d1.loseEndpoint
    when d2.hostReads (Dev.bootFail 1) d2
  else d1

/-- R494: PERST_N. -/
def execPerstN (low : Bool) (s : State) : Out := act (Dev.perst low) s

/-- Configuration space is ready and the link trains to a speed and width that PCIE_LINK reports (R77, R500). -/
def Dev.pcieUp (link : Nat) (d : Dev) : Dev :=
  if d.boot.perstLow || !d.engineRuns || !d.isOn 139 then d
  else ({ d with boot := { d.boot with configReady := true } } : Dev).wr 0x1530 1 (link % 256)

/-- R500: the PCI Express link trains. -/
def execPcieLinkTrained (link : Nat) (s : State) : Out := act (Dev.pcieUp link) s

/-- The boot capability, little-endian (R499). PRESUMED: version 1 and no next capability in the first header (log 194). -/
def Dev.bootCap (d : Dev) : Bytes :=
  toLE 4 (0x000B + 2 ^ 16) ++ toLE 4 (0x5154 + 2 ^ 16 + 0x28 * 2 ^ 20) ++
    toLE 4 (d.bootState + d.rd 0x1020 5 * 2 ^ 8 + b2n d.boot.ready * 2 ^ 16 + d.boot.bootSrc * 2 ^ 17 + b2n d.boot.compat * 2 ^ 19) ++
    toLE 4 0 ++ toLE 8 d.boot.imageAddr ++ toLE 4 d.boot.imageLen ++
    toLE 4 (d.rd 0x1020 1 + min (d.rd 0x1020 2) (2 ^ 24 - 1) * 2 ^ 8) ++ toLE 4 d.boot.failDetail ++ toLE 4 0

/-- What a configuration read of 4 bytes at offset `o` of the boot capability completes with: none for Configuration Request Retry Status,
until configuration space is ready (R499, R500). -/
def Dev.capRead (o : Nat) (d : Dev) : Option Nat := if d.boot.configReady then some (leAt o 4 d.bootCap) else none

/-- DOORBELL with the IMAGE_ADDR and IMAGE_LEN written before it (R499, R502): it starts a host attempt where the host is the source
waited for, or from FAILED where the host is a source; else it is ignored. -/
def Dev.doorbell (addr len : Nat) (d : Dev) : Dev :=
  if !d.boot.configReady || d.boot.perstLow || d.boot.ready then d
  else
    let d1 : Dev := { d with boot := { d.boot with imageAddr := addr % 2 ^ 64 / 4096 * 4096, imageLen := len % 2 ^ 32 } }
    let isSource := d.boot.bootSrc = 1 || d.boot.bootSrc = 2
    if isSource && ((d.bootState = btRom && d.boot.source = 2) || (d.bootState = btFailed && !d.boot.sealed)) then
      let d2 := d1.attempt btLoading
      { d2 with boot := { d2.boot with source := 2 } }
    else d1

/-- R499: DOORBELL of the boot capability. -/
def execDoorbell (addr len : Nat) (s : State) : Out := act (Dev.doorbell addr len) s

/-! ## The image (R498, R501) -/

/-- The boot ROM has read an image, or failed to: it verifies (R498). -/
def Dev.imageLoaded (img : Option Bytes) (d : Dev) : Dev :=
  if d.bootState = btLoading || (d.bootState = btRom && d.boot.source != 2 && d.engineRuns) then
    ({ d with boot := { d.boot with image := img } } : Dev).setBoot btVerifying
  else d

/-- R498: an image has been read. -/
def execImageLoaded (img : Option Bytes) (s : State) : Out := act (Dev.imageLoaded img) s

/-- Bytes `a` to `a + n - 1` of an image are zero. -/
def zeroAt (a n : Nat) (b : Bytes) : Bool := (slice a n b).all (· == 0)

/-- The first check of Table Boot failure codes that an image fails; 0 where it passes every one (R501). -/
def Dev.imageCode (d : Dev) : Nat :=
  match d.boot.image with
  | none => 1
  | some b =>
    let len := beAt 8 4 b
    let k := beAt 5 1 b
    let pay := slice 512 len b
    if b.length < 512 || b.length != 512 + len || (d.boot.source = 2 && d.boot.imageLen != 512 + len) then 1
    else if slice 0 5 b != [0x51, 0x44, 0x59, 0x4D, 1] || !zeroAt 6 2 b || !zeroAt 129 15 b || !zeroAt 288 224 b then 2
    else if len < 4096 || 16776704 < len || len % 16 != 0 || len ≤ beAt 16 4 b then 3
    else if 3 < k || bit k (d.rd 0x1010 6) || sha384 (slice 32 97 b) != (Config.keyHash k).toNat then 4
    else if beAt 12 4 b < d.rd 0x1010 5 then 5
    else if !ecdsaVerify (slice 32 97 b) (slice 0 192 b) (slice 192 96 b) then 6
    else if sha384 pay != beAt 144 48 b then 7
    else 0

/-- The checks are made (R501, R502): FIRMWARE_INFO, E0 and the boot code, or the failure. -/
def Dev.verify (d : Dev) : Dev :=
  if d.bootState != btVerifying then d
  else
    let c := d.imageCode
    if c != 0 then d.bootFail c
    else
      let b := d.boot.image.getD []
      let d1 := (((d.wr 0x1010 1 (beAt 20 12 b)).wr 0x1010 2 (beAt 12 4 b)).wr 0x1010 3 (beAt 5 1 b)).wr 0x1010 4 d.boot.source
      let d2 : Dev := { d1 with boot := { d1.boot with image := none, record := 0, clusterRuns := true } }
      ((d2.wr 0x1020 5 0).raise 0).setBoot btCode

/-- R501: the image is verified. -/
def execImageVerify (s : State) : Out := act Dev.verify s

/-! ## Boot code and readiness (R51, R503, R505 to R510) -/

/-- What PROT_SEAL does (R51, R505): the protection map is frozen, the BOOT role is gone, E2, BOOT_STATE SEALED, SPI_WP_N falls
(R519). -/
def effProtSeal : Eff := fun _ _ d =>
  let d1 := ({ d with boot := { d.boot with sealed := true } } : Dev).wr 0x1300 2 1
  (0, when (d.rd 0x103D 1 = 5) (Dev.driveGpio 13) ((d1.raise 2).setBoot btSealed))

/-- R51: PROT_SEAL. -/
def execProtSeal (w : Wr) (s : State) : Out := act (Dev.write effProtSeal 0x1300 1 w) s

/-- The control cluster reset as a whole (R472, R508): its cores' jobs are dealt with, no core is held, their timeouts and the MKA bindings
start over. -/
def Dev.clusterReset (d : Dev) : Dev :=
  let d1 := (List.range 4).foldl (fun x k => x.wdRestart k) (d.cancelJobs [0, 1, 2, 3])
  let d2 := (List.range 64).foldl (fun x b => if x.rd (0x3080 + b) 1 = 1 && x.rd (0x3080 + b) 0x10 != 4 then x.mkaStarts b else x) d1
  { d2 with wdHeld := [], wdTimes := [] }

/-- 10 s have passed since E0 (R508): without PROT_SEAL the control cluster is reset and the boot begins again from fetch, the third time it fails; a firmware
restart without E3 fails. -/
def Dev.bootTimeout (d : Dev) : Dev :=
  if d.boot.restart then (if d.bootState = btCode then d.bootStop 10 else d)
  else if d.bootState != btCode || d.boot.sealed then d
  else if 2 ≤ d.boot.timeouts then ({ d with boot := { d.boot with timeouts := d.boot.timeouts + 1 } } : Dev).bootStop 10
  else ({ d with boot := { d.boot with timeouts := d.boot.timeouts + 1 } } : Dev).clusterReset.fetch btLoading

/-- R508: a boot times out. -/
def execBootTimeout (s : State) : Out := act Dev.bootTimeout s

/-- The MKA bindings are loaded (R509): Dymbiloth runs every one that is enabled. -/
def Dev.mkaLoaded (d : Dev) : Bool :=
  (List.range 64).all (fun b => d.rd (0x3080 + b) 1 != 1 || (Tbl.get (fun _ => none) d.keys.mka b).isSome)

/-- Dymbiloth's checks pass (R509, R510): BOOT_STATE READY, BOOT_TIME in ms, E3. -/
def Dev.deviceReady (ms : Nat) (d : Dev) : Dev :=
  let waits := if d.boot.restart then d.bootState = btCode else d.bootState = btSealed
  if !waits || !d.clusterUp || !(List.all [139, 140, 141] d.isOn) || !d.timeRuns || !d.mkaLoaded then d
  else ((({ d with boot := { d.boot with ready := true, restart := false } } : Dev).setBoot btReady).wr 0x1020 6 (ms % 2 ^ 32)).raise 3

/-- R509: DEVICE_READY. -/
def execDeviceReady (ms : Nat) (s : State) : Out := act (Dev.deviceReady ms) s

/-- WD_ESCALATE expiries within 60 s: the control cluster restarts as a whole (R472, R510). -/
def Dev.firmwareRestart (d : Dev) : Dev :=
  if d.wdTimes.length < d.rd 0x141A 6 || !d.boot.clusterRuns then d
  else
    let d1 := ((d.raise 6).count 32 0x141A 7 1).clusterReset
    ({ d1 with boot := { d1.boot with restart := d1.boot.sealed } } : Dev).fetch btLoading

/-- R472: the control cluster restarts. -/
def execFirmwareRestart (s : State) : Out := act Dev.firmwareRestart s

/-- What SVN_ADVANCE does (R503). -/
def effSvnAdvance : Eff := fun _ v d =>
  if d.rd 0x1010 2 < v || v < d.rd 0x1010 5 then (abRange, d) else (0, d.wr 0x1010 5 v)

/-- R503: SVN_ADVANCE. -/
def execSvnAdvance (w : Wr) (s : State) : Out := act (Dev.write effSvnAdvance 0x1010 7 w) s

/-- What KEY_REVOKE does (R503). -/
def effKeyRevoke : Eff := fun _ v d =>
  if 3 < v then (abRange, d)
  else if v = d.rd 0x1010 3 || setBit v (d.rd 0x1010 6) % 16 = 15 then (abState, d)
  else (0, d.wr 0x1010 6 (setBit v (d.rd 0x1010 6)))

/-- R503: KEY_REVOKE. -/
def execKeyRevoke (w : Wr) (s : State) : Out := act (Dev.write effKeyRevoke 0x1010 8 w) s

end Sys2Proof.Machine
end

