-- ==== Sys2Proof/Machine/Injection.lean ====
section
/-! DEFINITION. Fault injection (R485 to R488). -/
namespace Sys2Proof.Machine

/-- The points of kind "now" (R486). -/
def injNow (p : Nat) : Bool := [0x05, 0x09, 0x0C, 0x0D, 0x0F, 0x12, 0x13].contains p || (0x20 ≤ p && p ≤ 0x2C)

/-- The instances of a point, and where the argument names the block, the arguments, are those of a block that exists (R486). -/
def injBlockOk (p inst arg : Nat) : Bool :=
  match p with
  | 0x01 => inst < 16
  | 0x02 => inst < 4
  | 0x03 => inst < 4
  | 0x04 => inst < 2
  | 0x05 => inst < 64
  | 0x06 => inst < 4
  | 0x07 => inst < 5
  | 0x08 => inst < 256
  | 0x09 => inst < 512
  | 0x0A => inst < 256
  | 0x0B => inst < 32768
  | 0x0C => inst = 0 && arg < 65536
  | 0x0D => inst < 8
  | 0x0E => inst < 64
  | 0x0F => inst < 16
  | 0x10 => inst < 16
  | 0x11 => inst < 16
  | 0x12 => inst = 0
  | 0x13 => inst < 4
  | _ => 0x20 ≤ p && p ≤ 0x2C && inst = 0

/-- Point, instance and argument are in range (R486). -/
def Dev.injRangeOk (d : Dev) (p inst arg : Nat) : Bool :=
  injBlockOk p inst arg &&
  match p with
  | 0x01 => fld 31 17 arg = 0
  | 0x02 => fld 15 14 arg = 0 && fld 31 17 arg = 0
  | 0x03 => arg = 0 || arg = 65536
  | 0x04 => arg = 0 || arg = 65536
  | 0x05 => arg < 4
  | 0x06 => arg = 0 || arg = 1 || arg = 65536 || arg = 65537
  | 0x09 => 1 ≤ arg && arg ≤ 1000000
  | 0x0B => arg = 0 && chRx (d.chan inst)
  | 0x0C => true
  | 0x10 => arg < plumbBlocks inst
  | 0x11 => let law := inst % 8
            let loc := arg % 65536
            placeOk law loc || (law = 4 && (List.range 70).any (fun i => creditCode i = loc))
  | _ => arg = 0

/-- The domain of a point's block. -/
def Dev.injDomain (d : Dev) (p inst arg : Nat) : Option Nat :=
  match p with
  | 0x01 => some (tabDom (injTable inst / 4))
  | 0x02 => some (tabDom inst)
  | 0x03 => some (bufDom inst)
  | 0x04 => some (137 + inst)
  | 0x05 => some (sliceDom inst)
  | 0x06 => some (bufDom inst)
  | 0x07 => if inst < 4 then some (tabDom inst) else none
  | 0x08 => some (lineDom (inst / 8))
  | 0x09 => some (if inst < 256 then lineDom (inst / 8) else sysDom ((inst - 256) / 8))
  | 0x0A => some (sliceDom (dSliceOf inst))
  | 0x0B => some (sliceDom (dSliceOf (chPair (d.chan inst))))
  | 0x0C => some (tabDom (arg / 16384))
  | 0x0D => if inst < 4 then some (bufDom inst) else none
  | 0x0E => some (sliceDom inst)
  | 0x0F => some (tabDom (inst / 4))
  | 0x10 => some (tabDom (inst / 4))
  | 0x12 => some 141
  | 0x13 => some 136
  | _ => none

/-- The STATE condition of a point's row holds: the firing is refused (R486). -/
def Dev.injStateBad (d : Dev) (p inst arg : Nat) : Bool :=
  match p with
  | 0x04 => d.stackState inst != 2
  | 0x05 => d.isFenced inst
  | 0x08 => match d.sideOfLane inst with
    | some n => !d.carrierLine n
    | none => true
  | 0x0A => d.rd (0x2500 + inst) 0x10 != 3
  | 0x0C => !((d.sa arg).state = saReady || (d.sa arg).state = saActive)
  | 0x0F => !d.isLocked (injTable inst)
  | 0x10 => d.rd (0x4010 + injTable inst) 0x15 = 0
  | 0x13 => !bit inst (d.rd 0x141A 1)
  | _ => if 0x20 ≤ p then d.fused (p - 0x20) || d.rd (0x7810 + (p - 0x20)) 2 = 0 else false

/-- Signal detect of lane `l` forced absent for `us` µs from CCLK cycle `t` on (point 0x09): the lane restarts. -/
def Dev.injLos (l us t : Nat) (d0 : Dev) : Dev :=
  let d : Dev := { d0 with darkUntil := Tbl.set (fun _ => 0) d0.darkUntil l (t + 1600 * us) }
  if d.laneState l = lnLocked then d.loseLane l
  else if d.laneState l = lnCdrLock || d.laneState l = lnAdapt then d.setLaneState l lnSignalWait
  else d

/-- Tamper source `i` alarms by injection (R487, R488): ZEROISE is carried out only where armed, and an arming serves one. -/
def Dev.injTamper (i : Nat) (d : Dev) : Dev :=
  let armed := d.rd 0x9000 9 = 1
  let real := armed && bit 4 (d.responseOf i) && !d.inAlarm i
  (when real (Dev.wr 0x9000 9 0) d.ticksNow).fire [i] false true armed

/-- What a point of kind "now" does, in CCLK cycle `t`. -/
def Dev.injAct (p inst arg t : Nat) (d : Dev) : Dev :=
  match p with
  | 0x05 => d.sliceFault inst arg true
  | 0x09 => d.injLos inst arg t
  | 0x0C => d.threshold arg true
  | 0x0D => d.pulseOverflow inst
  | 0x0F => d.leaseEnds (injTable inst)
  | 0x12 => d.refuseJump.2
  | 0x13 => d.wdExpires inst t
  | _ => d.injTamper (p - 0x20)

/-- What INJ_FIRE does in CCLK cycle `t` (R486). -/
def effInjFire (t : Nat) : Eff := fun _ _ d =>
  let p := d.rd 0x9000 1
  let inst := d.rd 0x9000 2
  let arg := d.rd 0x9000 3
  if (match d.injDomain p inst arg with | some k => injBlockOk p inst arg && d.answersOff k | none => false) then (abPoweredOff, d)
  else if !d.injRangeOk p inst arg || (injNow p && d.rd 0x9000 4 != 1) then (abRange, d)
  else if d.injStateBad p inst arg then (abState, d)
  else if d.inject.isSome then (abBusy, d)
  else
    let d1 := d.wr 0x9000 8 0
    if injNow p then (0, ((d1.injAct p inst arg t).injCount).wr 0x9000 7 2)
    else (0, ({ d1 with inject := some ⟨p, inst, arg, d.rd 0x9000 4⟩ } : Dev).wr 0x9000 7 1)

/-- R486: INJ_FIRE. -/
def execInjFire (t : Nat) (w : Wr) (s : State) : Out := actAt true t (Dev.write (effInjFire t) 0x9000 5 w) s

/-- What INJ_CANCEL does: a PENDING injection is withdrawn (R486). -/
def effInjCancel : Eff := fun _ _ d =>
  if d.inject.isSome then (0, ({ d with inject := none } : Dev).wr 0x9000 7 3) else (0, d)

/-- R486: INJ_CANCEL. -/
def execInjCancel (w : Wr) (s : State) : Out := act (Dev.write effInjCancel 0x9000 6 w) s

/-- What a write of TEST_ZEROISE_ARMED does (R488). -/
def effArm : Eff := fun _ v d => (0, when (v = 1) (Dev.raise 15) (d.wr 0x9000 9 v))

/-- R488: TEST_ZEROISE_ARMED. -/
def execTestZeroiseArmed (w : Wr) (s : State) : Out := act (Dev.write effArm 0x9000 9 w) s

/-! ## Occurrences of points of kind "next" (R486)

Each detector meets the armed injection in its own operation. The command brings the opportunity that no other command brings, a
transfer on a die-to-die link, or performs the detector's ordinary operation at the place its operands name. -/

/-- The frame that leaves a staging store which slice `s` paces ends in cycle `t`. -/
def Dev.underrun (s t : Nat) (d : Dev) : Dev :=
  match (pacedSides s).find? (fun k => match d.staged k with
    | x :: _ => x.left
    | [] => false) with
  | some k => (d.cutHead k).endHead k t
  | none => d

/-- An opportunity for the armed injection's detector in cycle `t`. Operand `n` names the side (0x03) or queue (0x04), or the bit position
of the lane word `b` (0x08). Lookups, SA fetches, verdicts and audit passes have commands of their own. -/
def Dev.injOccur (n t : Nat) (b : Bytes) (d : Dev) : Dev :=
  match d.inject with
  | none => d
  | some j =>
    match j.point with
    | 0x03 => when (n < 512 && quadOf (n % 256) = j.inst) (Dev.ifRuns (bufDom j.inst) (Dev.select n t 0)) d
    | 0x04 => when (n < 262144) (Dev.ifRuns (bufDom (n / 65536)) (Dev.readback n 0)) d
    | 0x06 => d.linkAttempt j.inst
    | 0x07 => Dev.ifPlanisher j.inst (Dev.keyBus j.inst true) d
    | 0x08 => d.laneWordRx j.inst n b 0 none []
    | 0x0A => Dev.ifRuns (sliceDom (dSliceOf j.inst)) (Dev.carrierVerdict j.inst) d
    | 0x0E => Dev.ifRuns (sliceDom j.inst) (Dev.underrun j.inst t) d
    | 0x10 => Dev.ifRuns (tabDom (injTable j.inst / 4)) (Dev.plumbPass (injTable j.inst)) d
    | _ => d

/-- R486: the armed injection corrupts an opportunity of its detector. -/
def execInjectionOccurrence (n t : Nat) (b : List Byte) (s : State) : Out := actAt true t (Dev.injOccur n t b) s

end Sys2Proof.Machine
end

