-- ==== Sys2Proof/Machine/Effects.lean ====
section
/-! DEFINITION. The dictionary as one whole: what a write of any object does (`effectOf`), what a read of any object answers
(`Dev.readObj`), the actions the schedule queue has handed out (R375), DICTIONARY_WRITE and the boot-configuration record (R36, R505). -/
namespace Sys2Proof.Machine

/-! ## Objects that no other file owns -/

/-- ACCESS and DEFAULT_ACCESS keep no BOOT bit and no reserved bit (R48). -/
def accessMask (v : Nat) : Nat := v &&& 0x1E1E1E1E

/-- What a write of region `r` does (R47, R48). -/
def effRegion (r j : Nat) : Eff := fun _ v d =>
  let i := 0x1300 + r
  if j = 1 && d.rd i 4 = 1 && d.rd i 2 < v then (abRange, d)
  else if j = 2 && d.rd i 4 = 1 && v < d.rd i 1 then (abRange, d)
  else if j = 4 && v = 1 && d.rd i 2 < d.rd i 1 then (abRange, d)
  else (0, d.wr i j (if j = 3 then accessMask v else v))

/-- What a write of an authentication slot does (R62). -/
def effAuthSlot (i j : Nat) : Eff := fun _ v d =>
  if v != 0xFF && (64 ≤ v || d.usage v != 4) then (abRange, d) else (0, d.wr i j v)

/-- A session closed by its ID (R64). -/
def Dev.closeSession (id : Nat) (d : Dev) : Dev :=
  { d with dap := { d.dap with sessions := d.dap.sessions.filter (fun x => x.id != id),
                               waits := d.dap.waits.filter (fun w => w.2.sid != id) } }

/-- What SESSION_CLOSE does with ID `v` (R64); an ID that no session has is refused with RANGE. -/
def effSessionClose : Eff := fun _ v d =>
  if d.dap.sessions.any (fun x => x.id = v) then (0, d.closeSession v) else (abRange, d)

/-- What a write of DEFAULT_TX_CH or DEFAULT_RX_CH of pair `n` does (R118). -/
def effDefaultCh (n : Nat) (rx : Bool) : Eff := fun _ v d =>
  if v != 0xFFFFFFFF && !d.chanServes v rx n then (abRange, d) else (0, d.wr (0x2400 + n) (if rx then 0x11 else 0x10) v)

/-- What a write of a RESERVE object of planisher `p` does (R219). -/
def effReserve (p j : Nat) : Eff := fun _ v d =>
  let others := (([3, 4, 5] : List Nat).filter (· != j)).foldl (fun a k => a ||| d.rd (0x3050 + p) k) 0
  if 7 < popCount 8 (v ||| others) then (abRange, d)
  else if v &&& others != 0 then (abConflict, d)
  else (0, d.wr (0x3050 + p) j v)

/-- What a write of .02 to .0F of MKA binding `b` does (R249). -/
def effBinding (b j : Nat) : Eff := fun _ v d => if d.rd (0x3080 + b) 1 = 1 then (abState, d) else (0, d.wr (0x3080 + b) j v)

/-- What a write of a job window's parameter or data does (R221). -/
def effJobField (w j : Nat) : Eff := fun _ v d => if d.winBusy w then (abBusy, d) else (0, d.wr (0x3060 + w) j v)

/-- A TIME96 target stored (R374). -/
def effTarget (i j : Nat) : Eff := fun _ v d => if d.badTarget v then (abRange, d) else (0, d.wr i j v)

/-- What a write of STACK_ENABLE does (R311, R313). -/
def effStackEnable : Eff := fun _ v d => (0, (d.wr 0x5003 0xC3 v).syncStacks)

/-- What a write of CLK10M_ENABLE does: 0 ends the measurement in progress; one begins at the first edge after a write of 1 (R393; log 13). -/
def effClk10m : Eff := fun _ v d =>
  (0, ({ d with time := { d.time with clk10m := if v = 1 then d.time.clk10m else none } } : Dev).wr 0x7000 0xD v)

/-- DRBG_RESEED with start-up health tests whose outcome is free (R216). -/
def effReseedFree : Eff := fun r v d => let x := d.draw; effReseed (x.1 % 2 = 0) r v x.2

/-! ## The effect of every write -/

/-- Ports, policies, carriers, lanes. -/
def effPorts (c : Cls) (n i j : Nat) : Eff :=
  match c with
  | .linePort =>
    if j = 1 then effPortMode n else if j = 2 then effPortWidth n else if j = 3 then effPortCompat n
    else if j = 6 then effPortPower n else if j = 0x19 then store i j else effWhileOff n i j
  | .sysPort => if j = 6 then effPortPower (256 + n) else effWhileOff n i j
  | .policy =>
    if j ≤ 7 then effWhileOff n i j else if j = 0x10 then effDefaultCh n false else if j = 0x11 then effDefaultCh n true
    else if j = 0x13 then effCauseClear (.pair n) 0 else effCauseEnable (.pair n)
  | .carrier =>
    if j = 1 then effMapping n else if j = 5 then effKdfSlot n else if j ≤ 0xB then effWhileOff n i j
    else if j = 0xC then effAutoLoad n
    else if j = 0xF then effSwitchAtFc n else if j = 0x13 then effCauseClear (.carrier n) 0
    else if j = 0x14 then effCauseEnable (.carrier n) else if j = 0x1A then effLoadNext n else if j = 0x1B then effSwitchNow n
    else if j = 0x1C then effSwitchAtTime n else if j = 0x1F then effEpochHighClear n else store i j
  | .portTs => if j = 0x31 then effTsPop n else store i j
  | .lane =>
    if j = 2 then effLaneRate n else if j = 0xA || j = 0xB then effPrbs n j else if j = 0xF then effPrbsClear n
    else if j = 0x10 then effPrbsInsert n else store i j
  | .loop => effLoopback (64 * n + (j - 1))
  | _ => store i j

/-- The vault, planishers, SA stores and bindings. -/
def effKeys (c : Cls) (n i j : Nat) : Eff :=
  match c with
  | .vault => if j = 1 then effZeroise else if j = 3 then effZeroiseClear else effReseedFree
  | .slot => if j = 1 then effUsage n else effErase n
  | .planisher => effReserve n j
  | .jobWin => if j = 0xA then effSubmit n 0 else if j = 0xF then effCancel n else effJobField n j
  | .saQuad =>
    if j = 2 then effNotePop n else if j = 8 then effTarget i j else if j = 9 then effSchedSubmit n
    else if j = 0xA then effSchedCancel n else store i j
  | .mkaBinding => if j = 1 then effMkaEnable n else effBinding n j
  | .ctx => if j = 3 then effCtxErase else store i j
  | .saWin => if j = 1 then effSaCmd n else store i j
  | _ => store i j

/-- Tables, buffers, schedulers, gates, samplers, calendars, in CCLK cycle `t`. -/
def effBlocks (c : Cls) (n t i j : Nat) : Eff :=
  match c with
  | .tableDesc =>
    if j = 8 then effMigrate n else if j = 0xA then effLock n t else if j = 0xB then effUnlock n
    else if j = 0xF then effCauseClear (.table n) 0 else if j = 0x10 then effCauseEnable (.table n)
    else if j = 0x15 then effPlumbEnable n else if j = 0x17 then effPlumbSet n else store i j
  | .tableWin => if j = 1 then effTableCmd n false else store i j
  | .learn => if j = 7 then effLearnPop n else store i j
  | .buffer =>
    if j = 0xC4 then effCauseClear (.buffer n) 0 else if j = 0xC5 then effCauseEnable (.buffer n)
    else if j = 0xC8 then effPuntPool n else if within 0xD0 15 j then effPoolSize n (j - 0xD0)
    else if within 0xF0 15 j then effPoolOwner n (j - 0xF0) else store i j
  | .sched => if j = 2 || j = 3 || j = 5 then effPortShape n j t else store i j
  | .gate =>
    if j = 1 then effGateEnable n t else if j = 2 then fun _ v d => (0, (d.wr i j v).gateSync n t)
    else if j = 6 then effTarget i j else if j = 7 then effConfigChange n else if j = 8 then effConfigCancel n else store i j
  | .sampler => if j = 0xC8 then store i j else effSampler n t j
  | .calendar =>
    if j = 2 then effSwap n else if j = 4 then effHotEdit n else if within 0x10 64 j then effBank n j
    else if j = 0x50 || j = 0x51 then effBgBase n j else if j = 0x65 then effBgWaitClear n
    else if j = 0x71 then effCauseClear (.calendar n) 0 else if j = 0x72 then effCauseEnable (.calendar n) else effCalStore n j
  | .deep => effStackEnable
  | .queueWin => if j % 16 = 0 then effQueueCmd (4 * n + (j - 0xC0) / 16) t else store i j
  | _ => store i j

/-- The time unit, assay, events, faults, injection, pins, in CCLK cycle `t`. -/
def effUnits (c : Cls) (n t i j : Nat) : Eff :=
  match c with
  | .timeUnit => if j = 5 then effStep else if j = 7 then effTimeSet else if j = 0xD then effClk10m else store i j
  | .comparator => if j = 1 then effFunction n else effComparator n j
  | .assay =>
    if j = 1 then effAuditEnable else if j = 4 then effReportPop else if j = 0xB then effRebase
    else if j = 0x10 then effCheckpoint else if j = 0x12 then effReclaim else store i j
  | .counterWin => if j = 1 then effSelect n t else effClearMask n
  | .perf =>
    if j = 1 then effPcEnable n else if j = 2 then effPcClear n else if j = 4 then effPcSaturatedClear n
    else if j < 0x50 then effPerfSelect n (j - 0x10) else effPerfThreshold n (j - 0x50)
  | .eventGroup => if j = 2 then effMask n else if j = 3 then effClear n [] else store i j
  | .watchdog => if j = 1 then effWdEnable else if j = 3 then effKick else store i j
  | .sliceFault =>
    if j = 0x10 then effFence n else if j = 0x11 then effUnfence n else if j = 0x14 then effFaultClear n else store i j
  | .generator => if j = 8 then effTgStart n else if j = 9 then effTgStop n else effGenerator n j
  | .injection => if j = 5 then effInjFire t else if j = 6 then effInjCancel else if j = 9 then effArm else store i j
  | .gpio => if j = 1 then effGpioFunc n else if j = 2 then effGpioOut n else store i j
  | .pin => effPpsPlace
  | _ => store i j

/-- Identity, resets, clocks, domains, protection, transports, tamper. -/
def effKeystone (c : Cls) (n i j : Nat) : Eff :=
  match c with
  | .behaviour => effBehaviour
  | .resetObj => if j = 3 then fun r v d => let x := d.draw; effSoftReset (bit 2 x.1) (x.1 % 4) r v x.2 else effDomainReset
  | .firmware => if j = 7 then effSvnAdvance else effKeyRevoke
  | .clockMon => effPulseClear
  | .domain => if j = 1 then effPowerReq n else store i j
  | .prot => if j = 1 then effProtSeal else fun _ v d => (0, d.wr i j (accessMask v))
  | .region => effRegion n j
  | .session => if j = 1 then fun _ _ d => (abState, d) else if j = 2 then effSessionClose else store i j
  | .mgmt => if j = 5 then effAuthSlot i j else store i j
  | .can => if j = 4 then effAuthSlot i j else store i j
  | .tamper => if j = 2 then effStickyClear else if j = 6 then effResponseClear else if j = 0xB then effLogPop else store i j
  | .tamperSource => if j = 9 then effFuseBlow n else effSource n j
  | _ => store i j

/-- What an accepted write of object `i.j` does in CCLK cycle `t`: its owner's effect, or the value stored (R36, R38). -/
def effectOf (t i j : Nat) : Eff :=
  match objAt i j with
  | none => store i j
  | some (c, n, _) =>
    match c with
    | .linePort | .sysPort | .policy | .carrier | .portTs | .lane | .loop => effPorts c n i j
    | .vault | .slot | .planisher | .jobWin | .saQuad | .mkaBinding | .ctx | .saWin => effKeys c n i j
    | .tableDesc | .tableWin | .learn | .buffer | .sched | .gate | .sampler | .calendar | .deep | .queueWin => effBlocks c n t i j
    | .timeUnit | .comparator | .assay | .counterWin | .perf | .eventGroup | .watchdog | .sliceFault | .generator | .injection
    | .gpio | .pin => effUnits c n t i j
    | _ => effKeystone c n i j

/-! ## The value of every read -/

/-- Channel nodes attached to side `s` (R319, R323). -/
def Dev.nodeCount (d : Dev) (s : Nat) : Nat :=
  let named := (d.chans.filter (fun e => chOn e.2 && d.feeds s (8 * e.1))).map (·.1)
  ((named ++ (d.queuesWhere (d.feeds s)).map (· / 8)).eraseDups).length

/-- Bytes held for side `s` (R323). -/
def Dev.backlog (d : Dev) (s : Nat) : Nat := (d.queuesWhere (d.feeds s)).foldl (fun a x => a + (d.queue x).bytes) 0

/-- The values that are not registers but follow the state (R35): ports, carriers, lanes. -/
def Dev.livePort (d : Dev) (c : Cls) (n i j : Nat) : Nat :=
  match c, j with
  | .linePort, 4 => d.portState n
  | .linePort, 3 => if d.levelDev = 1 then 1 else d.rd i j
  | .sysPort, 1 => d.mode n
  | .sysPort, 2 => d.sysWidth n
  | .sysPort, 5 => if d.mode n = pmOff then 0 else d.sysRate n (d.mode n)
  | .carrier, 1 => if d.level1 n then 1 else d.rd i j
  | .carrier, 0x1D => d.keyStatus n
  | .lane, 2 => d.laneRate n
  | _, _ => d.rd i j

/-- The same for every other block. -/
def Dev.liveUnit (d : Dev) (c : Cls) (n i j : Nat) : Nat :=
  match c, j with
  | .timeUnit, 1 => d.timeNow
  | .timeUnit, 2 => d.compact
  | .timeUnit, 3 => d.sfNs
  | .eventCtl, 1 => d.pins
  | .domain, 6 => b2n (d.isHeld n)
  | .behaviour, 1 => d.levelDev
  | .behaviour, 2 => b2n d.boot.compat
  | .ctx, 2 => d.ctxStatus
  | .saQuad, 0xB => d.exhaustedSas n
  | .tableDesc, 0xC => d.lockNow n
  | .sched, 0x10 => d.nodeCount n
  | .sched, 0x11 => d.backlog n
  | .gate, 0x1B => d.operPair n
  | .slice, 4 => d.inFlight n
  | .buffer, 0xC7 => d.spillRate (some n) d.now
  | .deep, 0xC1 => d.spillRate none d.now
  | .calendar, k =>
    let s := if k = 5 then n else d.calOf n
    if k = 0x54 then let g := d.grantOf s; g.1.getD 7 + 8 * b2n g.2 else d.rd (0x6000 + s) k
  | .tamperSource, 7 => d.sourceState n
  | _, _ => d.rd i j

/-- The value object `i.j` reads as, and the block after the read: a free value is drawn for a pin no one drives, a die temperature,
the ticks of the AON crystal and a counter that follows the clock (R38, R428, R459, R518, R533); an object of an absorbed pair reads its default (R15). DESIGN CHOICE: every EXEC object reads zero, SESSION_OPEN with its result
among them, as R38 allows (log 158). -/
def Dev.readVal (d : Dev) (i j : Nat) : Nat × Dev :=
  match objAt i j with
  | none => (numSub i, d)
  | some (c, n, row) =>
    if row.acc = .wo || row.acc = .exec || row.acc = .execBoot || row.acc = .execClear then (0, d)
    else
      match c with
      | .gpio =>
        if j = 3 then
          match d.gpioLevel n with
          | some b => (b2n b, d)
          | none => let x := d.draw; (x.1 % 2, x.2)
        else (d.rd i j, d)
      | .tamper => if j = 9 then let x := d.ticksNow; (x.rd i j, x) else (d.liveUnit c n i j, d)
      | .dieTemp => if j < 5 && d.answersOff (bufDom (j - 1)) then (0, d) else let x := d.draw; (x.1 % 2 ^ 16, x.2)
      | .perf => if within 0x90 64 j then let x := d.perfFresh n (j - 0x90); (x.rd i j, x) else (d.rd i j, d)
      | .linePort | .sysPort | .policy | .carrier | .lane =>
        (if d.absorbedAt i && !(c = .linePort && j = 3) then dflt (okey i j) else d.livePort c n i j, d)
      | _ => (d.liveUnit c n i j, d)

/-- The abort code of a read (R43, R79). DESIGN CHOICE: NUM_SUB of an index whose objects lie in several domains follows the domain of
its first kind's subindex 2 (log 159). -/
def Dev.readAbort (d : Dev) (r : Role) (i j : Nat) : Nat :=
  match objAt i j with
  | none =>
    if (insts i).isEmpty then abNoObject
    else if j != 0 then abNoSubindex
    else if !d.mayRead r i j then abRoleDenied
    else if (match insts i with
      | (c, n) :: _ => (match domainIn c n 2 with | some k => d.answersOff k | none => false)
      | [] => false) then abPoweredOff
    else 0
  | some (c, n, _) =>
    if !d.mayRead r i j then abRoleDenied
    else if (match domainIn c n j with | some k => d.answersOff k | none => false) then abPoweredOff
    else 0

/-- The type of what `i.j` reads as: NUM_SUB is a U8 (R35). -/
def typeOf (i j : Nat) : Ty :=
  match objAt i j with
  | some (_, _, row) => row.ty
  | none => .u8

/-- A read of object `i.j` on a path, answered (R38, R43, R79). -/
def Dev.readObj (p : Path) (i j : Nat) (d0 : Dev) : Dev :=
  let r := d0.roleOf p
  let d := d0.accessed r
  let a := d.readAbort r i j
  if a != 0 then d.respond p i j a 0 0 0
  else
    let x := d.readVal i j
    x.2.respond p i j 0 (typeOf i j).code (typeOf i j).size (x.1 % 2 ^ (8 * (typeOf i j).size))

/-! ## Commands -/

/-- R36: a write of any object, in CCLK cycle `t`. -/
def execDictionaryWrite (i j t : Nat) (w : Wr) (s : State) : Out := act (fun d => (d.at t).write (effectOf t i j) i j w) s

/-- The owner of a handed action takes it at its target (R241, R194, R334, R375). -/
def Dev.fireOwner (o : Owner) (t : Nat) (d : Dev) : Dev :=
  match o with
  | .channel c an => d.trigger ⟨true, c, an, d.now⟩
  | .carrier n => d.requestSwitch n
  | .gate g => d.takeover g t

/-- The quadrant whose time fires an owner's action (R375). -/
def Owner.quad : Owner → Nat
  | .channel c _ => c / 8192
  | .carrier n => quadOf n
  | .gate g => quadOf (g % 256)

/-- The first of the handed actions that are due in CCLK cycle `t` fires: the one of the earliest target, submitted first (R375, R376). -/
def Dev.scheduledAction (t : Nat) (d : Dev) : Dev :=
  match firstOf (fun e => d.due e.owner.quad t e) d.time.handed with
  | none => d
  | some e => ({ d with time := { d.time with handed := d.time.handed.erase e } } : Dev).fireOwner e.owner t

/-- R375: a block fires a handed action. -/
def execScheduledAction (t : Nat) (s : State) : Out := actAt true t (Dev.scheduledAction t) s

/-- A record of the boot configuration in CCLK cycle `t` (R505 to R507): performed in the BOOT role; one that would write PORT_MODE
other than OFF is skipped while a deferred QUIESCE stands; a refusal stops the boot with FAIL_DETAIL. -/
def Dev.bootRecord (i j ty len v t : Nat) (d : Dev) : Dev :=
  if d.bootState != btCode || d.boot.restart || d.boot.sealed || !d.clusterUp then d
  else
    let n := d.boot.record
    let d1 : Dev := { d with boot := { d.boot with record := n + 1 } }
    if within 0x2000 256 i && j = 1 && v != 0 && bit 4 (d.rd 0x7800 5) then d1
    else
      let d2 := d1.doWrite (effectOf t i j) .cluster i j ty len v
      if d2.answer.abort = 0 then d2
      else ({ d2 with boot := { d2.boot with failDetail := d2.answer.abort + n % 65536 * 65536 } } : Dev).bootStop 8

/-- R505: a boot-configuration record. -/
def execBootConfigRecord (i j ty len v t : Nat) (s : State) : Out := act (fun d => (d.at t).bootRecord i j ty len v t) s

end Sys2Proof.Machine
end

