-- ==== Sys2Proof/Machine/Bar.lean ====
section
/-! DEFINITION. PCI Express: the BAR0 aperture (R52 to R56), BAR2 with its rings and apertures (R57 to R60, R260), MSI-X (R61). -/
namespace Sys2Proof.Machine

/-! ## BAR0 (R52 to R56) -/

/-- The sizes and alignments a BAR0 write may have (R53). -/
def wordAccess (off len : Nat) : Bool := (len = 4 || len = 8) && off % len = 0

/-- The sizes and alignments a BAR0 read may have (R53). -/
def readAccess (off len : Nat) : Bool := wordAccess off len || (off % 16 = 0 && 0 < len && len ≤ 16)

/-- The 12 VALUE bytes of a value of a type: an octet string first byte first, any other little-endian (R36, R52). -/
def valueBytes (ty size v : Nat) : Bytes := if ty = 7 then toBE size v ++ List.replicate (12 - size) 0 else toLE 12 v

/-- The value that VALUE bytes spell. -/
def ofValueBytes (ty size : Nat) (b : Bytes) : Nat := if ty = 7 then ofBE (b.take size) else ofLE (b.take size)

/-- The whole value of entry `i.j` captured; a refusal captures all ones (R54, R55). -/
def Dev.capture (i j : Nat) (d : Dev) : Dev :=
  let x := d.readObj .host i j
  let v := if x.answer.abort = 0 then ofLE (valueBytes x.answer.ty x.answer.len x.answer.value) else 2 ^ 96 - 1
  { x with bar0 := { x.bar0 with capture := some (okey i j, v) } }

/-- A read at byte `b` of entry `i.j` captures first: it includes byte 0, or it needs a value of an entry whose capture is not
held (R54). -/
def Dev.needsCapture (d : Dev) (i j b : Nat) : Bool := b = 0 || (b < 12 && (d.bar0.capture.map (·.1)) != some (okey i j))

/-- A BAR0 read performed: its bytes, least significant first. -/
def Dev.bar0Now (off len : Nat) (d : Dev) : Dev :=
  let (i, j, b) := entryAt off
  let cap := d.needsCapture i j b
  let x := if cap then d.capture i j else d
  { x with answer := ⟨if cap then x.answer.abort else 0, 0, len, ofLE (slice b len (x.entryBytes i j))⟩ }

/-- A BAR0 read (R53, R54, R481, R504); one that captures crosses the link of its entry (R486). -/
def Dev.bar0Read (off len : Nat) (d : Dev) : Dev :=
  let (i, j, b) := entryAt off
  if !d.endpointUp then d
  else if !readAccess off len then d.emit .unsupported
  else if !d.boot.ready then d.allOnes len
  else if !d.needsCapture i j b then d.bar0Now off len
  else
    let x := d.linkMeets i j
    match x.linkHolds i j with
    | some q => { x with linkWaits := x.linkWaits ++ [⟨q, i, j, ⟨.host, 0, len, off⟩, true, none⟩] }
    | none => x.bar0Now off len

/-- R54: a read of BAR0 in CCLK cycle `t`. -/
def execBar0ReadCapture (off len t : Nat) (s : State) : Out := act (fun d => (d.at t).bar0Read off len) s

/-- The staging cleared, and tagged with an entry where bytes follow. -/
def Dev.setStaging (of : Option Nat) (l : Tbl (Option Byte)) (d : Dev) : Dev :=
  { d with bar0 := { d.bar0 with stagingOf := of, staging := l } }

/-- The byte of an entry whose arrival commits the object (R54). -/
def lastByte (size : Nat) : Nat := if size ≤ 4 then 3 else if size ≤ 8 then 7 else 11

/-- A write of `m` at byte `b` of the entry of an existing object of type `ty` (R54). -/
def Dev.stage (i j b : Nat) (ty : Ty) (m : Bytes) (t : Nat) (d : Dev) : Dev :=
  let key := okey i j
  let old := if d.bar0.stagingOf = some key then d.bar0.staging else []
  let last := lastByte ty.size
  if b ≤ last && last < b + m.length then
    let d1 := d.setStaging none []
    match (List.range b).mapM (fun k => Tbl.get (fun _ => none) old k) with
    | none => d1.respond .host i j abType 0 0 0
    | some below => d1.write (effectOf t i j) i j ⟨.host, ty.code, ty.size, ofValueBytes ty.code ty.size (below ++ m)⟩
  else
    let kept := (List.range m.length).foldl (fun x k => if b + k < 8 then Tbl.set (fun _ => none) x (b + k) m[k]? else x) old
    d.setStaging (some key) kept

/-- ABORT of entry `i.j` made `a`, and nothing else (R53). -/
def Dev.noted (i j a : Nat) (d : Dev) : Dev :=
  { d with bar0 := { d.bar0 with status := Tbl.set (fun _ => 0) d.bar0.status (okey i j) a } }

/-- A BAR0 write of the low `len` bytes of `v`, in CCLK cycle `t`: ABORT takes one of another size or alignment at every time (R53), and
LAST_ABORT from DEVICE_READY on (R504; log 28), DESIGN CHOICE: one within ENTRY_STATUS too (log 214); a write that arrives for another entry clears the staging, be it refused or within
ENTRY_STATUS (R54). -/
def Dev.bar0Write (off len v t : Nat) (d0 : Dev) : Dev :=
  let (i, j, b) := entryAt off
  let d := if d0.bar0.stagingOf = some (okey i j) then d0 else d0.setStaging none []
  if !d0.endpointUp then d0
  else if !wordAccess off len then if d0.boot.ready then d.respond .host i j abType 0 0 0 else d.noted i j abType
  else if !d0.boot.ready then d0
  else if 12 ≤ b then d
  else
    match objAt i j with
    | none => (d.setStaging none []).write (effectOf t i j) i j ⟨.host, 0, 0, 0⟩
    | some (_, _, row) => d.stage i j b row.ty (toLE len v) t

/-- R54: a write of BAR0. -/
def execBar0Write (off len v t : Nat) (s : State) : Out := act (fun d => (d.at t).bar0Write off len v t) s

/-! ## MSI-X (R61) -/

/-- Every message recorded in the pending-bit array whose vector is not masked is sent (R61). -/
def Dev.flushPba (d : Dev) : Dev :=
  if !d.msix.enable || d.msix.fmask then d
  else
    (List.range 64).foldl (fun x v =>
      if bit v x.msix.pba && !bit 96 (Tbl.get msixDflt x.msix.table v) then
        ({ x with msix := { x.msix with pba := clrBit v x.msix.pba } } : Dev).sendMsix v
      else x) d

/-- Entry `v` of the MSI-X table written. -/
def Dev.setVector (v w : Nat) (d : Dev) : Dev :=
  ({ d with msix := { d.msix with table := Tbl.set msixDflt d.msix.table v w } } : Dev).flushPba

/-- The host clears the mask of vector `v`, or the Function Mask (R61). -/
def Dev.msixMaskClear (v : Option Nat) (d : Dev) : Dev :=
  if !d.endpointUp then d
  else
    match v with
    | none => ({ d with msix := { d.msix with fmask := false } } : Dev).flushPba
    | some k => if d.boot.ready && k < 64 then d.setVector k (clrBit 96 (Tbl.get msixDflt d.msix.table k)) else d

/-- R61: a mask clears. -/
def execMsixMaskClear (v : Option Nat) (s : State) : Out := act (Dev.msixMaskClear v) s

/-- The host writes MSI-X Enable and the Function Mask: where Enable becomes 1 with the Function Mask clear, one message goes for each
group that is routed to MSI-X and has a pending event (R61). -/
def Dev.msixEnable (on fmask : Bool) (d : Dev) : Dev :=
  if !d.endpointUp then d
  else
    let d1 : Dev := { d with msix := { d.msix with enable := on, fmask := fmask } }
    let d2 := d1.flushPba
    if on && !d.msix.enable && !fmask then
      (List.range 25).foldl (fun x g =>
        let r := x.rd (0x1400 + g) 4
        if bit 6 r && x.groupPending g then x.sendMsix (fld 5 0 r) else x) d2
    else d2

/-- R61: MSI-X Enable. -/
def execMsixEnable (on fmask : Bool) (s : State) : Out := act (Dev.msixEnable on fmask) s

/-! ## BAR2 (R57, R58, R260) -/

/-- The register block of a ring (R58). -/
def Ring.image (x : Ring) : Bytes :=
  toLE 8 x.base ++ toLE 4 x.size ++ toLE 4 x.vector ++ toLE 4 x.prod ++ toLE 4 x.cons ++ toLE 4 (b2n x.enable) ++
    toLE 4 (b2n x.runs + 2 * b2n x.error) ++ toLE 8 x.wb

/-- `b` with the bytes from `o` on replaced by `m`. -/
def overlay (o : Nat) (m b : Bytes) : Bytes := b.take o ++ m ++ b.drop (o + m.length)

/-- An index counted modulo the ring's length, where it has one (R58). -/
def Ring.wrap (x : Ring) (i : Nat) : Nat := if 6 ≤ x.size && x.size ≤ 16 then i % 2 ^ x.size else i

/-- The registers of ring `r` after a write that left the block as `b`: the RO index and STATUS stay (R58). -/
def Ring.after (r : Nat) (x : Ring) (b : Bytes) : Ring :=
  let y : Ring := { x with base := leAt 0 8 b, size := leAt 8 4 b, vector := leAt 12 4 b, enable := bit 0 (leAt 24 4 b), wb := leAt 32 8 b }
  let z : Ring := if r < 64 then { y with cons := y.wrap (leAt 20 4 b) } else { y with prod := y.wrap (leAt 16 4 b) }
  { z with baseError := z.enable && 6 ≤ z.size && z.size ≤ 16 && z.base % 4096 != 0 }

/-- Unconsumed descriptors of inject or table-DMA ring `r` discarded: the device's index advances to PROD, a descriptor in progress being
consumed as it ends, or with them where it waits for its tables' domain (R58, R286; log 30). -/
def Dev.ringFlush (r : Nat) (d0 : Dev) : Dev :=
  let d1 := if 128 ≤ r then d0.dmaDrain (r - 128) d0.dmaLeft else d0
  let d : Dev := { d1 with dmaRuns := d1.dmaRuns.filter (fun e => e.1 + 128 != r) }
  let x := d.ring r
  if x.cons = x.prod then d
  else
    let d1 := d.setRing r { x with cons := x.prod }
    let d2 := when (x.wb != 0) (Dev.emit (.hostWrite x.wb (toLE 4 x.prod))) d1
    when (bit 31 x.vector) (Dev.sendMsix (fld 5 0 x.vector)) d2

/-- A write of `m` at byte `o` of the register block of ring `r` (R58). -/
def Dev.ringWrite (r o : Nat) (m : Bytes) (d : Dev) : Dev :=
  let x := d.ring r
  let b := overlay o m x.image
  let d1 := d.setRing r (Ring.after r x b)
  when (64 ≤ r && bit 1 (leAt 24 4 b)) (Dev.ringFlush r) d1

/-- The ring whose block lies at BAR2 offset `o` (R57). -/
def ringAt (o : Nat) : Option Nat :=
  if within 0x2000000 0x4000 o then some ((o - 0x2000000) / 256)
  else if within 0x2010000 0x4000 o then some (64 + (o - 0x2010000) / 256)
  else if within 0x2020000 0x800 o then some (128 + (o - 0x2020000) / 256)
  else none

/-- The BAR2 offset of the block of ring `r` (R57). -/
def ringBase (r : Nat) : Nat :=
  if r < 64 then 0x2000000 + 256 * r else if r < 128 then 0x2010000 + 256 * (r - 64) else 0x2020000 + 256 * (r - 128)

/-- The table 4q+t whose aperture holds BAR2 offset `o`, below 32 MB (R259). DESIGN CHOICE: what lies between two apertures goes with the one
before, and reads 0 (R57; log 216). -/
def apertureTable (o : Nat) : Nat :=
  let a := o % 0x800000
  4 * (o / 0x800000) + (if a < 0x300000 then 0 else if a < 0x600000 then 1 else if a < 0x610000 then 2 else 3)

/-- The governing index of BAR2 offset `o`, none where HOST always has the right or nothing is there (R57). -/
def governing (o : Nat) : Option Nat :=
  if o < 0x2000000 then some (0x4010 + apertureTable o)
  else
    match ringAt o with
    | some r => some (if r < 64 then 0x1550 else if r < 128 then 0x1551 else 0x4000)
    | none => none

/-- The byte of a table aperture at BAR2 offset `o` (R259, R260). -/
def Dev.apertureByte (d : Dev) (o : Nat) : Byte :=
  let k := apertureTable o
  let a := o % 0x800000
  let b := if k % 4 = 1 then a - 0x300000 else a
  match k % 4 with
  | 2 => nth 0 (tcamImage (d.ent k ((a - 0x600000) / 64))) (a % 64)
  | 3 =>
    let r := (a - 0x610000) / 32
    if r < 8192 then nth 0 (toLE 32 (d.readRecord (k / 4 * 8192 + r))) (a % 32) else 0
  | _ =>
    if b < 0x200000 then nth 0 (slotImage (d.ent k (b / 64))) (b % 64)
    else if b < 0x201000 then nth 0 (slotImage (d.ent k (0x8000 + (b - 0x200000) / 64))) (b % 64)
    else 0

/-- The byte at BAR2 offset `o` (R57, R58, R61). -/
def Dev.bar2Byte (d : Dev) (o : Nat) : Byte :=
  if o < 0x2000000 then (if d.answersOff (tabDom (o / 0x800000)) then 0xFF else d.apertureByte o)
  else
    match ringAt o with
    | some r => nth 0 (d.ring r).image (o % 256)
    | none =>
      if within 0x3000000 0x400 o then nth 0 (toLE 16 (Tbl.get msixDflt d.msix.table ((o - 0x3000000) / 16))) (o % 16)
      else if within 0x3001000 8 o then nth 0 (toLE 8 d.msix.pba) (o % 8)
      else 0

/-- A write of `m` at BAR2 offset `o`; only rings and the MSI-X table take one (R57, R58, R61, R260). -/
def Dev.bar2Store (o : Nat) (m : Bytes) (d : Dev) : Dev :=
  match ringAt o with
  | some r => d.ringWrite r (o % 256) m
  | none =>
    if within 0x3000000 0x400 o then
      let v := (o - 0x3000000) / 16
      d.setVector v (leAt 0 16 (overlay (o % 16) m (toLE 16 (Tbl.get msixDflt d.msix.table v))))
    else d

/-- A BAR2 access of `len` bytes at `o` (R57, R504); a denial is recorded in LAST_ABORT under its governing index (log 152). -/
def Dev.bar2 (o len : Nat) (write : Bool) (v : Nat) (d : Dev) : Dev :=
  if !d.endpointUp then d
  else if !d.boot.ready then (if write then d else d.allOnes len)
  else if (match governing o with | some i => !d.hasRight (if write then 8 else 0) .host i | none => false) then
    let d1 := ((d.count 64 0x1530 3 1).lastAbort ((governing o).getD 0) 0 abRoleDenied).raise 86
    if write then d1 else d1.allOnes len
  else if write then d.bar2Store o (toLE len v)
  else { d with answer := ⟨0, 0, len, ofLE ((List.range len).map (fun x => d.bar2Byte (o + x)))⟩ }

/-- R57: an access of BAR2. -/
def execBar2Access (o len : Nat) (write : Bool) (v : Nat) (s : State) : Out := act (Dev.bar2 o len write v) s

/-- The host writes its own index of ring `r`: CONS of a punt ring, PROD of the others (R58). -/
def execRingDoorbell (r v : Nat) (s : State) : Out :=
  actIf (r < 136) (Dev.bar2 (ringBase r + (if r < 64 then 0x14 else 0x10)) 4 true v) s

/-- CTRL written with FLUSH set and ENABLE as it is (R58). -/
def Dev.flushWrite (p : Nat) (d : Dev) : Dev :=
  d.bar2 (ringBase (64 + p) + 0x18) 4 true (2 + b2n (d.ring (64 + p)).enable)

/-- R58: CTRL.FLUSH of inject ring `p`. -/
def execRingFlush (p : Nat) (s : State) : Out := actIf (p < 64) (Dev.flushWrite p) s

/-! ## Punt and inject (R59, R60) -/

/-- What the device writes into a punt descriptor, from FRAME_LEN on (R59). -/
def puntDesc (f : Punt) (n : Nat) (more : Bool) : Bytes :=
  toLE 2 n ++ toLE 2 (f.pair + 2 ^ 15 * b2n f.line) ++ [BitVec.ofNat 8 f.reason, BitVec.ofNat 8 (1 + 2 * b2n more)] ++
    toLE 4 f.channel ++ toLE 8 f.ts ++ [0, 0, 0, 0]

/-- The first of a list on which `p` holds replaced by `x`, or taken out. -/
def replaceFirst {α : Type} (p : α → Bool) (x : Option α) : List α → List α
  | [] => []
  | y :: l => if p y then x.toList ++ l else y :: replaceFirst p x l

/-- The oldest frame that quadrant `q` holds for punt ring `p` goes into the next posted buffer, at host address `addr` and of BUF_SIZE
`size` (R59). -/
def Dev.puntOut (q p addr size : Nat) (d : Dev) : Dev :=
  let r := d.ring p
  match if d.endpointUp && r.avail then (d.puntQ q).find? (fun f => f.ring = p) else none with
  | none => d
  | some f =>
    let a := r.descAddr p
    if size < 256 then (((d.emit (.hostWrite (a + 10) [0, 0])).emit (.hostWrite (a + 15) [5])).advanceRing p).raise 91
    else
      let part := f.data.take (size / 256 * 256)
      let rest := f.data.drop (size / 256 * 256)
      let d1 := ((d.emit (.hostWrite addr part)).emit (.hostWrite (a + 10) (puntDesc f part.length (!rest.isEmpty)))).advanceRing p
      let mine := fun (g : Punt) => decide (g.ring = p)
      if rest.isEmpty then
        ((d1.setPuntQ q (replaceFirst mine none (d1.puntQ q))).puntCells q f.pool 0 (cellsOf f.len)).puntDone f.own f.pair f.line f.len
      else d1.setPuntQ q (replaceFirst mine (some { f with data := rest }) (d1.puntQ q))

/-- R59: a punted frame written to a posted buffer. -/
def execPunt (q p addr size : Nat) (s : State) : Out := actIf (q < 4 && p < 64) (Dev.puntOut q p addr size) s

/-- The device rejects an inject descriptor for pair `n` (R60). A pair that carries no frames, in CARRIER, takes none (log 21). -/
def Dev.injectBad (d : Dev) (n len : Nat) (prot : Bool) (chan : Nat) : Bool :=
  len < 60 || 10236 < len || !d.isUp n || !d.runsFrames n || (prot && !d.chanServes chan false n)

/-- The descriptor at the front of inject ring `p` consumed in CCLK cycle `t` (R60): LEN, PORT, CLASS, FLAGS, CHANNEL and the frame. DESIGN
CHOICE: PROTECT set on a frame toward the system side is accepted and protects nothing (log 157). -/
def Dev.inject60 (p len port cls flags chan : Nat) (data : Bytes) (t : Nat) (d : Dev) : Dev :=
  let x := d.ring (64 + p)
  if !d.endpointUp || !x.avail || (d.isUp (port % 256) && d.shut (port % 256)) then d
  else
    let n := port % 256
    let down := bit 15 port
    let prot := bit 1 flags
    let bad := d.injectBad n len prot chan
    let d1 := (d.emit (.hostWrite (x.descAddr (64 + p) + 13) [BitVec.ofNat 8 (1 + 2 * b2n prot + 4 * b2n bad)])).advanceRing (64 + p)
    if bad then d1.raise 88
    else
      let k := 8 * (if down then dSliceOf n else eSliceOf n)
      let f : Frame := { d1.newFrame n down true (data.take len) t with chan := if prot then chan else 0, cls := cls % 8,
                                                                         prot := prot && !down }
      d1.countFrame.setBg k (d1.bgOf k ++ [⟨f, 0⟩])

/-- R60: an inject descriptor. -/
def execInjectDescriptor (p len port cls flags chan : Nat) (data : List Byte) (t : Nat) (s : State) : Out :=
  actAt (p < 64) t (Dev.inject60 p len port cls flags chan data t) s

end Sys2Proof.Machine
end

