-- ==== Sys2Proof/Machine/Dap.lean ====
section
/-! DEFINITION. The Dictionary Access Protocol (R62 to R75): authentication, sessions, sequence numbers, the operations, the management
and CAN FD ports; the end of a NOTIFY holdoff (R467); the release of accesses that waited for a die-to-die link (R481). -/
namespace Sys2Proof.Machine

/-! ## Keys (R62, R63) -/

/-- The role byte of a key derivation: 2 for OOB, 3 for FIELD (R63). -/
def roleByte (r : Role) : Byte := BitVec.ofNat 8 (if r = .field then 3 else 2)

/-- The path of a transport's role. -/
def dapPath (r : Role) : Path := if r = .field then .field else .oob

/-- The authentication slot of a transport, 0xFF for none (R62). -/
def Dev.authSlot (d : Dev) (r : Role) : Nat := if r = .field then d.rd 0x1520 4 else d.rd 0x1510 5

/-- The root key of a transport: its slot holds a DAP_AUTH key that is loaded (R62, R65); the keystone planisher takes it through its root
cache (R220). -/
def Dev.authFetch (d : Dev) (r : Role) : Option (Nat × Dev) := d.root [4] 4 (d.authSlot r)

/-- The root key of a transport, 32 bytes. -/
def Dev.authRoot (d : Dev) (r : Role) : Option Bytes := (d.authFetch r).map (fun x => toBE 32 x.1)

/-- The base key of a transport (R63). -/
def Dev.baseKey (d : Dev) (r : Role) : Option Bytes := (d.authRoot r).map (fun k => kdf k labelDap [roleByte r, 0, 0] 256)

/-- The session key (R63): from the same root, under role, session ID, client nonce and device nonce part. -/
def sessionKey (root : Bytes) (r : Role) (id client device : Nat) : Bytes :=
  kdf root labelDap (roleByte r :: (toBE 2 id ++ toBE 12 client ++ toBE 10 device)) 256

/-- The open session of a role and ID. -/
def Dev.session (d : Dev) (r : Role) (id : Nat) : Option Session := d.dap.sessions.find? (fun x => x.id = id && x.role = r)

/-! ## Sequence numbers (R72) -/

/-- Sequence number `q` is accepted on a session. -/
def Session.takes (x : Session) (q : Nat) : Bool :=
  x.high < q || (q < x.high && x.high ≤ q + 63 && !bit (x.high - 1 - q) x.seen)

/-- A session after an accepted request with sequence number `q` from `peer` (R72, R73). -/
def Session.took (x : Session) (q peer : Nat) : Session :=
  if x.high < q then
    let n := q - x.high
    { x with high := q, peer := peer, seen := if 63 < n then 0 else (2 * x.seen + b2n (x.high != 0)) * 2 ^ (n - 1) % 2 ^ 63 }
  else { x with peer := peer, seen := setBit (x.high - 1 - q) x.seen }

/-! ## Answers (R66, R71) -/

/-- The object a request names, for LAST_ABORT: index and subindex of its body, 0 where it names none (R77; log 152). -/
def DapAsk.object (k : DapAsk) : Nat × Nat := if k.op = 7 || k.body.length < 3 then (0, 0) else (beAt 0 2 k.body, beAt 2 1 k.body)

/-- A message refused as a whole with `a`, its MAC all zeros (R55, R71, R504). -/
def Dev.wholeZero (k : DapAsk) (a : Nat) (d : Dev) : Dev :=
  (d.lastAbort k.object.1 k.object.2 a).sendDap k.role k.peer (dapText 0x87 k.sid k.seq 0 (toBE 2 a) ++ List.replicate 8 0)

/-- A message refused as a whole with `a`, under `key` (R55, R71). -/
def Dev.whole (key : Bytes) (k : DapAsk) (a : Nat) (d : Dev) : Dev :=
  (d.lastAbort k.object.1 k.object.2 a).sendDap k.role k.peer (dapMsg key 0x87 k.sid k.seq 0 (toBE 2 a))

/-- A wrong MAC: counted, E80 or E81 (R66). -/
def Dev.authFail (r : Role) (d : Dev) : Dev := (d.count 64 0x1540 (if r = .field then 2 else 1) 1).raise (if r = .field then 81 else 80)

/-- A sequence number refused: REPLAY, counted, E82 (R72). -/
def Dev.replayed (key : Bytes) (k : DapAsk) (d : Dev) : Dev := ((d.whole key k abReplay).count 64 0x1540 3 1).raise 82

/-! ## Operations (R67 to R70) -/

/-- A value as a body carries it: TYPE, LEN, VALUE (R67); nothing where it is refused. -/
def bodyValue (a : Answer) : Bytes :=
  if a.abort = 0 then [BitVec.ofNat 8 a.ty, BitVec.ofNat 8 a.len] ++ toBE a.len a.value else [0, 0]

/-- `n` values at the start of `b`, each its type code, length and value, where `b` holds exactly those (R67). -/
def parseValues : Nat → Bytes → Option (List (Nat × Nat × Nat))
  | 0, b => if b.isEmpty then some [] else none
  | n + 1, b =>
    let len := beAt 1 1 b
    if b.length < 2 + len then none
    else (parseValues n (b.drop (2 + len))).map (fun l => (beAt 0 1 b, len, beAt 2 len b) :: l)

/-- Entries of a READ_BLOCK, from subindex `j` on, at most `n` and within `room` bytes (R69): how many, their bytes, and the block. -/
def Dev.readEntries (p : Path) (i : Nat) : Nat → Nat → Nat → Dev → Nat × Bytes × Dev
  | 0, _, _, d => (0, [], d)
  | n + 1, j, room, d =>
    let x := d.readObj p i j
    let b := toBE 2 x.answer.abort ++ bodyValue x.answer
    if 255 < j || room < b.length then (0, [], d)
    else
      let r := Dev.readEntries p i n (j + 1) (room - b.length) x
      (r.1 + 1, b ++ r.2.1, r.2.2)

/-- The write that has just begun to wait for its domain made to wait as an entry of request `k`. -/
def Dev.entryWaits (k : DapAsk) (d : Dev) : Dev :=
  { d with wakeWaits := d.wakeWaits.dropLast ++ (d.wakeWaits.getLast?.map (fun w => { w with ask := some k })).toList }

/-- The entries of the WRITE_BLOCK `k` of index `i`, from subindex `j` on, in CCLK cycle `t` (R69), `n` of them done before: how many took
effect and the first refusal, none where an entry waits for its domain to wake (R43), and the block. -/
def Dev.writeEntries (k : DapAsk) (i t n : Nat) : Nat → List (Nat × Nat × Nat) → Dev → Option (Nat × Nat) × Dev
  | _, [], d => (some (n, 0), d)
  | j, (ty, len, v) :: l, d =>
    let p := dapPath k.role
    let x := if 255 < j then d.respond p i j abNoSubindex 0 0 0 else d.doWrite (effectOf t i j) p i j ty len v
    if d.wakeWaits.length < x.wakeWaits.length then (none, x.entryWaits k)
    else if x.answer.abort != 0 then (some (n, x.answer.abort), x)
    else Dev.writeEntries k i t (n + 1) (j + 1) l x

/-- The body of a WRITE_BLOCK's answer (R69). -/
def blockBody (r : Nat × Nat) : Bytes := BitVec.ofNat 8 r.1 :: toBE 2 r.2

/-- The WRITE_BLOCK `k` carried out from its entry `n` on. -/
def Dev.writeBlock (k : DapAsk) (t n : Nat) (d : Dev) : Option Bytes × Dev :=
  let r := d.writeEntries k (beAt 0 2 k.body) t n (beAt 2 1 k.body + n) (((parseValues (beAt 3 1 k.body) (k.body.drop 4)).getD []).drop n)
  (r.1.map blockBody, r.2)

/-- The largest body of a message on a transport (R73, R75). -/
def maxBody (r : Role) : Nat := if r = .field then 1008 - 24 else 1472 - 24

/-- The body of a request has the form its operation gives (R68). DESIGN CHOICE: that of an unknown operation has none, and is malformed
(R71; log 217). -/
def bodyOk (op : Nat) (b : Bytes) : Bool :=
  match op with
  | 1 => b.length = 4 && beAt 3 1 b = 0
  | 3 => b.length = 4 && beAt 3 1 b != 0
  | 4 => 4 ≤ b.length && beAt 3 1 b != 0 && (parseValues (beAt 3 1 b) (b.drop 4)).isSome
  | 7 => b.length = 8
  | _ => (op = 2 || op = 5) && 4 ≤ b.length && beAt 3 1 b = 0 && (parseValues 1 (b.drop 4)).isSome

/-- The link that a request of index `i` from subindex `j` on, over `n` subindices, crosses while it retrains (R481). -/
def Dev.linkFor (d : Dev) (i j n : Nat) : Option Nat := (List.range n).findSome? (fun x => d.linkHolds i (j + x))

/-- The accesses of index `i` over `n` subindices from `j` on, on their way over the link they cross (R486). -/
def Dev.askMeets (i j n : Nat) (d : Dev) : Dev := (List.range n).foldl (fun x k => x.linkMeets i (j + k)) d

/-- A request carried out in CCLK cycle `t` (R68 to R70): the body of its answer, none where it waits, and the block after it. -/
def Dev.dapAct (k : DapAsk) (t : Nat) (d : Dev) : Option Bytes × Dev :=
  let p := dapPath k.role
  let i := beAt 0 2 k.body
  let j := beAt 2 1 k.body
  match k.op with
  | 1 =>
    let x := d.readObj p i j
    (some (toBE 2 x.answer.abort ++ bodyValue x.answer), x)
  | 3 =>
    let r := d.readEntries p i (beAt 3 1 k.body) j (maxBody k.role - 1)
    (some (BitVec.ofNat 8 r.1 :: r.2.1), r.2.2)
  | 4 => d.writeBlock k t 0
  | _ =>
    match parseValues 1 (k.body.drop 4) with
    | some [(ty, len, v)] =>
      let x := d.doWrite (effectOf t i j) p i j ty len v
      if x.answer.abort = 0 && x.isPending i j && !d.isPending i j then (none, { x with dap := { x.dap with waits := x.dap.waits ++ [(okey i j, k)] } })
      else (some (refusalBody k.op x.answer.abort), x)
    | _ => (some (refusalBody k.op abType), d)

/-- The answer to a request sent; where the request began a keystone reset, it went before that (R495). -/
def Dev.answerAsk (key : Bytes) (k : DapAsk) (body : Bytes) (before after : Dev) : Dev :=
  let m := dapMsg key (128 + k.op) k.sid k.seq 0 body
  if before.boot.holding = 0 && before.rd 0x1020 2 = after.rd 0x1020 2 then after.sendDap k.role k.peer m
  else
    let sent := (before.sendDap k.role k.peer m).emits
    { after with emits := after.emits.take (after.emits.length - before.emits.length) ++ sent }

/-- The segments of a response still to be sent that answers sequence number `q` of session `sid` cancelled (R71). -/
def Dev.cancelResponse (sid q : Nat) (d : Dev) : Dev :=
  { d with dap := { d.dap with
      canOut := d.dap.canOut.filter (fun s => !(128 ≤ beAt 1 1 s.1 && beAt 2 2 s.1 = sid && beAt 4 8 s.1 = q)) } }

/-- An authenticated request performed in CCLK cycle `t` under its session's key (R69 to R71): a malformed one is refused as a whole; one
that crosses a retraining link waits (R481), and a write for its RETAIN domain (R43; log 156); a client ABORT cancels a reassembly, or what is left of a response. -/
def Dev.dapPerform (key : Bytes) (k : DapAsk) (t : Nat) (d : Dev) : Dev :=
  if !bodyOk k.op k.body then d.whole key k abType
  else if k.op = 7 then
    if k.role = .field then ({ d with dap := { d.dap with reasm := none } } : Dev).cancelResponse k.sid (beAt 0 8 k.body) else d
  else
    let i := beAt 0 2 k.body
    let j := beAt 2 1 k.body
    let n := if k.op = 3 || k.op = 4 then beAt 3 1 k.body else 1
    let wait : Nat → AccessWait := fun u => ⟨u, i, j, ⟨dapPath k.role, 0, 0, 0⟩, false, some k⟩
    let x := d.askMeets i j n
    match x.linkFor i j n with
    | some q => { x with linkWaits := x.linkWaits ++ [wait q] }
    | none =>
      match x.dapAct k t with
      | (some b, y) => Dev.answerAsk key k b x y
      | (none, y) => y

/-! ## Opening a session (R63, R64, R216) -/

/-- An unused session ID, the choice being free (R63). -/
def Dev.freshId (d : Dev) (n : Nat) : Nat :=
  let ids := (List.range 13).map (fun k => 1 + (n + k) % 65535)
  (ids.find? (fun x => !d.dap.sessions.any (fun s => s.id = x))).getD 1

/-- SESSION_OPEN with a client nonce: the abort code, the result (R63, R64) and the block. -/
def Dev.openSession (r : Role) (peer nonce : Nat) (d : Dev) : Nat × Nat × Dev :=
  if (if r = .field then 4 else 8) ≤ (d.sessionsOf r).length then (abBusy, 0, d.raise 90)
  else if (d.entryFor 4 3).isNone then (abBusy, 0, d)
  else if d.rd 0x3000 6 = 2 then (abInternal, 0, d)
  else
    match d.authFetch r with
    | none => (abInternal, 0, d)
    | some (k, d1) =>
      let root := toBE 32 k
      let x := d1.draw
      let y := x.2.draw
      let id := d.freshId x.1
      let dev := y.1 % 2 ^ 80
      let z := y.2
      (0, id * 2 ^ 80 + dev,
        { z with
          dap := { z.dap with sessions := z.dap.sessions ++ [⟨r, id, sessionKey root r id nonce dev, 0, 0, 0, peer, []⟩] }
          keys := { z.keys with requests := z.keys.requests + 1 } })

/-- A request on session 0 under the base key (R63): only an EXEC of SESSION_OPEN is taken. -/
def Dev.dapBase (key : Bytes) (k : DapAsk) (d0 : Dev) : Dev :=
  let r := k.role
  let d : Dev := { d0 with dap := if r = .field then { d0.dap with baseHighField := k.seq } else { d0.dap with baseHighOob := k.seq } }
  if !bodyOk k.op k.body then d.whole key k abType
  else if k.op != 5 || beAt 0 2 k.body != 0x1500 || beAt 2 1 k.body != 1 then d.wholeZero k abAuth
  else
    match parseValues 1 (k.body.drop 4) with
    | some [(ty, len, v)] =>
      let d1 := d.accessed r
      let a := d1.writeAbort r 0x1500 1 ty len v
      let x := if a != 0 then (a, 0, d1) else d1.openSession r k.peer v
      let d2 := x.2.2.respond (dapPath r) 0x1500 1 x.1 0 0 0
      let res := if x.1 = 0 then [7, 12] ++ toBE 12 x.2.1 else [0, 0]
      d2.sendDap r k.peer (dapMsg key 0x85 0 k.seq 0 (toBE 2 x.1 ++ res))
    | _ => d

/-! ## Messages (R62, R66, R71, R504) -/

/-- The highest sequence number accepted on session 0 of a transport. -/
def Dev.baseHigh (d : Dev) (r : Role) : Nat := if r = .field then d.dap.baseHighField else d.dap.baseHighOob

/-- A message checked under the key its session has: MAC, then sequence number, then performed (R66, R71, R72). -/
def Dev.dapChecked (k : DapAsk) (text mac : Bytes) (t : Nat) (d : Dev) : Dev :=
  let r := k.role
  if k.sid = 0 then
    match d.baseKey r with
    | none => d.authFail r
    | some key =>
      if dapMac key text != mac then d.authFail r
      else if k.seq ≤ d.baseHigh r then d.replayed key k
      else d.dapBase key k
  else
    match d.session r k.sid with
    | none => d.wholeZero k abAuth
    | some x =>
      if dapMac x.key text != mac then d.authFail r
      else if !x.takes k.seq then d.replayed x.key k
      else
        let taken := d.dap.sessions.map (fun y => if y.id = k.sid && y.role = r then y.took k.seq k.peer else y)
        ({ d with dap := { d.dap with sessions := taken } } : Dev).dapPerform x.key k t

/-- A message received whole on a transport, from `peer`, in CCLK cycle `t` (R62, R66); before DEVICE_READY it is answered BUSY as a whole
(R504), a refusal that LAST_ABORT takes as any other (R77; log 152). -/
def Dev.dapIn (r : Role) (peer : Nat) (m : Bytes) (t : Nat) (d0 : Dev) : Dev :=
  let d := d0.at t
  let n := beAt 12 2 m
  let sid := beAt 2 2 m
  let seq := beAt 4 8 m
  if !d.portsUp || d.authSlot r = 0xFF || m.length < 24 + n || beAt 0 1 m != 1 then d
  else
    let k : DapAsk := ⟨r, sid, seq, peer, beAt 1 1 m, slice 16 n m⟩
    if !d.boot.ready then d.wholeZero k abBusy
    else d.dapChecked k (m.take (16 + n)) (slice (16 + n) 8 m) t

/-- The role of a transport: FIELD on CAN FD, OOB on the management port. -/
def transport (field : Bool) : Role := if field then .field else .oob

/-- R66: a DAP message. -/
def execDapMessage (field : Bool) (peer : Nat) (m : List Byte) (t : Nat) (s : State) : Out := actAt true t (Dev.dapIn (transport field) peer m t) s

/-- A request with the right MAC of its session: the message that carries it arrives (R66, R68). -/
def Dev.request (field : Bool) (peer op sid seq : Nat) (body : Bytes) (t : Nat) (d : Dev) : Dev :=
  let r := transport field
  let key := if sid = 0 then (d.baseKey r).getD [] else ((d.session r sid).map (·.key)).getD []
  d.dapIn r peer (dapMsg key op sid seq 0 body) t

/-- INDEX, SUB and the fourth byte of a request's body (R68). -/
def bodyHead (i j x : Nat) : Bytes := toBE 2 i ++ toBE 1 j ++ toBE 1 x

/-- TYPE, LEN and VALUE of a request's body (R67). -/
def bodyArg (ty len v : Nat) : Bytes := toBE 1 ty ++ toBE 1 len ++ toBE len v

/-- R68: READ. -/
def execRead (field : Bool) (peer sid seq i j t : Nat) (s : State) : Out :=
  act (Dev.request field peer 1 sid seq (bodyHead i j 0) t) s

/-- R68: WRITE. -/
def execWrite (field : Bool) (peer sid seq i j ty len v t : Nat) (s : State) : Out :=
  act (Dev.request field peer 2 sid seq (bodyHead i j 0 ++ bodyArg ty (len % 256) v) t) s

/-- R69: READ_BLOCK. -/
def execReadBlock (field : Bool) (peer sid seq i j n t : Nat) (s : State) : Out :=
  act (Dev.request field peer 3 sid seq (bodyHead i j n) t) s

/-- R69: WRITE_BLOCK of `n` values. -/
def execWriteBlock (field : Bool) (peer sid seq i j n : Nat) (values : List Byte) (t : Nat) (s : State) : Out :=
  act (Dev.request field peer 4 sid seq (bodyHead i j n ++ values) t) s

/-- R68: EXEC. -/
def execExec (field : Bool) (peer sid seq i j ty len v t : Nat) (s : State) : Out :=
  act (Dev.request field peer 5 sid seq (bodyHead i j 0 ++ bodyArg ty (len % 256) v) t) s

/-- R71: a client ABORT of sequence number `q`. -/
def execAbort (field : Bool) (peer sid seq q t : Nat) (s : State) : Out := act (Dev.request field peer 7 sid seq (toBE 8 q) t) s

/-- R63: SESSION_OPEN. -/
def execSessionOpen (field : Bool) (peer seq nonce t : Nat) (s : State) : Out :=
  act (Dev.request field peer 5 0 seq (bodyHead 0x1500 1 0 ++ bodyArg 7 12 nonce) t) s

/-- R64: SESSION_CLOSE of session `id`. -/
def execSessionClose (field : Bool) (peer sid seq id t : Nat) (s : State) : Out :=
  act (Dev.request field peer 5 sid seq (bodyHead 0x1500 2 0 ++ bodyArg 3 2 id) t) s

/-- An EXEC not completed within 10 ms is answered (R70). -/
def Dev.pendingReply (r : Role) (sid seq : Nat) (d : Dev) : Dev :=
  let mine := fun (w : Nat × DapAsk) => decide (w.2.role = r && w.2.sid = sid && w.2.seq = seq)
  match d.dap.waits.find? mine with
  | none => d
  | some w =>
    let d1 : Dev := { d with dap := { d.dap with waits := d.dap.waits.filter (fun x => !mine x) } }
    d1.dapReply w.2 1 (refusalBody w.2.op 0)

/-- R70: the reply to an EXEC still pending. -/
def execExecPendingReply (field : Bool) (sid seq : Nat) (s : State) : Out := act (Dev.pendingReply (transport field) sid seq) s

/-- R64: a session with no authenticated request for SESSION_IDLE_TIME closes. -/
def execSessionIdleTimeout (id : Nat) (s : State) : Out := act (Dev.closeSession id) s

/-- The holdoff of event `e` on session `id` ends: one NOTIFY for the raises that fell within it, counted in NOTIFY_MERGED, and the next
holdoff begins; with none merged the event is free again (R467). -/
def Dev.holdoffEnd (id e : Nat) (d : Dev) : Dev :=
  match d.dap.sessions.findIdx? (fun x => x.id = id) with
  | none => d
  | some k =>
    match (d.dap.sessions[k]?.map (·.hold)).getD [] |>.find? (fun p => p.1 = e) with
    | some (_, some (t, n)) => ((d.notifyOn k e t).count 64 0x1419 5 n).holdOn k e none
    | some (_, none) =>
      { d with dap := { d.dap with sessions := d.dap.sessions.map (fun x =>
          if x.id = id then { x with hold := x.hold.filter (fun p => p.1 != e) } else x) } }
    | none => d

/-- R467: a holdoff ends. -/
def execNotifyHoldoffEnd (id e : Nat) (s : State) : Out := act (Dev.holdoffEnd id e) s

/-! ## The management port (R73, R77) -/

/-- A datagram (R73): kind 0 ARP and 1 ICMP echo to the port's own address are answered, 2 UDP to DAP_UDP_PORT of at most 1,472 bytes
carries a DAP message, anything else is ignored. -/
def Dev.datagram (kind dst port peer : Nat) (data : Bytes) (t : Nat) (d : Dev) : Dev :=
  if !d.portsUp || dst != d.rd 0x1510 1 then d
  else if kind < 2 then d.emit (.mgmt data)
  else if kind = 2 && port = d.rd 0x1510 4 && data.length ≤ 1472 then d.dapIn .oob peer data t
  else d

/-- R73: a datagram on the management port. -/
def execUdpDatagram (kind dst port peer : Nat) (data : List Byte) (t : Nat) (s : State) : Out :=
  actAt true t (Dev.datagram kind dst port peer data t) s

/-- R77: the management port's link changes. -/
def execMgmtLinkChange (s : State) : Out := act (fun d => when d.portsUp (Dev.raise 85) d) s

/-! ## The CAN FD port (R74, R75) -/

/-- The reassembly replaced. -/
def Dev.setReasm (x : Option (Bytes × Nat)) (d : Dev) : Dev := { d with dap := { d.dap with reasm := x } }

/-- A segment taken in its place: the message is complete at LAST (R75). -/
def Dev.segmentTaken (last : Bool) (m : Bytes) (next t : Nat) (d : Dev) : Dev :=
  if last then (d.setReasm none).dapIn .field 0 m t else d.setReasm (some (m, next))

/-- A CAN FD frame received on identifier `ident` (R74, R75). -/
def Dev.canIn (ident : Nat) (data : Bytes) (t : Nat) (d : Dev) : Dev :=
  if !d.portsUp || d.rd 0x1520 5 = 2 || ident != 0x300 + d.rd 0x1520 1 || data.isEmpty || 64 < data.length then d
  else
    let b := beAt 0 1 data
    let n := b % 64
    let part := data.drop 1
    if bit 7 b then (if n = 0 then d.segmentTaken (bit 6 b) part 1 t else d.setReasm none)
    else
      match d.dap.reasm with
      | none => d
      | some (m, k) => if n = k && n < 16 then d.segmentTaken (bit 6 b) (m ++ part) (k + 1) t else d.setReasm none

/-- R75: a CAN FD segment. -/
def execCanSegment (ident : Nat) (data : List Byte) (t : Nat) (s : State) : Out := actAt true t (Dev.canIn ident data t) s

/-- R75: more than 10 ms between segments. -/
def execCanReassemblyTimeout (s : State) : Out := act (Dev.setReasm none) s

/-- CAN_STATE made `v`, with an event (R74, R77). -/
def Dev.canState (v : Nat) (e : Option Nat) (d : Dev) : Dev :=
  if !d.portsUp then d
  else
    let d1 := d.wr 0x1520 5 v
    match e with
    | some k => d1.raise k
    | none => d1

/-- R74: error passive is entered. -/
def execErrorPassive (s : State) : Out := act (Dev.canState 1 (some 84)) s

/-- R74: bus-off. -/
def execBusOff (s : State) : Out := act (Dev.canState 2 (some 83)) s

/-- R74: error active again. -/
def execErrorActive (s : State) : Out := act (Dev.canState 0 none) s

/-! ## Accesses that waited (R43, R481) -/

/-- An access that waited for a link is performed. -/
def Dev.resume (t : Nat) (w : AccessWait) (d : Dev) : Dev :=
  match w.ask with
  | some k =>
    match d.session k.role k.sid with
    | some x => d.dapPerform x.key k t
    | none => d
  | none => if w.reads then d.bar0Now w.wr.value w.wr.len else d.write (effectOf t w.index w.sub) w.index w.sub w.wr

/-- Link `q` is UP again: the accesses that waited for it are performed in order (R481). -/
def Dev.linkUp (q t : Nat) (d : Dev) : Dev :=
  if d.rd (0x141C + q) 1 != 1 then d
  else
    let mine := d.linkWaits.filter (fun w => w.unit = q)
    let d1 : Dev := { d with linkWaits := d.linkWaits.filter (fun w => w.unit != q) }
    mine.foldl (fun x w => x.resume t w) (d1.wr (0x141C + q) 1 2)

/-- A write that waited for its domain is performed on the path it came by, and the DAP request that made it answered, unless its EXEC
goes on (R43, R56, R70); a WRITE_BLOCK goes on from the entry that waited (R69). -/
def Dev.resumeWrite (t : Nat) (w : AccessWait) (d : Dev) : Dev :=
  match w.ask with
  | some k =>
    match d.writeBlock k t (w.sub - beAt 2 1 k.body) with
    | (some b, x) => x.dapReply k 0 b
    | (none, x) => x
  | none =>
    let x := d.doWrite (effectOf t w.index w.sub) w.wr.path w.index w.sub w.wr.ty w.wr.len w.wr.value
    let mine := fun (p : Nat × DapAsk) => p.1 == okey w.index w.sub
    if x.isPending w.index w.sub then x
    else
      (x.dap.waits.filter mine).foldl (fun y p => y.dapReply p.2 0 (refusalBody p.2.op x.answer.abort))
        ({ x with dap := { x.dap with waits := x.dap.waits.filter (fun p => !mine p) } } : Dev)

/-- Where domain `k` is ON, the writes that waited for it are performed in order (R43, R405). -/
def Dev.wakeDone (k t : Nat) (d : Dev) : Dev :=
  if !d.isOn k then d
  else
    (d.wakeWaits.filter (fun w => w.unit = k)).foldl (fun x w => x.resumeWrite t w)
      ({ d with wakeWaits := d.wakeWaits.filter (fun w => w.unit != k) } : Dev)

/-- R403: a transition of domain `k` completes in CCLK cycle `t`. -/
def execDomainTransitionDone (k t : Nat) (s : State) : Out :=
  actIf (k < 142) (fun d => ((d.at t).transitionDone k).wakeDone k t) s

/-- R481: a die-to-die link is UP after retraining. -/
def execLinkRetrained (q t : Nat) (s : State) : Out := actAt (q < 4) t (Dev.linkUp q t) s

end Sys2Proof.Machine
end

