-- ==== Sys2Proof/Machine/Dispatch.lean ====
section
/-! DEFINITION. One arm per command of spec/opcode_table.json, each one direct call of its meaning. -/
namespace Sys2Proof.Machine

def exec (i : Instr) (s : State) : Host.Outcome State Fault Refusal :=
  match i with
  | .dictionaryWrite x0 j t w => Sys2Proof.Machine.execDictionaryWrite x0 j t w s
  | .protSeal w => Sys2Proof.Machine.execProtSeal w s
  | .bar0Write off len v t => Sys2Proof.Machine.execBar0Write off len v t s
  | .bar0ReadCapture off len t => Sys2Proof.Machine.execBar0ReadCapture off len t s
  | .bar2Access o len write v => Sys2Proof.Machine.execBar2Access o len write v s
  | .ringDoorbell r v => Sys2Proof.Machine.execRingDoorbell r v s
  | .ringFlush p => Sys2Proof.Machine.execRingFlush p s
  | .punt q p addr size => Sys2Proof.Machine.execPunt q p addr size s
  | .injectDescriptor p len port cls flags chan data t => Sys2Proof.Machine.execInjectDescriptor p len port cls flags chan data t s
  | .msixMaskClear v => Sys2Proof.Machine.execMsixMaskClear v s
  | .msixEnable on fmask => Sys2Proof.Machine.execMsixEnable on fmask s
  | .dapMessage field peer m t => Sys2Proof.Machine.execDapMessage field peer m t s
  | .read field peer sid seq x0 j t => Sys2Proof.Machine.execRead field peer sid seq x0 j t s
  | .write field peer sid seq x0 j ty len v t => Sys2Proof.Machine.execWrite field peer sid seq x0 j ty len v t s
  | .readBlock field peer sid seq x0 j n t => Sys2Proof.Machine.execReadBlock field peer sid seq x0 j n t s
  | .writeBlock field peer sid seq x0 j n values t => Sys2Proof.Machine.execWriteBlock field peer sid seq x0 j n values t s
  | .exec field peer sid seq x0 j ty len v t => Sys2Proof.Machine.execExec field peer sid seq x0 j ty len v t s
  | .abort field peer sid seq q t => Sys2Proof.Machine.execAbort field peer sid seq q t s
  | .execPendingReply field sid seq => Sys2Proof.Machine.execExecPendingReply field sid seq s
  | .sessionOpen field peer seq nonce t => Sys2Proof.Machine.execSessionOpen field peer seq nonce t s
  | .sessionClose field peer sid seq id t => Sys2Proof.Machine.execSessionClose field peer sid seq id t s
  | .sessionIdleTimeout id => Sys2Proof.Machine.execSessionIdleTimeout id s
  | .notifyHoldoffEnd id e => Sys2Proof.Machine.execNotifyHoldoffEnd id e s
  | .udpDatagram kind dst port peer data t => Sys2Proof.Machine.execUdpDatagram kind dst port peer data t s
  | .mgmtLinkChange => Sys2Proof.Machine.execMgmtLinkChange s
  | .canSegment ident data t => Sys2Proof.Machine.execCanSegment ident data t s
  | .canReassemblyTimeout => Sys2Proof.Machine.execCanReassemblyTimeout s
  | .errorPassive => Sys2Proof.Machine.execErrorPassive s
  | .busOff => Sys2Proof.Machine.execBusOff s
  | .behaviourLevel w => Sys2Proof.Machine.execBehaviourLevel w s
  | .portCompat n w => Sys2Proof.Machine.execPortCompat n w s
  | .portWidth n w => Sys2Proof.Machine.execPortWidth n w s
  | .portMode n w => Sys2Proof.Machine.execPortMode n w s
  | .portModeOff n w => Sys2Proof.Machine.execPortModeOff n w s
  | .signalDetect l => Sys2Proof.Machine.execSignalDetect l s
  | .cdrLock l => Sys2Proof.Machine.execCdrLock l s
  | .cdrLockTimeout l => Sys2Proof.Machine.execCdrLockTimeout l s
  | .adaptComplete l => Sys2Proof.Machine.execAdaptComplete l s
  | .laneLockLost l => Sys2Proof.Machine.execLaneLockLost l s
  | .firstLock l want got => Sys2Proof.Machine.execFirstLock l want got s
  | .sideAligned side nums skew => Sys2Proof.Machine.execSideAligned side nums skew s
  | .linkFaultReceived side f => Sys2Proof.Machine.execLinkFaultReceived side f s
  | .codewordLock l syms ok => Sys2Proof.Machine.execCodewordLock l syms ok s
  | .prbsPattern l w => Sys2Proof.Machine.execPrbsPattern l w s
  | .prbsCheck l w => Sys2Proof.Machine.execPrbsCheck l w s
  | .prbsLock l bits => Sys2Proof.Machine.execPrbsLock l bits s
  | .prbsClear l w => Sys2Proof.Machine.execPrbsClear l w s
  | .prbsInsert l w => Sys2Proof.Machine.execPrbsInsert l w s
  | .portPowerIdle side w => Sys2Proof.Machine.execPortPowerIdle side w s
  | .fastExit side w => Sys2Proof.Machine.execFastExit side w s
  | .fastRelockTimeout l => Sys2Proof.Machine.execFastRelockTimeout l s
  | .idleRetainExpiry side => Sys2Proof.Machine.execIdleRetainExpiry side s
  | .egressFrame n b fcsOk t flips => Sys2Proof.Machine.execEgressFrame n b fcsOk t flips s
  | .egressSaFetch k t flips => Sys2Proof.Machine.execEgressSaFetch k t flips s
  | .ingressFrame n b fcsOk t flips => Sys2Proof.Machine.execIngressFrame n b fcsOk t flips s
  | .verdict k t => Sys2Proof.Machine.execVerdict k t s
  | .causeClear b again w => Sys2Proof.Machine.execCauseClear b again w s
  | .causeEnable b w => Sys2Proof.Machine.execCauseEnable b w s
  | .carrierFrameTx n adj client use => Sys2Proof.Machine.execCarrierFrameTx n adj client use s
  | .laneWordRx l pos b mfi0 parity skew => Sys2Proof.Machine.execLaneWordRx l pos b mfi0 parity skew s
  | .carrierFrameRx n b use => Sys2Proof.Machine.execCarrierFrameRx n b use s
  | .carrierVerdict n => Sys2Proof.Machine.execCarrierVerdict n s
  | .losDeclare n => Sys2Proof.Machine.execLosDeclare n s
  | .losClear n => Sys2Proof.Machine.execLosClear n s
  | .lofDeclare n => Sys2Proof.Machine.execLofDeclare n s
  | .lofClear n => Sys2Proof.Machine.execLofClear n s
  | .carrierStart n => Sys2Proof.Machine.execCarrierStart n s
  | .carrierRunning n => Sys2Proof.Machine.execCarrierRunning n s
  | .carrierKeyLoaded n => Sys2Proof.Machine.execCarrierKeyLoaded n s
  | .loadNext n w => Sys2Proof.Machine.execLoadNext n w s
  | .switchNow n w => Sys2Proof.Machine.execSwitchNow n w s
  | .switchAtTime n w => Sys2Proof.Machine.execSwitchAtTime n w s
  | .epochHighClear n w => Sys2Proof.Machine.execEpochHighClear n w s
  | .zeroise w => Sys2Proof.Machine.execZeroise w s
  | .zeroiseN low => Sys2Proof.Machine.execZeroiseN low s
  | .zeroisationComplete => Sys2Proof.Machine.execZeroisationComplete s
  | .dapZeroiseClose => Sys2Proof.Machine.execDapZeroiseClose s
  | .zeroiseClear w => Sys2Proof.Machine.execZeroiseClear w s
  | .zeroiseClearComplete => Sys2Proof.Machine.execZeroiseClearComplete s
  | .erase slot w => Sys2Proof.Machine.execErase slot w s
  | .usage slot w => Sys2Proof.Machine.execUsage slot w s
  | .drbgReseed ok w => Sys2Proof.Machine.execDrbgReseed ok w s
  | .drbgAutoReseed => Sys2Proof.Machine.execDrbgAutoReseed s
  | .drbgHealthFail => Sys2Proof.Machine.execDrbgHealthFail s
  | .keyBusTransfer p ok => Sys2Proof.Machine.execKeyBusTransfer p ok s
  | .deriveSa win p core => Sys2Proof.Machine.execDeriveSa win p core s
  | .rekeyBatch win p core => Sys2Proof.Machine.execRekeyBatch win p core s
  | .rekeyBatchContinue p => Sys2Proof.Machine.execRekeyBatchContinue p s
  | .rootLoad win p core => Sys2Proof.Machine.execRootLoad win p core s
  | .unwrapBlob win p core => Sys2Proof.Machine.execUnwrapBlob win p core s
  | .mkaKeys win p core => Sys2Proof.Machine.execMkaKeys win p core s
  | .mkaIcv win p core => Sys2Proof.Machine.execMkaIcv win p core s
  | .randomSak win p core => Sys2Proof.Machine.execRandomSak win p core s
  | .unwrapSak win p core => Sys2Proof.Machine.execUnwrapSak win p core s
  | .hashkey win p core => Sys2Proof.Machine.execHashkey win p core s
  | .testLoad win p core => Sys2Proof.Machine.execTestLoad win p core s
  | .jobStart p => Sys2Proof.Machine.execJobStart p s
  | .jobComplete p mem => Sys2Proof.Machine.execJobComplete p mem s
  | .cancel win w => Sys2Proof.Machine.execCancel win w s
  | .configure win p => Sys2Proof.Machine.execConfigure win p s
  | .saRead win p => Sys2Proof.Machine.execSaRead win p s
  | .setThreshold win p => Sys2Proof.Machine.execSetThreshold win p s
  | .setPn win p => Sys2Proof.Machine.execSetPn win p s
  | .saErase win p => Sys2Proof.Machine.execSaErase win p s
  | .notePop q w => Sys2Proof.Machine.execNotePop q w s
  | .schedSubmit q w => Sys2Proof.Machine.execSchedSubmit q w s
  | .schedCancel q w => Sys2Proof.Machine.execSchedCancel q w s
  | .changeover q => Sys2Proof.Machine.execChangeover q s
  | .txRetire x0 => Sys2Proof.Machine.execTxRetire x0 s
  | .retireDelayExpiry x0 => Sys2Proof.Machine.execRetireDelayExpiry x0 s
  | .ctxErase w => Sys2Proof.Machine.execCtxErase w s
  | .mkaBindingEnable b w => Sys2Proof.Machine.execMkaBindingEnable b w s
  | .lookup n p => Sys2Proof.Machine.execLookup n p s
  | .insert n p => Sys2Proof.Machine.execInsert n p s
  | .update n p => Sys2Proof.Machine.execUpdate n p s
  | .delete n p => Sys2Proof.Machine.execDelete n p s
  | .readSlot n p => Sys2Proof.Machine.execReadSlot n p s
  | .readEntry n p hit => Sys2Proof.Machine.execReadEntry n p hit s
  | .stashDrain k => Sys2Proof.Machine.execStashDrain k s
  | .migrate k w => Sys2Proof.Machine.execMigrate k w s
  | .migrationStep k => Sys2Proof.Machine.execMigrationStep k s
  | .lock k w t => Sys2Proof.Machine.execLock k w t s
  | .lockRelease k w => Sys2Proof.Machine.execLockRelease k w s
  | .leaseExpiry k => Sys2Proof.Machine.execLeaseExpiry k s
  | .readBuckets t g img => Sys2Proof.Machine.execReadBuckets t g img s
  | .writeBuckets t g img => Sys2Proof.Machine.execWriteBuckets t g img s
  | .readStash t g img => Sys2Proof.Machine.execReadStash t g img s
  | .writeStash t g img => Sys2Proof.Machine.execWriteStash t g img s
  | .readEntries t g img => Sys2Proof.Machine.execReadEntries t g img s
  | .writeEntries t g img => Sys2Proof.Machine.execWriteEntries t g img s
  | .readRecords t g img => Sys2Proof.Machine.execReadRecords t g img s
  | .writeRecords t g img => Sys2Proof.Machine.execWriteRecords t g img s
  | .loadPlumb t g img => Sys2Proof.Machine.execLoadPlumb t g img s
  | .plumbSet k w => Sys2Proof.Machine.execPlumbSet k w s
  | .plumbPass k => Sys2Proof.Machine.execPlumbPass k s
  | .learnPop q w => Sys2Proof.Machine.execLearnPop q w s
  | .agerVisit x0 x1 x2 x3 => Sys2Proof.Machine.execAgerVisit x0 x1 x2 x3 s
  | .queueWindowRead n t p => Sys2Proof.Machine.execQueueWindowRead n t p s
  | .queueWindowWrite n t p => Sys2Proof.Machine.execQueueWindowWrite n t p s
  | .queueWindowStatus n t p => Sys2Proof.Machine.execQueueWindowStatus n t p s
  | .flush n t p => Sys2Proof.Machine.execFlush n t p s
  | .poolOwner q p w => Sys2Proof.Machine.execPoolOwner q p w s
  | .readback x ecc => Sys2Proof.Machine.execReadback x ecc s
  | .schedulerSelect side t ecc => Sys2Proof.Machine.execSchedulerSelect side t ecc s
  | .frameEndCharge side t => Sys2Proof.Machine.execFrameEndCharge side t s
  | .stackFailed k => Sys2Proof.Machine.execStackFailed k s
  | .configChange g w => Sys2Proof.Machine.execConfigChange g w s
  | .configCancel g w => Sys2Proof.Machine.execConfigCancel g w s
  | .gateTakeover g t => Sys2Proof.Machine.execGateTakeover g t s
  | .gateTransition g t => Sys2Proof.Machine.execGateTransition g t s
  | .gateEnable g t w => Sys2Proof.Machine.execGateEnable g t w s
  | .samplePassStart q t ok => Sys2Proof.Machine.execSamplePassStart q t ok s
  | .sampleVisit q t ok => Sys2Proof.Machine.execSampleVisit q t ok s
  | .sampleSize q w t => Sys2Proof.Machine.execSampleSize q w t s
  | .slotVisit k t => Sys2Proof.Machine.execSlotVisit k t s
  | .swap k w => Sys2Proof.Machine.execSwap k w s
  | .swapAtWrap k => Sys2Proof.Machine.execSwapAtWrap k s
  | .hotEdit k w => Sys2Proof.Machine.execHotEdit k w s
  | .bgBase k ceil w => Sys2Proof.Machine.execBgBase k ceil w s
  | .bgWait k r => Sys2Proof.Machine.execBgWait k r s
  | .bgWaitClear k w => Sys2Proof.Machine.execBgWaitClear k w s
  | .timeTick => Sys2Proof.Machine.execTimeTick s
  | .increment w => Sys2Proof.Machine.execIncrement w s
  | .step w => Sys2Proof.Machine.execStep w s
  | .timeSet w => Sys2Proof.Machine.execTimeSet w s
  | .scheduleFire => Sys2Proof.Machine.execScheduleFire s
  | .scheduledAction t => Sys2Proof.Machine.execScheduledAction t s
  | .tsPop side w => Sys2Proof.Machine.execTsPop side w s
  | .function k w => Sys2Proof.Machine.execFunction k w s
  | .pulseEdge k => Sys2Proof.Machine.execPulseEdge k s
  | .eventAtTime k => Sys2Proof.Machine.execEventAtTime k s
  | .ppsInEdge falling => Sys2Proof.Machine.execPpsInEdge falling s
  | .ppsInLost => Sys2Proof.Machine.execPpsInLost s
  | .clk10mMeasurement => Sys2Proof.Machine.execClk10mMeasurement s
  | .clk10mLost => Sys2Proof.Machine.execClk10mLost s
  | .epochBoundary t => Sys2Proof.Machine.execEpochBoundary t s
  | .powerReq k w => Sys2Proof.Machine.execPowerReq k w s
  | .domainTransitionDone k t => Sys2Proof.Machine.execDomainTransitionDone k t s
  | .domainFault k => Sys2Proof.Machine.execDomainFault k s
  | .pllLocked p => Sys2Proof.Machine.execPllLocked p s
  | .pllLockLoss p => Sys2Proof.Machine.execPllLockLoss p s
  | .refclkWindow x0 ppb gone => Sys2Proof.Machine.execRefclkWindow x0 ppb gone s
  | .sysclkWindow ppb => Sys2Proof.Machine.execSysclkWindow ppb s
  | .sysclkLost => Sys2Proof.Machine.execSysclkLost s
  | .pulseOverflow b => Sys2Proof.Machine.execPulseOverflow b s
  | .pulseOverflowClear w => Sys2Proof.Machine.execPulseOverflowClear w s
  | .mainPowerLost => Sys2Proof.Machine.execMainPowerLost s
  | .vddIoDip => Sys2Proof.Machine.execVddIoDip s
  | .mainPowerRestored => Sys2Proof.Machine.execMainPowerRestored s
  | .aonPowerUp => Sys2Proof.Machine.execAonPowerUp s
  | .tamperEvent glitches levels t ticks => Sys2Proof.Machine.execTamperEvent glitches levels t ticks s
  | .tamperLevelAlarm m ticks => Sys2Proof.Machine.execTamperLevelAlarm m ticks s
  | .tamperAlarmEnd x0 => Sys2Proof.Machine.execTamperAlarmEnd x0 s
  | .tamperSample levels zlow ticks => Sys2Proof.Machine.execTamperSample levels zlow ticks s
  | .wakeOnEdge pin levels zlow ticks => Sys2Proof.Machine.execWakeOnEdge pin levels zlow ticks s
  | .stickyClear w => Sys2Proof.Machine.execStickyClear w s
  | .responseClear w => Sys2Proof.Machine.execResponseClear w s
  | .fuseBlow x0 w => Sys2Proof.Machine.execFuseBlow x0 w s
  | .logPop w => Sys2Proof.Machine.execLogPop w s
  | .vbatMeasure mv => Sys2Proof.Machine.execVbatMeasure mv s
  | .auditPass cs => Sys2Proof.Machine.execAuditPass cs s
  | .creditMarker x0 dir avail flight held => Sys2Proof.Machine.execCreditMarker x0 dir avail flight held s
  | .reportPop w => Sys2Proof.Machine.execReportPop w s
  | .rebase w => Sys2Proof.Machine.execRebase w s
  | .checkpoint w => Sys2Proof.Machine.execCheckpoint w s
  | .checkpointDone => Sys2Proof.Machine.execCheckpointDone s
  | .reclaim w => Sys2Proof.Machine.execReclaim w s
  | .reclaimDone => Sys2Proof.Machine.execReclaimDone s
  | .select w t x => Sys2Proof.Machine.execSelect w t x s
  | .clearMask w x => Sys2Proof.Machine.execClearMask w x s
  | .pcEnable b w => Sys2Proof.Machine.execPcEnable b w s
  | .pcClear b w => Sys2Proof.Machine.execPcClear b w s
  | .pcSaturatedClear b w => Sys2Proof.Machine.execPcSaturatedClear b w s
  | .pcSaturation b j => Sys2Proof.Machine.execPcSaturation b j s
  | .eventRaise e => Sys2Proof.Machine.execEventRaise e s
  | .clear g again w => Sys2Proof.Machine.execClear g again w s
  | .mask g w => Sys2Proof.Machine.execMask g w s
  | .wdKick w => Sys2Proof.Machine.execWdKick w s
  | .wdExpiry k t => Sys2Proof.Machine.execWdExpiry k t s
  | .coreRestart k => Sys2Proof.Machine.execCoreRestart k s
  | .firmwareRestart => Sys2Proof.Machine.execFirmwareRestart s
  | .fence k w => Sys2Proof.Machine.execFence k w s
  | .sliceInternalFault k b => Sys2Proof.Machine.execSliceInternalFault k b s
  | .unfence k w => Sys2Proof.Machine.execUnfence k w s
  | .unfenceComplete k ok => Sys2Proof.Machine.execUnfenceComplete k ok s
  | .faultClear k w => Sys2Proof.Machine.execFaultClear k w s
  | .linkReset q => Sys2Proof.Machine.execLinkReset q s
  | .linkRetrained q t => Sys2Proof.Machine.execLinkRetrained q t s
  | .linkAccessTimeout q => Sys2Proof.Machine.execLinkAccessTimeout q s
  | .loopback n w => Sys2Proof.Machine.execLoopback n w s
  | .tgStart q w => Sys2Proof.Machine.execTgStart q w s
  | .tgStop q w => Sys2Proof.Machine.execTgStop q w s
  | .injFire t w => Sys2Proof.Machine.execInjFire t w s
  | .injectionOccurrence n t b => Sys2Proof.Machine.execInjectionOccurrence n t b s
  | .injCancel w => Sys2Proof.Machine.execInjCancel w s
  | .testZeroiseArmed w => Sys2Proof.Machine.execTestZeroiseArmed w s
  | .powerOnReset compat src => Sys2Proof.Machine.execPowerOnReset compat src s
  | .sysRstN low => Sys2Proof.Machine.execSysRstN low s
  | .softReset compat src w => Sys2Proof.Machine.execSoftReset compat src w s
  | .perstN low => Sys2Proof.Machine.execPerstN low s
  | .pcieLinkTrained link => Sys2Proof.Machine.execPcieLinkTrained link s
  | .domainReset w => Sys2Proof.Machine.execDomainReset w s
  | .doorbell addr len => Sys2Proof.Machine.execDoorbell addr len s
  | .imageLoaded img => Sys2Proof.Machine.execImageLoaded img s
  | .imageVerify => Sys2Proof.Machine.execImageVerify s
  | .bootConfigRecord x0 j ty len v t => Sys2Proof.Machine.execBootConfigRecord x0 j ty len v t s
  | .bootTimeout => Sys2Proof.Machine.execBootTimeout s
  | .deviceReady ms => Sys2Proof.Machine.execDeviceReady ms s
  | .svnAdvance w => Sys2Proof.Machine.execSvnAdvance w s
  | .keyRevoke w => Sys2Proof.Machine.execKeyRevoke w s
  | .gpioFunc x0 w => Sys2Proof.Machine.execGpioFunc x0 w s
  | .ppsPlace w => Sys2Proof.Machine.execPpsPlace w s
  | .bypass tdi => Sys2Proof.Machine.execBypass tdi s
  | .idcode tdi => Sys2Proof.Machine.execIdcode tdi s
  | .samplePreload balls tdi => Sys2Proof.Machine.execSamplePreload balls tdi s
  | .extest balls tdi => Sys2Proof.Machine.execExtest balls tdi s
  | .extestPulse balls tdi => Sys2Proof.Machine.execExtestPulse balls tdi s
  | .extestTrain balls tdi => Sys2Proof.Machine.execExtestTrain balls tdi s
  | .clamp tdi => Sys2Proof.Machine.execClamp tdi s
  | .highz tdi => Sys2Proof.Machine.execHighz tdi s
  | .stackTrainingDone k ok => Sys2Proof.Machine.execStackTrainingDone k ok s
  | .vddIoReturn t ticks => Sys2Proof.Machine.execVddIoReturn t ticks s
  | .resetRelease compat src => Sys2Proof.Machine.execResetRelease compat src s
  | .errorActive => Sys2Proof.Machine.execErrorActive s

end Sys2Proof.Machine
end

