-- ==== Sys2Proof/Machine/Tick.lean ====
section
/-! DEFINITION. What the part goes on doing between commands: an empty queue's step. -/
namespace Sys2Proof.Machine

/-- One round of the engines that work without a command (log 5): the CAN FD port sends its next segment (R75), every PRBS generator
its next 64 bits (R108), the table-DMA engine serves one unit (R286), Dymbiloth works on its MKA bindings and recovers fenced slices (R250, R477). The pulses counted in the crossings are delivered, and acknowledged (R410). -/
def Dev.round (d : Dev) : Dev :=
  ({ (((d.pulses.map (·.1)).filter (fun k => k < 400 && 1 < (d.crossing k).count)).foldl (fun x k => x.hear k) d) with pulses := [] } : Dev).canNext.prbsRound.dmaServe.mkaRound.recoverRound

end Sys2Proof.Machine
end

