-- ==== Sys2Proof/WellFormed.lean ====
section
/-! DEFINITION. A command is well formed where every instance it names exists in the part (R12, R42): pairs, lanes, slices,
domains, tables, windows and the rest. An ill-formed command cannot come about; the machine answers it with a fault. -/
namespace Sys2Proof

/-- The cause block exists. -/
def blockOk : CauseBlock → Bool
  | .pair n => n < 256
  | .carrier n => n < 256
  | .table k => k < 16
  | .buffer q => q < 4
  | .calendar s => s < 64

/-- The instances a command names exist. -/
def Instr.wf : Instr → Bool
  | .dictionaryWrite _ _ _ _ => true
  | .protSeal _ => true
  | .bar0Write _ _ _ _ => true
  | .bar0ReadCapture _ _ _ => true
  | .bar2Access _ _ _ _ => true
  | .ringDoorbell r _ => r < 136
  | .ringFlush p => p < 64
  | .punt q p _ _ => q < 4 && p < 64
  | .injectDescriptor p _ _ _ _ _ _ _ => p < 64
  | .msixMaskClear _ => true
  | .msixEnable _ _ => true
  | .dapMessage _ _ _ _ => true
  | .read _ _ _ _ _ _ _ => true
  | .write _ _ _ _ _ _ _ _ _ _ => true
  | .readBlock _ _ _ _ _ _ _ _ => true
  | .writeBlock _ _ _ _ _ _ _ _ _ => true
  | .exec _ _ _ _ _ _ _ _ _ _ => true
  | .abort _ _ _ _ _ _ => true
  | .execPendingReply _ _ _ => true
  | .sessionOpen _ _ _ _ _ => true
  | .sessionClose _ _ _ _ _ _ => true
  | .sessionIdleTimeout _ => true
  | .notifyHoldoffEnd _ _ => true
  | .udpDatagram _ _ _ _ _ _ => true
  | .mgmtLinkChange => true
  | .canSegment _ _ _ => true
  | .canReassemblyTimeout => true
  | .errorPassive => true
  | .busOff => true
  | .behaviourLevel _ => true
  | .portCompat n _ => n < 256
  | .portWidth n _ => n < 256
  | .portMode n _ => n < 256
  | .portModeOff n _ => n < 256
  | .signalDetect l => l < 512
  | .cdrLock l => l < 512
  | .cdrLockTimeout l => l < 512
  | .adaptComplete l => l < 512
  | .laneLockLost l => l < 512
  | .firstLock l _ _ => l < 512
  | .sideAligned side _ _ => side < 512
  | .linkFaultReceived side _ => side < 512
  | .codewordLock l _ _ => l < 512
  | .prbsPattern l _ => l < 512
  | .prbsCheck l _ => l < 512
  | .prbsLock l _ => l < 512
  | .prbsClear l _ => l < 512
  | .prbsInsert l _ => l < 512
  | .portPowerIdle side _ => side < 512
  | .fastExit side _ => side < 512
  | .fastRelockTimeout l => l < 512
  | .idleRetainExpiry side => side < 512
  | .egressFrame n _ _ _ _ => n < 256
  | .egressSaFetch k _ _ => k < 64
  | .ingressFrame n _ _ _ _ => n < 256
  | .verdict k _ => k < 64
  | .causeClear b _ _ => blockOk b
  | .causeEnable b _ => blockOk b
  | .carrierFrameTx n _ _ _ => n < 256
  | .laneWordRx l _ _ _ _ _ => l < 256
  | .carrierFrameRx n _ _ => n < 256
  | .carrierVerdict n => n < 256
  | .losDeclare n => n < 256
  | .losClear n => n < 256
  | .lofDeclare n => n < 256
  | .lofClear n => n < 256
  | .carrierStart n => n < 256
  | .carrierRunning n => n < 256
  | .carrierKeyLoaded n => n < 256
  | .loadNext n _ => n < 256
  | .switchNow n _ => n < 256
  | .switchAtTime n _ => n < 256
  | .epochHighClear n _ => n < 256
  | .zeroise _ => true
  | .zeroiseN _ => true
  | .zeroisationComplete => true
  | .dapZeroiseClose => true
  | .zeroiseClear _ => true
  | .zeroiseClearComplete => true
  | .erase slot _ => slot < 64
  | .usage slot _ => slot < 64
  | .drbgReseed _ _ => true
  | .drbgAutoReseed => true
  | .drbgHealthFail => true
  | .keyBusTransfer p _ => p < 5
  | .deriveSa win _ core => win < 8 && core < 4
  | .rekeyBatch win _ core => win < 8 && core < 4
  | .rekeyBatchContinue p => p < 5
  | .rootLoad win _ core => win < 8 && core < 4
  | .unwrapBlob win _ core => win < 8 && core < 4
  | .mkaKeys win _ core => win < 8 && core < 4
  | .mkaIcv win _ core => win < 8 && core < 4
  | .randomSak win _ core => win < 8 && core < 4
  | .unwrapSak win _ core => win < 8 && core < 4
  | .hashkey win _ core => win < 8 && core < 4
  | .testLoad win _ core => win < 8 && core < 4
  | .jobStart p => p < 5
  | .jobComplete p _ => p < 5
  | .cancel win _ => win < 8
  | .configure win _ => win < 16
  | .saRead win _ => win < 16
  | .setThreshold win _ => win < 16
  | .setPn win _ => win < 16
  | .saErase win _ => win < 16
  | .notePop q _ => q < 4
  | .schedSubmit q _ => q < 4
  | .schedCancel q _ => q < 4
  | .changeover q => q < 4
  | .txRetire i => i < 65536
  | .retireDelayExpiry i => i < 65536
  | .ctxErase _ => true
  | .mkaBindingEnable b _ => b < 64
  | .lookup n _ => n < 64
  | .insert n _ => n < 64
  | .update n _ => n < 64
  | .delete n _ => n < 64
  | .readSlot n _ => n < 64
  | .readEntry n _ _ => n < 64
  | .stashDrain k => k < 16
  | .migrate k _ => k < 16
  | .migrationStep k => k < 16
  | .lock k _ _ => k < 16
  | .lockRelease k _ => k < 16
  | .leaseExpiry k => k < 16
  | .readBuckets t _ _ => t < 8
  | .writeBuckets t _ _ => t < 8
  | .readStash t _ _ => t < 8
  | .writeStash t _ _ => t < 8
  | .readEntries t _ _ => t < 8
  | .writeEntries t _ _ => t < 8
  | .readRecords t _ _ => t < 8
  | .writeRecords t _ _ => t < 8
  | .loadPlumb t _ _ => t < 8
  | .plumbSet k _ => k < 16
  | .plumbPass k => k < 16
  | .learnPop q _ => q < 4
  | .agerVisit k _ _ _ => k < 16
  | .queueWindowRead n _ _ => n < 16
  | .queueWindowWrite n _ _ => n < 16
  | .queueWindowStatus n _ _ => n < 16
  | .flush n _ _ => n < 16
  | .poolOwner q p _ => q < 4 && p < 15
  | .readback x _ => x < 262144
  | .schedulerSelect side _ _ => side < 512
  | .frameEndCharge side _ => side < 512
  | .stackFailed k => k < 2
  | .configChange g _ => g < 512
  | .configCancel g _ => g < 512
  | .gateTakeover g _ => g < 512
  | .gateTransition g _ => g < 512
  | .gateEnable g _ _ => g < 512
  | .samplePassStart q _ _ => q < 4
  | .sampleVisit q _ _ => q < 4
  | .sampleSize q _ _ => q < 4
  | .slotVisit k _ => k < 64
  | .swap k _ => k < 64
  | .swapAtWrap k => k < 64
  | .hotEdit k _ => k < 64
  | .bgBase k _ _ => k < 64
  | .bgWait k _ => k < 64
  | .bgWaitClear k _ => k < 64
  | .timeTick => true
  | .increment _ => true
  | .step _ => true
  | .timeSet _ => true
  | .scheduleFire => true
  | .scheduledAction _ => true
  | .tsPop side _ => side < 512
  | .function k _ => k < 8
  | .pulseEdge k => k < 8
  | .eventAtTime k => k < 8
  | .ppsInEdge _ => true
  | .ppsInLost => true
  | .clk10mMeasurement => true
  | .clk10mLost => true
  | .epochBoundary _ => true
  | .powerReq k _ => k < 142
  | .domainTransitionDone k _ => k < 142
  | .domainFault k => k < 142
  | .pllLocked p => p < 8
  | .pllLockLoss p => p < 8
  | .refclkWindow i _ _ => i < 8
  | .sysclkWindow _ => true
  | .sysclkLost => true
  | .pulseOverflow b => b < 8
  | .pulseOverflowClear _ => true
  | .mainPowerLost => true
  | .vddIoDip => true
  | .mainPowerRestored => true
  | .aonPowerUp => true
  | .tamperEvent _ _ _ _ => true
  | .tamperLevelAlarm _ _ => true
  | .tamperAlarmEnd i => i < 13
  | .tamperSample _ _ _ => true
  | .wakeOnEdge pin _ _ _ => pin < 5
  | .stickyClear _ => true
  | .responseClear _ => true
  | .fuseBlow i _ => i < 13
  | .logPop _ => true
  | .vbatMeasure _ => true
  | .auditPass _ => true
  | .creditMarker i _ _ _ _ => i < 70
  | .reportPop _ => true
  | .rebase _ => true
  | .checkpoint _ => true
  | .checkpointDone => true
  | .reclaim _ => true
  | .reclaimDone => true
  | .select w _ _ => w < 8
  | .clearMask w _ => w < 8
  | .pcEnable b _ => b < 5
  | .pcClear b _ => b < 5
  | .pcSaturatedClear b _ => b < 5
  | .pcSaturation b j => b < 5 && j < 64
  | .eventRaise e => e < 400
  | .clear g _ _ => g < 25
  | .mask g _ => g < 25
  | .wdKick _ => true
  | .wdExpiry k _ => k < 4
  | .coreRestart k => k < 4
  | .firmwareRestart => true
  | .fence k _ => k < 64
  | .sliceInternalFault k b => k < 64 && b < 4
  | .unfence k _ => k < 64
  | .unfenceComplete k _ => k < 64
  | .faultClear k _ => k < 64
  | .linkReset q => q < 4
  | .linkRetrained q _ => q < 4
  | .linkAccessTimeout q => q < 4
  | .loopback n _ => n < 256
  | .tgStart q _ => q < 4
  | .tgStop q _ => q < 4
  | .injFire _ _ => true
  | .injectionOccurrence _ _ _ => true
  | .injCancel _ => true
  | .testZeroiseArmed _ => true
  | .powerOnReset _ src => src < 4
  | .sysRstN _ => true
  | .softReset _ src _ => src < 4
  | .perstN _ => true
  | .pcieLinkTrained _ => true
  | .domainReset _ => true
  | .doorbell _ _ => true
  | .imageLoaded _ => true
  | .imageVerify => true
  | .bootConfigRecord _ _ _ _ _ _ => true
  | .bootTimeout => true
  | .deviceReady _ => true
  | .svnAdvance _ => true
  | .keyRevoke _ => true
  | .gpioFunc i _ => i < 16
  | .ppsPlace _ => true
  | .bypass _ => true
  | .idcode _ => true
  | .samplePreload _ _ => true
  | .extest _ _ => true
  | .extestPulse _ _ => true
  | .extestTrain _ _ => true
  | .clamp _ => true
  | .highz _ => true
  | .stackTrainingDone k _ => k < 2
  | .vddIoReturn _ _ => true
  | .resetRelease _ src => src < 4
  | .errorActive => true

end Sys2Proof
end

