-- ==== Sys2Proof/Safety.lean ====
section
/-! DEFINITION. What counts as a safe run, in the terms statements use: commands that complete, accesses that their owner takes, what a
command leaves alone, queues of commands that can come about. -/
namespace Sys2Proof.Machine

/-- Command `c` completes in state `s`: exec answers a next state, with the same commands waiting, whose block satisfies `P`. -/
def Completes (c : Instr) (s : State) (P : Dev → Prop) : Prop :=
  ∃ t, exec c s = .next t ∧ t.pending = s.pending ∧ P t.dev

/-- Every waiting command is well formed. -/
def State.sound (s : State) : Prop := ∀ c ∈ s.pending, c.wf = true

/-- The state after `n` steps; none where one of them does not answer a next state. -/
def State.run (s : State) : Nat → Option State
  | 0 => some s
  | n + 1 =>
    match s.run n with
    | some t =>
      match step t with
      | .next u => some u
      | _ => none
    | none => none

/-- The block as the owner of an object meets a write: the access counted (R459). -/
def Dev.atOwner (d : Dev) (w : Wr) : Dev := d.accessed (d.roleOf w.path)

/-- A write of object `i.j` comes as far as its owner's own checks, and takes effect at once where they pass: it reaches the dictionary,
crosses no retraining link and meets no armed injection there, meets no refusal from NO_OBJECT to RANGE, its pair is not absorbed, no EXEC of the entry is pending, and its
domain is not in RETAIN (R15, R43, R46, R56, R79, R481). -/
def Dev.hears (d : Dev) (i j : Nat) (w : Wr) : Bool :=
  let r := d.roleOf w.path
  let x := d.accessed r
  d.reaches w.path && (d.linkHolds i j).isNone && (d.linkHit i j).isNone && x.writeAbort r i j w.ty w.len w.value = 0 && !x.absorbedAt i && !x.isPending i j &&
  (x.wakesFor i j).isNone

/-- The registers that raising an event or counting a performance source may change: STATUS and RAISED of the event groups, NOTIFY_SENT,
the performance counters and PC_SATURATED, PULSE_OVERFLOW, and POWER_REQ and POWER_STATE of domain 136, which an event may wake (R405, R410,
R459, R465 to R467). -/
def eventReg (i j : Nat) : Bool :=
  (within 0x1400 25 i && (j = 1 || j = 5)) || (i = 0x1419 && j = 4) || (within 0x8100 5 i && (j = 3 || within 0x90 64 j)) ||
  (i = 0x1188 && (j = 1 || j = 2)) || (i = 0x1200 && j = 5)

/-- The registers a wake may change: POWER_REQ, POWER_STATE, TRANSITIONS and LAST_CHANGE of a switched domain (R405). -/
def wakeReg (i j : Nat) : Bool := within 0x1100 256 i && (j = 1 || j = 2 || j = 7 || j = 8)

/-- The command that submits a job of code 1 to 10 (R223). -/
def jobCommand (code : Nat) : Nat → Path → Nat → Instr :=
  match code with
  | 1 => .deriveSa
  | 2 => .rekeyBatch
  | 3 => .rootLoad
  | 4 => .unwrapBlob
  | 5 => .mkaKeys
  | 6 => .mkaIcv
  | 7 => .randomSak
  | 8 => .unwrapSak
  | 9 => .hashkey
  | _ => .testLoad

/-- The command that carries out a table-DMA read operation of code 1, 3, 5 or 7 (R286). -/
def dmaCommand (op : Nat) : Nat → DmaDesc → Option (List Byte) → Instr :=
  match op with
  | 1 => .readBuckets
  | 3 => .readStash
  | 5 => .readEntries
  | _ => .readRecords

/-- Every switched domain but `k` is in the state requested of it: the power controller has no step to take for it (R403). -/
def Dev.othersRest (d : Dev) (k : Nat) : Bool :=
  (List.range 142).all (fun m => m = k || (d.pstate m = psOn && d.powerReq m = 2) || (d.pstate m = psRetain && d.powerReq m = 1) ||
    (d.pstate m = psOff && d.powerReq m = 0))

/-- The block as the writes that waited for domain `k` find it, its transition to ON having ended in CCLK cycle `t` (R43). -/
def Dev.asWoken (k t : Nat) (d : Dev) : Dev := { (d.at t).transitionDone k with wakeWaits := [] }

/-- Registers `i.j` alone. -/
def only (i j x y : Nat) : Bool := x = i && y = j

/-- What ending the frames `l` may change among the registers: the causes of their pairs and quadrants with the event groups those raise,
CONDITIONS, and the performance counters of their quadrants (R159, R342, R445, R459). -/
def framesEnd (l : List Frame) (i j : Nat) : Bool :=
  only 0x8000 0xA i j || l.any (fun f => only (0x2400 + f.pair) 0x12 i j || only (0x5000 + 64 * quadOf f.pair) 0xC3 i j ||
    (within (0x1407 + 9 * quadOf f.pair / 2) 6 i && (j = 1 || j = 5)) || (i = 0x8100 + quadOf f.pair && (j = 3 || within 0x90 64 j)))

/-- Every frame that slice `s` holds: in flight, waiting for its verdict, at a background requester. -/
def Dev.sliceFrames (d : Dev) (s : Nat) : List Frame :=
  (d.inE s).map (·.frame) ++ (d.inD s).map (·.frame) ++ (List.range 5).flatMap (fun r => (d.bgOf (8 * s + r)).map (·.frame))

/-- The carrier frames of pair `n` put out since `a`, latest first. -/
def Dev.carriersSince (n : Nat) (a b : Dev) : List (List Bytes) :=
  (b.emits.take (b.emits.length - a.emits.length)).filterMap (fun e => match e with
    | .carrier m f => if m = n then some f else none
    | _ => none)

/-- A session but for what NOTIFY changes in it: the events held off and the count of its notifications (R467). -/
def Session.bare (x : Session) : Session := { x with hold := [], notes := 0 }

/-- The open sessions but for what NOTIFY changes in them. -/
def Dev.bareSessions (d : Dev) : List Session := d.dap.sessions.map Session.bare

/-- Those sessions once session `sid` of role `r` has accepted sequence number `seq` from `peer` (R72). -/
def Dev.tookIn (r : Role) (sid seq peer : Nat) (d : Dev) : List Session :=
  d.dap.sessions.map (fun y => (if y.id = sid && y.role = r then y.took seq peer else y).bare)

/-- A command of the lanes, carriers, tables, queues, clocks and sources that completes no access of an access port: no EXEC, no waiting read
or write, no request. -/
def apart : Instr → Bool
  | .punt .. | .notifyHoldoffEnd .. | .mgmtLinkChange .. | .errorPassive .. | .busOff .. | .signalDetect .. | .cdrLock ..
  | .cdrLockTimeout .. | .adaptComplete .. | .laneLockLost .. | .firstLock .. | .sideAligned .. | .linkFaultReceived ..
  | .codewordLock .. | .prbsLock .. | .fastRelockTimeout .. | .idleRetainExpiry .. | .laneWordRx .. | .losDeclare .. | .losClear ..
  | .lofDeclare .. | .lofClear .. | .drbgAutoReseed .. | .drbgHealthFail .. | .changeover .. | .retireDelayExpiry .. | .stashDrain ..
  | .migrationStep .. | .leaseExpiry .. | .readBuckets .. | .writeBuckets .. | .readStash .. | .writeStash .. | .readEntries ..
  | .writeEntries .. | .readRecords .. | .writeRecords .. | .loadPlumb .. | .plumbPass .. | .agerVisit .. | .readback ..
  | .stackFailed .. | .sampleVisit .. | .bgWait .. | .scheduleFire .. | .pulseEdge .. | .eventAtTime .. | .ppsInEdge .. | .ppsInLost ..
  | .clk10mMeasurement .. | .clk10mLost .. | .pllLocked .. | .refclkWindow .. | .sysclkWindow .. | .pulseOverflow .. | .vddIoDip ..
  | .tamperAlarmEnd .. | .vbatMeasure .. | .auditPass .. | .creditMarker .. | .pcSaturation .. | .eventRaise .. | .coreRestart ..
  | .sliceInternalFault .. | .linkReset .. | .pcieLinkTrained .. | .bypass .. | .idcode .. | .samplePreload .. | .extest ..
  | .extestPulse .. | .extestTrain .. | .clamp .. | .highz .. | .stackTrainingDone .. | .errorActive .. => true
  | _ => false

/-- Every piece of key material replaced, numbers by `f` and bytes by `g`: slot keys, cached roots, the keys, H and salts of SAs, the keys of
MKA contexts, the sealing key, carrier keys and salts, session keys (R41). -/
def Dev.otherKeys (f : Nat → Nat) (g : Bytes → Bytes) (d : Dev) : Dev :=
  let c := fun (k : CKey) => { k with key := f k.key, salt := f k.salt }
  { d with
    keys := { d.keys with
      slots := d.keys.slots.map (fun e => (e.1, e.2.map f))
      planishers := d.keys.planishers.map (fun e => (e.1, { e.2 with cache := e.2.cache.map (fun x => (x.1, f x.2)) }))
      ctxs := d.keys.ctxs.map (fun e => (e.1, { e.2 with ick := f e.2.ick, kek := f e.2.kek, sak := f e.2.sak }))
      sas := d.keys.sas.map (fun e => (e.1, { e.2 with key := f e.2.key, h := f e.2.h, salt := f e.2.salt }))
      sealing := d.keys.sealing.map f }
    carriers := d.carriers.map (fun e => (e.1, { e.2 with
      txCur := e.2.txCur.map c, txNext := e.2.txNext.map c, rxCur := e.2.rxCur.map c, rxNext := e.2.rxNext.map c }))
    dap := { d.dap with sessions := d.dap.sessions.map (fun x => { x with key := g x.key }) } }

/-- The sparse tables stand in their one canonical form: registers, table entries, channel records, queues, counters, SAs, carriers, lanes and
sides (Tbl.wf). -/
def Dev.canonical (d : Dev) : Bool :=
  Tbl.wf dflt d.dict && Tbl.wf (fun _ => Ent.init) d.slots && Tbl.wf chanDflt d.chans && Tbl.wf (fun _ => Queue.init) d.queues &&
  Tbl.wf (fun _ => 0) d.counters && Tbl.wf (fun _ => Sa.init) d.keys.sas && Tbl.wf (fun _ => Carrier.init) d.carriers &&
  Tbl.wf (fun _ => Lane.init) d.lanes && Tbl.wf (fun _ => Side.init) d.sides

/-- The registers of pair `n`: its ports, policy and carrier. -/
def pairReg (n i _j : Nat) : Bool := i = 0x2000 + n || i = 0x2100 + n || i = 0x2400 + n || i = 0x2500 + n

/-- What `b` keeps of `a`: every register outside `p`, and outside what raising and counting may change; every other part of the block, but
for the latest answer, what is put out, the pulses on their way to the keystone and the model's note of the time. -/
def Dev.keeps (p : Nat → Nat → Bool) (a b : Dev) : Prop :=
  (∀ i j, j < 256 → p i j = false → eventReg i j = false → b.rd i j = a.rd i j) ∧
  b = { a with dict := b.dict, answer := b.answer, now := b.now, pulses := b.pulses, bar0 := b.bar0, emits := b.emits, msix := b.msix,
               dap := b.dap, power := b.power }

end Sys2Proof.Machine
end

