-- ==== Sys2Proof/Certificates/Slice0/Obligations.lean ====
section
/-! DEFINITION. The statements about the model. Most are lists of clauses of one form: for every state and operands that meet the
hypotheses, a command completes and leaves what the rules give it, and leaves the rest alone (Dev.keeps names what it may change). -/
open Sys2Proof Sys2Proof.Machine

/-- A step runs the command at the front of the queue on the block with the rest waiting; with an empty queue the block's own
    engines take a round. Where the rules leave a point open, the outcome stated is the model's own choice, in entry 5 of the
    assumption log. -/
def Obligations.StepTakesTheFrontCommand : Prop :=
  (∀ (c : Instr) (s : State), step { s with pending := c :: s.pending } = exec c s) ∧ ∀ s : State, s.pending = [] → step s = .next { s with dev := s.dev.round }

/-- Every command whose operands name instances of the part answers a next state and leaves the queue alone; any other answers the
    model's own fault noInstance. Where the rules leave a point open, the outcome stated is the model's own choice, in entry 150
    of the assumption log. -/
def Obligations.CommandsCompleteUnlessTheyNameNoInstance : Prop :=
  ∀ (c : Instr) (s : State), (c.wf = true → ∃ t, exec c s = .next t ∧ t.pending = s.pending) ∧ (c.wf = false → exec c s = .fault .noInstance)

/-- A queue of well-formed commands runs to its end: each step completes, takes one command and leaves the rest well formed; then
    the engines go on in rounds. Where the rules leave a point open, the outcome stated is the model's own choice, in entry 5 of
    the assumption log. -/
def Obligations.SoundQueuesRunToTheirEnd : Prop :=
  ∀ s : State, s.sound → ∀ k : Nat, ∃ t, s.run k = some t ∧ t.pending = s.pending.drop k ∧ t.sound

/-- Every step keeps the register file in its one canonical form: registers in rising order, none listed at its default -/
def Obligations.RegistersStayInTheirCanonicalForm : Prop :=
  ∀ s t : State, Tbl.wf dflt s.dev.dict = true → step s = .next t → Tbl.wf dflt t.dev.dict = true

/-- Every step keeps every sparse table of the block in its one canonical form: entries in rising order of their keys, none listed
    at its default -/
def Obligations.TablesStayInTheirCanonicalForm : Prop :=
  ∀ s t : State, s.dev.canonical = true → step s = .next t → t.dev.canonical = true

/-- After reset nothing waits, the registers are canonical, no port is formed, the vault is NORMAL, the boot is at its start,
    nothing is sealed or valid. Where the rules leave a point open, the outcome stated is the model's own choice, in entries 7
    and 11 of the assumption log. -/
def Obligations.ResetLeavesTheBlockAtItsDefaults : Prop :=
  State.reset.pending = [] ∧ Tbl.wf dflt State.reset.dev.dict = true ∧
  (∀ i j, j < 256 → (i, j) ≠ (0x304F, 2) → (i, j) ≠ (0x5003, 0xC2) → (i, j) ≠ (0x7800, 1) → State.reset.dev.rd i j = dflt (okey i j)) ∧
  (∀ n, n < 256 → State.reset.dev.rd (0x2000 + n) 1 = pmOff) ∧ (∀ l, l < 512 → State.reset.dev.rd (0x2200 + l) 1 = lnOff) ∧
  (∀ g, g < 25 → State.reset.dev.rd (0x1400 + g) 1 = 0) ∧ State.reset.dev.rd 0x1003 1 = 2 ∧
  State.reset.dev.rd 0x3000 2 = 0 ∧
  State.reset.dev.rd 0x1020 4 = 0 ∧
  State.reset.dev.rd 0x1300 2 = 0 ∧
  State.reset.dev.rd 0x7000 8 = 0 ∧
  State.reset.dev.rd 0x118E 2 = 2 ∧
  State.reset.dev.rd 0x118F 2 = 2 ∧
  State.reset.dev.rd 0x7800 1 = 0x20

/-- A write that the checks from NO_OBJECT to RANGE refuse is answered with the first abort of their order, recorded in LAST_ABORT,
    and changes no other register. Where the rules leave a point open, the outcome stated is the model's own choice, in entries
    24 and 152 of the assumption log. -/
def Obligations.RefusedWritesAreAnsweredAndDoNothingElse : Prop :=
  (∀ (i j t : Nat) (w : Wr) (s : State), j < 256 → s.dev.reaches w.path = true → s.dev.linkHolds i j = none → s.dev.linkHit i j = none →
    (s.dev.accessed (s.dev.roleOf w.path)).writeAbort (s.dev.roleOf w.path) i j w.ty w.len w.value ≠ 0 →
    Completes (.dictionaryWrite i j t w) s fun d =>
    (d.answer.abort = (s.dev.accessed (s.dev.roleOf w.path)).writeAbort (s.dev.roleOf w.path) i j w.ty w.len w.value ∨ (namesDomain i j = true ∧ d.answer.abort = abPoweredOff)) ∧
    d.rd 0x1530 2 = i * 2 ^ 24 + j * 2 ^ 16 + d.answer.abort ∧ s.dev.keeps (only 0x1530 2) d) ∧
  (∀ (i j t : Nat) (w : Wr) (s : State), within 0x1300 256 i = true → (objAt i j).isSome = true → s.dev.boot.sealed = true →
    s.dev.reaches w.path = true → s.dev.linkHolds i j = none → s.dev.linkHit i j = none → Completes (.dictionaryWrite i j t w) s fun d =>
    d.answer.abort = abSealed ∧ s.dev.keeps (only 0x1530 2) d) ∧
  (∀ (i j t : Nat) (w : Wr) (s : State), insts i = [] → objAt i j = none → s.dev.reaches w.path = true → s.dev.linkHolds i j = none →
    s.dev.linkHit i j = none → Completes (.dictionaryWrite i j t w) s fun d => d.answer.abort = abNoObject ∧ s.dev.keeps (only 0x1530 2) d) ∧
  (∀ (i j t : Nat) (w : Wr) (s : State), insts i ≠ [] → objAt i j = none → j ≠ 0 → s.dev.reaches w.path = true →
    s.dev.linkHolds i j = none → s.dev.linkHit i j = none → Completes (.dictionaryWrite i j t w) s fun d => d.answer.abort = abNoSubindex ∧
    s.dev.keeps (only 0x1530 2) d)

/-- What an object reads as, and the view of an SA, do not depend on any key, salt, hash key or root that the block holds -/
def Obligations.KeyMaterialIsNeverRead : Prop :=
  (∀ (d : Dev) (i j n : Nat) (k : Option Nat), ((d.setSlotKey n k).readVal i j).1 = (d.readVal i j).1) ∧
  (∀ (d : Dev) (i j : Nat) (f : Nat → Nat) (g : Bytes → Bytes), ((d.otherKeys f g).readVal i j).1 = (d.readVal i j).1) ∧
  ∀ (x : Sa) (key h salt : Nat), saView { x with key := key, h := h, salt := salt } = saView x

/-- ZEROISE is EXEC with type U32: it starts zeroisation when written with 0x5A45_524F; any other value is refused with RANGE and
    has no effect -/
def Obligations.ZeroiseStartsOnlyOnItsValue : Prop :=
  ( objAt 0x3000 1 = some (.vault, 0, ⟨1, 1, "ZEROISE", .u32, .exec, 0, .oneOf [0x5A45524F]⟩)) ∧
  (∀ (w : Wr) (s : State), s.dev.hears 0x3000 1 w = true → w.value = 0x5A45524F → s.dev.rd 0x3000 2 ≠ 1 → Completes (.zeroise w) s fun d =>
    d.answer.abort = 0 ∧ d.rd 0x3000 2 = 1) ∧
  (∀ (w : Wr) (s : State), s.dev.reaches w.path = true → s.dev.linkHolds 0x3000 1 = none → s.dev.linkHit 0x3000 1 = none →
    (s.dev.accessed (s.dev.roleOf w.path)).writeAbort (s.dev.roleOf w.path) 0x3000 1 w.ty w.len 0x5A45524F = 0 → w.value < 2 ^ 32 →
    w.value ≠ 0x5A45524F → Completes (.zeroise w) s fun d => d.answer.abort = abRange ∧ s.dev.keeps (only 0x1530 2) d)

/-- PORT_COMPAT is a BOOL with default 0 that selects level 1; at BEHAVIOUR_LEVEL 1 it reads 1 and refuses 0 with LEVEL; it is
    written only while PORT_MODE is OFF -/
def Obligations.PortCompatFollowsTheBehaviourLevel : Prop :=
  (∀ (n : Nat), n < 256 → objAt (0x2000 + n) 3 = some (.linePort, n, ⟨3, 1, "PORT_COMPAT", .bool, .rw, 0, .all⟩)) ∧
  (∀ (n : Nat) (s : State), n < 256 → s.dev.rd (0x2000 + n) 3 = 1 → s.dev.level1 n = true) ∧
  (∀ (n : Nat) (s : State), n < 256 → s.dev.levelDev = 1 → (s.dev.readVal (0x2000 + n) 3).1 = 1) ∧
  (∀ (n : Nat) (w : Wr) (s : State), n < 256 → s.dev.hears (0x2000 + n) 3 w = true → w.value = 0 → s.dev.levelDev = 1 →
    Completes (.portCompat n w) s fun d => d.answer.abort = abLevel ∧ s.dev.keeps (only 0x1530 2) d) ∧
  (∀ (n : Nat) (w : Wr) (s : State), n < 256 → s.dev.hears (0x2000 + n) 3 w = true → (w.value = 0 → s.dev.levelDev ≠ 1) →
    s.dev.mode n ≠ pmOff → Completes (.portCompat n w) s fun d => d.answer.abort = abState ∧ s.dev.keeps (only 0x1530 2) d) ∧
  (∀ (n : Nat) (w : Wr) (s : State), n < 256 → s.dev.hears (0x2000 + n) 3 w = true → (w.value = 0 → s.dev.levelDev ≠ 1) →
    s.dev.mode n = pmOff → Completes (.portCompat n w) s fun d => d.answer.abort = 0 ∧ d.rd (0x2000 + n) 3 = w.value ∧
    s.dev.keeps (only (0x2000 + n) 3) d)

/-- The objects of a port that R91 names are written only while PORT_MODE is OFF, each checked alone; PORT_MODE changes only through
    OFF -/
def Obligations.PortModeChangesGoThroughOff : Prop :=
  (∀ (n i j t : Nat) (w : Wr) (s : State), n < 256 →
    (i, j) ∈ [(0x2000 + n, 2), (0x2000 + n, 5), (0x2000 + n, 0x10), (0x2000 + n, 0x11), (0x2000 + n, 0x14), (0x2100 + n, 0x10), (0x2100 + n, 0x11), (0x2100 + n, 0x14), (0x2100 + n, 0x18)] →
    s.dev.hears i j w = true → (j = 2 → n % w.value = 0) → s.dev.mode n ≠ pmOff → Completes (.dictionaryWrite i j t w) s fun d =>
    d.answer.abort = abState ∧ s.dev.keeps (only 0x1530 2) d) ∧
  (∀ (n i j t : Nat) (w : Wr) (s : State), n < 256 →
    (i, j) ∈ [(0x2000 + n, 5), (0x2000 + n, 0x10), (0x2000 + n, 0x11), (0x2000 + n, 0x14), (0x2100 + n, 0x10), (0x2100 + n, 0x11), (0x2100 + n, 0x14), (0x2100 + n, 0x18)] →
    s.dev.hears i j w = true → s.dev.mode n = pmOff → Completes (.dictionaryWrite i j t w) s fun d => d.answer.abort = 0 ∧
    d.rd i j = w.value ∧ s.dev.keeps (only i j) d) ∧
  (∀ (n t : Nat) (w : Wr) (s : State), n < 256 → s.dev.hears (0x2000 + n) 2 w = true → n % w.value = 0 →
    (∀ k, k < w.value → s.dev.mode (n + k) = pmOff) → Completes (.dictionaryWrite (0x2000 + n) 2 t w) s fun d => d.answer.abort = 0 ∧
    d.rd (0x2000 + n) 2 = w.value) ∧
  (∀ (n t : Nat) (w : Wr) (s : State), n < 256 → s.dev.hears (0x2000 + n) 2 w = true → n % w.value ≠ 0 →
    Completes (.dictionaryWrite (0x2000 + n) 2 t w) s fun d => d.answer.abort = abRange ∧ s.dev.keeps (only 0x1530 2) d) ∧
  (∀ (n : Nat) (w : Wr) (s : State), n < 256 → s.dev.hears (0x2000 + n) 1 w = true → s.dev.mode n ≠ pmOff → w.value ≠ pmOff →
    w.value ≠ s.dev.mode n → widthOk n (s.dev.width n) w.value = true → Completes (.portMode n w) s fun d => d.answer.abort = abState ∧
    d.mode n = s.dev.mode n ∧ s.dev.keeps (only 0x1530 2) d) ∧
  (∀ (n : Nat) (w : Wr) (s : State), n < 256 → s.dev.hears (0x2000 + n) 1 { w with value := 0 } = true → s.dev.mode n ≠ pmOff →
    Completes (.portModeOff n w) s fun d => d.answer.abort = 0 ∧ d.mode n = pmOff)

/-- A lane moves from SIGNAL_WAIT over CDR_LOCK and ADAPT to LOCKED and restarts when it loses lock; its codewords lock, and its
    side stays unaligned beyond 180 ns. Where the rules leave a point open, the outcome stated is the model's own choice, in
    entry 51 of the assumption log. -/
def Obligations.LanesComeUpStateByState : Prop :=
  (∀ (l : Nat) (s : State), l < 512 → s.dev.laneState l = lnSignalWait → Tbl.get (fun _ => 0) s.dev.darkUntil l ≤ s.dev.now →
    Completes (.signalDetect l) s fun d => d.laneState l = lnCdrLock ∧
    s.dev.keeps (only (0x2200 + l) 1) { d with darkUntil := s.dev.darkUntil }) ∧
  (∀ (l : Nat) (s : State), l < 512 → s.dev.laneState l = lnCdrLock → (s.dev.lane l).adapt = false → Completes (.cdrLock l) s fun d =>
    d.laneState l = lnAdapt ∧ s.dev.keeps (only (0x2200 + l) 1) d) ∧
  (∀ (l : Nat) (s : State), l < 512 → s.dev.laneState l = lnCdrLock → Completes (.cdrLockTimeout l) s fun d =>
    d.laneState l = lnSignalWait ∧ s.dev.keeps (only (0x2200 + l) 1) d) ∧
  (∀ (l : Nat) (s : State), l < 512 → s.dev.laneState l = lnAdapt → Completes (.adaptComplete l) s fun d => d.laneState l = lnLocked ∧
    (d.lane l).adapt = true ∧
    s.dev.keeps (fun i j => i = 0x2200 + l || (s.dev.laneHolder l).any (fun n => pairReg n i j)) { d with lanes := s.dev.lanes, sides := s.dev.sides }) ∧
  (∀ (l : Nat) (s : State), l < 512 → s.dev.laneState l = lnLocked → Completes (.laneLockLost l) s fun d => d.laneState l = lnSignalWait ∧
    (d.lane l).adapt = (s.dev.lane l).adapt ∧ (d.lane l).polDone = (s.dev.lane l).polDone ∧
    s.dev.keeps (fun i j => i = 0x2200 + l || (s.dev.laneHolder l).any (fun n => pairReg n i j)) { d with lanes := s.dev.lanes, sides := s.dev.sides }) ∧
  (∀ (l x : Nat) (syms : List Nat) (s : State), l < 512 → s.dev.sideOfLane l = some x → s.dev.laneState l = lnLocked →
    s.dev.carrierLine x = true → (s.dev.lane l).cwLock = false → (s.dev.lane l).cwGood = 2 → (s.dev.lane l).polDone = true →
    Completes (.codewordLock l syms true) s fun d => (d.lane l).cwLock = true ∧
    s.dev.keeps (fun _ _ => false) { d with lanes := s.dev.lanes }) ∧
  (∀ (x k : Nat) (nums : List (List Nat)) (skew : List Nat) (s : State), x < 512 → s.dev.mode (x % 256) ≠ pmOff →
    s.dev.sideIdle x = false → s.dev.carrierLine x = false → s.dev.lanesLocked x = true →
    (s.dev.sideLanes x).all (fun l => (s.dev.lane l).polDone) = true → k < (s.dev.sideLanes x).length →
    180000 + (List.range (s.dev.sideLanes x).length).foldl (fun a i => min a (nth 0 skew i)) (nth 0 skew 0) < nth 0 skew k →
    Completes (.sideAligned x nums skew) s fun d => (d.side x).aligned = false ∧
    s.dev.keeps (fun i j => pairReg (x % 256) i j || within 0x2200 512 i) { d with sides := s.dev.sides }) ∧
  (∀ (x : Nat) (s : State), x < 512 → s.dev.mode (x % 256) ≠ pmOff → s.dev.sideIdle x = false → s.dev.carrierLine x = false →
    s.dev.power.forming.contains (x % 256) = false → s.dev.power.exiting.contains x = false → s.dev.lanesLocked x = true →
    (s.dev.side x).aligned = true → Completes (.linkFaultReceived x 0) s fun d => (d.side x).fault = 0 ∧ d.sideState x = stUp ∧
    s.dev.keeps (pairReg (x % 256)) { d with sides := s.dev.sides })

/-- A lane with stored adaptation relocks without adapting; a slow relock or a long idle discards it; the first lock step settles
    polarity. Where the rules leave a point open, the outcome stated is the model's own choice, in entries 19 and 51 of the
    assumption log. -/
def Obligations.StoredAdaptationShortensRelocking : Prop :=
  (∀ (l : Nat) (s : State), l < 512 → s.dev.laneState l = lnCdrLock → (s.dev.lane l).adapt = true → Completes (.cdrLock l) s fun d =>
    d.laneState l = lnLocked ∧ (d.lane l).adapt = true ∧
    s.dev.keeps (fun i j => i = 0x2200 + l || (s.dev.laneHolder l).any (fun n => pairReg n i j)) { d with lanes := s.dev.lanes, sides := s.dev.sides }) ∧
  (∀ (l : Nat) (s : State), l < 512 → s.dev.laneState l = lnCdrLock → Completes (.fastRelockTimeout l) s fun d =>
    d.laneState l = lnCdrLock ∧ (d.lane l).adapt = false ∧ s.dev.keeps (fun _ _ => false) { d with lanes := s.dev.lanes }) ∧
  (∀ (l : Nat) (want got : List Byte) (s : State), l < 512 → s.dev.laneState l = lnLocked → (s.dev.lane l).polDone = false →
    s.dev.rd (0x2200 + l) 3 ≠ 2 → got = want → Completes (.firstLock l want got) s fun d => d.rd (0x2200 + l) 4 = 0 ∧
    (d.lane l).polDone = true ∧ s.dev.keeps (only (0x2200 + l) 4) { d with lanes := s.dev.lanes }) ∧
  (∀ (l : Nat) (want got : List Byte) (s : State), l < 512 → s.dev.laneState l = lnLocked → (s.dev.lane l).polDone = false → got ≠ want →
    mirrored (isPam4 (s.dev.laneRate l)) got = want →
    (s.dev.rd (0x2200 + l) 3 = 2 ∨ (s.dev.rd (0x2200 + l) 3 = 0 ∧ (s.dev.lane l).inverted = 1)) →
    Completes (.firstLock l want got) s fun d => d.rd (0x2200 + l) 4 = 1 ∧ (d.lane l).polDone = true ∧
    s.dev.keeps (only (0x2200 + l) 4) { d with lanes := s.dev.lanes }) ∧
  (∀ (l : Nat) (want got : List Byte) (s : State), l < 512 → s.dev.laneState l = lnLocked → (s.dev.lane l).polDone = false → got ≠ want →
    mirrored (isPam4 (s.dev.laneRate l)) got ≠ want → Completes (.firstLock l want got) s fun d => (d.lane l).polDone = false ∧
    (d.lane l).inverted = 0 ∧ s.dev.keeps (fun _ _ => false) { d with lanes := s.dev.lanes }) ∧
  (∀ (x : Nat) (s : State), x < 512 → s.dev.mode (x % 256) ≠ pmOff → s.dev.sideIdle x = true → Completes (.idleRetainExpiry x) s fun d =>
    (∀ l ∈ s.dev.sideLanes x, (d.lane l).adapt = false) ∧ s.dev.keeps (fun _ _ => false) { d with lanes := s.dev.lanes })

/-- A side aligns within 180 ns of skew, holds DEFECT while it receives a fault, counts corrected symbols, and goes to and from
    electrical idle. Where the rules leave a point open, the outcome stated is the model's own choice, in entries 51 and 52 of
    the assumption log. -/
def Obligations.SidesAlignFaultAndIdle : Prop :=
  (∀ (x : Nat) (nums : List (List Nat)) (skew : List Nat) (s : State), x < 512 → s.dev.mode (x % 256) ≠ pmOff → s.dev.sideIdle x = false →
    s.dev.carrierLine x = false → s.dev.power.forming.contains (x % 256) = false → s.dev.power.exiting.contains x = false →
    s.dev.lanesLocked x = true → (s.dev.sideLanes x).all (fun l => (s.dev.lane l).polDone) = true →
    x % 256 + s.dev.sysWidth (x % 256) ≤ 256 → isOrder (s.dev.sideLanes x).length (nums.map lanePosition) = true →
    (skew.take (s.dev.sideLanes x).length).foldl max 0 ≤ 180000 → Completes (.sideAligned x nums skew) s fun d =>
    (d.side x).aligned = true ∧ d.sideState x = (if (s.dev.side x).fault = 0 then stUp else stDefect) ∧
    d.rd (0x2000 + x) 0x12 = (List.range 16).foldl (fun a i => a + (if i < (s.dev.sideLanes x).length then nth 0 (nums.map lanePosition) i else 15) * 16 ^ i) 0 ∧
    (∀ k, k < (s.dev.sideLanes x).length → d.rd (0x2200 + nth 0 (s.dev.sideLanes x) k) 8 + (List.range (s.dev.sideLanes x).length).foldl (fun a i => min a (nth 0 skew i)) (nth 0 skew 0) = nth 0 skew k) ∧
    s.dev.keeps (fun i j => pairReg (x % 256) i j || within 0x2200 512 i) { d with sides := s.dev.sides }) ∧
  (∀ (x f : Nat) (s : State), x < 512 → s.dev.mode (x % 256) ≠ pmOff → s.dev.sideIdle x = false → s.dev.carrierLine x = false →
    s.dev.power.forming.contains (x % 256) = false → s.dev.power.exiting.contains x = false → s.dev.lanesLocked x = true → 1 ≤ f → f ≤ 3 →
    Completes (.linkFaultReceived x f) s fun d => d.sideState x = stDefect ∧ (d.side x).fault = f ∧
    s.dev.keeps (pairReg (x % 256)) { d with sides := s.dev.sides }) ∧
  (∀ (l x : Nat) (syms : List Nat) (s : State), l < 512 → s.dev.sideOfLane l = some x → s.dev.laneState l = lnLocked →
    s.dev.carrierLine x = false → (s.dev.side x).aligned = true → Completes (.codewordLock l syms true) s fun d =>
    d.rd (0x2000 + x) 0x15 = satAdd 64 (s.dev.rd (0x2000 + x) 0x15) (b2n ((List.range (s.dev.sideLanes x).length).any (fun i => nth 0 syms i != 0))) ∧
    (∀ k, k < (s.dev.sideLanes x).length → d.rd (0x2200 + nth 0 (s.dev.sideLanes x) k) 9 = satAdd 64 (s.dev.rd (0x2200 + nth 0 (s.dev.sideLanes x) k) 9) (nth 0 syms k)) ∧
    s.dev.keeps (fun i j => (s.dev.sideLanes x).any (fun m => only (0x2200 + m) 9 i j) || only (0x2000 + x) 0x15 i j) d) ∧
  (∀ (x : Nat) (w : Wr) (s : State), x < 512 → s.dev.hears (0x2000 + x) 6 { w with value := 1 } = true → s.dev.mode (x % 256) ≠ pmOff →
    s.dev.rd (0x2000 + x) 6 = 0 → x % 256 + s.dev.sysWidth (x % 256) ≤ 256 → Completes (.portPowerIdle x w) s fun d => d.answer.abort = 0 ∧
    d.rd (0x2000 + x) 6 = 1 ∧ (∀ l ∈ s.dev.sideLanes x, d.laneState l = lnIdle) ∧
    s.dev.keeps (fun i j => pairReg (x % 256) i j || within 0x2200 512 i) { d with lanes := s.dev.lanes, sides := s.dev.sides, carriers := s.dev.carriers }) ∧
  (∀ (x : Nat) (w : Wr) (s : State), x < 512 → s.dev.hears (0x2000 + x) 6 { w with value := 0 } = true → s.dev.mode (x % 256) ≠ pmOff →
    s.dev.rd (0x2000 + x) 6 = 1 → (s.dev.sideDomains x).all s.dev.isOn = true → x % 256 + s.dev.sysWidth (x % 256) ≤ 256 →
    Completes (.fastExit x w) s fun d => d.answer.abort = 0 ∧ d.rd (0x2000 + x) 6 = 0 ∧
    (∀ l ∈ s.dev.sideLanes x, d.laneState l = lnSignalWait) ∧ (∀ l ∈ s.dev.sideLanes x, .burst l (isPam4 (s.dev.sideRate x)) ∈ d.emits) ∧
    s.dev.keeps (fun i j => pairReg (x % 256) i j || within 0x2200 512 i) { d with lanes := s.dev.lanes, sides := s.dev.sides }) ∧
  (∀ (x : Nat) (w : Wr) (s : State), x < 512 → s.dev.hears (0x2000 + x) 6 { w with value := 0 } = true → s.dev.mode (x % 256) ≠ pmOff →
    s.dev.rd (0x2000 + x) 6 = 1 → (s.dev.sideDomains x).all s.dev.isOn = false → x % 256 + s.dev.sysWidth (x % 256) ≤ 256 →
    Completes (.fastExit x w) s fun d => d.answer.abort = 0 ∧ d.rd (0x2000 + x) 6 = 0 ∧ d.power.exiting.contains x = true ∧
    (∀ l ∈ s.dev.sideLanes x, d.laneState l = s.dev.laneState l) ∧
    s.dev.keeps (fun i j => only (0x2000 + x) 6 i j || (within 0x1100 142 i && (j = 1 || j = 2))) d)

/-- BEHAVIOUR_LEVEL, PORT_COMPAT, PORT_WIDTH, PORT_MODE and the power objects take effect under their rules, and OFF releases the
    lanes. Where the rules leave a point open, the outcome stated is the model's own choice, in entry 55 of the assumption log. -/
def Obligations.PortObjectsAreWrittenWhileOff : Prop :=
  (∀ (w : Wr) (s : State), s.dev.hears 0x1003 1 w = true → (s.dev.boot.compat = true → w.value ≠ 2) → s.dev.formedPairs = [] →
    Completes (.behaviourLevel w) s fun d => d.answer.abort = 0 ∧ d.rd 0x1003 1 = w.value ∧ s.dev.keeps (only 0x1003 1) d) ∧
  (∀ (n : Nat) (w : Wr) (s : State), n < 256 → s.dev.hears (0x2000 + n) 3 w = true → w.value = 1 → s.dev.mode n = pmOff →
    Completes (.portCompat n w) s fun d => d.answer.abort = 0 ∧ d.rd (0x2000 + n) 3 = 1 ∧ s.dev.keeps (only (0x2000 + n) 3) d) ∧
  (∀ (n : Nat) (w : Wr) (s : State), n < 256 → s.dev.hears (0x2000 + n) 2 w = true → n % w.value = 0 →
    (∀ k, k < w.value → s.dev.mode (n + k) = pmOff) → Completes (.portWidth n w) s fun d => d.answer.abort = 0 ∧ d.width n = w.value ∧
    s.dev.keeps (fun i j => only (0x2000 + n) 2 i j || only (0x2400 + n) 0x12 i j || (List.range (max w.value (s.dev.width n))).any (fun k => k ≠ 0 && pairReg (n + k) i j)) { d with time := s.dev.time }) ∧
  (∀ (n : Nat) (w : Wr) (s : State), n < 256 → s.dev.hears (0x2000 + n) 1 w = true → w.value ≠ pmOff → w.value ≠ pmCarrier →
    s.dev.mode n = pmOff → s.dev.formAbort n w.value = 0 → (s.dev.pairDomains n).all s.dev.isOn = true →
    Completes (.portMode n w) s fun d => d.answer.abort = 0 ∧ d.mode n = w.value ∧
    (∀ l ∈ s.dev.pairLanes n, d.laneState l = (if s.dev.sideIdle (if l < 256 then n else 256 + n) = true then lnIdle else lnSignalWait))) ∧
  (∀ (n : Nat) (w : Wr) (s : State), n < 256 → s.dev.hears (0x2000 + n) 1 w = true → w.value = pmCarrier → s.dev.mode n = pmOff →
    s.dev.formAbort n pmCarrier = 0 → (s.dev.pairDomains n).all s.dev.isOn = true → n + s.dev.sysWidth n ≤ 256 →
    Completes (.portMode n w) s fun d => d.answer.abort = 0 ∧ d.mode n = pmCarrier ∧ d.rd (0x2500 + n) 0x10 = 1 ∧
    d.power.forming.contains n = false ∧
    (∀ l ∈ s.dev.pairLanes n, d.laneState l = (if s.dev.sideIdle (if l < 256 then n else 256 + n) = true then lnIdle else lnSignalWait))) ∧
  (∀ (n : Nat) (w : Wr) (s : State), n < 256 → s.dev.hears (0x2000 + n) 1 w = true → w.value ≠ pmOff → s.dev.mode n = pmOff →
    s.dev.formAbort n w.value = 0 → (s.dev.pairDomains n).all s.dev.isOn = false → Completes (.portMode n w) s fun d =>
    d.answer.abort = 0 ∧ d.mode n = w.value ∧ d.power.forming.contains n = true) ∧
  (∀ (n : Nat) (w : Wr) (s : State), n < 256 → s.dev.hears (0x2000 + n) 1 { w with value := 0 } = true → s.dev.mode n ≠ pmOff →
    Completes (.portModeOff n w) s fun d => d.answer.abort = 0 ∧ d.mode n = pmOff ∧ d.sideState n = stDown ∧
    d.sideState (256 + n) = stDown) ∧
  (∀ (x : Nat) (w : Wr) (s : State), x < 512 → s.dev.hears (0x2000 + x) 6 { w with value := 1 } = true → s.dev.mode (x % 256) = pmOff →
    Completes (.portPowerIdle x w) s fun d => d.answer.abort = 0 ∧ d.rd (0x2000 + x) 6 = 1 ∧ s.dev.keeps (only (0x2000 + x) 6) d) ∧
  (∀ (x : Nat) (w : Wr) (s : State), x < 512 → s.dev.hears (0x2000 + x) 6 { w with value := 0 } = true → s.dev.mode (x % 256) = pmOff →
    Completes (.fastExit x w) s fun d => d.answer.abort = 0 ∧ d.rd (0x2000 + x) 6 = 0 ∧ s.dev.keeps (only (0x2000 + x) 6) d)

/-- PRBS objects of a lane outside every pair are stored, its checker locks on 64 errorless bits, counts errors, and is cleared.
    Where the rules leave a point open, the outcome stated is the model's own choice, in entries 53, 54, 160, 198 and 199 of the
    assumption log. -/
def Obligations.PrbsObjectsTestALane : Prop :=
  (∀ (l : Nat) (w : Wr) (s : State), l < 512 → s.dev.hears (0x2200 + l) 0xA w = true → prbsFits w.value (s.dev.rd (0x2200 + l) 2) = true →
    s.dev.laneHolder l = none → Completes (.prbsPattern l w) s fun d => d.answer.abort = 0 ∧ d.rd (0x2200 + l) 0xA = w.value ∧
    d.laneState l = (if w.value = 0 ∧ s.dev.rd (0x2200 + l) 0xB = 0 then lnOff else lnPrbs) ∧
    s.dev.keeps (fun i j => only (0x2200 + l) 1 i j || only (0x2200 + l) 0xA i j) { d with lanes := s.dev.lanes }) ∧
  (∀ (l : Nat) (w : Wr) (s : State), l < 512 → s.dev.hears (0x2200 + l) 0xB w = true → prbsFits w.value (s.dev.rd (0x2200 + l) 2) = true →
    s.dev.laneHolder l = none → Completes (.prbsCheck l w) s fun d => d.answer.abort = 0 ∧ d.rd (0x2200 + l) 0xB = w.value ∧
    bit 0 (d.rd (0x2200 + l) 0xC) = false ∧ d.laneState l = (if w.value = 0 ∧ s.dev.rd (0x2200 + l) 0xA = 0 then lnOff else lnPrbs) ∧
    s.dev.keeps (fun i j => i = 0x2200 + l && (j = 1 || j = 0xB || j = 0xC)) { d with lanes := s.dev.lanes }) ∧
  (∀ (l : Nat) (b : Bool) (s : State), l < 512 → s.dev.isOn (laneDom l) = true → s.dev.rd (0x2200 + l) 0xB ≠ 0 →
    bit 0 (s.dev.rd (0x2200 + l) 0xC) = false → prbsDegree (s.dev.rd (0x2200 + l) 0xB) ≤ (s.dev.lane l).chk.seen →
    (s.dev.lane l).chk.run = 63 → b = prbsNext (s.dev.rd (0x2200 + l) 0xB) (s.dev.lane l).chk.reg → Completes (.prbsLock l [b]) s fun d =>
    bit 0 (d.rd (0x2200 + l) 0xC) = true ∧ bit 1 (d.rd (0x2200 + l) 0xC) = false ∧
    s.dev.keeps (only (0x2200 + l) 0xC) { d with lanes := s.dev.lanes }) ∧
  (∀ (l : Nat) (b : Bool) (s : State), l < 512 → s.dev.isOn (laneDom l) = true → s.dev.rd (0x2200 + l) 0xB ≠ 0 →
    bit 0 (s.dev.rd (0x2200 + l) 0xC) = true → (s.dev.lane l).chk.inv = false → Completes (.prbsLock l [b]) s fun d =>
    d.rd (0x2200 + l) 0xD = satAdd 64 (s.dev.rd (0x2200 + l) 0xD) (b2n (b != prbsNext (s.dev.rd (0x2200 + l) 0xB) (s.dev.lane l).chk.reg)) ∧
    d.rd (0x2200 + l) 0xE = satAdd 64 (s.dev.rd (0x2200 + l) 0xE) 1 ∧
    s.dev.keeps (fun i j => i = 0x2200 + l && within 0xC 3 j) { d with lanes := s.dev.lanes }) ∧
  (∀ (l : Nat) (bits : List Bool) (s : State), l < 512 → s.dev.isOn (laneDom l) = true → s.dev.rd (0x2200 + l) 0xB ≠ 0 →
    bit 0 (s.dev.rd (0x2200 + l) 0xC) = true → (s.dev.lane l).chk.errs + bits.length ≤ 512 → bits ≠ [] →
    Completes (.prbsLock l bits) s fun d => bit 0 (d.rd (0x2200 + l) 0xC) = true ∧
    d.rd (0x2200 + l) 0xE = satAdd 64 (s.dev.rd (0x2200 + l) 0xE) bits.length ∧
    s.dev.keeps (fun i j => only (0x2200 + l) 0xD i j || only (0x2200 + l) 0xE i j) { d with lanes := s.dev.lanes }) ∧
  (∀ (l : Nat) (w : Wr) (s : State), l < 512 → s.dev.hears (0x2200 + l) 0xF w = true → Completes (.prbsClear l w) s fun d =>
    d.answer.abort = 0 ∧ d.rd (0x2200 + l) 0xD = 0 ∧ d.rd (0x2200 + l) 0xE = 0 ∧ bit 2 (d.rd (0x2200 + l) 0xC) = false ∧
    s.dev.keeps (fun i j => i = 0x2200 + l && within 0xC 3 j) d) ∧
  (∀ (l : Nat) (w : Wr) (s : State), l < 512 → s.dev.hears (0x2200 + l) 0x10 w = true → w.value ≠ 0 → s.dev.rd (0x2200 + l) 0xA ≠ 0 →
    Completes (.prbsInsert l w) s fun d => d.answer.abort = 0 ∧ (d.lane l).insert = (s.dev.lane l).insert + w.value ∧
    s.dev.keeps (fun _ _ => false) { d with lanes := s.dev.lanes })

/-- A good frame classified to a channel and class whose queue holds frames is put behind them; a protected one waits for its
    verdict too. Where the rules leave a point open, the outcome stated is the model's own choice, in entries 57, 101, 167 and
    168 of the assumption log. -/
def Obligations.FramesQueueBehindThoseOfTheirChannel : Prop :=
  (∀ (n c k t : Nat) (p ptp : Bool) (b : List Byte) (s : State), n < 256 → c < 32768 → k < 8 → s.dev.takes (256 + n) = true →
    s.dev.quiesced = false → 60 ≤ b.length → b.length + 36 ≤ s.dev.rd (0x2400 + n) 5 →
    (((s.dev.at t).countFrame.received n false (b.length + 4)).classifyEgress n b).1 = .go c k p ptp →
    (s.dev.queue (8 * c + k)).sram ≠ [] → (s.dev.queue (8 * c + k)).deep = [] → (s.dev.queue (8 * c + k)).maySpill = false →
    (s.dev.queue (8 * c + k)).cells + cellsOf (b.length + 4) ≤ (s.dev.queue (8 * c + k)).sramLimit →
    s.dev.poolFits (c / 8192) (s.dev.queue (8 * c + k)).pool (cellsOf (b.length + 4)) = true → s.dev.inject = none →
    s.dev.assay.draining = none → Completes (.egressFrame n b true t []) s fun d =>
    (d.queue (8 * c + k)).sram = (s.dev.queue (8 * c + k)).sram ++ [{ (s.dev.at t).newFrame n false false b t with chan := c, cls := k, prot := p, ptp := ptp }] ∧
    s.dev.keeps (fun i j => within 0x4010 16 i || within 0x5000 256 i || pairReg n i j || only 0x8000 0xA i j) { d with counters := s.dev.counters, queues := s.dev.queues, slots := s.dev.slots, time := s.dev.time, frameNo := s.dev.frameNo }) ∧
  (∀ (n c k t : Nat) (b : List Byte) (s : State), n < 256 → s.dev.takes n = true → s.dev.mode n = pmPass → s.dev.quiesced = false →
    s.dev.isFenced (dSliceOf n) = false → 60 ≤ b.length → c = s.dev.rd (0x2400 + n) 0x11 → s.dev.recordBad c = false →
    s.dev.chanServes c true n = true → k = (parse b).pcp →
    (((s.dev.at t).countFrame.received n true (b.length + 4)).tcamLook (quadOf n) (tcamKey n true none ⟨[], (parse b).off, (parse b).etype⟩ b)).1 = some none →
    (s.dev.queue (8 * c + k)).sram ≠ [] → (s.dev.queue (8 * c + k)).deep = [] → (s.dev.queue (8 * c + k)).maySpill = false →
    (s.dev.queue (8 * c + k)).cells + cellsOf (b.length + 4) ≤ (s.dev.queue (8 * c + k)).sramLimit →
    s.dev.poolFits (c / 8192) (s.dev.queue (8 * c + k)).pool (cellsOf (b.length + 4)) = true → s.dev.inject = none →
    s.dev.assay.draining = none → Completes (.ingressFrame n b true t []) s fun d =>
    (d.queue (8 * c + k)).sram = (s.dev.queue (8 * c + k)).sram ++ [{ (s.dev.at t).newFrame n true false b t with chan := c, cls := k }] ∧
    s.dev.keeps (fun i j => within 0x4010 16 i || within 0x5000 256 i || pairReg n i j || only 0x8000 0xA i j) { d with counters := s.dev.counters, queues := s.dev.queues, slots := s.dev.slots, time := s.dev.time, frameNo := s.dev.frameNo }) ∧
  (∀ (n c a pn v t : Nat) (g : Tag) (e : Ent) (b o : List Byte) (p : Bytes × Bytes × Bytes × Bytes × Bytes) (s : State), n < 256 →
    s.dev.takes n = true → s.dev.mode n = pmFrame → s.dev.quiesced = false → s.dev.isFenced (dSliceOf n) = false → 60 ≤ b.length →
    b.length + 4 ≤ s.dev.rd (0x2400 + n) 5 → findTag (s.dev.rd (0x2400 + n) 6) b = some g → g.bad b = false →
    g.sci (s.dev.rd (0x2400 + n) 7) b = some v →
    (((s.dev.at t).countFrame.received n true (b.length + 4)).tcamLook (quadOf n) (tcamKey n true (some v) (parseTags (s.dev.rd (0x2400 + n) 6) (b.take 128) 12 []) b)).1 = some none →
    ((((s.dev.at t).countFrame.received n true (b.length + 4)).tcamLook (quadOf n) (tcamKey n true (some v) (parseTags (s.dev.rd (0x2400 + n) 6) (b.take 128) 12 []) b)).2.exactLook (4 * quadOf n + 1) (n + v * 2 ^ 8)).1.map (fun z => z.map (fun y => y.1)) = some (some e) →
    e.action = 0 → c = quadOf n * 8192 + fld 12 0 e.res → s.dev.recordBad c = false → s.dev.chanServes c true n = true →
    chSaOk (s.dev.chan c) (g.tci % 4) = true → a = s.dev.saOf c (g.tci % 4) → s.dev.saBad a = false →
    [saReady, saActive, saRetiring].contains (s.dev.sa a).state = true → s.dev.testBarred n (s.dev.sa a) = false →
    ((s.dev.sa a).suite < 2 → g.pn ≠ 0) → pn = recoverPn (s.dev.sa a) g.pn → (bit 82 (s.dev.chan c) = true → (s.dev.sa a).lowPn ≤ pn) →
    p = tagParts g (s.dev.chan c) b → s.dev.sliceRoom (dSliceOf n) = true →
    o = delivered p.2.2.2.2 p.2.1 (if bit 3 g.tci = true then gcmText (toBE (s.dev.sa a).keyLen (s.dev.sa a).key) (toBE 12 (ivOf (s.dev.sa a) (chSci (s.dev.chan c)) pn)) p.2.2.1 else p.2.2.1) →
    (s.dev.queue (8 * c)).sram ≠ [] → (s.dev.queue (8 * c)).deep = [] → (s.dev.queue (8 * c)).maySpill = false →
    (s.dev.queue (8 * c)).cells + cellsOf (o.length + 4) ≤ (s.dev.queue (8 * c)).sramLimit →
    s.dev.poolFits (c / 8192) (s.dev.queue (8 * c)).pool (cellsOf (o.length + 4)) = true → s.dev.inject = none →
    s.dev.assay.draining = none → Completes (.ingressFrame n b true t []) s fun d =>
    (d.queue (8 * c)).sram = (s.dev.queue (8 * c)).sram ++ [({ (s.dev.at t).newFrame n true false b t with chan := c, prot := true, data := o, wait := (if s.dev.holds c = true then Wait.whole else Wait.fcs) } : Frame)] ∧
    d.inD (dSliceOf n) = s.dev.inD (dSliceOf n) ++ (d.inD (dSliceOf n)).drop (s.dev.inD (dSliceOf n)).length ∧
    ((d.inD (dSliceOf n)).drop (s.dev.inD (dSliceOf n)).length).map (fun h => (h.frame.no, h.chan, h.sa, h.pn)) = [(s.dev.frameNo, c, a, pn)] ∧
    ((d.inD (dSliceOf n)).drop (s.dev.inD (dSliceOf n)).length).map (fun h => (h.aad, h.text, h.icv, h.fcsBad)) = [(p.1, p.2.2.1, p.2.2.2.1, false)])

/-- SA fetch passes a bypass frame as it is and a protected one under its channel's active SA with the next PN; a verdict counts its
    frame and releases or stomps it. Where the rules leave a point open, the outcome stated is the model's own choice, in
    entries 59, 60 and 110 of the assumption log. -/
def Obligations.FramesLeaveFlightProtectedOrClear : Prop :=
  (∀ (k t : Nat) (e : Drawn) (rest : List Drawn) (s : State), k < 64 → s.dev.inE k = e :: rest → s.dev.runs (sliceDom k) = true →
    s.dev.isFenced k = false → e.frame.prot = false → e.frame.ptp = false → s.dev.mayBind e = true →
    Completes (.egressSaFetch k t []) s fun d => d.inE k = rest ∧
    (d.staged e.frame.exit).map (fun y => (y.frame, y.sa)) = [(e.frame, none)] ∧
    s.dev.keeps (fun i j => only (0x2600 + k) 5 i j || only (0x2600 + pacer e.frame.exit) 5 i j || pairReg e.frame.pair i j || only 0x8000 0xA i j) { d with counters := s.dev.counters, eFlight := s.dev.eFlight, staging := s.dev.staging, time := s.dev.time }) ∧
  (∀ (k t a : Nat) (e : Drawn) (rest : List Drawn) (s : State), k < 64 → s.dev.inE k = e :: rest → s.dev.runs (sliceDom k) = true →
    s.dev.isFenced k = false → e.frame.prot = true → e.frame.ptp = false → e.frame.chan < 32768 → s.dev.mayBind e = true →
    s.dev.inject = none → s.dev.recordBad e.frame.chan = false → chSaOk (s.dev.chan e.frame.chan) (chAn (s.dev.chan e.frame.chan)) = true →
    a = s.dev.saOf e.frame.chan (chAn (s.dev.chan e.frame.chan)) → s.dev.saBad a = false → (s.dev.sa a).state = saActive →
    s.dev.testBarred e.frame.pair (s.dev.sa a) = false → (s.dev.sa a).nextPn < largestPn (s.dev.sa a).suite →
    Completes (.egressSaFetch k t []) s fun d => d.inE k = rest ∧ (d.sa a).nextPn = (s.dev.sa a).nextPn + 1 ∧
    (d.staged e.frame.exit).map (fun y => (y.frame, y.sa)) = [({ e.frame with data := protect (s.dev.chan e.frame.chan) (s.dev.sa a) (s.dev.sa a).nextPn (e.frame.fcs != .errorBlock) e.frame.data, tally := some (a, b2n (chProtect (s.dev.chan e.frame.chan) != 0), e.frame.data.length - 12 - 4 * min (fld 85 84 (s.dev.chan e.frame.chan)) (parse e.frame.data).tags.length) }, some a)] ∧
    s.dev.keeps (fun i j => only (0x2600 + k) 5 i j || only (0x2600 + pacer e.frame.exit) 5 i j || pairReg e.frame.pair i j || only 0x8000 0xA i j || within 0x4010 16 i || within 0x3110 4 i) { d with counters := s.dev.counters, eFlight := s.dev.eFlight, staging := s.dev.staging, time := s.dev.time, keys := s.dev.keys }) ∧
  (∀ (k t x : Nat) (h : Held) (rest : List Held) (s : State), k < 64 → s.dev.inD k = h :: rest → s.dev.inject = none →
    s.dev.runs (sliceDom k) = true → s.dev.isFenced k = false → h.fcsBad = false → h.e = false → chValidate h.word = 0 →
    (bit 83 h.word = false ∨ h.through = false) → (s.dev.sa h.sa).state ≠ saZeroised → x = 8 * h.frame.chan + h.frame.cls →
    Completes (.verdict k t) s fun d => d.inD k = rest ∧ d.ctr 5 h.chan 2 = satAdd 64 (s.dev.ctr 5 h.chan 2) 1 ∧
    (d.queue x).sram = (s.dev.queue x).sram.map (fun y => if y.no = h.frame.no then { y with wait := .none } else y) ∧
    s.dev.keeps (fun i j => only (0x2600 + k) 5 i j || only (0x2600 + pacer h.frame.exit) 5 i j || pairReg h.frame.pair i j || only 0x8000 0xA i j || within 0x3110 4 i) { d with counters := s.dev.counters, queues := s.dev.queues, keys := s.dev.keys, dFlight := s.dev.dFlight, staging := s.dev.staging }) ∧
  (∀ (k t x : Nat) (h : Held) (rest : List Held) (s : State), k < 64 → s.dev.inD k = h :: rest → s.dev.inject = none →
    s.dev.runs (sliceDom k) = true → s.dev.isFenced k = false → h.fcsBad = true → bit 83 h.word = false →
    x = 8 * h.frame.chan + h.frame.cls → Completes (.verdict k t) s fun d => d.inD k = rest ∧
    d.ctr 4 h.frame.pair 8 = satAdd 64 (s.dev.ctr 4 h.frame.pair 8) 1 ∧
    (d.queue x).sram = (s.dev.queue x).sram.map (fun y => if y.no = h.frame.no then { y with wait := .none, fcs := (if y.fcs = .good then .stomped else y.fcs) } else y) ∧
    s.dev.keeps (fun i j => only (0x2600 + k) 5 i j || only (0x2600 + pacer h.frame.exit) 5 i j || pairReg h.frame.pair i j || only 0x8000 0xA i j) { d with counters := s.dev.counters, queues := s.dev.queues, dFlight := s.dev.dFlight, staging := s.dev.staging }) ∧
  (∀ (k t x : Nat) (h : Held) (rest : List Held) (s : State), k < 64 → s.dev.inD k = h :: rest → s.dev.inject = none →
    s.dev.runs (sliceDom k) = true → s.dev.isFenced k = false → h.fcsBad = false → (s.dev.sa h.sa).state ≠ saZeroised →
    x = 8 * h.frame.chan + h.frame.cls → (chValidate h.word ≠ 0 ∨ h.e = true) → gcmTag h.key (toBE 12 h.iv) h.aad h.text = h.icv →
    (s.dev.sa h.sa).lowPn ≤ h.pn → (bit 83 h.word = false ∨ h.through = false) → Completes (.verdict k t) s fun d => d.inD k = rest ∧
    d.ctr 6 h.sa 0 = satAdd 64 (s.dev.ctr 6 h.sa 0) 1 ∧
    d.ctr 5 h.chan (if h.e = true then 6 else 5) = satAdd 64 (s.dev.ctr 5 h.chan (if h.e = true then 6 else 5)) h.octets ∧
    (s.dev.holdsKey h = true → h.pn < (d.sa h.sa).nextPn ∧ (s.dev.sa h.sa).nextPn ≤ (d.sa h.sa).nextPn) ∧
    (d.queue x).sram = (s.dev.queue x).sram.map (fun y => if y.no = h.frame.no then { y with wait := .none } else y)) ∧
  (∀ (k t x : Nat) (h : Held) (rest : List Held) (s : State), k < 64 → s.dev.inD k = h :: rest → s.dev.inject = none →
    s.dev.runs (sliceDom k) = true → s.dev.isFenced k = false → h.fcsBad = false → (s.dev.sa h.sa).state ≠ saZeroised →
    x = 8 * h.frame.chan + h.frame.cls → (chValidate h.word = 2 ∨ h.e = true) → gcmTag h.key (toBE 12 h.iv) h.aad h.text ≠ h.icv →
    bit 83 h.word = false → Completes (.verdict k t) s fun d => d.inD k = rest ∧ d.ctr 6 h.sa 2 = satAdd 64 (s.dev.ctr 6 h.sa 2) 1 ∧
    d.sa h.sa = s.dev.sa h.sa ∧
    (d.queue x).sram = (s.dev.queue x).sram.map (fun y => if y.no = h.frame.no then { y with wait := .none, fcs := (if y.fcs = .good then .stomped else y.fcs) } else y)) ∧
  (∀ (k t x : Nat) (h : Held) (rest : List Held) (s : State), k < 64 → s.dev.inD k = h :: rest → s.dev.inject = none →
    s.dev.runs (sliceDom k) = true → s.dev.isFenced k = false → h.fcsBad = false → (s.dev.sa h.sa).state ≠ saZeroised →
    x = 8 * h.frame.chan + h.frame.cls → (chValidate h.word = 2 ∨ h.e = true) → gcmTag h.key (toBE 12 h.iv) h.aad h.text ≠ h.icv →
    bit 83 h.word = true → (s.dev.queue x).sram.any (fun y => y.no = h.frame.no) = true → Completes (.verdict k t) s fun d =>
    d.inD k = rest ∧ d.ctr 6 h.sa 2 = satAdd 64 (s.dev.ctr 6 h.sa 2) 1 ∧
    (d.queue x).sram = (s.dev.queue x).sram.filter (fun y => y.no != h.frame.no)) ∧
  (∀ (k t x : Nat) (h : Held) (rest : List Held) (s : State), k < 64 → s.dev.inD k = h :: rest → s.dev.inject = none →
    s.dev.runs (sliceDom k) = true → s.dev.isFenced k = false → h.fcsBad = false → (s.dev.sa h.sa).state ≠ saZeroised →
    x = 8 * h.frame.chan + h.frame.cls → chValidate h.word = 1 → h.e = false → gcmTag h.key (toBE 12 h.iv) h.aad h.text ≠ h.icv →
    (bit 83 h.word = false ∨ h.through = false) → Completes (.verdict k t) s fun d => d.inD k = rest ∧
    d.ctr 6 h.sa 1 = satAdd 64 (s.dev.ctr 6 h.sa 1) 1 ∧ d.sa h.sa = s.dev.sa h.sa ∧
    (d.queue x).sram = (s.dev.queue x).sram.map (fun y => if y.no = h.frame.no then { y with wait := .none } else y)) ∧
  (∀ (k t x : Nat) (h : Held) (rest : List Held) (s : State), k < 64 → s.dev.inD k = h :: rest → s.dev.inject = none →
    s.dev.runs (sliceDom k) = true → s.dev.isFenced k = false → h.fcsBad = false → (s.dev.sa h.sa).state ≠ saZeroised →
    x = 8 * h.frame.chan + h.frame.cls → (chValidate h.word ≠ 0 ∨ h.e = true) → gcmTag h.key (toBE 12 h.iv) h.aad h.text = h.icv →
    h.pn < (s.dev.sa h.sa).lowPn → bit 82 h.word = true → bit 83 h.word = false → Completes (.verdict k t) s fun d => d.inD k = rest ∧
    d.ctr 5 h.chan 4 = satAdd 64 (s.dev.ctr 5 h.chan 4) 1 ∧ d.sa h.sa = s.dev.sa h.sa ∧
    (d.queue x).sram = (s.dev.queue x).sram.map (fun y => if y.no = h.frame.no then { y with wait := .none, fcs := (if y.fcs = .good then .stomped else y.fcs) } else y)) ∧
  (∀ (k t x : Nat) (h : Held) (rest : List Held) (s : State), k < 64 → s.dev.inD k = h :: rest → s.dev.inject = none →
    s.dev.runs (sliceDom k) = true → s.dev.isFenced k = false → h.fcsBad = false → (s.dev.sa h.sa).state ≠ saZeroised →
    x = 8 * h.frame.chan + h.frame.cls → (chValidate h.word ≠ 0 ∨ h.e = true) → gcmTag h.key (toBE 12 h.iv) h.aad h.text = h.icv →
    h.pn < (s.dev.sa h.sa).lowPn → bit 82 h.word = false → (bit 83 h.word = false ∨ h.through = false) →
    Completes (.verdict k t) s fun d => d.inD k = rest ∧ d.ctr 5 h.chan 3 = satAdd 64 (s.dev.ctr 5 h.chan 3) 1 ∧
    (d.queue x).sram = (s.dev.queue x).sram.map (fun y => if y.no = h.frame.no then { y with wait := .none } else y)) ∧
  (∀ (g t a v o : Nat) (x : Staged) (rest : List Staged) (s : State), g < 512 → s.dev.runs (bufDom (quadOf (g % 256))) = true →
    s.dev.staged g = x :: rest → s.dev.drawn g = [] → s.dev.stagedBgOf g = [] → s.dev.inject = none → x.left = true → x.full = true →
    x.frame.wait = .none → x.frame.tally = some (a, v, o) → v < 2 → Completes (.frameEndCharge g t) s fun d =>
    d.ctr 6 a v = satAdd 64 (s.dev.ctr 6 a v) 1 ∧ d.ctr 5 x.frame.chan v = satAdd 64 (s.dev.ctr 5 x.frame.chan v) 1 ∧
    d.ctr 5 x.frame.chan (2 + v) = satAdd 64 (s.dev.ctr 5 x.frame.chan (2 + v)) o)

/-- CAUSE_CLEAR leaves the other bits and those that occur again; CAUSE_ENABLE is stored with the bits that are always enabled -/
def Obligations.CausesAreClearedAndEnabledBitByBit : Prop :=
  (∀ (b : CauseBlock) (again : Nat) (w : Wr) (s : State), causeOk b = true → s.dev.hears (causeAt b).1 (causeAt b).2.2.1 w = true →
    s.dev.causeHeld b = false → Completes (.causeClear b again w) s fun d => d.answer.abort = 0 ∧
    d.rd (causeAt b).1 (causeAt b).2.1 = (andNot (s.dev.rd (causeAt b).1 (causeAt b).2.1) w.value ||| (again &&& causeBits b)) ∧
    s.dev.keeps (only (causeAt b).1 (causeAt b).2.1) d) ∧
  (∀ (b : CauseBlock) (w : Wr) (s : State), causeOk b = true → s.dev.hears (causeAt b).1 (causeAt b).2.2.2 w = true →
    s.dev.causeHeld b = false → Completes (.causeEnable b w) s fun d => d.answer.abort = 0 ∧
    d.rd (causeAt b).1 (causeAt b).2.2.2 = (w.value ||| causeAlways b) ∧ s.dev.keeps (only (causeAt b).1 (causeAt b).2.2.2) d)

/-- LOS and LOF are declared and cleared on a live carrier; declaring one clears AIS, RDI and TFB and sets its cause -/
def Obligations.CarrierDefectsAreDeclaredAndCleared : Prop :=
  (∀ (n : Nat) (s : State), n < 256 → s.dev.carrierLive n = true → s.dev.defect n 0 = false → Completes (.losDeclare n) s fun d =>
    d.defect n 0 = true ∧ d.defect n 2 = false ∧ d.defect n 3 = false ∧ d.defect n 4 = false ∧ bit 1 (d.rd (0x2500 + n) 0x12) = true ∧
    s.dev.keeps (pairReg n) { d with carriers := s.dev.carriers, sides := s.dev.sides }) ∧
  (∀ (n : Nat) (s : State), n < 256 → s.dev.carrierLive n = true → s.dev.defect n 0 = true → Completes (.losClear n) s fun d =>
    d.defect n 0 = false ∧ s.dev.keeps (pairReg n) { d with sides := s.dev.sides }) ∧
  (∀ (n : Nat) (s : State), n < 256 → s.dev.carrierLive n = true → s.dev.defect n 5 = true → s.dev.defect n 1 = false →
    Completes (.lofDeclare n) s fun d => d.defect n 1 = true ∧ d.defect n 2 = false ∧ d.defect n 3 = false ∧ d.defect n 4 = false ∧
    bit 2 (d.rd (0x2500 + n) 0x12) = true ∧ s.dev.keeps (pairReg n) { d with carriers := s.dev.carriers, sides := s.dev.sides }) ∧
  (∀ (n : Nat) (s : State), n < 256 → s.dev.carrierLive n = true → s.dev.defect n 5 = false → s.dev.defect n 1 = true →
    Completes (.lofClear n) s fun d => d.defect n 1 = false ∧ s.dev.keeps (pairReg n) { d with sides := s.dev.sides })

/-- A confirmed alignment word brings its lane in frame; a frame sent puts out its lane frames, one received waits for its verdict,
    the verdict judges it. Where the rules leave a point open, the outcome stated is the model's own choice, in entries 70, 73,
    75, 201, 202, 219, 222 and 226 of the assumption log. -/
def Obligations.CarrierLanesFramesAndVerdicts : Prop :=
  (∀ (l n pos m mfi : Nat) (par : Option Nat) (a b : List Byte) (skew : List Nat) (s : State), l < 256 → s.dev.sideOfLane l = some n →
    s.dev.carrierLine n = true → s.dev.laneState l = lnLocked → (s.dev.lane l).cwLock = true → s.dev.rd (0x2200 + l) 0x11 ≠ 2 →
    b = s.dev.rxForm l a → b.take 6 = faw → beAt 6 1 b = m + 16 * widthCode (s.dev.width n) → m < 16 → m < s.dev.width n →
    (s.dev.lane l).cands.find? (fun c => c.1 = pos) = none → (s.dev.lane l).cands.length < 4 → s.dev.inject = none →
    Completes (.laneWordRx l pos a mfi par skew) s fun d => (d.lane l).cands = (s.dev.lane l).cands ++ [(pos, m, 0)] ∧
    d.rd (0x2200 + l) 0x11 = 1 ∧ s.dev.keeps (only (0x2200 + l) 0x11) { d with lanes := s.dev.lanes }) ∧
  (∀ (l n pos m k mfi : Nat) (par : Option Nat) (a b : List Byte) (skew : List Nat) (s : State), l < 256 → s.dev.sideOfLane l = some n →
    s.dev.carrierLine n = true → s.dev.laneState l = lnLocked → (s.dev.lane l).cwLock = true → s.dev.rd (0x2200 + l) 0x11 ≠ 2 →
    b = s.dev.rxForm l a → b.take 6 = faw → beAt 6 1 b = m + 16 * widthCode (s.dev.width n) → m < 16 → m < s.dev.width n →
    (s.dev.lane l).cands.find? (fun c => c.1 = pos) = some (pos, m, k) → s.dev.rd (0x2500 + n) 7 ≤ k + 1 → n + s.dev.sysWidth n ≤ 256 →
    s.dev.inject = none → Completes (.laneWordRx l pos a mfi par skew) s fun d => d.rd (0x2200 + l) 0x11 = 2 ∧ (d.lane l).laneNo = m ∧
    (d.lane l).fpos = pos ∧
    s.dev.keeps (fun i j => within 0x2200 512 i || pairReg n i j) { d with lanes := s.dev.lanes, sides := s.dev.sides, carriers := s.dev.carriers }) ∧
  (∀ (n : Nat) (adj : Int) (b : List ClientItem) (u : ClientUse) (s : State), n < 256 → s.dev.carrierLive n = true →
    s.dev.runs (sliceDom (eSliceOf n)) = true → s.dev.rd (0x2500 + n) 0x10 ≠ 3 → Completes (.carrierFrameTx n adj b u) s fun d =>
    d.rd (0x2500 + n) 0x17 = (s.dev.carrier n).fc ∧ (d.carrier n).fc = ((s.dev.carrier n).fc + 1) % 2 ^ 48 ∧
    (∀ y r, y = s.dev.readyTx n b u → r = y.clearFrame n → s.dev.carriersSince n d = (if s.dev.farLoop n = true then [] else [r.2.laneForms n (r.2.lanesOf n r.1)])) ∧
    s.dev.keeps (fun i j => pairReg n i j || i = 0x3050 + quadOf n || only 0x8000 0xA i j) { d with carriers := s.dev.carriers, fresh := s.dev.fresh, keys := s.dev.keys, counters := s.dev.counters }) ∧
  (∀ (n : Nat) (adj : Int) (b : List ClientItem) (u : ClientUse) (k : CKey) (s : State), n < 256 → s.dev.carrierLive n = true →
    s.dev.runs (sliceDom (eSliceOf n)) = true → s.dev.rd (0x2500 + n) 0x10 = 3 → (s.dev.carrier n).txCur = some k →
    (s.dev.carrier n).want = false → (s.dev.carrier n).fc < 2 ^ 48 - 1 → (s.dev.carrier n).fc ≠ s.dev.rd (0x2500 + n) 0xE →
    (s.dev.carrier n).fc ≠ s.dev.rd (0x2500 + n) 0xF → Completes (.carrierFrameTx n adj b u) s fun d =>
    d.rd (0x2500 + n) 0x17 = (s.dev.carrier n).fc ∧ (d.carrier n).fc = (s.dev.carrier n).fc + 1 ∧ (d.carrier n).txCur = some k ∧
    (∀ y r, y = s.dev.readyTx n b u → r = y.keyedFrame n k adj → s.dev.carriersSince n d = (if s.dev.farLoop n = true then [] else [r.2.laneForms n (r.2.lanesOf n r.1)])) ∧
    s.dev.keeps (fun i j => pairReg n i j || only 0x8000 0xA i j || i = 0x3050 + quadOf n) { d with carriers := s.dev.carriers, counters := s.dev.counters, keys := s.dev.keys }) ∧
  (∀ (n : Nat) (b : List Byte) (u : ClientUse) (s : State), n < 256 → s.dev.carrierLive n = true → (s.dev.side n).aligned = true →
    b.length = 8192 * s.dev.width n → (b.drop (8192 * s.dev.width n - 16)).all (fun x => x = 0) = true →
    Completes (.carrierFrameRx n b u) s fun d => (d.carrier n).rx.length = (s.dev.carrier n).rx.length + 1 ∧ d.defect n 8 = true ∧
    s.dev.keeps (fun i j => pairReg n i j || i = 0x3050 + quadOf n) { d with carriers := s.dev.carriers, keys := s.dev.keys, fresh := s.dev.fresh }) ∧
  (∀ (n : Nat) (r : CarrierRx) (rest : List CarrierRx) (k : CKey) (s : State), n < 256 → s.dev.runs (sliceDom (dSliceOf n)) = true →
    (s.dev.carrier n).rx = r :: rest → r.unkeyed = false → r.epoch.bind (s.dev.carrier n).rxOf = some k → r.tagOk = true →
    k.replayed r.fc = false → beAt 0 1 r.oh % 64 = k.epoch % 64 → beAt 10 1 r.oh = s.dev.clientType n → s.dev.mappingAgrees n = true →
    s.dev.inject = none → Completes (.carrierVerdict n) s fun d => (d.carrier n).rx = rest ∧ d.rd (0x2500 + n) 0x18 = r.fc ∧
    s.dev.keeps (fun i j => pairReg n i j || i = 0x3050 + quadOf n || only 0x8000 0xA i j) { d with carriers := s.dev.carriers, keys := s.dev.keys, sides := s.dev.sides, counters := s.dev.counters }) ∧
  (∀ (n : Nat) (r : CarrierRx) (rest : List CarrierRx) (s : State), n < 256 → s.dev.runs (sliceDom (dSliceOf n)) = true →
    (s.dev.carrier n).rx = r :: rest → r.unkeyed = true → s.dev.rd (0x2500 + n) 0x10 = 3 → s.dev.inject = none →
    Completes (.carrierVerdict n) s fun d => (d.carrier n).rx = rest ∧ d.rd (0x2500 + n) 0x20 = satAdd 64 (s.dev.rd (0x2500 + n) 0x20) 1 ∧
    (d.carrier n).tfr = true ∧
    s.dev.keeps (fun i j => pairReg n i j || i = 0x3050 + quadOf n || only 0x8000 0xA i j) { d with carriers := s.dev.carriers, keys := s.dev.keys, sides := s.dev.sides, counters := s.dev.counters })

/-- A carrier whose line is UP keys with a root or stays unkeyed without one, takes derived keys, and runs once both keys and two
    START_ACKs are there. Where the rules leave a point open, the outcome stated is the model's own choice, in entries 70 and 71
    of the assumption log. -/
def Obligations.CarriersStartKeyAndRun : Prop :=
  (∀ (n : Nat) (s : State), n < 256 → s.dev.mode n = pmCarrier → s.dev.rd (0x2500 + n) 0x10 = 1 → s.dev.sideState n = stUp →
    s.dev.rootReady n = true → Completes (.carrierStart n) s fun d => d.rd (0x2500 + n) 0x10 = 2 ∧ (d.carrier n).txCur = none ∧
    (d.carrier n).rxCur = none ∧
    s.dev.keeps (fun i y => pairReg n i y || i = 0x3050 + quadOf n || (s.dev.pl (quadOf n)).jobs.any (fun x => x.win.any (fun m => i = 0x3060 + m))) { d with carriers := s.dev.carriers, keys := s.dev.keys }) ∧
  (∀ (n : Nat) (s : State), n < 256 → s.dev.mode n = pmCarrier → s.dev.rd (0x2500 + n) 0x10 = 1 → s.dev.sideState n = stUp →
    s.dev.rootReady n = false → Completes (.carrierStart n) s fun d => d.rd (0x2500 + n) 0x10 = 4 ∧ (d.carrier n).txCur = none ∧
    (d.carrier n).rxCur = none ∧
    s.dev.keeps (fun i y => pairReg n i y || i = 0x3050 + quadOf n || (s.dev.pl (quadOf n)).jobs.any (fun x => x.win.any (fun m => i = 0x3060 + m))) { d with carriers := s.dev.carriers, keys := s.dev.keys }) ∧
  (∀ (n root : Nat) (j : Job) (s : State), n < 256 → (s.dev.pl (quadOf n)).exec = some j → j.code = 0x80 → j.target = n → j.win = none →
    j.slot < 64 → s.dev.slotLoaded j.slot = true → s.dev.rootReady n = true →
    (s.dev.pl (quadOf n)).cache.find? (fun e => e.1 == j.slot) = some (j.slot, root) → j.ctxA = s.dev.direction n true →
    (s.dev.carrier n).txCur = none → Completes (.carrierKeyLoaded n) s fun d =>
    (d.carrier n).txCur = some (carrierKey root (s.dev.rd (0x2500 + n) 3) j.ctxB j.ctxA) ∧ (d.pl (quadOf n)).exec = none ∧
    s.dev.keeps (fun i y => i = 0x3050 + quadOf n || (y = 5 && (s.dev.pl (quadOf n)).cache.any (fun e => i = 0x3010 + e.1))) { d with carriers := s.dev.carriers, keys := s.dev.keys }) ∧
  (∀ (n e : Nat) (k r : CKey) (s : State), n < 256 → s.dev.rd (0x2500 + n) 0x10 = 2 → (s.dev.carrier n).agreed = some e →
    (s.dev.carrier n).txCur = some k → (s.dev.carrier n).rxCur = some r → k.epoch = e → r.epoch = e → 2 ≤ (s.dev.carrier n).acks →
    s.dev.defect n 9 = false → Completes (.carrierRunning n) s fun d => d.rd (0x2500 + n) 0x10 = 3 ∧ d.rd (0x2500 + n) 0x15 = e ∧
    d.rd (0x2500 + n) 0x16 = e ∧ d.rd (0x2500 + n) 0x19 = e ∧ (d.carrier n).fc = 0 ∧
    s.dev.keeps (fun i y => pairReg n i y || i = 0x3050 + quadOf n) { d with carriers := s.dev.carriers, keys := s.dev.keys })

/-- LOAD_NEXT derives both next keys, SWITCH_NOW and SWITCH_AT_TIME ask for a changeover, EPOCH_HIGH_CLEAR clears the epoch record
    while OFF -/
def Obligations.CarrierChangeoversAreAskedFor : Prop :=
  (∀ (n : Nat) (w : Wr) (k r : CKey) (s : State), n < 256 → s.dev.hears (0x2500 + n) 0x1A w = true → (s.dev.carrier n).txCur = some k →
    (s.dev.carrier n).rxCur = some r → (s.dev.carrier n).txNext = none → (s.dev.carrier n).rxNext = none → k.epoch < 0xFFFFFF →
    r.epoch < 0xFFFFFF → s.dev.vaultNormal = true → (s.dev.pl (quadOf n)).jobs = [] →
    s.dev.quota (quadOf n) 0 + s.dev.quota (quadOf n) 1 + s.dev.quota (quadOf n) 2 < 63 → Completes (.loadNext n w) s fun d =>
    d.answer.abort = 0 ∧ d.derivePending n (s.dev.direction n true) = true ∧ d.derivePending n (s.dev.direction n false) = true ∧
    s.dev.keeps (fun i j => i = 0x3050 + quadOf n && (j = 1 || j = 2 || j = 6)) { d with keys := s.dev.keys }) ∧
  (∀ (n : Nat) (w : Wr) (s : State), n < 256 → s.dev.hears (0x2500 + n) 0x1B w = true → s.dev.rd (0x2500 + n) 0x10 = 3 →
    s.dev.switchAllowed n = true → Completes (.switchNow n w) s fun d => d.answer.abort = 0 ∧ (d.carrier n).want = true ∧
    s.dev.keeps (fun _ _ => false) { d with carriers := s.dev.carriers }) ∧
  (∀ (n : Nat) (w : Wr) (s : State), n < 256 → s.dev.hears (0x2500 + n) 0x1C w = true → w.value ≠ 0 → s.dev.badTarget w.value = false →
    s.dev.isOn 141 = true → s.dev.time.queue.length < 4096 → Completes (.switchAtTime n w) s fun d => d.answer.abort = 0 ∧
    d.rd (0x2500 + n) 0x1C = w.value ∧ (⟨compactOf w.value, .carrier n, s.dev.time.submitted⟩ : SchedEntry) ∈ d.time.queue ∧
    s.dev.keeps (fun i j => only (0x2500 + n) 0x1C i j || i = 0x7020) { d with time := s.dev.time }) ∧
  (∀ (n : Nat) (w : Wr) (s : State), n < 256 → s.dev.hears (0x2500 + n) 0x1C w = true → w.value = 0 →
    Completes (.switchAtTime n w) s fun d => d.answer.abort = 0 ∧ d.rd (0x2500 + n) 0x1C = 0 ∧
    (d.time.queue ++ d.time.handed).all (fun e => !sameOwner (.carrier n) e.owner) = true ∧
    s.dev.keeps (fun i j => only (0x2500 + n) 0x1C i j || i = 0x7020) { d with time := s.dev.time }) ∧
  (∀ (n : Nat) (w : Wr) (s : State), n < 256 → s.dev.hears (0x2500 + n) 0x1F w = true → s.dev.mode n = pmOff →
    Completes (.epochHighClear n w) s fun d => d.answer.abort = 0 ∧ d.rd (0x2500 + n) 0x19 = 0 ∧ s.dev.keeps (only (0x2500 + n) 0x19) d)

/-- A job that passes the checks of SUBMIT is queued; planishers start, end and cancel the jobs of their queues. Where the rules
    leave a point open, the outcome stated is the model's own choice, in entries 14 and 90 of the assumption log. -/
def Obligations.JobsAreSubmittedRunAndCancelled : Prop :=
  (∀ (code win core : Nat) (p : Path) (s : State), 1 ≤ code → code ≤ 10 → win < 8 → core < 4 → s.dev.rd (0x3060 + win) 1 = code →
    s.dev.hears (0x3060 + win) 1 ⟨p, 2, 1, code⟩ = true → s.dev.hears (0x3060 + win) 0xA ⟨p, 2, 1, 0⟩ = true → s.dev.winBusy win = false →
    (s.dev.rd (0x3060 + win) 2 < 4 → s.dev.answersOff (tabDom (s.dev.rd (0x3060 + win) 2)) = false) →
    s.dev.jobRangeOk (s.dev.roleOf p) win = true → s.dev.jobStateOk win = true →
    (s.dev.entryFor (s.dev.rd (0x3060 + win) 2) (if code = 2 then 2 else if s.dev.roleOf p = .firm ∨ s.dev.roleOf p = .boot then 0 else 1)).isSome = true →
    Completes (jobCommand code win p core) s fun d => d.answer.abort = 0 ∧ d.rd (0x3060 + win) 0xB = 1 ∧
    d.rd (0x3060 + win) 0x1D = (s.dev.roleOf p).bitNo ∧
    (d.pl (s.dev.rd (0x3060 + win) 2)).queue.length = (s.dev.pl (s.dev.rd (0x3060 + win) 2)).queue.length + 1 ∧
    ((d.pl (s.dev.rd (0x3060 + win) 2)).queue.getLast?.map fun j => (j.code, j.win, j.slot, j.target)) = some (code, some win, s.dev.rd (0x3060 + win) 3, s.dev.rd (0x3060 + win) 4) ∧
    (loadsSa code = true → (d.sa (s.dev.rd (0x3060 + win) 4)).state = saLoading) ∧
    s.dev.keeps (fun i j => i = 0x3050 + s.dev.rd (0x3060 + win) 2 || i = 0x3060 + win || wakeReg i j) { d with keys := s.dev.keys, counters := s.dev.counters }) ∧
  (∀ (p w : Nat) (j : Job) (rest : List Job) (s : State), p < 5 → (if p < 4 then s.dev.runs (tabDom p) else s.dev.engineRuns) = true →
    (s.dev.pl p).exec = none → (s.dev.pl p).queue = j :: rest → j.started = false → j.win = some w → Completes (.jobStart p) s fun d =>
    (d.pl p).exec = some { j with started := true } ∧ (d.pl p).queue = rest ∧ d.rd (0x3050 + p) 1 = 1 ∧ d.rd (0x3060 + w) 0xB = 2 ∧
    s.dev.keeps (fun i j => (i = 0x3050 + p && (j = 1 || j = 2 || j = 6)) || only (0x3060 + w) 0xB i j) { d with keys := s.dev.keys }) ∧
  (∀ (p w : Nat) (j : Job) (rest : List Job) (s : State), p < 5 → (if p < 4 then s.dev.runs (tabDom p) else s.dev.engineRuns) = true →
    (s.dev.pl p).exec = none → (s.dev.pl p).queue = j :: rest → j.started = true → j.win = some w →
    Completes (.rekeyBatchContinue p) s fun d => (d.pl p).exec = some j ∧ (d.pl p).queue = rest ∧ d.rd (0x3060 + w) 0xB = 2 ∧
    s.dev.keeps (fun i j => (i = 0x3050 + p && (j = 1 || j = 2 || j = 6)) || only (0x3060 + w) 0xB i j) { d with keys := s.dev.keys }) ∧
  (∀ (p w : Nat) (j : Job) (s : State), p < 4 → s.dev.runs (tabDom p) = true → (s.dev.pl p).exec = some j → j.code = 10 → j.win = some w →
    w < 8 → j.dataAddr = 0 → j.target < 65536 → s.dev.keys.zeroed.contains (j.target / 16384) = false →
    Completes (.jobComplete p none) s fun d => (d.pl p).exec = none ∧ (d.sa j.target).state = saReady ∧ (d.sa j.target).source = 3 ∧
    (d.sa j.target).key = ofBE ((testKey j.slot).take (suiteKeyLen (s.dev.sa j.target).suite)) ∧ d.rd (0x3060 + w) 0xB = 3 ∧
    d.rd (0x3060 + w) 0xC = 0 ∧
    s.dev.keeps (fun i _ => i = 0x3050 + p || i = 0x3060 + w || within 0x3110 4 i) { d with keys := s.dev.keys, counters := s.dev.counters, eccBad := s.dev.eccBad, eccSoft := s.dev.eccSoft }) ∧
  (∀ (p w k kn : Nat) (j : Job) (s : State), s.dev.runs (tabDom p) = true → p < 4 → (s.dev.pl p).exec = some j → j.code = 1 →
    j.win = some w → w < 8 → j.dataAddr = 0 → j.target < 65536 → s.dev.keys.zeroed.contains (j.target / 16384) = false →
    (s.dev.root [2] p j.slot).map (fun r => r.1) = some k → kn = fld 31 0 j.ctxB → s.dev.knRefused j.target kn = false →
    Completes (.jobComplete p none) s fun d => (d.sa j.target).state = saReady ∧ (d.sa j.target).source = 1 ∧ (d.sa j.target).keyNo = kn ∧
    (d.sa j.target).key = ofBE (channelKey k (s.dev.sa j.target).suite j.ctxA (s.dev.sa j.target).an kn).1 ∧
    (d.sa j.target).keyLen = (channelKey k (s.dev.sa j.target).suite j.ctxA (s.dev.sa j.target).an kn).1.length ∧
    (d.sa j.target).salt = (channelKey k (s.dev.sa j.target).suite j.ctxA (s.dev.sa j.target).an kn).2 ∧ d.rd (0x3060 + w) 0xB = 3 ∧
    d.rd (0x3060 + w) 0xC = 0) ∧
  (∀ (p w : Nat) (j : Job) (s : State), s.dev.runs (tabDom p) = true → p < 4 → (s.dev.pl p).exec = some j → j.code = 1 → j.win = some w →
    w < 8 → j.dataAddr = 0 → j.target < 65536 → (s.dev.root [2] p j.slot).isSome = false → (s.dev.sa j.target).state = saLoading →
    Completes (.jobComplete p none) s fun d => (d.sa j.target).state = saEmpty ∧ d.rd (0x3060 + w) 0xB = 4 ∧ d.rd (0x3060 + w) 0xC = 1 ∧
    (d.pl p).exec = none) ∧
  (∀ (p w k kn i a sk c : Nat) (j : Job) (s : State), s.dev.runs (tabDom p) = true → p < 4 → (s.dev.pl p).exec = some j → j.code = 2 →
    j.win = some w → w < 8 → j.stop = false → (s.dev.pl p).queue = [] → (s.dev.root [2] p j.slot).map (fun r => r.1) = some k →
    kn = fld 31 0 j.ctxB → s.dev.batchNext j (j.param - j.pos) j.pos 0 = (some (i, a), sk) → a < 65536 →
    s.dev.keys.zeroed.contains (a / 16384) = false → c = j.target + i → Completes (.jobComplete p none) s fun d =>
    (d.sa a).state = saReady ∧ (d.sa a).key = ofBE (channelKey k (s.dev.sa a).suite (chSci (s.dev.chan c)) (s.dev.sa a).an kn).1 ∧
    (d.sa a).salt = (channelKey k (s.dev.sa a).suite (chSci (s.dev.chan c)) (s.dev.sa a).an kn).2 ∧ (d.sa a).keyNo = kn ∧
    (d.pl p).exec = some { j with pos := i + 1, derived := j.derived + 1, skipped := j.skipped + sk }) ∧
  (∀ (p w k : Nat) (j : Job) (s : State), s.dev.runs (tabDom p) = true → p < 4 → (s.dev.pl p).exec = some j → j.code = 3 → j.win = some w →
    w < 8 → j.dataAddr = 0 → (s.dev.root (rootUsages p) p j.slot).map (fun r => r.1) = some k → Completes (.jobComplete p none) s fun d =>
    (d.pl p).cache.head? = some (j.slot, k) ∧ bit p (d.rd (0x3010 + j.slot) 5) = true ∧ d.rd (0x3060 + w) 0xB = 3 ∧
    d.rd (0x3060 + w) 0xC = 0) ∧
  (∀ (w k : Nat) (j : Job) (s : State), s.dev.engineRuns = true → (s.dev.pl 4).exec = some j → j.code = 4 → j.win = some w → w < 8 →
    j.dataAddr = 0 → j.slot < 63 → (s.dev.root [5] 4 63).map (fun r => r.1) = some k → beAt 0 4 j.data = 0x514B4231 → beAt 4 1 j.data = 1 →
    beAt 5 1 j.data = s.dev.usage j.slot → beAt 6 1 j.data = j.slot → s.dev.rd (0x3010 + j.slot) 2 = 0 →
    Completes (.jobComplete 4 none) s fun d =>
    (if (keyUnwrap (toBE 32 k) (slice 8 40 j.data)).1 = [0xA6, 0xA6, 0xA6, 0xA6, BitVec.ofNat 8 (s.dev.usage j.slot), BitVec.ofNat 8 j.slot, 0xA6, 0xA6] then d.slotKey j.slot = ofBE (keyUnwrap (toBE 32 k) (slice 8 40 j.data)).2 ∧ d.rd (0x3010 + j.slot) 2 = 1 ∧ d.rd (0x3010 + j.slot) 3 = satAdd 32 (s.dev.rd (0x3010 + j.slot) 3) 1 ∧ d.rd (0x3060 + w) 0xB = 3 ∧ d.rd (0x3060 + w) 0xC = 0 else d.slotKey j.slot = s.dev.slotKey j.slot ∧ d.rd (0x3010 + j.slot) 2 = 0 ∧ d.rd (0x3060 + w) 0xB = 4 ∧ d.rd (0x3060 + w) 0xC = 2)) ∧
  (∀ (w k n : Nat) (j : Job) (s : State), s.dev.engineRuns = true → (s.dev.pl 4).exec = some j → j.code = 5 → j.win = some w → w < 8 →
    j.dataAddr = 0 → (s.dev.root [3] 4 j.slot).map (fun r => r.1) = some k → n = (if bit 0 j.param = true then 32 else 16) →
    Completes (.jobComplete 4 none) s fun d => (d.ctx j.target).hasKeys = true ∧ (d.ctx j.target).cakLen = n ∧
    (d.ctx j.target).cakSlot = j.slot ∧
    (d.ctx j.target).ick = ofBE (kdfDot1x ((toBE 32 k).take n) labelIck ((j.data ++ List.replicate 16 0).take 16)) ∧
    (d.ctx j.target).kek = ofBE (kdfDot1x ((toBE 32 k).take n) labelKek ((j.data ++ List.replicate 16 0).take 16)) ∧
    d.rd (0x3060 + w) 0xB = 3 ∧ d.rd (0x3060 + w) 0xC = 0) ∧
  (∀ (w : Nat) (j : Job) (s : State), s.dev.engineRuns = true → (s.dev.pl 4).exec = some j → j.code = 6 → j.win = some w → w < 8 →
    j.dataAddr = 0 → (s.dev.ctx j.target).hasKeys = true →
    (bit 0 j.param = true → ofBE (cmac (toBE (s.dev.ctx j.target).cakLen (s.dev.ctx j.target).ick) j.data) = j.ctxA * 2 ^ 64 + j.ctxB) →
    Completes (.jobComplete 4 none) s fun d =>
    d.rd (0x3060 + w) 0xD = beAt 0 8 (cmac (toBE (s.dev.ctx j.target).cakLen (s.dev.ctx j.target).ick) j.data) ∧
    d.rd (0x3060 + w) 0xE = beAt 8 8 (cmac (toBE (s.dev.ctx j.target).cakLen (s.dev.ctx j.target).ick) j.data) ∧
    d.rd (0x3060 + w) 0xB = 3 ∧ d.rd (0x3060 + w) 0xC = 0) ∧
  (∀ (w n : Nat) (j : Job) (s : State), s.dev.engineRuns = true → (s.dev.pl 4).exec = some j → j.code = 7 → j.win = some w → w < 8 →
    j.dataAddr = 0 → (s.dev.ctx j.target).hasKeys = true → s.dev.rd 0x3000 6 = 0 → n = (if bit 0 j.param = true then 32 else 16) →
    Completes (.jobComplete 4 none) s fun d => (d.ctx j.target).hasSak = true ∧ (d.ctx j.target).sakLen = n ∧
    (d.ctx j.target).spent = false ∧ d.keys.requests = s.dev.keys.requests + 1 ∧
    (∀ i, i < 5 → d.rd (0x3060 + w) (0x18 + i) = ofBE (slice (8 * i) 8 (keyWrap (toBE (s.dev.ctx j.target).cakLen (s.dev.ctx j.target).kek) wrapIv (toBE n (d.ctx j.target).sak) ++ List.replicate 40 0))) ∧
    d.rd (0x3060 + w) 0xB = 3 ∧ d.rd (0x3060 + w) 0xC = 0) ∧
  (∀ (w : Nat) (j : Job) (s : State), s.dev.engineRuns = true → (s.dev.pl 4).exec = some j → j.code = 8 → j.win = some w → w < 8 →
    j.dataAddr = 0 → (s.dev.ctx j.target).hasKeys = true → Completes (.jobComplete 4 none) s fun d =>
    (if (keyUnwrap (toBE (s.dev.ctx j.target).cakLen (s.dev.ctx j.target).kek) j.data).1 = wrapIv then (d.ctx j.target).hasSak = true ∧ (d.ctx j.target).sak = ofBE (keyUnwrap (toBE (s.dev.ctx j.target).cakLen (s.dev.ctx j.target).kek) j.data).2 ∧ (d.ctx j.target).sakLen = (keyUnwrap (toBE (s.dev.ctx j.target).cakLen (s.dev.ctx j.target).kek) j.data).2.length ∧ (d.ctx j.target).spent = false ∧ d.rd (0x3060 + w) 0xB = 3 ∧ d.rd (0x3060 + w) 0xC = 0 else d.ctx j.target = s.dev.ctx j.target ∧ d.rd (0x3060 + w) 0xB = 4 ∧ d.rd (0x3060 + w) 0xC = 8)) ∧
  (∀ (w c kn : Nat) (j : Job) (x : Ctx) (y : Sa) (s : State), s.dev.engineRuns = true → (s.dev.pl 4).exec = some j → j.code = 9 →
    j.win = some w → w < 8 → j.dataAddr = 0 → j.target < 65536 → s.dev.keys.zeroed.contains (j.target / 16384) = false →
    c = fld 7 0 j.param → x = s.dev.ctx c → y = s.dev.sa j.target → x.hasSak = true → x.sakLen = suiteKeyLen y.suite →
    (x.spent = true → y.rx = true) → kn = fld 31 0 j.ctxB → Completes (.jobComplete 4 none) s fun d => (d.sa j.target).state = saReady ∧
    (d.sa j.target).source = 2 ∧ (d.sa j.target).keyNo = kn ∧ (d.sa j.target).keyLen = x.sakLen ∧
    (d.sa j.target).key = ofBE (toBE x.sakLen x.sak) ∧
    (d.sa j.target).salt = (if y.suite < 2 then 0 else mkaSalt (j.ctxA * 2 ^ 32 + fld 63 32 j.ctxB) kn) ∧
    (y.rx = false → (d.ctx c).spent = true) ∧ d.rd (0x3060 + w) 0xB = 3 ∧ d.rd (0x3060 + w) 0xC = 0) ∧
  (∀ (p : Nat) (j : Job) (us : List Nat) (s : State), p < 5 → (if p < 4 then s.dev.runs (tabDom p) else s.dev.engineRuns) = true →
    (s.dev.pl p).exec = some j → s.dev.rd 0x3000 2 ≠ 1 → j.source p = some (j.slot, us) → us.contains (s.dev.usage j.slot) = true →
    j.slot < 64 → s.dev.slotLoaded j.slot = true → (s.dev.pl p).cache.any (fun e => e.1 == j.slot) = false → s.dev.inject = none →
    Completes (.keyBusTransfer p true) s fun d => (d.pl p).cache.head? = some (j.slot, s.dev.slotKey j.slot) ∧
    bit p (d.rd (0x3010 + j.slot) 5) = true ∧
    s.dev.keeps (fun i y => (i = 0x3050 + p && (y = 1 || y = 2 || y = 6)) || (y = 5 && (i = 0x3010 + j.slot || (s.dev.pl p).cache.any (fun e => i = 0x3010 + e.1)))) { d with keys := s.dev.keys }) ∧
  (∀ (win : Nat) (w : Wr) (j : Job) (s : State), win < 8 → s.dev.hears (0x3060 + win) 0xF w = true → s.dev.rd (0x3060 + win) 2 < 5 →
    (s.dev.pl (s.dev.rd (0x3060 + win) 2)).jobs.find? (fun x => x.win == some win) = some j → j.started = false →
    Completes (.cancel win w) s fun d => d.answer.abort = 0 ∧ d.rd (0x3060 + win) 0xB = 4 ∧ d.rd (0x3060 + win) 0xC = 9 ∧
    (d.pl (s.dev.rd (0x3060 + win) 2)).jobs.all (fun x => x.win != some win) = true ∧
    s.dev.keeps (fun i _ => i = 0x3050 + s.dev.rd (0x3060 + win) 2 || i = 0x3060 + win) { d with keys := s.dev.keys })

/-- USAGE is written to an empty slot, ERASE empties one everywhere, and the generator reseeds or fails. Where the rules leave a
    point open, the outcome stated is the model's own choice, in entries 78 and 179 of the assumption log. -/
def Obligations.VaultSlotsAndGeneratorAreServed : Prop :=
  (∀ (slot : Nat) (w : Wr) (s : State), slot < 64 → s.dev.hears (0x3010 + slot) 1 w = true → w.value < 5 → s.dev.rd (0x3010 + slot) 2 = 0 →
    Completes (.usage slot w) s fun d => d.answer.abort = 0 ∧ d.rd (0x3010 + slot) 1 = w.value ∧ s.dev.keeps (only (0x3010 + slot) 1) d) ∧
  (∀ (slot : Nat) (w : Wr) (s : State), slot < 64 → s.dev.hears (0x3010 + slot) 4 w = true → w.value = 0x5A45524F →
    s.dev.vaultNormal = true → s.dev.slotInUse slot = false → Completes (.erase slot w) s fun d => d.answer.abort = 0 ∧
    d.rd (0x3010 + slot) 2 = 0 ∧ d.slotKey slot = 0 ∧ (List.range 5).all (fun p => (d.pl p).cache.all (fun e => e.1 != slot)) = true) ∧
  (∀ (ok : Bool) (w : Wr) (s : State), s.dev.hears 0x3000 7 w = true → Completes (.drbgReseed ok w) s fun d => d.answer.abort = 0 ∧
    d.rd 0x3000 6 = (if ok = true then 0 else 2) ∧ d.keys.requests = 0 ∧ s.dev.keeps (only 0x3000 6) { d with keys := s.dev.keys }) ∧
  (∀ (s : State), s.dev.rd 0x3000 6 = 0 → Completes (.drbgAutoReseed) s fun d => d.keys.requests = 0 ∧
    s.dev.keeps (fun _ _ => false) { d with keys := s.dev.keys }) ∧
  (∀ (s : State), s.dev.rd 0x3000 6 ≠ 2 → Completes (.drbgHealthFail) s fun d => d.rd 0x3000 6 = 2 ∧ bit 3 (d.rd 0x1403 1) = true ∧
    s.dev.keeps (only 0x3000 6) d) ∧
  (∀ (b : Nat) (w : Wr) (s : State), b < 64 → s.dev.hears (0x3080 + b) 1 w = true → w.value = 0 →
    Completes (.mkaBindingEnable b w) s fun d => d.answer.abort = 0 ∧ d.rd (0x3080 + b) 1 = 0 ∧ d.rd (0x3080 + b) 0x10 = 0 ∧
    d.rd (0x3080 + b) 0x11 = 0 ∧ d.rd (0x3080 + b) 0x12 = 0 ∧ d.mkaOf b = none ∧
    s.dev.keeps (fun i j => i = 0x3080 + b && (j = 1 || within 0x10 3 j)) { d with keys := s.dev.keys }) ∧
  (∀ (b : Nat) (w : Wr) (s : State), b < 64 → s.dev.hears (0x3080 + b) 1 w = true → w.value = 1 → s.dev.rd (0x3080 + b) 1 = 0 →
    s.dev.mkaChannel (s.dev.rd (0x3080 + b) 2) (s.dev.rd (0x3080 + b) 0xD) false = true →
    (List.range (s.dev.rd (0x3080 + b) 0xF)).all (fun i => s.dev.mkaChannel (s.dev.rd (0x3080 + b) 2) (s.dev.rd (0x3080 + b) 0xE + i) true) = true →
    s.dev.mkaBound (s.dev.rd (0x3080 + b) 2) = false → Completes (.mkaBindingEnable b w) s fun d => d.answer.abort = 0 ∧
    d.rd (0x3080 + b) 1 = 1 ∧ d.rd (0x3080 + b) 0x10 = 1 ∧ (d.mkaOf b).map (·.todo) = some [.keys] ∧
    s.dev.keeps (fun i j => i = 0x3080 + b && (j = 1 || within 0x10 3 j)) { d with keys := s.dev.keys, fresh := s.dev.fresh })

/-- ZEROISE and ZEROISE_N zeroise every slot, the sequence ends with the sealing key gone, and ZEROISE_CLEAR brings the vault back
    to NORMAL. Where the rules leave a point open, the outcome stated is the model's own choice, in entries 80, 81 and 82 of the
    assumption log. -/
def Obligations.ZeroisationRunsAndIsCleared : Prop :=
  (∀ (w : Wr) (s : State), s.dev.hears 0x3000 1 w = true → w.value = 0x5A45524F → s.dev.rd 0x3000 2 ≠ 1 → Completes (.zeroise w) s fun d =>
    d.answer.abort = 0 ∧ d.rd 0x3000 2 = 1 ∧ d.rd 0x3000 5 = (if s.dev.roleOf w.path = .field then 3 else 4) ∧
    (∀ k, k < 64 → d.rd (0x3010 + k) 2 = 2) ∧ bit 0 (d.rd 0x1403 1) = true) ∧
  (∀ (s : State), s.dev.tamper.zeroDone = false → s.dev.power.supply < 2 → s.dev.rd 0x3000 2 ≠ 1 → Completes (.zeroiseN true) s fun d =>
    d.tamper.zeroLow = true ∧ d.rd 0x3000 2 = 1 ∧ d.rd 0x3000 5 = 2 ∧ (∀ k, k < 64 → d.rd (0x3010 + k) 2 = 2) ∧
    bit 0 (d.rd 0x1403 1) = true) ∧
  (∀ (s : State), s.dev.rd 0x3000 2 = 1 → s.dev.boot.keysWait = false → Completes (.zeroisationComplete) s fun d => d.rd 0x3000 2 = 2 ∧
    d.rd 0x3000 4 = satAdd 32 (s.dev.rd 0x3000 4) 1 ∧ d.keys.sealing = none ∧ d.keys.sas.all (fun e => e.2.key = 0) = true) ∧
  (∀ (s : State), s.dev.keys.dapDue = true → Completes (.dapZeroiseClose) s fun d => d.dap.sessions = [] ∧ d.keys.dapDue = false ∧
    s.dev.keeps (fun _ _ => false) { d with keys := s.dev.keys }) ∧
  (∀ (w : Wr) (s : State), s.dev.hears 0x3000 3 w = true → w.value = 0x434C4541 → s.dev.rd 0x3000 2 = 2 → s.dev.tamper.zeroLow = false →
    s.dev.zeroAlarm = false → Completes (.zeroiseClear w) s fun d => d.answer.abort = 0 ∧ d.keys.clearing = true ∧
    d.isPending 0x3000 3 = true ∧ s.dev.keeps (fun _ _ => false) { d with keys := s.dev.keys, pend := s.dev.pend }) ∧
  (∀ (s : State), s.dev.keys.clearing = true → Completes (.zeroiseClearComplete) s fun d => d.rd 0x3000 2 = 0 ∧ d.keys.clearing = false ∧
    d.keys.zeroed = [] ∧ (∀ k, k < 63 → s.dev.rd (0x3010 + k) 2 = 2 → d.rd (0x3010 + k) 2 = 0) ∧ d.isPending 0x3000 3 = false)

/-- CONFIGURE, READ, SET_THRESHOLD, SET_PN and ERASE complete with result OK and their effect on the SA that the window names -/
def Obligations.SaStoreOperationsActOnTheirSa : Prop :=
  (∀ (win : Nat) (p : Path) (s : State), win < 16 → s.dev.hears (0x3100 + win) 1 (cmdWr p 2) = true → s.dev.rd (0x3100 + win) 2 ≤ 16383 →
    configRangeOk (s.dev.rd (0x3100 + win) 3) (s.dev.rd (0x3100 + win) 4) (s.dev.rd (0x3100 + win) 5) (s.dev.rd (0x3100 + win) 6) = true →
    s.dev.vaultNormal = true → (s.dev.sa (win / 4 * 16384 + s.dev.rd (0x3100 + win) 2)).state = saEmpty →
    Completes (.configure win p) s fun d => d.answer.abort = 0 ∧ d.rd (0x3100 + win) 8 = 0 ∧
    d.sa (win / 4 * 16384 + s.dev.rd (0x3100 + win) 2) = configured (s.dev.rd (0x3100 + win) 3) (s.dev.rd (0x3100 + win) 4) (s.dev.rd (0x3100 + win) 5) (s.dev.rd (0x3100 + win) 6) (s.dev.rd (0x3100 + win) 7) ∧
    s.dev.keeps (fun i j => only (0x3100 + win) 8 i j) { d with keys := s.dev.keys }) ∧
  (∀ (win : Nat) (p : Path) (s : State), win < 16 → s.dev.hears (0x3100 + win) 1 (cmdWr p 1) = true → s.dev.rd (0x3100 + win) 2 ≤ 16383 →
    Completes (.saRead win p) s fun d => d.answer.abort = 0 ∧ d.rd (0x3100 + win) 8 = 0 ∧
    (∀ k, k < 5 → d.rd (0x3100 + win) (3 + k) = fld (64 * k + 63) (64 * k) (saView (s.dev.sa (win / 4 * 16384 + s.dev.rd (0x3100 + win) 2)))) ∧
    s.dev.keeps (fun i j => i = 0x3100 + win && within 3 6 j) d) ∧
  (∀ (win : Nat) (p : Path) (s : State), win < 16 → s.dev.hears (0x3100 + win) 1 (cmdWr p 3) = true → s.dev.rd (0x3100 + win) 2 ≤ 16383 →
    (s.dev.sa (win / 4 * 16384 + s.dev.rd (0x3100 + win) 2)).state ≠ saZeroised → Completes (.setThreshold win p) s fun d =>
    d.answer.abort = 0 ∧ d.rd (0x3100 + win) 8 = 0 ∧
    (d.sa (win / 4 * 16384 + s.dev.rd (0x3100 + win) 2)).thresh = s.dev.rd (0x3100 + win) 6 ∧
    (d.sa (win / 4 * 16384 + s.dev.rd (0x3100 + win) 2)).state = (s.dev.sa (win / 4 * 16384 + s.dev.rd (0x3100 + win) 2)).state ∧
    s.dev.keeps (fun i j => only (0x3100 + win) 8 i j) { d with keys := s.dev.keys }) ∧
  (∀ (win : Nat) (p : Path) (s : State), win < 16 → s.dev.hears (0x3100 + win) 1 (cmdWr p 4) = true → s.dev.rd (0x3100 + win) 2 ≤ 16383 →
    (s.dev.sa (win / 4 * 16384 + s.dev.rd (0x3100 + win) 2)).rx = false →
    (s.dev.sa (win / 4 * 16384 + s.dev.rd (0x3100 + win) 2)).state = saReady → Completes (.setPn win p) s fun d => d.answer.abort = 0 ∧
    d.rd (0x3100 + win) 8 = 0 ∧
    d.sa (win / 4 * 16384 + s.dev.rd (0x3100 + win) 2) = { s.dev.sa (win / 4 * 16384 + s.dev.rd (0x3100 + win) 2) with nextPn := s.dev.rd (0x3100 + win) 4 } ∧
    s.dev.keeps (fun i j => only (0x3100 + win) 8 i j) { d with keys := s.dev.keys }) ∧
  (∀ (win : Nat) (p : Path) (s : State), win < 16 → s.dev.hears (0x3100 + win) 1 (cmdWr p 4) = true → s.dev.rd (0x3100 + win) 2 ≤ 16383 →
    (s.dev.sa (win / 4 * 16384 + s.dev.rd (0x3100 + win) 2)).rx = true →
    [saReady, saActive, saRetiring].contains (s.dev.sa (win / 4 * 16384 + s.dev.rd (0x3100 + win) 2)).state = true →
    Completes (.setPn win p) s fun d => d.answer.abort = 0 ∧ d.rd (0x3100 + win) 8 = 0 ∧
    (d.sa (win / 4 * 16384 + s.dev.rd (0x3100 + win) 2)).lowPn = max (s.dev.sa (win / 4 * 16384 + s.dev.rd (0x3100 + win) 2)).lowPn (s.dev.rd (0x3100 + win) 5) ∧
    (d.sa (win / 4 * 16384 + s.dev.rd (0x3100 + win) 2)).nextPn = max (s.dev.sa (win / 4 * 16384 + s.dev.rd (0x3100 + win) 2)).nextPn (max (s.dev.sa (win / 4 * 16384 + s.dev.rd (0x3100 + win) 2)).lowPn (s.dev.rd (0x3100 + win) 5)) ∧
    s.dev.keeps (fun i j => only (0x3100 + win) 8 i j || (i = 0x3110 + win / 4 && (j = 4 || j = 5))) { d with keys := s.dev.keys }) ∧
  (∀ (win : Nat) (p : Path) (s : State), win < 16 → s.dev.hears (0x3100 + win) 1 (cmdWr p 5) = true → s.dev.rd (0x3100 + win) 2 ≤ 16383 →
    [saEmpty, saReady, saRetiring, saExhausted].contains (s.dev.sa (win / 4 * 16384 + s.dev.rd (0x3100 + win) 2)).state = true →
    Completes (.saErase win p) s fun d => d.answer.abort = 0 ∧ d.rd (0x3100 + win) 8 = 0 ∧
    d.sa (win / 4 * 16384 + s.dev.rd (0x3100 + win) 2) = Sa.init ∧
    s.dev.keeps (fun i j => only (0x3100 + win) 8 i j) { d with keys := s.dev.keys, eccBad := s.dev.eccBad })

/-- Notifications pop in order, changeovers are scheduled, cancelled and made, SAs retire, and a context is erased. Where the rules
    leave a point open, the outcome stated is the model's own choice, in entries 87 and 224 of the assumption log. -/
def Obligations.SaNotificationsSchedulesAndRetirement : Prop :=
  (∀ (q v : Nat) (rest : List Nat) (w : Wr) (s : State), q < 4 → s.dev.hears (0x3110 + q) 2 w = true → s.dev.notes q = v :: rest →
    Completes (.notePop q w) s fun d => d.answer.abort = 0 ∧ d.rd (0x3110 + q) 3 = v ∧ d.notes q = rest ∧
    d.rd (0x3110 + q) 4 = rest.length ∧ s.dev.keeps (fun i j => i = 0x3110 + q && (j = 3 || j = 4)) { d with keys := s.dev.keys }) ∧
  (∀ (q c : Nat) (w : Wr) (s : State), q < 4 → s.dev.hears (0x3110 + q) 9 w = true → c = s.dev.rd (0x3110 + q) 6 → c / 8192 = q →
    chRx (s.dev.chan c) = false → s.dev.isOn 141 = true → s.dev.time.queue.length < 4096 → Completes (.schedSubmit q w) s fun d =>
    d.answer.abort = 0 ∧
    (⟨compactOf (s.dev.rd (0x3110 + q) 8), .channel c (s.dev.rd (0x3110 + q) 7), s.dev.time.submitted⟩ : SchedEntry) ∈ d.time.queue ∧
    s.dev.keeps (fun i _ => i = 0x7020) { d with time := s.dev.time }) ∧
  (∀ (q : Nat) (w : Wr) (s : State), q < 4 → s.dev.hears (0x3110 + q) 0xA w = true → w.value / 8192 = q →
    Completes (.schedCancel q w) s fun d => d.answer.abort = 0 ∧
    (d.time.queue ++ d.time.handed).all (fun e => !sameOwner (.channel w.value 0) e.owner) = true ∧
    s.dev.keeps (fun i _ => i = 0x7020) { d with time := s.dev.time }) ∧
  (∀ (q c a x : Nat) (s : State), q < 4 → s.dev.runs (tabDom q) = true → Tbl.get (fun _ => []) s.dev.keys.triggers q = [⟨true, c, a, x⟩] →
    c / 8192 = q → a < 4 → chAn (s.dev.chan c) ≠ a → s.dev.mayChange c a = true → Completes (.changeover q) s fun d =>
    chAn (d.chan c) = a ∧ (d.sa (s.dev.saOf c a)).state = saActive ∧ Tbl.get (fun _ => []) d.keys.triggers q = [] ∧
    s.dev.keeps (fun i j => i = 0x3110 + q && (j = 4 || j = 5)) { d with keys := s.dev.keys, chans := s.dev.chans }) ∧
  (∀ (i : Nat) (s : State), i < 65536 → (s.dev.sa i).rx = false → (s.dev.sa i).state = saRetiring →
    s.dev.runs (tabDom (i / 16384)) = true → s.dev.boundIn (chPair (s.dev.chan (i / 16384 * 8192 + (s.dev.sa i).channel))) i = false →
    (s.dev.isFenced (eSliceOf (chPair (s.dev.chan (i / 16384 * 8192 + (s.dev.sa i).channel)))) = true → s.dev.assay.reclaimed.contains (eSliceOf (chPair (s.dev.chan (i / 16384 * 8192 + (s.dev.sa i).channel)))) = true) →
    Completes (.txRetire i) s fun d => (d.sa i).state = saEmpty ∧ (d.sa i).key = 0 ∧
    s.dev.keeps (fun x j => x = 0x3110 + i / 16384 && (j = 4 || j = 5)) { d with keys := s.dev.keys }) ∧
  (∀ (i : Nat) (s : State), i < 65536 → s.dev.runs (tabDom (i / 16384)) = true → (s.dev.sa i).rx = true → (s.dev.sa i).state = saRetiring →
    Completes (.retireDelayExpiry i) s fun d => (d.sa i).state = saEmpty ∧ (d.sa i).key = 0 ∧
    s.dev.keeps (fun x j => x = 0x3110 + i / 16384 && (j = 4 || j = 5)) { d with keys := s.dev.keys }) ∧
  (∀ (w : Wr) (s : State), s.dev.hears 0x3070 3 w = true → Completes (.ctxErase w) s fun d => d.answer.abort = 0 ∧
    d.ctx (s.dev.rd 0x3070 1) = Ctx.init ∧ s.dev.keeps (fun _ _ => false) { d with keys := s.dev.keys })

/-- LOOKUP, READ_ENTRY, READ_SLOT, INSERT, UPDATE and DELETE complete with result OK and their effect on the entry, UPDATE of TCAM
    entries and records too. Where the rules leave a point open, the outcome stated is the model's own choice, in entries 93 and
    95 of the assumption log. -/
def Obligations.TableWindowsLookAndChangeEntries : Prop :=
  (∀ (n l : Nat) (p : Path) (s : State), n < 64 → s.dev.hears (0x4040 + n) 1 ⟨p, 2, 1, 1⟩ = true → n / 4 % 4 < 2 →
    s.dev.findKey (n / 4) (s.dev.winKey n) = some l → s.dev.eccAmong (n / 4) (s.dev.winKey n) = none → s.dev.inject = none →
    Completes (.lookup n p) s fun d => d.answer.abort = 0 ∧ d.rd (0x4040 + n) 0x10 = 0 ∧ d.rd (0x4040 + n) 0x11 = l ∧
    d.rd (0x4040 + n) 0xC = (s.dev.ent (n / 4) l).res ∧
    s.dev.keeps (fun i _ => i = 0x4040 + n || i = 0x4010 + n / 4 || i = 0x4080 + n / 16) d) ∧
  (∀ (n l : Nat) (p : Path) (hit : Bool) (s : State), n < 64 → s.dev.hears (0x4040 + n) 1 ⟨p, 2, 1, 6⟩ = true → n / 4 % 4 < 2 →
    s.dev.findKey (n / 4) (s.dev.winKey n) = some l → s.dev.eccAmong (n / 4) (s.dev.winKey n) = none →
    bit 0 (s.dev.rd (0x4040 + n) 3) = false → s.dev.inject = none → Completes (.readEntry n p hit) s fun d => d.answer.abort = 0 ∧
    d.rd (0x4040 + n) 0x10 = 0 ∧ d.rd (0x4040 + n) 0x11 = l ∧ d.rd (0x4040 + n) 0xC = (s.dev.ent (n / 4) l).res ∧
    d.rd (0x4040 + n) 0xD = (s.dev.ent (n / 4) l).ctl ∧
    s.dev.keeps (fun i _ => i = 0x4040 + n || i = 0x4010 + n / 4 || i = 0x4080 + n / 16) d) ∧
  (∀ (n l : Nat) (p : Path) (hit : Bool) (s : State), n < 64 → s.dev.hears (0x4040 + n) 1 ⟨p, 2, 1, 6⟩ = true → n / 4 % 4 < 2 →
    s.dev.findKey (n / 4) (s.dev.winKey n) = some l → s.dev.eccAmong (n / 4) (s.dev.winKey n) = none →
    bit 0 (s.dev.rd (0x4040 + n) 3) = true → s.dev.inject = none → Completes (.readEntry n p hit) s fun d => d.answer.abort = 0 ∧
    d.rd (0x4040 + n) 0x10 = 0 ∧ d.rd (0x4040 + n) 0xD = (s.dev.ent (n / 4) l).ctl ∧
    d.ent (n / 4) l = { s.dev.ent (n / 4) l with ctl := putBit 1 (s.dev.ent (n / 4) l).ctl hit } ∧
    s.dev.keeps (fun i _ => i = 0x4040 + n || i = 0x4010 + n / 4 || i = 0x4080 + n / 16) { d with slots := s.dev.slots, tabs := s.dev.tabs, eccSoft := s.dev.eccSoft }) ∧
  (∀ (n l : Nat) (p : Path) (s : State), n < 64 → s.dev.hears (0x4040 + n) 1 ⟨p, 2, 1, 5⟩ = true → n / 4 % 4 < 2 →
    l = s.dev.rd (0x4040 + n) 2 → l < 32768 → s.dev.eccBad.contains (slotKey (n / 4) l) = false → Completes (.readSlot n p) s fun d =>
    d.answer.abort = 0 ∧ d.rd (0x4040 + n) 0x10 = 0 ∧ d.rd (0x4040 + n) 0x11 = (if (s.dev.ent (n / 4) l).valid = true then l else 0xFFFE) ∧
    d.rd (0x4040 + n) 0xC = (s.dev.ent (n / 4) l).res ∧ d.rd (0x4040 + n) 0xD = (s.dev.ent (n / 4) l).ctl ∧
    s.dev.keeps (fun i _ => i = 0x4040 + n || i = 0x4010 + n / 4 || i = 0x4080 + n / 16) d) ∧
  (∀ (n l : Nat) (p : Path) (s : State), n < 64 → s.dev.hears (0x4040 + n) 1 ⟨p, 2, 1, 2⟩ = true → n / 4 % 4 < 2 →
    s.dev.lockedFor (n / 4) (s.dev.roleOf p) = false →
    exactOk (n / 4) (s.dev.winKey n) (s.dev.rd (0x4040 + n) 0xC) (s.dev.rd (0x4040 + n) 0xD) = true →
    s.dev.findKey (n / 4) (s.dev.winKey n) = none → s.dev.freeIn (n / 4) (bucketsOf (s.dev.seedsNow (n / 4)) (s.dev.winKey n)).1 = some l →
    Completes (.insert n p) s fun d => d.answer.abort = 0 ∧ d.rd (0x4040 + n) 0x10 = 0 ∧ d.rd (0x4040 + n) 0x11 = l ∧
    d.rd (0x4040 + n) 0x12 = 0 ∧
    d.ent (n / 4) l = ⟨(s.dev.winKey n), 0, s.dev.rd (0x4040 + n) 0xC, putBit 5 (insertCtl (s.dev.rd (0x4040 + n) 0xD)) ((s.dev.tab (n / 4)).epoch = 1)⟩ ∧
    s.dev.keeps (fun i _ => i = 0x4040 + n || i = 0x4010 + n / 4 || i = 0x4080 + n / 16) { d with slots := s.dev.slots, tabs := s.dev.tabs, eccBad := s.dev.eccBad, eccSoft := s.dev.eccSoft }) ∧
  (∀ (n l : Nat) (p : Path) (s : State), n < 64 → s.dev.hears (0x4040 + n) 1 ⟨p, 2, 1, 3⟩ = true → n / 4 % 4 < 2 →
    s.dev.lockedFor (n / 4) (s.dev.roleOf p) = false →
    exactOk (n / 4) (s.dev.winKey n) (s.dev.rd (0x4040 + n) 0xC) (s.dev.rd (0x4040 + n) 0xD) = true →
    s.dev.findKey (n / 4) (s.dev.winKey n) = some l → bit 0 (s.dev.rd (0x4040 + n) 0xD) = true → Completes (.update n p) s fun d =>
    d.answer.abort = 0 ∧ d.rd (0x4040 + n) 0x10 = 0 ∧ d.rd (0x4040 + n) 0x11 = l ∧
    d.ent (n / 4) l = { s.dev.ent (n / 4) l with res := s.dev.rd (0x4040 + n) 0xC, ctl := updateCtl (n / 4) (s.dev.ent (n / 4) l).ctl (s.dev.rd (0x4040 + n) 0xD) (s.dev.rd (0x4040 + n) 0xC) } ∧
    s.dev.keeps (fun i _ => i = 0x4040 + n || i = 0x4010 + n / 4 || i = 0x4080 + n / 16) { d with slots := s.dev.slots, tabs := s.dev.tabs, eccBad := s.dev.eccBad, eccSoft := s.dev.eccSoft }) ∧
  (∀ (n i : Nat) (p : Path) (s : State), n < 64 → s.dev.hears (0x4040 + n) 1 ⟨p, 2, 1, 3⟩ = true → n / 4 % 4 = 2 →
    i = s.dev.rd (0x4040 + n) 2 → i < 1024 → (i < 32 → n % 4 = 0) → s.dev.lockedFor (n / 4) (s.dev.roleOf p) = false →
    tcamOk (n / 16) (s.dev.winKey n % 2 ^ 192) (s.dev.winMask n) (s.dev.rd (0x4040 + n) 0xC) = true → Completes (.update n p) s fun d =>
    d.answer.abort = 0 ∧ d.rd (0x4040 + n) 0x10 = 0 ∧
    d.ent (n / 4) i = ⟨s.dev.winKey n % 2 ^ 192, s.dev.winMask n, s.dev.rd (0x4040 + n) 0xC, s.dev.rd (0x4040 + n) 0xD % 4⟩ ∧
    s.dev.keeps (fun i _ => i = 0x4040 + n || i = 0x4010 + n / 4 || i = 0x4080 + n / 16) { d with slots := s.dev.slots, tabs := s.dev.tabs, eccBad := s.dev.eccBad, eccSoft := s.dev.eccSoft }) ∧
  (∀ (n i c r : Nat) (p : Path) (s : State), n < 64 → s.dev.hears (0x4040 + n) 1 ⟨p, 2, 1, 3⟩ = true → n / 4 % 4 = 3 →
    i = s.dev.rd (0x4040 + n) 2 → i < 8192 → c = n / 16 * 8192 + i → r = chanClean (s.dev.winWords n) →
    s.dev.lockedFor (n / 4) (s.dev.roleOf p) = false → bit 1 (s.dev.rd (0x4040 + n) 3) = false → chanOk (n / 16) r = true →
    (chRx r = true → bit 83 r = false → s.dev.level1 (chPair r) = false) → chPair r = chPair (s.dev.chan c) →
    chRx r = chRx (s.dev.chan c) → Completes (.update n p) s fun d => d.answer.abort = 0 ∧ d.rd (0x4040 + n) 0x10 = 0 ∧
    d.chan c = setFld 87 86 r (chAn (s.dev.chan c)) ∧
    s.dev.keeps (fun i _ => i = 0x4040 + n || i = 0x4010 + n / 4 || i = 0x4080 + n / 16) { d with chans := s.dev.chans, tabs := s.dev.tabs, eccBad := s.dev.eccBad, eccSoft := s.dev.eccSoft }) ∧
  (∀ (n l : Nat) (p : Path) (s : State), n < 64 → s.dev.hears (0x4040 + n) 1 ⟨p, 2, 1, 4⟩ = true → n / 4 % 4 < 2 →
    s.dev.lockedFor (n / 4) (s.dev.roleOf p) = false → s.dev.findKey (n / 4) (s.dev.winKey n) = some l → Completes (.delete n p) s fun d =>
    d.answer.abort = 0 ∧ d.rd (0x4040 + n) 0x10 = 0 ∧ d.rd (0x4040 + n) 0x11 = l ∧ d.ent (n / 4) l = (s.dev.ent (n / 4) l).gone ∧
    s.dev.keeps (fun i _ => i = 0x4040 + n || i = 0x4010 + n / 4 || i = 0x4080 + n / 16) { d with slots := s.dev.slots, tabs := s.dev.tabs, eccBad := s.dev.eccBad, eccSoft := s.dev.eccSoft })

/-- The stash drain moves an entry, a migration starts, moves entries of the old EPOCH and ends with its new seeds, and the ager
    clears or removes an entry. Where the rules leave a point open, the outcome stated is the model's own choice, in entries 97
    and 98 of the assumption log. -/
def Obligations.TablesDrainMigrateAndAge : Prop :=
  (∀ (k x y : Nat) (s : State), k < 16 → k % 4 < 2 → s.dev.tableOn k = true → s.dev.isLocked k = false →
    stashLocs.find? (fun z => (s.dev.ent k z).valid && (s.dev.drainPlace k z).isSome) = some x → s.dev.drainPlace k x = some y →
    Completes (.stashDrain k) s fun d => d.ent k y = s.dev.ent k x ∧ d.ent k x = (s.dev.ent k x).gone ∧
    d.rd (0x4010 + k) 0x12 = satAdd 64 (s.dev.rd (0x4010 + k) 0x12) 1 ∧
    s.dev.keeps (fun i _ => i = 0x4010 + k || i = 0x4080 + k / 4) { d with slots := s.dev.slots, tabs := s.dev.tabs, eccBad := s.dev.eccBad, eccSoft := s.dev.eccSoft }) ∧
  (∀ (k : Nat) (w : Wr) (s : State), k < 16 → s.dev.hears (0x4010 + k) 8 w = true → s.dev.rd (0x4010 + k) 6 ≠ s.dev.rd (0x4010 + k) 7 →
    s.dev.rd (0x4010 + k) 9 % 4 = 0 → s.dev.isLocked k = false → Completes (.migrate k w) s fun d => d.answer.abort = 0 ∧
    d.rd (0x4010 + k) 9 = 1 ∧ (d.tab k).epoch = 1 - (s.dev.tab k).epoch ∧
    (d.tab k).seeds = some (s.dev.rd (0x4010 + k) 6, s.dev.rd (0x4010 + k) 7) ∧
    s.dev.keeps (only (0x4010 + k) 9) { d with tabs := s.dev.tabs }) ∧
  (∀ (k a b : Nat) (s : State), k < 16 → s.dev.tableOn k = true → (s.dev.tab k).seeds = some (a, b) → s.dev.rd (0x4010 + k) 9 % 4 = 1 →
    s.dev.isLocked k = false → s.dev.oldEntries k 0 = [] → s.dev.oldEntries k (fld 28 16 (s.dev.rd (0x4010 + k) 9)) = [] →
    Completes (.migrationStep k) s fun d => d.rd (0x4010 + k) 4 = a ∧ d.rd (0x4010 + k) 5 = b ∧ d.rd (0x4010 + k) 9 = 0 ∧
    (d.tab k).seeds = none ∧ bit 3 (d.rd (0x4010 + k) 0xE) = true ∧
    s.dev.keeps (fun i j => i = 0x4010 + k && (within 4 6 j || j = 0xE)) { d with tabs := s.dev.tabs }) ∧
  (∀ (k l z : Nat) (e : Ent) (rest : List Nat) (s : State), k < 16 → k % 4 < 2 → s.dev.tableOn k = true → s.dev.isLocked k = false →
    (s.dev.tab k).seeds.isSome = true → s.dev.rd (0x4010 + k) 9 % 4 = 1 →
    s.dev.oldEntries k (fld 28 16 (s.dev.rd (0x4010 + k) 9)) = l :: rest → e = s.dev.inEpoch k (s.dev.ent k l) →
    s.dev.freeIn k (bucketsOf (s.dev.seedsNow k) e.key).1 = some z → Completes (.migrationStep k) s fun d => d.ent k z = e ∧
    e.epoch = (s.dev.tab k).epoch ∧ d.ent k l = (s.dev.ent k l).gone ∧ (d.tab k).moved = true ∧
    d.rd (0x4010 + k) 9 = 1 + min (l / 4) 8191 * 2 ^ 16 ∧ d.rd (0x4010 + k) 0x12 = satAdd 64 (s.dev.rd (0x4010 + k) 0x12) 1 ∧
    s.dev.keeps (fun i _ => i = 0x4010 + k || i = 0x4080 + k / 4) { d with slots := s.dev.slots, tabs := s.dev.tabs, eccBad := s.dev.eccBad, eccSoft := s.dev.eccSoft }) ∧
  (∀ (k loc : Nat) (s : State), k < 16 → k % 4 < 2 → s.dev.tableOn k = true → s.dev.isLocked k = false → s.dev.rd (0x4080 + k / 4) 1 ≠ 0 →
    (s.dev.ent k loc).valid = true → bit 2 (s.dev.ent k loc).ctl = true → Completes (.agerVisit k loc true []) s fun d =>
    d.ent k loc = { s.dev.ent k loc with ctl := setBit 1 (s.dev.ent k loc).ctl } ∧
    s.dev.keeps (fun i j => i = 0x4010 + k || i = 0x4080 + k / 4 || only 0x8000 0xA i j) { d with slots := s.dev.slots, tabs := s.dev.tabs, eccSoft := s.dev.eccSoft }) ∧
  (∀ (k loc : Nat) (s : State), k < 16 → k % 4 < 2 → s.dev.tableOn k = true → s.dev.isLocked k = false → s.dev.rd (0x4080 + k / 4) 1 ≠ 0 →
    (s.dev.ent k loc).valid = true → bit 2 (s.dev.ent k loc).ctl = true → (s.dev.ent k loc).active = true →
    Completes (.agerVisit k loc false []) s fun d => d.ent k loc = { s.dev.ent k loc with ctl := clrBit 1 (s.dev.ent k loc).ctl } ∧
    s.dev.keeps (fun i j => i = 0x4010 + k || i = 0x4080 + k / 4 || only 0x8000 0xA i j) { d with slots := s.dev.slots, tabs := s.dev.tabs, eccBad := s.dev.eccBad, eccSoft := s.dev.eccSoft }) ∧
  (∀ (k loc : Nat) (s : State), k < 16 → k % 4 < 2 → s.dev.tableOn k = true → s.dev.isLocked k = false → s.dev.rd (0x4080 + k / 4) 1 ≠ 0 →
    (s.dev.ent k loc).valid = true → bit 2 (s.dev.ent k loc).ctl = true → (s.dev.ent k loc).active = false →
    bit 3 (s.dev.ent k loc).ctl = false → Completes (.agerVisit k loc false []) s fun d => d.ent k loc = (s.dev.ent k loc).gone ∧
    d.rd (0x4010 + k) 0x13 = satAdd 64 (s.dev.rd (0x4010 + k) 0x13) 1 ∧
    s.dev.keeps (fun i j => i = 0x4010 + k || i = 0x4080 + k / 4 || only 0x8000 0xA i j) { d with slots := s.dev.slots, tabs := s.dev.tabs, eccBad := s.dev.eccBad, eccSoft := s.dev.eccSoft })

/-- A table lock is taken, released and revoked, learning notifications pop in order, plumb blocks are set, and a pass finds a
    mismatch. Where the rules leave a point open, the outcome stated is the model's own choice, in entries 100 and 184 of the
    assumption log. -/
def Obligations.TableLocksNotesAndPlumbBlocks : Prop :=
  (∀ (k t : Nat) (w : Wr) (s : State), k < 16 → s.dev.hears (0x4010 + k) 0xA w = true → s.dev.lockedFor k (s.dev.roleOf w.path) = false →
    Completes (.lock k w t) s fun d => d.answer.abort = 0 ∧
    (d.tab k).lock = some (s.dev.roleOf w.path, if w.value = 0 then s.dev.rd (0x4010 + k) 0xD else w.value) ∧
    d.rd (0x4010 + k) 0xC = lockState (s.dev.roleOf w.path) (if w.value = 0 then s.dev.rd (0x4010 + k) 0xD else w.value) ∧
    s.dev.keeps (only (0x4010 + k) 0xC) { d with tabs := s.dev.tabs }) ∧
  (∀ (k lease : Nat) (w : Wr) (s : State), k < 16 → s.dev.hears (0x4010 + k) 0xB w = true →
    (s.dev.tab k).lock = some (s.dev.roleOf w.path, lease) → Completes (.lockRelease k w) s fun d => d.answer.abort = 0 ∧
    (d.tab k).lock = none ∧ d.rd (0x4010 + k) 0xC = 0 ∧ s.dev.keeps (only (0x4010 + k) 0xC) { d with tabs := s.dev.tabs }) ∧
  (∀ (k : Nat) (s : State), k < 16 → s.dev.isLocked k = true → s.dev.runs (tabDom (k / 4)) = true → Completes (.leaseExpiry k) s fun d =>
    (d.tab k).lock = none ∧ d.rd (0x4010 + k) 0xC = 0 ∧ bit 4 (d.rd (0x4010 + k) 0xE) = true ∧
    s.dev.keeps (fun i j => only (0x4010 + k) 0xC i j || only (0x4010 + k) 0xE i j) { d with tabs := s.dev.tabs }) ∧
  (∀ (q v : Nat) (rest : List Nat) (w : Wr) (s : State), q < 4 → s.dev.hears (0x4080 + q) 7 w = true → s.dev.learnQ q = v :: rest →
    Completes (.learnPop q w) s fun d => d.answer.abort = 0 ∧ d.rd (0x4080 + q) 8 = v ∧ d.learnQ q = rest ∧
    d.rd (0x4080 + q) 9 = rest.length ∧
    s.dev.keeps (fun i j => i = 0x4080 + q && (j = 8 || j = 9)) { d with learnNotes := s.dev.learnNotes }) ∧
  (∀ (k : Nat) (w : Wr) (s : State), k < 16 → s.dev.hears (0x4010 + k) 0x17 w = true → fld 39 32 w.value < plumbBlocks k →
    Completes (.plumbSet k w) s fun d => d.answer.abort = 0 ∧
    Tbl.get (fun _ => 0) (d.tab k).plumb (fld 39 32 w.value) = fld 31 0 w.value + fld 40 40 w.value * 2 ^ 32 ∧
    s.dev.keeps (fun _ _ => false) { d with tabs := s.dev.tabs }) ∧
  (∀ (k : Nat) (s : State), k < 16 → s.dev.rd (0x4010 + k) 0x15 = 1 → s.dev.tableOn k = true → s.dev.inject = none →
    Completes (.plumbPass k) s fun d => (d.tab k).dirty = [] ∧
    s.dev.keeps (fun i j => i = 0x4010 + k && (j = 0xE || j = 0x18 || j = 0x19)) { d with tabs := s.dev.tabs }) ∧
  (∀ (k b : Nat) (s : State), k < 16 → s.dev.rd (0x4010 + k) 0x15 = 1 → s.dev.tableOn k = true → s.dev.inject = none →
    (s.dev.tab k).seeds = none →
    ((s.dev.tab k).plumb.filter (fun e => bit 32 e.2 && !(s.dev.tab k).dirty.contains e.1 && s.dev.plumbValue k e.1 != e.2 % 2 ^ 32)).map (fun e => e.1) = [b] →
    Completes (.plumbPass k) s fun d => (d.tab k).dirty = [] ∧ d.rd (0x4010 + k) 0x19 = satAdd 64 (s.dev.rd (0x4010 + k) 0x19) 1 ∧
    d.rd (0x4010 + k) 0x18 = b + 2 ^ 15 ∧ bit 5 (d.rd (0x4010 + k) 0xE) = true ∧
    s.dev.keeps (fun i j => i = 0x4010 + k && (j = 0xE || j = 0x18 || j = 0x19)) { d with tabs := s.dev.tabs })

/-- A table-DMA descriptor that passes its checks copies its units to the host, or writes its image into the table, and is written
    back with result OK. Where the rules leave a point open, the outcome stated is the model's own choice, in entries 185 and
    186 of the assumption log. -/
def Obligations.TableDmaMovesImages : Prop :=
  (∀ (op : Nat) (t : Nat) (g : DmaDesc) (b : List Byte) (s : State), t < 8 → (s.dev.ring (128 + t)).avail = true →
    s.dev.endpointUp = true → s.dev.dmaRuns = [] → g.table < 16 → g.addr % 64 = 0 → s.dev.answersOff (tabDom (g.table / 4)) = false →
    op = 1 ∨ op = 3 ∨ op = 5 ∨ op = 7 → dmaFits op g.table = true → g.count = 1 → g.first < (dmaUnits op g.table).1 →
    Completes (dmaCommand op t g (some b)) s fun d => .hostWrite g.addr (s.dev.dmaRead op g.table g.first) ∈ d.emits ∧ d.dmaRuns = [] ∧
    (.hostWrite ((s.dev.ring (128 + t)).descAddr (128 + t) + 16) ([BitVec.ofNat 8 (1 + 4 * b2n g.setAn), 0] ++ toLE 2 0) ∈ d.emits) ∧
    (d.ring (128 + t)).cons = (s.dev.ring (128 + t)).succ (s.dev.ring (128 + t)).cons ∧
    s.dev.keeps (fun _ _ => false) { d with rings := s.dev.rings }) ∧
  (∀ (op : Nat) (t : Nat) (g : DmaDesc) (b : List Byte) (s : State), t < 8 → (s.dev.ring (128 + t)).avail = true →
    s.dev.endpointUp = true → s.dev.dmaRuns = [] → g.table < 16 → g.addr % 64 = 0 → s.dev.answersOff (tabDom (g.table / 4)) = false →
    op = 1 ∨ op = 3 ∨ op = 5 ∨ op = 7 → dmaFits op g.table = true → 1 < g.count → g.first + g.count ≤ (dmaUnits op g.table).1 →
    Completes (dmaCommand op t g (some b)) s fun d => .hostWrite g.addr (s.dev.dmaRead op g.table g.first) ∈ d.emits ∧
    d.dmaRuns = [(t, ⟨op, g, b, 1, 0⟩)] ∧ d.ring (128 + t) = s.dev.ring (128 + t) ∧
    s.dev.keeps (fun _ _ => false) { d with dmaRuns := s.dev.dmaRuns }) ∧
  (∀ (t : Nat) (j : DmaJob) (rest : List (Nat × DmaJob)) (s : State), s.dev.dmaRuns = (t, j) :: rest →
    s.dev.dmaBar j.op j.desc.table = none → j.op = 1 ∨ j.op = 3 ∨ j.op = 5 ∨ j.op = 7 → j.next + 1 < j.desc.count →
    .hostWrite (j.desc.addr + (dmaUnits j.op j.desc.table).2 * j.next) (s.dev.dmaRead j.op j.desc.table (j.desc.first + j.next)) ∈ s.dev.dmaServe.emits ∧
    s.dev.dmaServe.dmaRuns = rest ++ [(t, { j with next := j.next + 1 })]) ∧
  (∀ (t : Nat) (g : DmaDesc) (b : List Byte) (s : State), t < 8 → (s.dev.ring (128 + t)).avail = true → s.dev.endpointUp = true →
    s.dev.dmaRuns = [] → g.table < 16 → g.addr % 64 = 0 → s.dev.answersOff (tabDom (g.table / 4)) = false →
    s.dev.runs (tabDom (g.table / 4)) = true → (s.dev.tab g.table).lock.map (fun x => x.1) = some .host → g.table % 4 < 2 → g.count = 1 →
    g.first < 8192 → 256 ≤ b.length → (∀ j ∈ List.range 4, (imageSlot (slice (64 * j) 64 (slice 0 256 b))).valid = false) →
    Completes (.writeBuckets t g (some b)) s fun d => (∀ j, j < 4 → (d.ent g.table (4 * g.first + j)).valid = false) ∧
    (.hostWrite ((s.dev.ring (128 + t)).descAddr (128 + t) + 16) ([BitVec.ofNat 8 (1 + 4 * b2n g.setAn), 0] ++ toLE 2 0) ∈ d.emits) ∧
    (d.ring (128 + t)).cons = (s.dev.ring (128 + t)).succ (s.dev.ring (128 + t)).cons ∧
    s.dev.keeps (fun i _ => i = 0x4010 + g.table || i = 0x4080 + g.table / 4) { d with slots := s.dev.slots, tabs := s.dev.tabs, eccBad := s.dev.eccBad, eccSoft := s.dev.eccSoft, rings := s.dev.rings }) ∧
  (∀ (t : Nat) (g : DmaDesc) (b : List Byte) (e : Ent) (s : State), t < 8 → (s.dev.ring (128 + t)).avail = true → s.dev.endpointUp = true →
    s.dev.dmaRuns = [] → g.table < 16 → g.addr % 64 = 0 → s.dev.answersOff (tabDom (g.table / 4)) = false →
    s.dev.runs (tabDom (g.table / 4)) = true → (s.dev.tab g.table).lock.map (fun x => x.1) = some .host → g.table % 4 < 2 → g.count = 1 →
    g.first < 64 → 64 ≤ b.length → e = imageSlot (slice 0 64 b) → e.valid = true → exactOk g.table e.key e.res e.ctl = true →
    Completes (.writeStash t g (some b)) s fun d =>
    d.ent g.table (0x8000 + g.first) = { e with ctl := s.dev.imageCtl g.table (s.dev.ent g.table (0x8000 + g.first)) e true } ∧
    (.hostWrite ((s.dev.ring (128 + t)).descAddr (128 + t) + 16) ([BitVec.ofNat 8 (1 + 4 * b2n g.setAn), 0] ++ toLE 2 0) ∈ d.emits) ∧
    (d.ring (128 + t)).cons = (s.dev.ring (128 + t)).succ (s.dev.ring (128 + t)).cons ∧
    s.dev.keeps (fun i _ => i = 0x4010 + g.table || i = 0x4080 + g.table / 4) { d with slots := s.dev.slots, tabs := s.dev.tabs, eccBad := s.dev.eccBad, eccSoft := s.dev.eccSoft, rings := s.dev.rings }) ∧
  (∀ (t : Nat) (g : DmaDesc) (b : List Byte) (e : Ent) (s : State), t < 8 → (s.dev.ring (128 + t)).avail = true → s.dev.endpointUp = true →
    s.dev.dmaRuns = [] → g.table < 16 → g.addr % 64 = 0 → s.dev.answersOff (tabDom (g.table / 4)) = false →
    s.dev.runs (tabDom (g.table / 4)) = true → (s.dev.tab g.table).lock.map (fun x => x.1) = some .host → g.table % 4 = 2 → g.count = 1 →
    32 ≤ g.first → g.first < 1024 → 64 ≤ b.length → e = imageTcam (slice 0 64 b) → tcamOk (g.table / 4) e.key e.mask e.res = true →
    Completes (.writeEntries t g (some b)) s fun d => d.ent g.table g.first = e ∧
    (.hostWrite ((s.dev.ring (128 + t)).descAddr (128 + t) + 16) ([BitVec.ofNat 8 (1 + 4 * b2n g.setAn), 0] ++ toLE 2 0) ∈ d.emits) ∧
    (d.ring (128 + t)).cons = (s.dev.ring (128 + t)).succ (s.dev.ring (128 + t)).cons ∧
    s.dev.keeps (fun i _ => i = 0x4010 + g.table || i = 0x4080 + g.table / 4) { d with slots := s.dev.slots, tabs := s.dev.tabs, eccBad := s.dev.eccBad, eccSoft := s.dev.eccSoft, rings := s.dev.rings }) ∧
  (∀ (t : Nat) (g : DmaDesc) (b : List Byte) (c r : Nat) (s : State), t < 8 → (s.dev.ring (128 + t)).avail = true →
    s.dev.endpointUp = true → s.dev.dmaRuns = [] → g.table < 16 → g.addr % 64 = 0 → s.dev.answersOff (tabDom (g.table / 4)) = false →
    s.dev.runs (tabDom (g.table / 4)) = true → (s.dev.tab g.table).lock.map (fun x => x.1) = some .host → g.table % 4 = 3 → g.count = 1 →
    g.setAn = false → g.first < 8192 → 32 ≤ b.length → c = g.table / 4 * 8192 + g.first → r = chanClean (ofLE (slice 0 32 b)) →
    chanOk (c / 8192) r = true → chRx r = false → chPair r = chPair (s.dev.chan c) → chRx (s.dev.chan c) = false →
    Completes (.writeRecords t g (some b)) s fun d => d.chan c = setFld 87 86 r (chAn (s.dev.chan c)) ∧
    (.hostWrite ((s.dev.ring (128 + t)).descAddr (128 + t) + 16) ([BitVec.ofNat 8 (1 + 4 * b2n g.setAn), 0] ++ toLE 2 0) ∈ d.emits) ∧
    (d.ring (128 + t)).cons = (s.dev.ring (128 + t)).succ (s.dev.ring (128 + t)).cons ∧
    s.dev.keeps (fun i _ => i = 0x4010 + g.table || i = 0x4080 + g.table / 4) { d with chans := s.dev.chans, counters := s.dev.counters, tabs := s.dev.tabs, eccBad := s.dev.eccBad, eccSoft := s.dev.eccSoft, rings := s.dev.rings }) ∧
  (∀ (t : Nat) (g : DmaDesc) (b : List Byte) (s : State), t < 8 → (s.dev.ring (128 + t)).avail = true → s.dev.endpointUp = true →
    s.dev.dmaRuns = [] → g.table < 16 → g.addr % 64 = 0 → s.dev.answersOff (tabDom (g.table / 4)) = false →
    s.dev.runs (tabDom (g.table / 4)) = true → g.count = 1 → g.first < plumbBlocks g.table → 8 ≤ b.length →
    Completes (.loadPlumb t g (some b)) s fun d =>
    Tbl.get (fun _ => 0) (d.tab g.table).plumb g.first = leAt 0 4 (slice 0 8 b) + leAt 4 1 (slice 0 8 b) % 2 * 2 ^ 32 ∧
    (.hostWrite ((s.dev.ring (128 + t)).descAddr (128 + t) + 16) ([BitVec.ofNat 8 (1 + 4 * b2n g.setAn), 0] ++ toLE 2 0) ∈ d.emits) ∧
    (d.ring (128 + t)).cons = (s.dev.ring (128 + t)).succ (s.dev.ring (128 + t)).cons ∧
    s.dev.keeps (fun _ _ => false) { d with tabs := s.dev.tabs, rings := s.dev.rings })

/-- READ, WRITE, STATUS and FLUSH of a queue window copy a record out, store one, report a queue and empty it, with RESULT OK -/
def Obligations.QueueWindowsReadWriteAndFlush : Prop :=
  (∀ (n t i : Nat) (p : Path) (s : State), n < 16 → s.dev.hears (qwIndex n) (qwSub n) ⟨p, 2, 1, 1⟩ = true →
    i = s.dev.rd (qwIndex n) (qwSub n + 2) → s.dev.rd (qwIndex n) (qwSub n + 1) < 3 →
    (s.dev.rd (qwIndex n) (qwSub n + 1) = 0 → i / 65536 = n / 4) → (s.dev.rd (qwIndex n) (qwSub n + 1) = 1 → i / 8192 = n / 4) →
    (s.dev.rd (qwIndex n) (qwSub n + 1) = 2 → i < 1024) → Completes (.queueWindowRead n t p) s fun d => d.answer.abort = 0 ∧
    (∀ k, k < 4 → d.rd (qwIndex n) (qwSub n + 3 + k) = fld (64 * k + 63) (64 * k) (s.dev.qwRecord (n / 4) (s.dev.rd (qwIndex n) (qwSub n + 1)) i t)) ∧
    d.rd (qwIndex n) (qwSub n + 7) = 0 ∧ s.dev.keeps (fun i j => i = qwIndex n && within (qwSub n + 3) 5 j) d) ∧
  (∀ (n t i v : Nat) (p : Path) (s : State), n < 16 → s.dev.hears (qwIndex n) (qwSub n) ⟨p, 2, 1, 2⟩ = true →
    i = s.dev.rd (qwIndex n) (qwSub n + 2) → s.dev.rd (qwIndex n) (qwSub n + 1) = 0 → i / 65536 = n / 4 → v = s.dev.qwData n % 2 ^ 128 →
    s.dev.queueWordOk (n / 4) v = true → fld 3 0 v = (s.dev.queue i).pool ∨ (s.dev.queue i).isEmpty = true →
    Completes (.queueWindowWrite n t p) s fun d => d.answer.abort = 0 ∧ d.queue i = { s.dev.queue i with word := v } ∧
    d.rd (qwIndex n) (qwSub n + 7) = 0 ∧
    s.dev.keeps (fun i j => i = qwIndex n && within (qwSub n + 3) 5 j) { d with queues := s.dev.queues }) ∧
  (∀ (n t i v : Nat) (p : Path) (s : State), n < 16 → s.dev.hears (qwIndex n) (qwSub n) ⟨p, 2, 1, 2⟩ = true →
    i = s.dev.rd (qwIndex n) (qwSub n + 2) → s.dev.rd (qwIndex n) (qwSub n + 1) = 1 → i / 8192 = n / 4 → v = s.dev.qwData n →
    nodeWordOk v = true → Completes (.queueWindowWrite n t p) s fun d => d.answer.abort = 0 ∧ (d.node i).word = clrBit 114 (v % 2 ^ 144) ∧
    d.rd (qwIndex n) (qwSub n + 7) = 0 ∧
    s.dev.keeps (fun i j => i = qwIndex n && within (qwSub n + 3) 5 j) { d with nodes := s.dev.nodes }) ∧
  (∀ (n t i v : Nat) (p : Path) (s : State), n < 16 → s.dev.hears (qwIndex n) (qwSub n) ⟨p, 2, 1, 2⟩ = true →
    i = s.dev.rd (qwIndex n) (qwSub n + 2) → s.dev.rd (qwIndex n) (qwSub n + 1) = 2 → i < 1024 → v = s.dev.qwData n →
    policerWordOk v = true → Completes (.queueWindowWrite n t p) s fun d => d.answer.abort = 0 ∧
    (d.policer (1024 * (n / 4) + i)).word = v % 2 ^ 98 ∧ d.rd (qwIndex n) (qwSub n + 7) = 0 ∧
    s.dev.keeps (fun i j => i = qwIndex n && within (qwSub n + 3) 5 j) { d with policers := s.dev.policers }) ∧
  (∀ (n t i : Nat) (p : Path) (s : State), n < 16 → s.dev.hears (qwIndex n) (qwSub n) ⟨p, 2, 1, 3⟩ = true →
    i = s.dev.rd (qwIndex n) (qwSub n + 2) → s.dev.rd (qwIndex n) (qwSub n + 1) = 0 → i / 65536 = n / 4 →
    Completes (.queueWindowStatus n t p) s fun d => d.answer.abort = 0 ∧
    (∀ k, k < 4 → d.rd (qwIndex n) (qwSub n + 3 + k) = fld (64 * k + 63) (64 * k) (s.dev.queueStatus i t)) ∧
    d.rd (qwIndex n) (qwSub n + 7) = 0 ∧ s.dev.keeps (fun i j => i = qwIndex n && within (qwSub n + 3) 5 j) d) ∧
  (∀ (n t x : Nat) (p : Path) (s : State), n < 16 → s.dev.hears (qwIndex n) (qwSub n) ⟨p, 2, 1, 4⟩ = true →
    x = s.dev.rd (qwIndex n) (qwSub n + 2) → s.dev.rd (qwIndex n) (qwSub n + 1) = 0 → x / 65536 = n / 4 →
    Completes (.flush n t p) s fun d => d.answer.abort = 0 ∧
    d.queue x = { Queue.init with word := (s.dev.queue x).word, stack := (s.dev.queue x).stack } ∧ d.rd (qwIndex n) (qwSub n + 7) = 0 ∧
    s.dev.keeps (fun i j => i = 0x5000 + 64 * (x / 65536) || i = 0x5003 || only (qwIndex n) (qwSub n + 7) i j || framesEnd ((s.dev.queue x).sram ++ (s.dev.queue x).spilled) i j) { d with queues := s.dev.queues, counters := s.dev.counters, nodes := s.dev.nodes })

/-- POOL_OWNER takes and frees a pool, a spilled page is read back whole, a stack's training ends and a stack fails. Where the rules
    leave a point open, the outcome stated is the model's own choice, in entry 103 of the assumption log. -/
def Obligations.PoolsAreOwnedAndSpilledPagesReturn : Prop :=
  (∀ (q p : Nat) (w : Wr) (s : State), q < 4 → p < 15 → s.dev.hears (0x5000 + 64 * q) (0xF0 + p) w = true → w.value ≠ 0 →
    s.dev.rd (0x5000 + 64 * q) (0xF0 + p) = 0 ∨ s.dev.rd (0x5000 + 64 * q) (0xF0 + p) = w.value → Completes (.poolOwner q p w) s fun d =>
    d.answer.abort = 0 ∧ d.rd (0x5000 + 64 * q) (0xF0 + p) = w.value ∧ s.dev.keeps (only (0x5000 + 64 * q) (0xF0 + p)) d) ∧
  (∀ (q p : Nat) (w : Wr) (s : State), q < 4 → p < 15 → s.dev.hears (0x5000 + 64 * q) (0xF0 + p) w = true → w.value = 0 →
    s.dev.poolUsed q p = 0 → s.dev.poolNamed q p = false → s.dev.rd (0x5000 + 64 * q) 0xC8 ≠ p → Completes (.poolOwner q p w) s fun d =>
    d.answer.abort = 0 ∧ d.rd (0x5000 + 64 * q) (0xF0 + p) = 0 ∧ s.dev.keeps (only (0x5000 + 64 * q) (0xF0 + p)) d) ∧
  (∀ (x : Nat) (f : Frame) (g : Page) (s : State), x / 8 < 32768 → s.dev.runs (bufDom (x / 65536)) = true → (s.dev.queue x).pages = [g] →
    g.stack < 2 → (s.dev.queue x).deep = [(f, false)] → (s.dev.queue x).readBack = 0 → f.len ≤ 4096 - (s.dev.queue x).room →
    (s.dev.queue x).cells < (s.dev.queue x).threshold → s.dev.poolFits (x / 65536) (s.dev.queue x).pool (cellsOf f.len) = true →
    s.dev.inject = none → Completes (.readback x 0) s fun d => (d.queue x).sram = (s.dev.queue x).sram ++ [f] ∧ (d.queue x).deep = [] ∧
    (d.queue x).pages = [] ∧ s.dev.keeps (fun i _ => i = 0x5000 + 64 * (x / 65536) || i = 0x5003) { d with queues := s.dev.queues }) ∧
  (∀ (k : Nat) (ok : Bool) (s : State), k < 2 → s.dev.stackState k = 1 → Completes (.stackTrainingDone k ok) s fun d =>
    d.stackState k = (if ok = true then 2 else 3) ∧ s.dev.keeps (fun i _ => i = 0x5003) d) ∧
  (∀ (k : Nat) (s : State), k < 2 → s.dev.isLive (137 + k) = true → Completes (.stackFailed k) s fun d => d.stackState k = 3 ∧
    s.dev.keeps (fun i j => i = 0x5003 || (0x5000 ≤ i && (j = 0xCB || within 0xE0 16 j)) || framesEnd (s.dev.queues.flatMap (fun e => e.2.spilled)) i j) { d with queues := s.dev.queues, counters := s.dev.counters })

/-- A port scheduler sends the head frame of the strict class of the one node whose turn it is, and charges it at the frame's end.
    Where the rules leave a point open, the outcome stated is the model's own choice, in entries 104, 105 and 110 of the
    assumption log. -/
def Obligations.PortSchedulersSelectAndCharge : Prop :=
  (∀ (g t x : Nat) (f : Frame) (rest : List Frame) (s : State), g < 512 → x < 262144 → s.dev.runs (bufDom (quadOf (g % 256))) = true →
    s.dev.sends g = true → s.dev.inject = none → s.dev.mayDraw g = true → s.dev.portMayServe g t = true →
    s.dev.queuesWhere (s.dev.feeds g) = [x] → (s.dev.queue x).sram = f :: rest → s.dev.exitLen f ≤ s.dev.maxSdu g (x % 8) →
    s.dev.tooLong g (x % 8) (s.dev.exitLen f) = false → s.dev.queueEligible g t x = true →
    (((s.dev.node (x / 8)).accrue t).tier).isSome = true → s.dev.keys.suspended.contains (x / 8) = false →
    (s.dev.sched g).turn = some (x / 8) → 0 < (s.dev.node (x / 8)).deficit → bit (x % 8) (s.dev.rd (0x5000 + g) 1) = true →
    Completes (.schedulerSelect g t 0) s fun d => (d.queue x).sram = rest ∧
    (g < 256 → d.inE (pacer g) = s.dev.inE (pacer g) ++ [⟨{ f with strict := true }, 0, f.prot && s.dev.saSpent f.chan, false⟩]) ∧
    (256 ≤ g → f.exit = g → s.dev.staged g = [] → s.dev.drawn g = [] → (d.staged g).map (·.frame.no) = [f.no]) ∧
    s.dev.keeps (fun i j => i = 0x5000 + 64 * (x / 65536) || only (0x2600 + pacer g) 5 i j || only (0x2600 + pacer f.exit) 5 i j || (i = 0x2000 + f.pair && (j = 0x33 || j = 0x34)) || framesEnd [f] i j) { d with queues := s.dev.queues, scheds := s.dev.scheds, eFlight := s.dev.eFlight, staging := s.dev.staging, counters := s.dev.counters, time := s.dev.time }) ∧
  (∀ (g t : Nat) (x : Staged) (rest : List Staged) (s : State), g < 512 → s.dev.runs (bufDom (quadOf (g % 256))) = true →
    s.dev.staged g = x :: rest → s.dev.drawn g = [] → s.dev.inject = none → x.left = true → x.full = true → x.frame.wait = .none →
    Completes (.frameEndCharge g t) s fun d => (d.staged g).map (·.frame.no) = rest.map (·.frame.no) ∧
    (d.sched g).level = (s.dev.portAccrue g t).level - Int.ofNat ((x.frame.sent + s.dev.overhead g) * byteUnit) ∧
    (d.node x.frame.chan).cLevel = ((s.dev.node x.frame.chan).accrue t).cLevel - Int.ofNat ((x.frame.sent + s.dev.overhead g) * byteUnit) ∧
    (d.node x.frame.chan).pLevel = ((s.dev.node x.frame.chan).accrue t).pLevel - Int.ofNat ((x.frame.sent + s.dev.overhead g) * byteUnit) ∧
    (s.dev.looped x.frame.exit = false → Emit.frame x.frame.exit (s.dev.txLanes x.frame.exit) (pcsBlocks x.frame.data x.frame.fcs) ∈ d.emits)) ∧
  (∀ (g t : Nat) (x : Staged) (rest : List Staged) (s : State), g < 512 → s.dev.runs (bufDom (quadOf (g % 256))) = true →
    s.dev.staged g = x :: rest → s.dev.drawn g = [] → s.dev.inject = none → x.left = true → x.full = false →
    s.dev.isShort (pacer g) (g % 256) = true → Completes (.frameEndCharge g t) s fun d =>
    (d.staged g).map (·.frame.no) = rest.map (·.frame.no) ∧ bit 2 (d.rd (0x6000 + s.dev.calOf (pacer g)) 0x70) = true ∧
    (s.dev.looped x.frame.exit = false → Emit.frame x.frame.exit (s.dev.txLanes x.frame.exit) (pcsBlocks (x.frame.data.take x.done) .errorBlock) ∈ d.emits))

/-- CONFIG_CHANGE submits a side's administrative list, CONFIG_CANCEL withdraws it, its takeover makes it operational, and the gates
    follow the list in force. Where the rules leave a point open, the outcome stated is the model's own choice, in entry 107 of
    the assumption log. -/
def Obligations.GatesFollowTheirLists : Prop :=
  (∀ (g k : Nat) (w : Wr) (s : State), g < 512 → s.dev.hears (0x5800 + g) 7 w = true →
    (s.dev.adminList g).entries.any (fun e => e / 256 < 64) = false → (s.dev.adminList g).ext ≤ (s.dev.adminList g).cycle →
    s.dev.isOn 141 = true → k = takeoverAt (s.dev.adminList g) s.dev.compact → tooFarAhead s.dev.compact k = false →
    s.dev.time.queue.length < 4096 → Completes (.configChange g w) s fun d => d.answer.abort = 0 ∧
    (d.gate g).submitted = some (s.dev.adminList g, k) ∧ d.rd (0x5800 + g) 9 = 1 ∧ d.rd (0x5800 + g) 0xA = time96Of (k * 2 ^ 32) ∧
    (⟨k, .gate g, s.dev.time.submitted⟩ : SchedEntry) ∈ d.time.queue ∧
    s.dev.keeps (fun i j => (i = 0x5800 + g && (j = 9 || j = 0xA)) || i = 0x7020) { d with gates := s.dev.gates, time := s.dev.time }) ∧
  (∀ (g : Nat) (w : Wr) (s : State), g < 512 → s.dev.hears (0x5800 + g) 8 w = true → s.dev.rd (0x5800 + g) 9 ≠ 0 →
    Completes (.configCancel g w) s fun d => d.answer.abort = 0 ∧ (d.gate g).submitted = none ∧ d.rd (0x5800 + g) 9 = 0 ∧
    d.time.queue.any (fun e => sameOwner (.gate g) e.owner) = false ∧
    s.dev.keeps (fun i j => only (0x5800 + g) 9 i j || i = 0x7020) { d with gates := s.dev.gates, time := s.dev.time }) ∧
  (∀ (g t k : Nat) (l : GateList) (s : State), g < 512 →
    s.dev.time.handed.any (fun e => e.owner = .gate g && s.dev.due (quadOf (g % 256)) t e) = true →
    s.dev.runs (bufDom (quadOf (g % 256))) = true → (s.dev.gate g).submitted = some (l, k) → Completes (.gateTakeover g t) s fun d =>
    (d.gate g).submitted = none ∧ (d.gate g).oper = some l ∧ d.rd (0x5800 + g) 9 = 0 ∧ d.rd (0x5800 + g) 0xB = l.entries.length ∧
    d.rd (0x5800 + g) 0xC = l.cycle ∧ d.rd (0x5800 + g) 0xD = l.ext ∧ d.rd (0x5800 + g) 0xE = time96Of (l.base * 2 ^ 32) ∧
    d.rd (0x5800 + g) 0xF = time96Of (k * 2 ^ 32) ∧ bit 18 (d.rd (0x5000 + 64 * quadOf (g % 256)) 0xC3) = true ∧
    s.dev.keeps (fun i j => i = 0x5800 + g || only (0x5000 + 64 * quadOf (g % 256)) 0xC3 i j) { d with gates := s.dev.gates, time := s.dev.time }) ∧
  (∀ (g t : Nat) (s : State), g < 512 → s.dev.runs (bufDom (quadOf (g % 256))) = true → Completes (.gateTransition g t) s fun d =>
    (d.gate g).now = (s.dev.gateView g (s.dev.quadTime (quadOf (g % 256)) t)).2 ∧
    s.dev.keeps (fun i j => only (0x5800 + g) 0x19 i j || only (0x5000 + 64 * quadOf (g % 256)) 0xC3 i j) { d with gates := s.dev.gates }) ∧
  (∀ (g t : Nat) (w : Wr) (s : State), g < 512 → s.dev.hears (0x5800 + g) 1 w = true → Completes (.gateEnable g t w) s fun d =>
    d.answer.abort = 0 ∧ d.rd (0x5800 + g) 1 = w.value ∧ (w.value = 0 → (d.gate g).now = 255) ∧
    s.dev.keeps (fun i j => only (0x5800 + g) 1 i j || only (0x5800 + g) 0x19 i j || only (0x5000 + 64 * quadOf (g % 256)) 0xC3 i j) { d with gates := s.dev.gates })

/-- A sampler pass begins with its marker, each visit writes one 16-byte record of a queue to the host ring, and SAMPLE_SIZE
    restarts a stopped sampler. Where the rules leave a point open, the outcome stated is the model's own choice, in entries 108
    and 180 of the assumption log. -/
def Obligations.SamplersRecordQueues : Prop :=
  (∀ (q t : Nat) (s : State), q < 4 → s.dev.runs (bufDom q) = true → s.dev.samples q = true →
    (s.dev.rd (smp q) 0xC7 + 1) % 2 ^ (s.dev.rd (smp q) 0xC5) ≠ s.dev.rd (smp q) 0xC8 % 2 ^ (s.dev.rd (smp q) 0xC5) →
    s.dev.isOn 139 = true → s.dev.boot.perstLow = false → (s.dev.sampler q).running = false →
    Completes (.samplePassStart q t true) s fun d => d.sampler q = ⟨0, s.dev.rd (smp q) 0xCA % 2 ^ 16, false, true⟩ ∧
    .hostWrite (s.dev.rd (smp q) 0xC4 + 16 * (s.dev.rd (smp q) 0xC7 % 2 ^ (s.dev.rd (smp q) 0xC5))) (toLE 4 0xFFFFFFFF ++ toLE 8 (s.dev.quadTime q t / 2 ^ 32) ++ toLE 2 0 ++ toLE 2 (s.dev.rd (smp q) 0xCA % 2 ^ 16)) ∈ d.emits ∧
    d.rd (smp q) 0xC7 = (s.dev.rd (smp q) 0xC7 + 1) % 2 ^ (s.dev.rd (smp q) 0xC5) ∧
    s.dev.keeps (only (smp q) 0xC7) { d with samplers := s.dev.samplers }) ∧
  (∀ (q t i : Nat) (s : State), q < 4 → s.dev.runs (bufDom q) = true → s.dev.samples q = true →
    (s.dev.rd (smp q) 0xC7 + 1) % 2 ^ (s.dev.rd (smp q) 0xC5) ≠ s.dev.rd (smp q) 0xC8 % 2 ^ (s.dev.rd (smp q) 0xC5) →
    s.dev.isOn 139 = true → s.dev.boot.perstLow = false → (s.dev.sampler q).running = true → bit 0 (s.dev.rd (smp q) 0xC3) = false →
    (s.dev.sampler q).next + 1 < s.dev.sampleCount q → i = s.dev.rd (smp q) 0xC1 + (s.dev.sampler q).next →
    Completes (.sampleVisit q t true) s fun d => d.sampler q = { s.dev.sampler q with next := (s.dev.sampler q).next + 1 } ∧
    .hostWrite (s.dev.rd (smp q) 0xC4 + 16 * (s.dev.rd (smp q) 0xC7 % 2 ^ (s.dev.rd (smp q) 0xC5))) (toLE 4 (i + b2n (!(s.dev.queue i).deep.isEmpty) * 2 ^ 31) ++ toLE 6 (s.dev.queue i).bytes ++ toLE 4 ((s.dev.queue i).delay t) ++ toLE 2 (s.dev.sampler q).pass) ∈ d.emits ∧
    d.rd (smp q) 0xC7 = (s.dev.rd (smp q) 0xC7 + 1) % 2 ^ (s.dev.rd (smp q) 0xC5) ∧
    s.dev.keeps (only (smp q) 0xC7) { d with samplers := s.dev.samplers }) ∧
  (∀ (q t : Nat) (w : Wr) (s : State), q < 4 → s.dev.hears (smp q) 0xC5 w = true →
    w.value ≠ s.dev.rd (smp q) 0xC5 ∨ (s.dev.sampler q).stopped = true → w.value = 0 ∨ s.dev.rd (smp q) 0xC0 = 0 →
    Completes (.sampleSize q w t) s fun d => d.answer.abort = 0 ∧ d.rd (smp q) 0xC5 = w.value ∧ (d.sampler q).stopped = false ∧
    (d.sampler q).running = false ∧ s.dev.keeps (only (smp q) 0xC5) { d with samplers := s.dev.samplers }) ∧
  (∀ (q t : Nat) (w : Wr) (s : State), q < 4 → s.dev.hears (smp q) 0xC5 w = true →
    w.value ≠ s.dev.rd (smp q) 0xC5 ∨ (s.dev.sampler q).stopped = true → w.value ≠ 0 → s.dev.rd (smp q) 0xC0 ≠ 0 →
    s.dev.isOn (bufDom q) = true → s.dev.isOn 139 = true → s.dev.boot.perstLow = false →
    (s.dev.rd (smp q) 0xC7 + 1) % 2 ^ w.value ≠ s.dev.rd (smp q) 0xC8 % 2 ^ w.value → Completes (.sampleSize q w t) s fun d =>
    d.answer.abort = 0 ∧ d.rd (smp q) 0xC5 = w.value ∧ d.sampler q = ⟨0, s.dev.rd (smp q) 0xCA % 2 ^ 16, false, true⟩ ∧
    d.rd (smp q) 0xC7 = (s.dev.rd (smp q) 0xC7 + 1) % 2 ^ w.value ∧
    s.dev.keeps (fun i j => i = smp q && (j = 0xC5 || j = 0xC7)) { d with samplers := s.dev.samplers })

/-- A calendar's slot counter advances at every visit, a slot whose owner has a beat is only counted, SWAP acts at the wrap,
    HOT_EDIT changes the active bank. Where the rules leave a point open, the outcome stated is the model's own choice, in
    entries 110, 112, 171 and 208 of the assumption log. -/
def Obligations.CalendarsVisitSwapAndEdit : Prop :=
  (∀ (k t : Nat) (s : State), k < 64 → s.dev.runs (sliceDom k) = true → s.dev.rd (0x6000 + k) 5 ≠ 2 → Completes (.slotVisit k t) s fun d =>
    (d.cal k).slot = ((s.dev.cal k).slot + 1) % 128) ∧
  (∀ (k t n : Nat) (x : Staged) (s : State), k < 64 → s.dev.runs (sliceDom k) = true → s.dev.rd (0x6000 + k) 5 = 0 →
    (s.dev.rd (0x6000 + k) 3 ≠ 1 ∨ (s.dev.cal k).slot ≠ 0) → (s.dev.cal k).edit = none → s.dev.sliceWorks k = true →
    s.dev.ownerAt k (s.dev.slotEntry k (s.dev.activeBank k) (s.dev.cal k).slot) = some n → s.dev.mode n ≠ pmCarrier →
    pacer (pacedSide k n) = k → s.dev.staged (pacedSide k n) = [x] → x.left = true → x.done + 64 ≤ x.frame.sent →
    Completes (.slotVisit k t) s fun d =>
    d.staged (pacedSide k n) = [{ x with done := x.done + 64, hold := x.hold || s.dev.isShort k (pacedSide k n % 256) }] ∧
    (d.cal k).slot = ((s.dev.cal k).slot + 1) % 128 ∧
    s.dev.keeps (fun i j => (i = 0x6000 + k && (j = 0x54 || within 0x60 5 j)) || only (0x2600 + k) 5 i j) { d with cals := s.dev.cals, staging := s.dev.staging, eFlight := s.dev.eFlight }) ∧
  (∀ (k t n : Nat) (e : Drawn) (s : State), k < 64 → s.dev.runs (sliceDom k) = true → s.dev.rd (0x6000 + k) 5 = 0 →
    (s.dev.rd (0x6000 + k) 3 ≠ 1 ∨ (s.dev.cal k).slot ≠ 0) → (s.dev.cal k).edit = none → s.dev.sliceWorks k = true →
    s.dev.ownerAt k (s.dev.slotEntry k (s.dev.activeBank k) (s.dev.cal k).slot) = some n → s.dev.mode n ≠ pmCarrier → k / 8 % 2 = 0 →
    pacer n = k → s.dev.staged n = [] → s.dev.stagedBgOf n = [] → s.dev.inE k = [e] → e.frame.exit = n →
    e.done + 64 ≤ s.dev.handLen e.frame → Completes (.slotVisit k t) s fun d =>
    d.inE k = [{ e with done := e.done + 64, hold := e.hold || s.dev.isShort k (n % 256) }] ∧
    (d.cal k).slot = ((s.dev.cal k).slot + 1) % 128 ∧
    s.dev.keeps (fun i j => (i = 0x6000 + k && (j = 0x54 || within 0x60 5 j)) || only (0x2600 + k) 5 i j) { d with cals := s.dev.cals, staging := s.dev.staging, stagedBg := s.dev.stagedBg, eFlight := s.dev.eFlight }) ∧
  (∀ (k t n : Nat) (s : State), k < 64 → s.dev.runs (sliceDom k) = true → s.dev.rd (0x6000 + k) 5 = 0 →
    (s.dev.rd (0x6000 + k) 3 ≠ 1 ∨ (s.dev.cal k).slot ≠ 0) → (s.dev.cal k).edit = none → s.dev.sliceWorks k = true →
    s.dev.ownerAt k (s.dev.slotEntry k (s.dev.activeBank k) (s.dev.cal k).slot) = some n → s.dev.mode n = pmCarrier →
    s.dev.stagedBgOf (pacedSide k n) = [] → s.dev.carrierBeats (k / 8 % 2 = 0) n = true → s.dev.takesSlot k n (s.dev.cal k).slot = true →
    Completes (.slotVisit k t) s fun d => (d.cal k).slot = ((s.dev.cal k).slot + 1) % 128 ∧
    s.dev.keeps (fun i j => i = 0x6000 + k && (j = 0x54 || within 0x60 5 j)) { d with cals := s.dev.cals, stagedBg := s.dev.stagedBg }) ∧
  (∀ (k : Nat) (w : Wr) (s : State), k < 64 → s.dev.hears (0x6000 + k) 2 w = true → s.dev.calWrites k = true →
    s.dev.rd (0x6000 + k) 3 ≠ 1 → Completes (.swap k w) s fun d => d.answer.abort = 0 ∧ d.rd (0x6000 + k) 3 = 1 ∧
    d.isPending (0x6000 + k) 2 = true ∧ s.dev.keeps (only (0x6000 + k) 3) { d with pend := s.dev.pend }) ∧
  (∀ (k : Nat) (s : State), k < 64 → s.dev.runs (sliceDom k) = true → s.dev.isFenced k = false → (s.dev.cal k).slot = 0 →
    s.dev.rd (0x6000 + k) 3 = 1 → s.dev.bankBreaks k (1 - (s.dev.activeBank k)) = false → Completes (.swapAtWrap k) s fun d =>
    d.activeBank k = 1 - s.dev.activeBank k ∧ d.rd (0x6000 + k) 3 = 0 ∧ bit 0 (d.rd (0x6000 + k) 0x70) = true ∧
    d.isPending (0x6000 + k) 2 = false ∧
    s.dev.keeps (fun i j => i = 0x6000 + k && (j = 1 || j = 3 || j = 6 || j = 0x70)) { d with pend := s.dev.pend }) ∧
  (∀ (k e x : Nat) (w : Wr) (s : State), k < 64 → s.dev.hears (0x6000 + k) 4 w = true → s.dev.calWrites k = true → x = w.value % 256 →
    e = w.value / 256 → x < s.dev.calLen k → s.dev.entryOk k e = true → s.dev.rd (0x6000 + k) 3 ≠ 1 →
    (s.dev.setSlot k (s.dev.activeBank k) x e).bankBreaks k (s.dev.activeBank k) = false →
    e = s.dev.slotEntry k (s.dev.activeBank k) x ∨ (s.dev.ownerAt k (s.dev.slotEntry k (s.dev.activeBank k) x)).isSome = false ∨ (s.dev.ownerAt k e).isSome = false →
    Completes (.hotEdit k w) s fun d => d.answer.abort = 0 ∧ d.slotEntry k (s.dev.activeBank k) x = e ∧
    (d.cal k).edit = some (s.dev.activeBank k, x) ∧ d.isPending (0x6000 + k) 4 = true ∧
    s.dev.keeps (fun i j => i = 0x6000 + k && (within 0x10 64 j || j = 0x54)) { d with cals := s.dev.cals, pend := s.dev.pend })

/-- A lone background requester takes an unused slot, BG_BASE, PRIO_CEIL and BG_WAIT_CLEAR are stored, and a long wait sets its
    cause once. Where the rules leave a point open, the outcome stated is the model's own choice, in entries 111 and 207 of the
    assumption log. -/
def Obligations.BackgroundRequestersAreServed : Prop :=
  (∀ (k t r : Nat) (s : State), k < 64 → s.dev.runs (sliceDom k) = true → s.dev.rd (0x6000 + k) 5 = 0 →
    (s.dev.rd (0x6000 + k) 3 ≠ 1 ∨ (s.dev.cal k).slot ≠ 0) → (s.dev.cal k).edit = none → s.dev.sliceWorks k = true →
    (s.dev.cal k).grant = none → s.dev.ownerAt k (s.dev.slotEntry k (s.dev.activeBank k) (s.dev.cal k).slot) = none →
    s.dev.asking k = [r] → Completes (.slotVisit k t) s fun d => (d.cal k).grant = some r ∧ (d.cal k).parked = false ∧
    d.rd (0x6000 + k) (0x58 + r) = satAdd 64 (s.dev.rd (0x6000 + k) (0x58 + r)) 1 ∧
    s.dev.keeps (fun i j => i = 0x6000 + k && (within 0x53 10 j || within 0x60 5 j)) { d with cals := s.dev.cals }) ∧
  (∀ (k : Nat) (c : Bool) (w : Wr) (s : State), k < 64 → s.dev.hears (0x6000 + k) (if c = true then 0x51 else 0x50) w = true →
    s.dev.calWrites k = true → Completes (.bgBase k c w) s fun d => d.answer.abort = 0 ∧
    d.rd (0x6000 + k) (if c = true then 0x51 else 0x50) = w.value ∧
    s.dev.keeps (fun i j => i = 0x6000 + k && (j = 0x50 || j = 0x51 || j = 0x53)) d) ∧
  (∀ (k r : Nat) (s : State), k < 64 → s.dev.runs (sliceDom k) = true → s.dev.rd (0x6000 + k) 0x55 ≠ 0 →
    s.dev.rd (0x6000 + k) 0x55 < nth 0 (s.dev.cal k).waits r → (s.dev.cal k).flagged.contains r = false →
    Completes (.bgWait k r) s fun d => (d.cal k).flagged.contains r = true ∧ bit 3 (d.rd (0x6000 + k) 0x70) = true ∧
    s.dev.keeps (fun i j => i = 0x6000 + k && (j = 0x54 || j = 0x70)) { d with cals := s.dev.cals }) ∧
  (∀ (k : Nat) (w : Wr) (s : State), k < 64 → s.dev.hears (0x6000 + k) 0x65 w = true → s.dev.calWrites k = true →
    Completes (.bgWaitClear k w) s fun d => d.answer.abort = 0 ∧ (∀ r, r < 5 → d.rd (0x6000 + k) (0x60 + r) = 0) ∧
    s.dev.keeps (fun i j => i = 0x6000 + k && within 0x60 5 j) d)

/-- A tick adds INCREMENT to TIME and SF and applies a waiting step, INCREMENT, STEP and TIME_SET are taken, and an epoch boundary
    reloads the quadrants. Where the rules leave a point open, the outcome stated is the model's own choice, in entries 113 and
    118 of the assumption log. -/
def Obligations.TimeTicksAndSteps : Prop :=
  (∀ (s : State), s.dev.timeRuns = true → s.dev.time.steps = [] → Completes (.timeTick) s fun d =>
    d.time.time = s.dev.time.time + s.dev.rd 0x7000 4 ∧ d.time.sf = s.dev.time.sf + s.dev.rd 0x7000 4 ∧
    d.time.epochTick = s.dev.time.epochTick + 1 ∧ s.dev.keeps (fun _ _ => false) { d with time := s.dev.time }) ∧
  (∀ (x : TimeStep) (s : State), s.dev.timeRuns = true → s.dev.time.steps = [x] →
    0 ≤ Int.ofNat (s.dev.time.time + s.dev.rd 0x7000 4) + x.offset → Completes (.timeTick) s fun d =>
    Int.ofNat d.time.time = Int.ofNat (s.dev.time.time + s.dev.rd 0x7000 4) + x.offset ∧ d.time.sf = s.dev.time.sf + s.dev.rd 0x7000 4 ∧
    d.time.steps = [] ∧ d.rd 0x7000 8 = 1 ∧ d.rd 0x7000 9 = ofInt 64 (x.offset / 2 ^ 32) ∧ bit 1 (d.rd 0x1402 1) = true ∧
    d.isPending 0x7000 x.sub = false ∧
    s.dev.keeps (fun i j => (i = 0x7000 && (j = 8 || j = 9)) || i = 0x7020) { d with time := s.dev.time, pend := s.dev.pend }) ∧
  (∀ (w : Wr) (s : State), s.dev.hears 0x7000 4 w = true → Completes (.increment w) s fun d => d.answer.abort = 0 ∧
    d.rd 0x7000 4 = w.value ∧ s.dev.keeps (only 0x7000 4) d) ∧
  (∀ (off : Int) (w : Wr) (s : State), s.dev.hears 0x7000 5 w = true → fld 15 9 w.value = 0 → fld 7 0 w.value = 0 →
    off = (toInt 64 (fld 95 32 w.value) * 2 ^ 16 + Int.ofNat (fld 31 16 w.value)) * 2 ^ 16 →
    bit 8 w.value = true ∨ off.natAbs ≤ s.dev.rd 0x7000 6 * 2 ^ 32 → Completes (.step w) s fun d => d.answer.abort = 0 ∧
    d.time.steps = s.dev.time.steps ++ [⟨off, 5⟩] ∧ d.isPending 0x7000 5 = true ∧
    s.dev.keeps (fun _ _ => false) { d with time := s.dev.time, pend := s.dev.pend }) ∧
  (∀ (off : Int) (w : Wr) (s : State), s.dev.hears 0x7000 7 w = true → fld 47 16 w.value ≤ 999999999 →
    off = Int.ofNat (ofTime96 w.value) - Int.ofNat s.dev.time.time → s.dev.timeValid = false ∨ off.natAbs ≤ s.dev.rd 0x7000 6 * 2 ^ 32 →
    Completes (.timeSet w) s fun d => d.answer.abort = 0 ∧ d.time.steps = s.dev.time.steps ++ [⟨off, 7⟩] ∧ d.isPending 0x7000 7 = true ∧
    s.dev.keeps (fun _ _ => false) { d with time := s.dev.time, pend := s.dev.pend }) ∧
  (∀ (t : Nat) (s : State), s.dev.timeRuns = true → 512 ≤ s.dev.time.epochTick → Completes (.epochBoundary t) s fun d =>
    d.time.epochTick = 0 ∧ (∀ q, q < 4 → s.dev.isOn (bufDom q) = true → s.dev.rd (0x1210 + q) 1 = 2 → d.follower q = s.dev.epochValue t) ∧
    s.dev.keeps (fun _ _ => false) { d with time := s.dev.time })

/-- The schedule queue hands its earliest entry to the block within 1 s of its target, and a handed action that is due is taken by
    its owner. Where the rules leave a point open, the outcome stated is the model's own choice, in entries 115 and 116 of the
    assumption log. -/
def Obligations.ScheduledActionsAreHandedAndFire : Prop :=
  (∀ (e : SchedEntry) (rest : List SchedEntry) (s : State), s.dev.timeRuns = true → s.dev.time.queue = e :: rest →
    reached s.dev.compact e.target = true ∨ (e.target + 2 ^ 64 - s.dev.compact) % 2 ^ 64 ≤ 1000000000 →
    Completes (.scheduleFire) s fun d => d.time.queue = rest ∧ d.time.handed = s.dev.time.handed ++ [e] ∧ d.rd 0x7020 1 = rest.length ∧
    d.rd 0x7020 3 = satAdd 64 (s.dev.rd 0x7020 3) 1 ∧ s.dev.keeps (fun i _ => i = 0x7020) { d with time := s.dev.time }) ∧
  (∀ (t c an x m : Nat) (s : State), firstOf (fun e => s.dev.due e.owner.quad t e) s.dev.time.handed = some ⟨x, .channel c an, m⟩ →
    Completes (.scheduledAction t) s fun d => d.time.handed = s.dev.time.handed.erase ⟨x, .channel c an, m⟩ ∧
    (Tbl.get (fun _ => []) d.keys.triggers (c / 8192)).getLast? = some ⟨true, c, an, t⟩ ∧
    s.dev.keeps (fun _ _ => false) { d with time := s.dev.time, keys := s.dev.keys }) ∧
  (∀ (t n x m : Nat) (s : State), n < 256 → firstOf (fun e => s.dev.due e.owner.quad t e) s.dev.time.handed = some ⟨x, .carrier n, m⟩ →
    Completes (.scheduledAction t) s fun d => d.time.handed = s.dev.time.handed.erase ⟨x, .carrier n, m⟩ ∧ (d.carrier n).want = true ∧
    s.dev.keeps (only (0x2500 + n) 0x12) { d with time := s.dev.time, carriers := s.dev.carriers }) ∧
  (∀ (t g x k m : Nat) (l : GateList) (s : State), firstOf (fun e => s.dev.due e.owner.quad t e) s.dev.time.handed = some ⟨x, .gate g, m⟩ →
    (s.dev.gate g).submitted = some (l, k) → Completes (.scheduledAction t) s fun d =>
    d.time.handed = s.dev.time.handed.erase ⟨x, .gate g, m⟩ ∧ (d.gate g).oper = some l ∧ (d.gate g).submitted = none ∧
    s.dev.keeps (fun i j => i = 0x5800 + g || only (0x5000 + 64 * quadOf (g % 256)) 0xC3 i j) { d with time := s.dev.time, gates := s.dev.gates })

/-- Comparators fire, timestamps queue and are read, and the reference inputs are timed. Where the rules leave a point open, the
    outcome stated is the model's own choice, in entries 13, 117 and 210 of the assumption log. -/
def Obligations.ComparatorsTimestampsAndReferences : Prop :=
  (∀ (k : Nat) (w : Wr) (s : State), k < 8 → s.dev.hears (0x7010 + k) 1 w = true → w.value = 0 → Completes (.function k w) s fun d =>
    d.answer.abort = 0 ∧ d.rd (0x7010 + k) 1 = 0 ∧ d.comp k = Comp.init ∧
    s.dev.keeps (fun i j => only (0x7010 + k) 1 i j || (within 0x1030 16 i && (j = 1 || j = 5))) { d with time := s.dev.time }) ∧
  (∀ (k : Nat) (w : Wr) (s : State), k < 8 → s.dev.hears (0x7010 + k) 1 w = true → w.value = 1 → s.dev.rd (0x7010 + k) 4 < 1000000000 →
    s.dev.rd (0x7010 + k) 1 = 0 → s.dev.ppsHeld = false → Completes (.function k w) s fun d => d.answer.abort = 0 ∧
    d.rd (0x7010 + k) 1 = 1 ∧ s.dev.keeps (only (0x7010 + k) 1) { d with time := s.dev.time }) ∧
  (∀ (k g : Nat) (w : Wr) (s : State), k < 8 → s.dev.hears (0x7010 + k) 1 w = true → w.value = 2 → g = s.dev.rd (0x7010 + k) 5 → g ≠ 0xFF →
    s.dev.rd (0x7010 + k) 4 < s.dev.rd (0x7010 + k) 3 → s.dev.rd (0x7010 + k) 1 = 0 → s.dev.rd (0x1030 + g) 5 = 0 →
    Completes (.function k w) s fun d => d.answer.abort = 0 ∧ d.rd (0x7010 + k) 1 = 2 ∧ d.rd (0x1030 + g) 1 = 2 ∧
    d.rd (0x1030 + g) 5 = 0x10 + k ∧
    s.dev.keeps (fun i j => only (0x7010 + k) 1 i j || (i = 0x1030 + g && (j = 1 || j = 5))) { d with time := s.dev.time }) ∧
  (∀ (k : Nat) (w : Wr) (s : State), k < 8 → s.dev.hears (0x7010 + k) 1 w = true → w.value = 3 → s.dev.rd (0x7010 + k) 1 = 0 →
    Completes (.function k w) s fun d => d.answer.abort = 0 ∧ d.rd (0x7010 + k) 1 = 3 ∧
    s.dev.keeps (only (0x7010 + k) 1) { d with time := s.dev.time }) ∧
  (∀ (k t : Nat) (s : State), k < 8 → s.dev.timeRuns = true → (s.dev.comp k).high = false → s.dev.instant k = some t →
    s.dev.time.time - t < s.dev.rd 0x7000 4 → (s.dev.comp k).last = none → after t (s.dev.comp k).passed = true →
    Completes (.pulseEdge k) s fun d => d.comp k = ⟨true, s.dev.time.sf, some t, (s.dev.comp k).passed⟩ ∧
    .pin (s.dev.compPin k) true ∈ d.emits ∧ d.rd (0x7010 + k) 6 = satAdd 64 (s.dev.rd (0x7010 + k) 6) 1 ∧
    s.dev.keeps (only (0x7010 + k) 6) { d with time := s.dev.time }) ∧
  (∀ (k : Nat) (s : State), k < 8 → s.dev.timeRuns = true → (s.dev.comp k).high = true →
    s.dev.rd (0x7010 + k) 4 * 2 ^ 32 ≤ s.dev.time.sf - (s.dev.comp k).riseSf → Completes (.pulseEdge k) s fun d =>
    d.comp k = { s.dev.comp k with high := false } ∧ .pin (s.dev.compPin k) false ∈ d.emits ∧
    d.rd (0x7010 + k) 6 = satAdd 64 (s.dev.rd (0x7010 + k) 6) 1 ∧ s.dev.keeps (only (0x7010 + k) 6) { d with time := s.dev.time }) ∧
  (∀ (k : Nat) (s : State), k < 8 → s.dev.isOn 141 = true → s.dev.rd (0x7010 + k) 1 = 3 →
    reached s.dev.compact (compactOf (s.dev.rd (0x7010 + k) 2)) = true → Completes (.eventAtTime k) s fun d => d.rd (0x7010 + k) 1 = 0 ∧
    d.rd (0x7010 + k) 6 = satAdd 64 (s.dev.rd (0x7010 + k) 6) 1 ∧ bit (8 + k) (d.rd 0x1402 1) = true ∧
    s.dev.keeps (fun i j => i = 0x7010 + k && (j = 1 || j = 6)) d) ∧
  (∀ (x v : Nat) (rest : List Nat) (w : Wr) (s : State), x < 512 → s.dev.hears (tsIndex x) 0x31 w = true →
    Tbl.get (fun _ => []) s.dev.time.fifo x = v :: rest → Completes (.tsPop x w) s fun d => d.answer.abort = 0 ∧
    d.rd (tsIndex x) 0x32 = v ∧ d.rd (tsIndex x) 0x33 = rest.length ∧ Tbl.get (fun _ => []) d.time.fifo x = rest ∧
    s.dev.keeps (fun i j => i = tsIndex x && (j = 0x32 || j = 0x33)) { d with time := s.dev.time }) ∧
  (∀ (b : Bool) (s : State), s.dev.isOn 141 = true → s.dev.rd 0x7000 12 = (if b = true then 1 else 0) →
    s.dev.time.ppsLast = none ∨ 500000000 * 2 ^ 32 ≤ s.dev.time.sf - s.dev.time.ppsLast.getD 0 → Completes (.ppsInEdge b) s fun d =>
    d.rd 0x7000 11 = s.dev.timeNow ∧ d.time.ppsLast = some s.dev.time.sf ∧ bit 2 (d.rd 0x1402 1) = true ∧
    s.dev.keeps (only 0x7000 11) { d with time := s.dev.time }) ∧
  (∀ (x : Nat) (s : State), s.dev.isOn 141 = true → s.dev.time.ppsLast = some x → s.dev.time.ppsLost = false →
    1500000000 * 2 ^ 32 ≤ s.dev.time.sf - x → Completes (.ppsInLost) s fun d => d.time.ppsLost = true ∧ bit 3 (d.rd 0x1402 1) = true ∧
    s.dev.keeps (fun _ _ => false) { d with time := s.dev.time }) ∧
  (∀ (x : Nat) (s : State), s.dev.isOn 141 = true → s.dev.rd 0x7000 13 = 1 → s.dev.time.clk10m = some x →
    Completes (.clk10mMeasurement) s fun d => d.time.clk10m = some s.dev.time.sf ∧
    d.rd 0x7000 14 = ofInt 64 ((Int.ofNat (s.dev.time.sf - x) - 1000000000 * 2 ^ 32) / 2 ^ 16) ∧
    s.dev.keeps (only 0x7000 14) { d with time := s.dev.time }) ∧
  (∀ (x : Nat) (s : State), s.dev.isOn 141 = true → s.dev.rd 0x7000 13 = 1 → s.dev.time.clk10m = some x →
    Completes (.clk10mLost) s fun d => d.time.clk10m = none ∧ bit 4 (d.rd 0x1402 1) = true ∧
    s.dev.keeps (fun _ _ => false) { d with time := s.dev.time })

/-- A domain changes state as POWER_REQ asks, or reads FAULT; a write to one in RETAIN wakes it, waits, and is performed once it is
    ON. Where the rules leave a point open, the outcome stated is the model's own choice, in entries 25, 119 and 156 of the
    assumption log. -/
def Obligations.DomainsChangeStateAndServeTheirWrites : Prop :=
  (∀ (k : Nat) (w : Wr) (s : State), k < 142 → s.dev.hears (0x1100 + k) 1 w = true → s.dev.othersRest k = true → w.value = 2 →
    s.dev.pstate k = psOff → parentOf k = 0xFF ∨ s.dev.isOn (parentOf k) = true → bit 2 (statesAllowed k) = true →
    (k < 136 → bit 1 (s.dev.rd 0x7800 5) = false) → s.dev.power.zeroWoken.contains k = false → Completes (.powerReq k w) s fun d =>
    d.answer.abort = 0 ∧ d.powerReq k = 2 ∧ d.pstate k = psToOn ∧
    s.dev.keeps (fun i j => (i = 0x1100 + k && (j = 1 || j = 2)) || only (0x1210 + pllOf k) 1 i j) { d with assay := s.dev.assay }) ∧
  (∀ (k : Nat) (w : Wr) (s : State), k < 142 → s.dev.hears (0x1100 + k) 1 w = true → s.dev.othersRest k = true → w.value = 1 →
    s.dev.pstate k = psOn → bit 1 (statesAllowed k) = true → parentOf k = 0xFF ∨ s.dev.isOn (parentOf k) = true →
    (childrenOf k).any (fun c => s.dev.isOn c || s.dev.pstate c = psToOn) = false → s.dev.isHeld k = false →
    s.dev.power.zeroWoken.contains k = false → Completes (.powerReq k w) s fun d => d.answer.abort = 0 ∧ d.powerReq k = 1 ∧
    d.pstate k = psToRetain ∧ s.dev.keeps (fun i j => (i = 0x1100 + k && (j = 1 || j = 2))) d) ∧
  (∀ (k : Nat) (w : Wr) (s : State), k < 142 → s.dev.hears (0x1100 + k) 1 w = true → s.dev.othersRest k = true → w.value = 0 →
    s.dev.pstate k = psOn → bit 0 (statesAllowed k) = true → k < 137 ∨ k = 141 → (childrenOf k).any (fun c => !s.dev.countsOff c) = false →
    s.dev.isHeld k = false → s.dev.assay.draining ≠ some k → s.dev.power.zeroWoken.contains k = false →
    Completes (.powerReq k w) s fun d => d.answer.abort = 0 ∧ d.powerReq k = 0 ∧ d.pstate k = psToOff ∧
    s.dev.keeps (fun i j => (i = 0x1100 + k && (j = 1 || j = 2))) d) ∧
  (∀ (k t : Nat) (s : State), k < 142 → s.dev.othersRest k = true → s.dev.pstate k = psToOn → s.dev.powerReq k = 2 →
    s.dev.pll (pllOf k) = 2 → s.dev.wakeWaits.filter (fun x => x.unit = k) = [] → s.dev.power.forming = [] → s.dev.power.exiting = [] →
    Completes (.domainTransitionDone k t) s fun d => d.pstate k = psOn ∧ d.rd (0x1100 + k) 7 = satAdd 64 (s.dev.rd (0x1100 + k) 7) 1 ∧
    s.dev.keeps (fun i j => (i = 0x1100 + k && (j = 2 || j = 7 || j = 8)) || (i = 0x2600 + 16 * (k / 34) + k % 34 && j = 1) || (i = 0x141C + k / 34 && j = 1) || (i = 0x5003 && (j = 0xD3 || j = 0xDB))) { d with time := s.dev.time, nodes := s.dev.nodes, policers := s.dev.policers, scheds := s.dev.scheds }) ∧
  (∀ (k t : Nat) (s : State), k < 142 → s.dev.othersRest k = true → s.dev.pstate k = psToRetain → s.dev.powerReq k = 1 →
    (k = 136 → s.dev.rd (0x1100 + k) 3 ≠ 1) → Completes (.domainTransitionDone k t) s fun d => d.pstate k = psRetain ∧
    d.rd (0x1100 + k) 7 = satAdd 64 (s.dev.rd (0x1100 + k) 7) 1 ∧
    s.dev.keeps (fun i j => (i = 0x1100 + k && (j = 2 || j = 7 || j = 8)) || (i = 0x2600 + 16 * (k / 34) + k % 34 && j = 1) || (i = 0x141C + k / 34 && j = 1) || (i = 0x5003 && (j = 0xD3 || j = 0xDB))) d) ∧
  (∀ (k t : Nat) (s : State), k < 142 → s.dev.othersRest k = true → s.dev.pstate k = psToOff → s.dev.powerReq k = 0 →
    Completes (.domainTransitionDone k t) s fun d => d.pstate k = psOff ∧ d.rd (0x1100 + k) 7 = satAdd 64 (s.dev.rd (0x1100 + k) 7) 1) ∧
  (∀ (k : Nat) (s : State), k < 142 → s.dev.othersRest k = true → s.dev.pstate k = psToOn → s.dev.power.warm.contains k = false →
    Completes (.domainFault k) s fun d => d.pstate k = psFault ∧ bit 9 (d.rd 0x1400 1) = true ∧
    s.dev.keeps (fun i j => only (0x1100 + k) 2 i j || (within 0x1210 8 i && j = 1)) d) ∧
  (∀ (i j k t : Nat) (w : Wr) (s : State), s.dev.reaches w.path = true → s.dev.linkHolds i j = none → s.dev.linkHit i j = none →
    (s.dev.accessed (s.dev.roleOf w.path)).writeAbort (s.dev.roleOf w.path) i j w.ty w.len w.value = 0 →
    (s.dev.accessed (s.dev.roleOf w.path)).absorbedAt i = false → (s.dev.accessed (s.dev.roleOf w.path)).isPending i j = false →
    (s.dev.accessed (s.dev.roleOf w.path)).wakesFor i j = some k →
    (effectOf t i j (s.dev.roleOf w.path) w.value ((s.dev.at t).accessed (s.dev.roleOf w.path))).1 = 0 →
    Completes (.dictionaryWrite i j t w) s fun d => d.answer.abort = 0 ∧ d.wakeWaits = s.dev.wakeWaits ++ [⟨k, i, j, w, false, none⟩] ∧
    (parentOf k = 0xFF ∨ s.dev.isOn (parentOf k) = true → d.pstate k = psToOn) ∧
    s.dev.keeps wakeReg { d with wakeWaits := s.dev.wakeWaits }) ∧
  (∀ (k g t : Nat) (w : Wr) (s : State), k < 136 → k % 34 = 33 → g < 512 → s.dev.othersRest k = true → s.dev.pstate k = psToOn →
    s.dev.powerReq k = 2 → s.dev.pll (pllOf k) = 2 → s.dev.power.forming = [] → s.dev.power.exiting = [] →
    s.dev.wakeWaits = [⟨k, 0x5800 + g, 0x18, w, false, none⟩] →
    ((s.dev.asWoken k t).accessed ((s.dev.asWoken k t).roleOf w.path)).writeAbort ((s.dev.asWoken k t).roleOf w.path) (0x5800 + g) 0x18 w.ty w.len w.value = 0 →
    ((s.dev.asWoken k t).accessed ((s.dev.asWoken k t).roleOf w.path)).isPending (0x5800 + g) 0x18 = false →
    ((s.dev.asWoken k t).accessed ((s.dev.asWoken k t).roleOf w.path)).wakesFor (0x5800 + g) 0x18 = none →
    Completes (.domainTransitionDone k t) s fun d => d.pstate k = psOn ∧ d.answer.abort = 0 ∧ d.rd (0x5800 + g) 0x18 = w.value ∧
    d.wakeWaits = [])

/-- A PLL locks and loses lock, clock windows set their offset and fault bits, and pulse overflows set and clear. Where the rules
    leave a point open, the outcome stated is the model's own choice, in entries 123, 124 and 181 of the assumption log. -/
def Obligations.ClocksAreWatched : Prop :=
  (∀ (p : Nat) (s : State), p < 8 → s.dev.pll p = 1 → Completes (.pllLocked p) s fun d => d.pll p = 2 ∧ (p = 6 → d.rd 0x7000 8 = 0) ∧
    s.dev.keeps (fun i j => only (0x1210 + p) 1 i j || (p = 6 && only 0x7000 8 i j)) { d with boot := s.dev.boot }) ∧
  (∀ (p : Nat) (s : State), p < 8 → p ≠ 4 → p ≠ 7 → s.dev.pll p = 2 → s.dev.power.supply < 2 → Completes (.pllLockLoss p) s fun d =>
    d.pll p = 1 ∧ d.rd (0x1210 + p) 2 = satAdd 32 (s.dev.rd (0x1210 + p) 2) 1 ∧ bit 10 (d.rd 0x1400 1) = true) ∧
  (∀ (p : Nat) (s : State), p = 4 ∨ p = 7 → s.dev.pll p = 2 → s.dev.power.supply < 2 → s.dev.boot.holding = 0 →
    Completes (.pllLockLoss p) s fun d => d.pll p = 1 ∧ d.rd 0x1020 1 = 3 ∧ d.boot.holding = 12) ∧
  (∀ (i : Nat) (ppb : Int) (gone : Bool) (s : State), i < 8 → s.dev.onMain = true → Completes (.refclkWindow i ppb gone) s fun d =>
    d.rd 0x1200 (0x10 + i) = ofInt 64 ppb ∧ bit i (d.rd 0x1200 4) = (gone || decide (200000 < ppb.natAbs)) ∧
    s.dev.keeps (fun x j => x = 0x1200 && (j = 4 || j = 0x10 + i)) d) ∧
  (∀ (ppb : Int) (s : State), s.dev.onMain = true → Completes (.sysclkWindow ppb) s fun d => d.rd 0x1200 2 = ofInt 64 ppb ∧
    d.rd 0x1200 1 = (if 500000 < ppb.natAbs then 1 else 0) ∧
    s.dev.keeps (fun i j => (i = 0x1200 && (j = 1 || j = 2)) || only 0x8000 0xA i j) d) ∧
  (∀ (s : State), s.dev.power.supply < 2 → s.dev.boot.holding = 0 → Completes (.sysclkLost) s fun d => d.rd 0x1020 1 = 2 ∧
    d.rd 0x1020 2 = satAdd 32 (s.dev.rd 0x1020 2) 1 ∧ d.boot.holding = 10) ∧
  (∀ (b : Nat) (s : State), b < 8 → Completes (.pulseOverflow b) s fun d => bit b (d.rd 0x1200 5) = true ∧
    (d.crossing (400 + b)).count = 16 ∧ s.dev.keeps (only 0x1200 5) d) ∧
  (∀ (w : Wr) (s : State), s.dev.hears 0x1200 6 w = true → Completes (.pulseOverflowClear w) s fun d => d.answer.abort = 0 ∧
    d.rd 0x1200 5 = andNot (s.dev.rd 0x1200 5) w.value ∧ s.dev.keeps (only 0x1200 5) d)

/-- VDD_IO dips, main power is lost and restored, AON comes up; SYS_RST_N, SOFT_RESET and power-on reset start the keystone over;
    DOMAIN_RESET resets one domain. Where the rules leave a point open, the outcome stated is the model's own choice, in entries
    145, 146 and 151 of the assumption log. -/
def Obligations.MainPowerAndKeystoneResets : Prop :=
  (∀ (s : State), s.dev.power.supply = 0 → Completes (.vddIoDip) s fun d => d.power.supply = 1 ∧ d.tamper.disarmed = true ∧
    (∀ i, i < 5 → i ≠ 3 → bit i (d.rd 0x7800 3) = false) ∧ s.dev.keeps (only 0x7800 3) { d with tamper := s.dev.tamper }) ∧
  (∀ (t ticks : Nat) (s : State), s.dev.power.supply = 1 → Completes (.vddIoReturn t ticks) s fun d => d.power.supply = 0 ∧
    d.tamper.disarmed = false ∧ d.rd 0x7800 9 = ticks % 2 ^ 48) ∧
  (∀ (s : State), s.dev.power.supply ≠ 2 → Completes (.mainPowerLost) s fun d => d.power.supply = 2 ∧ d.tamper.disarmed = true ∧
    d.tamper.disarmed3 = true ∧ d.boot.holding = 0 ∧ d.rd 0x7800 0xD = satAdd 32 (s.dev.rd 0x7800 0xD) 1 ∧ d.keys.slots = s.dev.keys.slots) ∧
  (∀ (s : State), s.dev.power.supply = 2 → Completes (.mainPowerRestored) s fun d => d.power.supply = 3 ∧ d.tamper.disarmed = false ∧
    d.tamper.disarmed3 = false ∧ d.tamper.due = 0 ∧ d.tamper.deferred = [] ∧ (s.dev.tamper.due ≠ 0 → bit 14 (d.rd 0x1401 1) = true)) ∧
  (∀ (s : State), Completes (.aonPowerUp) s fun d => d.power.supply = 2 ∧ d.keys.slots = [] ∧ d.rd 0x7800 1 = 0x20 ∧
    (∀ n, n < 64 → d.rd (0x3010 + n) 2 = 0) ∧
    (∀ i j, j < 256 → (i, j) ∉ [(0x7800, 1), (0x7800, 4), (0x1010, 5), (0x1010, 6), (0x1200, 3), (0x118B, 2), (0x118C, 2), (0x118D, 2), (0x1216, 1)] → d.rd i j = dflt (okey i j)) ∧
    d.rd 0x7800 4 = s.dev.rd 0x7800 4) ∧
  (∀ (s : State), s.dev.power.supply < 2 → s.dev.boot.holding = 0 → Completes (.sysRstN true) s fun d => d.boot.holding = 9 ∧
    d.boot.sysRstLow = true ∧ d.rd 0x1020 1 = 1 ∧ d.rd 0x1020 2 = satAdd 32 (s.dev.rd 0x1020 2) 1 ∧ d.boot.sealed = false ∧
    d.boot.ready = false ∧ d.dap.sessions = [] ∧ d.queues = [] ∧ d.keys.sas = []) ∧
  (∀ (s : State), Completes (.sysRstN false) s fun d => d.boot.sysRstLow = false ∧ bit 0 d.boot.holding = false ∧
    s.dev.keeps (fun _ _ => false) { d with boot := s.dev.boot, tap := s.dev.tap }) ∧
  (∀ (b : Bool) (x : Nat) (w : Wr) (s : State), x < 4 → s.dev.hears 0x1020 3 w = true → w.value = 0x52535430 → s.dev.boot.holding = 0 →
    s.dev.power.supply < 2 → Completes (.softReset b x w) s fun d => d.answer.abort = 0 ∧ d.boot.holding = 0 ∧ d.boot.compat = b ∧
    d.boot.bootSrc = x ∧ d.rd 0x1020 1 = 4 ∧ d.rd 0x1020 2 = satAdd 32 (s.dev.rd 0x1020 2) 1 ∧ (x ≠ 3 → d.bootState = 0) ∧
    bit 7 (d.rd 0x1400 1) = true ∧ d.boot.sealed = false ∧ d.boot.ready = false ∧ d.dap.sessions = [] ∧ d.queues = [] ∧ d.keys.sas = []) ∧
  (∀ (b : Bool) (x : Nat) (s : State), x < 4 → s.dev.boot.holding ≠ 0 → bit 0 s.dev.boot.holding = false →
    bit 2 s.dev.boot.holding = false → Completes (.resetRelease b x) s fun d => d.boot.holding = 0 ∧ d.boot.compat = b ∧
    d.boot.bootSrc = x ∧ (x ≠ 3 → d.bootState = 0) ∧ d.boot.clusterRuns = decide (x ≠ 3)) ∧
  (∀ (b : Bool) (x : Nat) (s : State), x < 4 → s.dev.power.supply = 3 → s.dev.boot.sysRstLow = false →
    Completes (.powerOnReset b x) s fun d => d.power.supply = 0 ∧ d.boot.holding = 0 ∧ d.rd 0x1020 1 = 0 ∧ (x ≠ 3 → d.bootState = 0)) ∧
  (∀ (k : Nat) (w : Wr) (s : State), s.dev.hears 0x1020 7 w = true → k = w.value → k < 142 → s.dev.isHeld k = false → s.dev.isOn k = true →
    Completes (.domainReset w) s fun d => d.answer.abort = 0 ∧ d.isOn k = true ∧ d.assay.marks.contains k = false ∧
    (∀ i j, j < 256 → domainAt i j = some k → i ≠ 0x5003 → d.rd i j = dflt (okey i j)) ∧
    [1, 3, 7, 8].all (fun j => d.rd (0x1100 + k) j = s.dev.rd (0x1100 + k) j) = true ∧
    (k < 136 → k % 34 = 33 → ∀ x, x / 65536 = k / 34 → (d.queue x).sram = [] ∧ (d.queue x).deep = []) ∧
    (k < 136 → k % 34 = 32 → ∀ a, a / 16384 = k / 34 → d.sa a = Sa.init))

/-- Tamper conditions are noted on main power and sampled on backup, a condition held for WINDOW alarms its source and is logged,
    and the alarm ends. Where the rules leave a point open, the outcome stated is the model's own choice, in entries 126, 129
    and 130 of the assumption log. -/
def Obligations.TamperConditionsAreWatched : Prop :=
  (∀ (g levels t ticks : Nat) (s : State), s.dev.onMain = true → Completes (.tamperEvent g levels t ticks) s fun d =>
    d.rd 0x7800 9 = ticks % 2 ^ 48 ∧
    [1, 2, 4, 5, 6, 7, 8, 9, 10, 11, 12].all (fun i => (d.src i).present == (s.dev.condIn levels i && !s.dev.isDisarmed i)) = true ∧
    d.rd 0x1200 3 = b2n (s.dev.condIn levels 8 && !s.dev.isDisarmed 8)) ∧
  (∀ (m ticks i : Nat) (s : State), s.dev.onMain = true →
    (List.range 13).filter (fun x => bit x m && !isGlitch x && (s.dev.src x).present && s.dev.watches x && !s.dev.isDisarmed x) = [i] →
    s.dev.inAlarm i = false → s.dev.responseOf i = 3 → s.dev.tamper.log.length < 32 → Completes (.tamperLevelAlarm m ticks) s fun d =>
    d.inAlarm i = true ∧ bit i (d.rd 0x7800 1) = true ∧ d.tamper.log = s.dev.tamper.log ++ [(s.dev.ticksTo ticks).logEntry i 3 0 0] ∧
    bit i (d.rd 0x1401 1) = true ∧
    s.dev.keeps (fun i j => i = 0x7800 && (j = 1 || j = 3 || j = 5 || j = 9 || j = 0xA)) { d with tamper := s.dev.tamper }) ∧
  (∀ (i : Nat) (s : State), i < 13 → s.dev.onMain = true → s.dev.inAlarm i = true → isGlitch i = true ∨ (s.dev.src i).present = false →
    Completes (.tamperAlarmEnd i) s fun d => d.inAlarm i = false ∧ s.dev.keeps (only 0x7800 3) d) ∧
  (∀ (levels ticks : Nat) (z : Bool) (s : State), s.dev.power.supply = 2 → Completes (.tamperSample levels z ticks) s fun d =>
    d.rd 0x7800 9 = ticks % 2 ^ 48 ∧ d.tamper.zeroLow = z ∧
    [5, 6, 7, 8, 9, 10, 11, 12].all (fun i => (d.src i).present == s.dev.condIn levels i) = true) ∧
  (∀ (pin levels ticks : Nat) (z : Bool) (s : State), pin < 5 → s.dev.power.supply = 2 → s.dev.rd 0x7800 8 = 1 →
    pin = 4 ∨ s.dev.rd (0x7819 + pin) 2 = 1 → Completes (.wakeOnEdge pin levels z ticks) s fun d => d.rd 0x7800 9 = ticks % 2 ^ 48 ∧
    d.tamper.zeroLow = z ∧ [5, 6, 7, 8, 9, 10, 11, 12].all (fun i => (d.src i).present == s.dev.condIn levels i) = true) ∧
  (∀ (mv : Nat) (s : State), s.dev.onMain = true → Completes (.vbatMeasure mv) s fun d => d.rd 0x7800 7 = mv % 65536 ∧
    (mv < 2600 → 2600 ≤ s.dev.rd 0x7800 7 → bit 13 (d.rd 0x1401 1) = true) ∧ s.dev.keeps (only 0x7800 7) d)

/-- STICKY_CLEAR, RESPONSE_CLEAR, FUSE_BLOW and LOG_POP do what they name where no alarm stands in the way. Where the rules leave a
    point open, the outcome stated is the model's own choice, in entry 127 of the assumption log. -/
def Obligations.TamperEvidenceIsClearedAndFused : Prop :=
  (∀ (w : Wr) (s : State), s.dev.hears 0x7800 2 w = true → w.value &&& s.dev.rd 0x7800 3 = 0 → Completes (.stickyClear w) s fun d =>
    d.answer.abort = 0 ∧ d.rd 0x7800 1 = andNot (s.dev.rd 0x7800 1) w.value ∧ s.dev.keeps (only 0x7800 1) d) ∧
  (∀ (w : Wr) (s : State), s.dev.hears 0x7800 6 w = true → (bit 0 w.value = true → s.dev.alarmHolds 3 = false) →
    (bit 1 w.value = true → s.dev.alarmHolds 5 = false) → (bit 2 w.value = true → s.dev.alarmHolds 2 = false) →
    Completes (.responseClear w) s fun d => d.answer.abort = 0 ∧
    d.rd 0x7800 5 = andNot (s.dev.rd 0x7800 5) (w.value ||| (if bit 0 w.value then 16 else 0) ||| (if bit 1 w.value then 32 else 0))) ∧
  (∀ (i : Nat) (w : Wr) (s : State), i < 13 → s.dev.hears (0x7810 + i) 9 w = true → w.value = 0x46555345 → s.dev.inAlarm i = false →
    Completes (.fuseBlow i w) s fun d => d.answer.abort = 0 ∧ d.fused i = true ∧
    s.dev.keeps (only 0x7800 4) { d with tamper := s.dev.tamper }) ∧
  (∀ (v : Nat) (rest : List Nat) (w : Wr) (s : State), s.dev.hears 0x7800 0xB w = true → s.dev.tamper.log = v :: rest →
    Completes (.logPop w) s fun d => d.answer.abort = 0 ∧ d.rd 0x7800 0xC = v ∧ d.tamper.log = rest ∧ d.rd 0x7800 0xA = rest.length ∧
    s.dev.keeps (fun i j => i = 0x7800 && (j = 0xA || j = 0xC)) { d with tamper := s.dev.tamper })

/-- The assay checks, counts and localises mismatches; checkpoints are taken and RECLAIM returns what a fence froze. Where the rules
    leave a point open, the outcome stated is the model's own choice, in entries 133, 134 and 213 of the assumption log. -/
def Obligations.TheAssayFindsMismatchesAndReclaims : Prop :=
  (∀ (law loc dir c : Nat) (s : State), placeOk law loc = true → dir < 2 → s.dev.lawOn law = true →
    s.dev.assay.fresh.contains law = false →
    (Int.ofNat c - s.dev.counted law loc dir) ≠ Tbl.get (fun _ => (0 : Int)) s.dev.assay.base (placeKey law loc dir) →
    s.dev.assay.reports.length < 32 → s.dev.inject = none → Completes (.auditPass [[law, loc, dir, c]]) s fun d =>
    d.rd 0x8000 3 = satAdd 64 (s.dev.rd 0x8000 3) 1 ∧ d.assay.reports.length = s.dev.assay.reports.length + 1 ∧
    Tbl.get (fun _ => (0 : Int)) d.assay.base (placeKey law loc dir) = (Int.ofNat c - s.dev.counted law loc dir) ∧
    bit (lawEvent law loc % 16) (d.rd (0x1400 + lawEvent law loc / 16) 1) = true ∧
    s.dev.keeps (fun i j => i = 0x8000 && (j = 3 || j = 6)) { d with assay := s.dev.assay }) ∧
  (∀ (law loc dir c : Nat) (s : State), placeOk law loc = true → dir < 2 →
    (Int.ofNat c - s.dev.counted law loc dir) = Tbl.get (fun _ => (0 : Int)) s.dev.assay.base (placeKey law loc dir) ∨ s.dev.assay.fresh.contains law = true →
    s.dev.inject = none → Completes (.auditPass [[law, loc, dir, c]]) s fun d => d.assay.reports = s.dev.assay.reports ∧
    d.assay.fresh = [] ∧ s.dev.keeps (fun _ _ => false) { d with assay := s.dev.assay }) ∧
  (∀ (i av fl he : Nat) (dir : Bool) (s : State), i < 70 → s.dev.inject = none → Completes (.creditMarker i dir av fl he) s fun d =>
    (List.map (d.credit (creditCode i)) [4 * b2n dir + 1, 4 * b2n dir + 2, 4 * b2n dir + 3]) = (if s.dev.rd 0x8000 0xA = 0 then [(Config.creditInitial (creditCode i)).toNat - fl - he, min fl (Config.creditInitial (creditCode i)).toNat, min he ((Config.creditInitial (creditCode i)).toNat - fl)] else [av % 2 ^ 64, fl % 2 ^ 64, he % 2 ^ 64]) ∧
    s.dev.keeps (fun i j => i = 0x8000 && (j = 3 || j = 6 || j = 7)) { d with assay := s.dev.assay }) ∧
  (∀ (v : Nat) (rest : List Nat) (w : Wr) (s : State), s.dev.hears 0x8000 4 w = true → s.dev.assay.reports = v :: rest →
    Completes (.reportPop w) s fun d => d.answer.abort = 0 ∧ d.rd 0x8000 5 = v ∧ d.assay.reports = rest ∧ d.rd 0x8000 6 = rest.length ∧
    s.dev.keeps (fun i j => i = 0x8000 && (j = 5 || j = 6)) { d with assay := s.dev.assay }) ∧
  (∀ (w : Wr) (s : State), s.dev.hears 0x8000 0xB w = true → s.dev.assay.draining = none → Completes (.rebase w) s fun d =>
    d.answer.abort = 0 ∧ d.assay.base = [] ∧ d.assay.fresh = [1, 2, 3] ∧ d.assay.freshCredits = creditPlaces ∧
    d.rd 0x8000 0xA = s.dev.rd 0x8000 0xA &&& s.dev.causesNow ∧ s.dev.keeps (only 0x8000 0xA) { d with assay := s.dev.assay }) ∧
  (∀ (v : Nat) (w : Wr) (s : State), s.dev.hears 0x8000 0x10 w = true → v = w.value → v < 136 ∨ v = 137 ∨ v = 138 →
    s.dev.countsOff v = false → s.dev.isHeld v = false → (136 < v → bit (v - 137) (s.dev.rd 0x5003 0xC3) = false) →
    s.dev.assay.draining = none → Completes (.checkpoint w) s fun d => d.answer.abort = 0 ∧ d.assay.draining = some v ∧
    d.rd 0x8000 0x11 = 1 + 256 * v ∧ s.dev.keeps (only 0x8000 0x11) { d with assay := s.dev.assay }) ∧
  (∀ (k : Nat) (s : State), s.dev.assay.draining = some k → s.dev.pstate k ≠ psOff → Completes (.checkpointDone) s fun d =>
    d.assay.draining = none ∧ d.assay.marks.contains k = true ∧ d.rd 0x8000 0x11 = 2 + 256 * k ∧ bit 11 (d.rd 0x1406 1) = true) ∧
  (∀ (v : Nat) (w : Wr) (s : State), s.dev.hears 0x8000 0x12 w = true → v = w.value → v < 64 → s.dev.isFenced v = true →
    s.dev.assay.reclaiming = none → Completes (.reclaim w) s fun d => d.answer.abort = 0 ∧ d.assay.reclaiming = some v ∧
    d.rd 0x8000 0x13 = 1 + 256 * v ∧ s.dev.keeps (only 0x8000 0x13) { d with assay := s.dev.assay }) ∧
  (∀ (k : Nat) (s : State), s.dev.assay.reclaiming = some k → Completes (.reclaimDone) s fun d =>
    d.ctr 9 (k / 16) 3 = satAdd 64 (s.dev.ctr 9 (k / 16) 3) (d.rd (0x5000 + 64 * (k / 16)) 0xCB - s.dev.rd (0x5000 + 64 * (k / 16)) 0xCB) ∧
    d.assay.reclaiming = none ∧ d.assay.reclaimed.contains k = true ∧ d.inE k = [] ∧ d.inD k = [] ∧
    (pacedSides k).all (fun x => (d.staged x).isEmpty && (d.stagedBgOf x).isEmpty) = true ∧ d.rd 0x8000 0x13 = 2 + 256 * k ∧
    bit 12 (d.rd 0x1406 1) = true ∧
    s.dev.keeps (fun i j => only 0x8000 0x13 i j || (within 0x2600 64 i && j = 5) || (within 0x6000 64 i && j = 0x70) || (within 0x2000 512 i && (j = 0x33 || j = 0x34)) || within 0x3110 4 i || within 0x4010 16 i || within 0x5000 256 i || within 0x2400 256 i || only 0x8000 0xA i j || (within 0x9010 4 i && j = 0xA)) { d with eFlight := s.dev.eFlight, dFlight := s.dev.dFlight, staging := s.dev.staging, stagedBg := s.dev.stagedBg, bg := s.dev.bg, counters := s.dev.counters, assay := s.dev.assay, scheds := s.dev.scheds, nodes := s.dev.nodes, queues := s.dev.queues, time := s.dev.time, keys := s.dev.keys })

/-- SELECT captures a counter block, CLEAR_MASK clears what it names, and performance counters are enabled, cleared and stop at
    their limit. Where the rules leave a point open, the outcome stated is the model's own choice, in entry 135 of the
    assumption log. -/
def Obligations.CountersAreCapturedAndCleared : Prop :=
  (∀ (n t kind e : Nat) (w : Wr) (s : State), n < 8 → s.dev.hears (0x8010 + n) 1 w = true → w.value < 2 ^ 32 → kind = w.value % 256 →
    e = w.value / 256 → blockExists kind e = true → (∀ k ∈ blockDomain kind e, s.dev.answersOff k = false) →
    Completes (.select n t w) s fun d => d.answer.abort = 0 ∧ d.rd (0x8010 + n) 1 = w.value ∧
    (∀ k, k < 32 → d.rd (0x8010 + n) (0x10 + k) = s.dev.blockValue kind e k) ∧ d.assay.selected.contains n = true ∧
    s.dev.keeps (fun i _ => i = 0x8010 + n) { d with assay := s.dev.assay }) ∧
  (∀ (n kind e : Nat) (w : Wr) (s : State), n < 8 → s.dev.hears (0x8010 + n) 3 w = true → s.dev.assay.selected.contains n = true →
    kind = s.dev.rd (0x8010 + n) 1 % 256 → e = fld 31 8 (s.dev.rd (0x8010 + n) 1) →
    (∀ k ∈ blockDomain kind e, s.dev.answersOff k = false) → andNot (w.value &&& (blockMask kind).1) (blockMask kind).2 = 0 →
    Completes (.clearMask n w) s fun d => d.answer.abort = 0 ∧
    (∀ k, k < 32 → bit k (w.value &&& (blockMask kind).1) = true → d.ctr kind e k = 0) ∧
    s.dev.keeps (fun _ _ => false) { d with counters := s.dev.counters }) ∧
  (∀ (b : Nat) (w : Wr) (s : State), b < 5 → s.dev.hears (0x8100 + b) 1 w = true → Completes (.pcEnable b w) s fun d =>
    d.answer.abort = 0 ∧ d.rd (0x8100 + b) 1 = w.value ∧ s.dev.keeps (only (0x8100 + b) 1) { d with fresh := s.dev.fresh }) ∧
  (∀ (b : Nat) (w : Wr) (s : State), b < 5 → s.dev.hears (0x8100 + b) 2 w = true → Completes (.pcClear b w) s fun d => d.answer.abort = 0 ∧
    (∀ j, j < 64 → (b = 4 → j < 32) → bit j w.value = true → d.rd (0x8100 + b) (0x90 + j) = 0) ∧ s.dev.keeps (fun _ _ => false) d) ∧
  (∀ (b : Nat) (w : Wr) (s : State), b < 5 → s.dev.hears (0x8100 + b) 4 w = true → Completes (.pcSaturatedClear b w) s fun d =>
    d.answer.abort = 0 ∧ (∀ j, j < 64 → bit j w.value = true → bit j (d.rd (0x8100 + b) 3) = false) ∧ s.dev.keeps (fun _ _ => false) d) ∧
  (∀ (b j : Nat) (s : State), b < 5 → j < 64 → s.dev.perfCycles b j = true → Completes (.pcSaturation b j) s fun d =>
    d.rd (0x8100 + b) (0x90 + j) = (if s.dev.levelDev = 1 then 0 else 2 ^ 48 - 1) ∧ bit j (d.rd (0x8100 + b) 3) = true ∧
    bit 14 (d.rd 0x1406 1) = true ∧ s.dev.keeps (fun _ _ => false) d)

/-- An event pulse sets its STATUS bit, CLEAR clears what does not recur, MASK is stored, and the watchdog kicks, expires and
    restarts the cluster. Where the rules leave a point open, the outcome stated is the model's own choice, in entries 181 and
    187 of the assumption log. -/
def Obligations.EventsAreRaisedClearedAndMasked : Prop :=
  (∀ (e : Nat) (s : State), e < 400 → eventExists e = true → Completes (.eventRaise e) s fun d =>
    bit (e % 16) (d.rd (0x1400 + e / 16) 1) = true ∧ s.dev.keeps (fun _ _ => false) d) ∧
  (∀ (e : Nat) (s : State), e < 400 → eventExists e = false → Completes (.eventRaise e) s fun d => d = s.dev) ∧
  (∀ (g : Nat) (w : Wr) (s : State), g < 25 → s.dev.hears (0x1400 + g) 3 w = true → Completes (.clear g [] w) s fun d =>
    d.answer.abort = 0 ∧ (∀ k, k < 16 → bit k w.value = true → bit k (d.rd (0x1400 + g) 1) = false) ∧ s.dev.keeps (fun _ _ => false) d) ∧
  (∀ (g e : Nat) (w : Wr) (s : State), g < 25 → s.dev.hears (0x1400 + g) 3 w = true → e / 16 = g → eventExists e = true →
    Completes (.clear g [e] w) s fun d => d.answer.abort = 0 ∧ bit (e % 16) (d.rd (0x1400 + g) 1) = true ∧
    s.dev.keeps (fun _ _ => false) d) ∧
  (∀ (g : Nat) (w : Wr) (s : State), g < 25 → s.dev.hears (0x1400 + g) 2 w = true → Completes (.mask g w) s fun d => d.answer.abort = 0 ∧
    d.rd (0x1400 + g) 2 = w.value ∧ s.dev.keeps (only (0x1400 + g) 2) d) ∧
  (∀ (w : Wr) (s : State), s.dev.hears 0x141A 3 w = true → w.value < 4 → Completes (.wdKick w) s fun d => d.answer.abort = 0 ∧
    Tbl.get (fun _ => CoreTimer.init) d.wdCores w.value = ⟨s.dev.now, s.dev.rd 0x141A 2⟩ ∧
    s.dev.keeps (fun _ _ => false) { d with wdCores := s.dev.wdCores }) ∧
  (∀ (t : Nat) (w : Wr) (s : State), s.dev.hears 0x141A 1 w = true → Completes (.dictionaryWrite 0x141A 1 t w) s fun d =>
    d.answer.abort = 0 ∧ d.rd 0x141A 1 = w.value ∧
    (∀ k, k < 4 → Tbl.get (fun _ => CoreTimer.init) d.wdCores k = (if bit k w.value = true ∧ bit k (s.dev.rd 0x141A 1) = false then ⟨t, s.dev.rd 0x141A 2⟩ else Tbl.get (fun _ => CoreTimer.init) s.dev.wdCores k)) ∧
    s.dev.keeps (only 0x141A 1) { d with wdCores := s.dev.wdCores }) ∧
  (∀ (k t : Nat) (s : State), k < 4 →
    t < (Tbl.get (fun _ => CoreTimer.init) s.dev.wdCores k).since + 1600000 * (Tbl.get (fun _ => CoreTimer.init) s.dev.wdCores k).timeout →
    Completes (.wdExpiry k t) s fun d => d = s.dev.at t) ∧
  (∀ (k t : Nat) (s : State), k < 4 → s.dev.wdRuns k = true →
    (Tbl.get (fun _ => CoreTimer.init) s.dev.wdCores k).since + 1600000 * (Tbl.get (fun _ => CoreTimer.init) s.dev.wdCores k).timeout ≤ t →
    Completes (.wdExpiry k t) s fun d => d.wdHeld = k :: s.dev.wdHeld ∧
    d.wdTimes = s.dev.wdTimes.filter (fun x => t < x + 96000000000) ++ [t] ∧ d.rd 0x141A 4 = satAdd 32 (s.dev.rd 0x141A 4) 1 ∧
    d.rd 0x141A 5 = k ∧ bit 5 (d.rd 0x1400 1) = true) ∧
  (∀ (k : Nat) (s : State), k < 4 → s.dev.wdHeld.contains k = true → Completes (.coreRestart k) s fun d =>
    d.wdHeld = s.dev.wdHeld.filter (· != k) ∧ Tbl.get (fun _ => CoreTimer.init) d.wdCores k = ⟨s.dev.now, s.dev.rd 0x141A 2⟩ ∧
    s.dev.keeps (fun _ _ => false) { d with wdHeld := s.dev.wdHeld, wdCores := s.dev.wdCores }) ∧
  (∀ (s : State), s.dev.rd 0x141A 6 ≤ s.dev.wdTimes.length → s.dev.boot.clusterRuns = true → Completes (.firmwareRestart) s fun d =>
    d.wdHeld = [] ∧ d.wdTimes = [] ∧ d.bootState = 1 ∧ d.boot.restart = s.dev.boot.sealed ∧
    d.rd 0x141A 7 = satAdd 32 (s.dev.rd 0x141A 7) 1 ∧ bit 6 (d.rd 0x1400 1) = true)

/-- FENCE and a slice's internal fault fence it, FAULT_CLEAR clears its faults, and UNFENCE brings a reclaimed slice back after its
    known-answer test. Where the rules leave a point open, the outcome stated is the model's own choice, in entries 139 and 173
    of the assumption log. -/
def Obligations.SlicesAreFencedAndReturn : Prop :=
  (∀ (k : Nat) (w : Wr) (s : State), k < 64 → s.dev.hears (0x2600 + k) 0x10 w = true → s.dev.answersOff (sliceDom k) = false →
    s.dev.isFenced k = false → Completes (.fence k w) s fun d => d.answer.abort = 0 ∧ d.isFenced k = true ∧
    bit 5 (d.rd (0x2600 + k) 0x13) = true ∧ d.rd (0x2600 + k) 0x15 = satAdd 32 (s.dev.rd (0x2600 + k) 0x15) 1 ∧
    s.dev.keeps (fun i j => (i = 0x2600 + k && (j = 1 || j = 0x13 || j = 0x15)) || (within 0x2400 512 i && j = 0x12)) { d with assay := s.dev.assay }) ∧
  (∀ (k b : Nat) (s : State), k < 64 → b < 4 → s.dev.isOn (sliceDom k) = true → Completes (.sliceInternalFault k b) s fun d =>
    bit b (d.rd (0x2600 + k) 0x13) = true ∧ (s.dev.rd (0x2600 + k) 0x12 = 1 → d.isFenced k = true) ∧
    s.dev.keeps (fun i j => (i = 0x2600 + k && (j = 1 || j = 0x13 || j = 0x15)) || (within 0x2400 512 i && j = 0x12)) { d with assay := s.dev.assay }) ∧
  (∀ (k : Nat) (w : Wr) (s : State), k < 64 → s.dev.hears (0x2600 + k) 0x14 w = true → Completes (.faultClear k w) s fun d =>
    d.answer.abort = 0 ∧ d.rd (0x2600 + k) 0x13 = andNot (s.dev.rd (0x2600 + k) 0x13) w.value ∧ s.dev.keeps (only (0x2600 + k) 0x13) d) ∧
  (∀ (k : Nat) (w : Wr) (s : State), k < 64 → s.dev.hears (0x2600 + k) 0x11 w = true → s.dev.isFenced k = true →
    s.dev.assay.reclaimed.contains k = true → s.dev.rd (0x2600 + k) 0x13 % 32 = 0 → Completes (.unfence k w) s fun d =>
    d.answer.abort = 0 ∧ d.isPending (0x2600 + k) 0x11 = true ∧ (d.bgOf (8 * s.dev.calOf k + 3)).length = 1 ∧
    s.dev.keeps (fun _ _ => false) { d with pend := s.dev.pend, bg := s.dev.bg }) ∧
  (∀ (k : Nat) (s : State), k < 64 → s.dev.isPending (0x2600 + k) 0x11 = true → Completes (.unfenceComplete k true) s fun d =>
    d.rd (0x2600 + k) 1 = 1 ∧ d.isFenced k = false ∧ d.isPending (0x2600 + k) 0x11 = false) ∧
  (∀ (k : Nat) (s : State), k < 64 → s.dev.isPending (0x2600 + k) 0x11 = true → Completes (.unfenceComplete k false) s fun d =>
    bit 4 (d.rd (0x2600 + k) 0x13) = true ∧ d.isPending (0x2600 + k) 0x11 = false ∧
    s.dev.keeps (fun i j => only (0x2600 + k) 0x13 i j || only 0x1530 2 i j) { d with pend := s.dev.pend, bg := s.dev.bg })

/-- A die-to-die link resets and is UP again, an access waits for it, loopbacks and generators run; a fault is injected, counted,
    withdrawn. Where the rules leave a point open, the outcome stated is the model's own choice, in entries 137, 138, 140, 141,
    189 and 212 of the assumption log. -/
def Obligations.LinksLoopbacksGeneratorsAndInjection : Prop :=
  (∀ (q : Nat) (s : State), q < 4 → s.dev.rd (0x141C + q) 1 = 2 → Completes (.linkReset q) s fun d => d.rd (0x141C + q) 1 = 1 ∧
    d.rd (0x141C + q) 2 = satAdd 64 (s.dev.rd (0x141C + q) 2) 9 ∧ d.rd (0x141C + q) 3 = satAdd 64 (s.dev.rd (0x141C + q) 3) 8 ∧
    d.rd (0x141C + q) 4 = satAdd 32 (s.dev.rd (0x141C + q) 4) 1 ∧ bit (quadEvent q 7 % 16) (d.rd (0x1400 + quadEvent q 7 / 16) 1) = true ∧
    s.dev.keeps (fun i j => i = 0x141C + q && within 1 4 j) { d with assay := s.dev.assay }) ∧
  (∀ (q t : Nat) (s : State), q < 4 → s.dev.rd (0x141C + q) 1 = 1 → s.dev.linkWaits.filter (fun x => x.unit = q) = [] →
    Completes (.linkRetrained q t) s fun d => d.rd (0x141C + q) 1 = 2 ∧
    s.dev.keeps (only (0x141C + q) 1) { d with linkWaits := s.dev.linkWaits }) ∧
  (∀ (q i j : Nat) (w : Wr) (rest : List AccessWait) (s : State), q < 4 → s.dev.rd (0x141C + q) 1 ≠ 2 →
    s.dev.linkWaits = ⟨q, i, j, w, false, none⟩ :: rest → Completes (.linkAccessTimeout q) s fun d => d.answer.abort = abInternal ∧
    d.linkWaits = rest ∧ s.dev.keeps (only 0x1530 2) { d with linkWaits := s.dev.linkWaits }) ∧
  (∀ (q i j len off : Nat) (rest : List AccessWait) (s : State), q < 4 → s.dev.rd (0x141C + q) 1 ≠ 2 →
    s.dev.linkWaits = ⟨q, i, j, ⟨.host, 0, len, off⟩, true, none⟩ :: rest → Completes (.linkAccessTimeout q) s fun d =>
    d.answer.abort = abInternal ∧ d.answer.len = len ∧
    d.answer.value = ofLE (slice (off % 16) len (List.replicate 12 255 ++ toLE 4 (abInternal + 65536 * b2n (s.dev.isPending i j)))) ∧
    d.bar0.capture = some (okey i j, 2 ^ 96 - 1) ∧ d.linkWaits = rest ∧
    s.dev.keeps (only 0x1530 2) { d with linkWaits := s.dev.linkWaits }) ∧
  (∀ (n : Nat) (w : Wr) (s : State), n < 256 → s.dev.hears (0x9030 + n / 64) (1 + n % 64) w = true → w.value ≤ 4 → s.dev.mode n ≠ pmOff →
    (w.value = 1 ∨ w.value = 3 → s.dev.mode n ≠ pmCarrier) → Completes (.loopback n w) s fun d => d.answer.abort = 0 ∧
    d.loopOf n = w.value ∧ s.dev.keeps (only (0x9030 + n / 64) (1 + n % 64)) d) ∧
  (∀ (q : Nat) (w : Wr) (s : State), q < 4 → s.dev.hears (0x9010 + q) 8 w = true →
    s.dev.rd (0x9010 + q) 5 = 0xFFFFFFFF ∨ (s.dev.rd (0x9010 + q) 5 < 32768 ∧ s.dev.chanServes (s.dev.rd (0x9010 + q) 5) false (s.dev.rd (0x9010 + q) 1) = true) →
    s.dev.isUp (s.dev.rd (0x9010 + q) 1) = true → Completes (.tgStart q w) s fun d => d.answer.abort = 0 ∧ d.rd (0x9010 + q) 0xA = 1 ∧
    d.gen q = (0, false) ∧ s.dev.keeps (only (0x9010 + q) 0xA) { d with genSent := s.dev.genSent }) ∧
  (∀ (q : Nat) (w : Wr) (s : State), q < 4 → s.dev.hears (0x9010 + q) 9 w = true → s.dev.genBusy q = false →
    Completes (.tgStop q w) s fun d => d.answer.abort = 0 ∧ d.rd (0x9010 + q) 0xA = 0 ∧
    s.dev.keeps (only (0x9010 + q) 0xA) { d with genSent := s.dev.genSent }) ∧
  (∀ (q : Nat) (w : Wr) (s : State), q < 4 → s.dev.hears (0x9010 + q) 9 w = true → s.dev.genBusy q = true →
    Completes (.tgStop q w) s fun d => d.answer.abort = 0 ∧ d.rd (0x9010 + q) 0xA = s.dev.rd (0x9010 + q) 0xA ∧ d.genMore q = false ∧
    s.dev.keeps (only 0x1530 2) { d with genSent := s.dev.genSent }) ∧
  (∀ (t : Nat) (w : Wr) (s : State), s.dev.hears 0x9000 5 w = true →
    s.dev.injRangeOk (s.dev.rd 0x9000 1) (s.dev.rd 0x9000 2) (s.dev.rd 0x9000 3) = true →
    (∀ k ∈ s.dev.injDomain (s.dev.rd 0x9000 1) (s.dev.rd 0x9000 2) (s.dev.rd 0x9000 3), s.dev.answersOff k = false) →
    s.dev.injStateBad (s.dev.rd 0x9000 1) (s.dev.rd 0x9000 2) (s.dev.rd 0x9000 3) = false → s.dev.inject = none →
    injNow (s.dev.rd 0x9000 1) = false → Completes (.injFire t w) s fun d => d.answer.abort = 0 ∧
    d.inject = some ⟨s.dev.rd 0x9000 1, s.dev.rd 0x9000 2, s.dev.rd 0x9000 3, s.dev.rd 0x9000 4⟩ ∧ d.rd 0x9000 7 = 1 ∧ d.rd 0x9000 8 = 0 ∧
    s.dev.keeps (fun i j => i = 0x9000 && (j = 7 || j = 8)) { d with inject := s.dev.inject }) ∧
  (∀ (t : Nat) (w : Wr) (s : State), s.dev.hears 0x9000 5 w = true →
    s.dev.injRangeOk (s.dev.rd 0x9000 1) (s.dev.rd 0x9000 2) (s.dev.rd 0x9000 3) = true →
    (∀ k ∈ s.dev.injDomain (s.dev.rd 0x9000 1) (s.dev.rd 0x9000 2) (s.dev.rd 0x9000 3), s.dev.answersOff k = false) →
    s.dev.injStateBad (s.dev.rd 0x9000 1) (s.dev.rd 0x9000 2) (s.dev.rd 0x9000 3) = false → s.dev.inject = none →
    injNow (s.dev.rd 0x9000 1) = true → s.dev.rd 0x9000 4 = 1 → Completes (.injFire t w) s fun d => d.answer.abort = 0 ∧
    d.rd 0x9000 7 = 2 ∧ d.rd 0x9000 8 = 1 ∧ bit 14 (d.rd 0x1400 1) = true) ∧
  (∀ (q n t : Nat) (b : List Byte) (x : Inject) (s : State), s.dev.inject = some x → x.point = 6 → x.inst = q → q < 4 →
    s.dev.rd (0x141C + q) 1 = 2 → bit 16 x.arg = false → x.left ≤ 1 → Completes (.injectionOccurrence n t b) s fun d => d.inject = none ∧
    d.rd 0x9000 7 = 2 ∧ d.rd 0x9000 8 = satAdd 8 (s.dev.rd 0x9000 8) 1 ∧ d.rd (0x141C + q) 2 = satAdd 64 (s.dev.rd (0x141C + q) 2) 1 ∧
    d.rd (0x141C + q) 3 = satAdd 64 (s.dev.rd (0x141C + q) 3) 1 ∧
    s.dev.keeps (fun i j => (i = 0x9000 && (j = 7 || j = 8 || j = 0xA)) || (i = 0x141C + q && (j = 2 || j = 3))) { d with inject := s.dev.inject }) ∧
  (∀ (w : Wr) (s : State), s.dev.hears 0x9000 6 w = true → s.dev.inject.isSome = true → Completes (.injCancel w) s fun d =>
    d.answer.abort = 0 ∧ d.inject = none ∧ d.rd 0x9000 7 = 3 ∧ s.dev.keeps (only 0x9000 7) { d with inject := s.dev.inject }) ∧
  (∀ (w : Wr) (s : State), s.dev.hears 0x9000 9 w = true → Completes (.testZeroiseArmed w) s fun d => d.answer.abort = 0 ∧
    d.rd 0x9000 9 = w.value ∧ (w.value = 1 → bit 15 (d.rd 0x1400 1) = true) ∧ s.dev.keeps (only 0x9000 9) d)

/-- The endpoint comes and goes, DOORBELL starts a host attempt, an image is read and verified, and a boot that does not seal in
    time is tried again. Where the rules leave a point open, the outcome stated is the model's own choice, in entries 4, 142,
    143, 144 and 193 of the assumption log. -/
def Obligations.TheBootRomReadsAndVerifies : Prop :=
  (∀ (s : State), s.dev.hostReads = false → Completes (.perstN true) s fun d => d.boot.perstLow = true ∧ d.boot.configReady = false ∧
    d.boot.imageAddr = 0 ∧ d.boot.imageLen = 0 ∧ d.rings = [] ∧ d.rd 0x1530 1 = 0 ∧
    s.dev.keeps (only 0x1530 1) { d with boot := s.dev.boot, rings := s.dev.rings }) ∧
  (∀ (x : Nat) (s : State), s.dev.boot.perstLow = false → s.dev.engineRuns = true → s.dev.isOn 139 = true →
    Completes (.pcieLinkTrained x) s fun d => d.boot.configReady = true ∧ d.rd 0x1530 1 = x % 256 ∧
    s.dev.keeps (only 0x1530 1) { d with boot := s.dev.boot }) ∧
  (∀ (a n : Nat) (s : State), s.dev.boot.configReady = true → s.dev.boot.perstLow = false → s.dev.boot.ready = false →
    Completes (.doorbell a n) s fun d => d.boot.imageAddr = a % 2 ^ 64 / 4096 * 4096 ∧ d.boot.imageLen = n % 2 ^ 32 ∧
    ((s.dev.boot.bootSrc = 1 ∨ s.dev.boot.bootSrc = 2) → s.dev.bootState = 0 → s.dev.boot.source = 2 → d.bootState = 1) ∧
    s.dev.keeps (only 0x1020 4) { d with boot := s.dev.boot }) ∧
  (∀ (b : Option (List Byte)) (s : State), s.dev.bootState = 1 → Completes (.imageLoaded b) s fun d => d.bootState = 2 ∧ d.boot.image = b ∧
    s.dev.keeps (only 0x1020 4) { d with boot := s.dev.boot }) ∧
  (∀ (s : State), s.dev.bootState = 2 → Completes (.imageVerify) s fun d => (s.dev.imageCode = 0 → d.bootState = 3) ∧
    (s.dev.imageCode = 0 → d.rd 0x1020 5 = 0) ∧ (s.dev.imageCode = 0 → d.rd 0x1010 2 = beAt 12 4 (s.dev.boot.image.getD [])) ∧
    (s.dev.imageCode = 0 → bit 0 (d.rd 0x1400 1) = true) ∧ (s.dev.imageCode ≠ 0 → d.rd 0x1020 5 = s.dev.imageCode) ∧
    (s.dev.imageCode ≠ 0 → bit 1 (d.rd 0x1400 1) = true) ∧ (s.dev.imageCode ≠ 0 → s.dev.boot.source = 0 → d.boot.source = 1) ∧
    (s.dev.imageCode ≠ 0 → s.dev.boot.source = 0 → d.bootState = 1) ∧
    s.dev.keeps (fun i j => (i = 0x1020 && (j = 4 || j = 5)) || (i = 0x1010 && within 1 4 j)) { d with boot := s.dev.boot }) ∧
  (∀ (s : State), s.dev.boot.restart = false → s.dev.bootState = 3 → s.dev.boot.sealed = false → s.dev.boot.timeouts < 2 →
    Completes (.bootTimeout) s fun d => d.bootState = 1 ∧ d.boot.timeouts = s.dev.boot.timeouts + 1 ∧ d.boot.failDetail = 0 ∧
    s.dev.keeps (fun i j => only 0x1020 4 i j || within 0x3050 112 i) { d with boot := s.dev.boot, keys := s.dev.keys, counters := s.dev.counters, wdCores := s.dev.wdCores, wdHeld := s.dev.wdHeld, wdTimes := s.dev.wdTimes, fresh := s.dev.fresh })

/-- A record of the boot configuration is performed in the BOOT role, PROT_SEAL ends the BOOT role, DEVICE_READY follows, and
    antifuses advance -/
def Obligations.BootCodeSealsAndReadies : Prop :=
  (∀ (i j ty len v t : Nat) (s : State), s.dev.bootState = 3 → s.dev.boot.restart = false → s.dev.clusterUp = true →
    s.dev.boot.sealed = false → within 0x1400 25 i = true → j = 4 → ty = 3 → len = 2 → v < 2 ^ 16 →
    s.dev.writeAbort .boot i j ty len v = 0 → s.dev.isPending i j = false → Completes (.bootConfigRecord i j ty len v t) s fun d =>
    d.answer.abort = 0 ∧ d.rd i j = v ∧ d.boot.record = s.dev.boot.record + 1 ∧ s.dev.keeps (only i j) { d with boot := s.dev.boot }) ∧
  (∀ (w : Wr) (s : State), s.dev.hears 0x1300 1 w = true → Completes (.protSeal w) s fun d => d.answer.abort = 0 ∧ d.boot.sealed = true ∧
    d.rd 0x1300 2 = 1 ∧ d.bootState = 4 ∧ bit 2 (d.rd 0x1400 1) = true ∧
    s.dev.keeps (fun i j => only 0x1300 2 i j || only 0x1020 4 i j) { d with boot := s.dev.boot }) ∧
  (∀ (ms : Nat) (s : State), s.dev.boot.restart = false → s.dev.bootState = 4 → s.dev.clusterUp = true →
    [139, 140, 141].all s.dev.isOn = true → s.dev.timeRuns = true → s.dev.mkaLoaded = true → Completes (.deviceReady ms) s fun d =>
    d.boot.ready = true ∧ d.bootState = 5 ∧ d.rd 0x1020 6 = ms % 2 ^ 32 ∧ bit 3 (d.rd 0x1400 1) = true ∧
    s.dev.keeps (fun i j => i = 0x1020 && (j = 4 || j = 6)) { d with boot := s.dev.boot }) ∧
  (∀ (w : Wr) (s : State), s.dev.hears 0x1010 7 w = true → s.dev.rd 0x1010 5 ≤ w.value → w.value ≤ s.dev.rd 0x1010 2 →
    Completes (.svnAdvance w) s fun d => d.answer.abort = 0 ∧ d.rd 0x1010 5 = w.value ∧ s.dev.keeps (only 0x1010 5) d) ∧
  (∀ (w : Wr) (s : State), s.dev.hears 0x1010 8 w = true → w.value < 4 → w.value ≠ s.dev.rd 0x1010 3 →
    setBit w.value (s.dev.rd 0x1010 6) % 16 ≠ 15 → Completes (.keyRevoke w) s fun d => d.answer.abort = 0 ∧
    bit w.value (d.rd 0x1010 6) = true ∧ s.dev.keeps (only 0x1010 6) d)

/-- Pins take their functions under their owners; the test access port shifts its registers and drives the balls. Where the rules
    leave a point open, the outcome stated is the model's own choice, in entries 149 and 191 of the assumption log. -/
def Obligations.PinsAndTheTestAccessPort : Prop :=
  (∀ (n : Nat) (w : Wr) (s : State), n < 16 → s.dev.hears (0x1030 + n) 1 w = true →
    w.value = 1 ∨ (w.value = 4 ∧ n = 14) ∨ (w.value = 5 ∧ n = 13) → s.dev.rd (0x1030 + n) 5 ≤ 1 → Completes (.gpioFunc n w) s fun d =>
    d.answer.abort = 0 ∧ d.rd (0x1030 + n) 1 = w.value ∧ d.rd (0x1030 + n) 5 = 1 ∧
    s.dev.keeps (fun i j => i = 0x1030 + n && (j = 1 || j = 5)) d) ∧
  (∀ (n : Nat) (w : Wr) (s : State), n < 16 → s.dev.hears (0x1030 + n) 1 w = true → w.value = 0 → s.dev.rd (0x1030 + n) 5 ≤ 1 →
    Completes (.gpioFunc n w) s fun d => d.answer.abort = 0 ∧ d.rd (0x1030 + n) 1 = 0 ∧ d.rd (0x1030 + n) 5 = 0 ∧
    s.dev.keeps (fun i j => i = 0x1030 + n && (j = 1 || j = 5)) d) ∧
  (∀ (w : Wr) (s : State), s.dev.hears 0x1040 1 w = true → w.value = 1 → s.dev.ppsHeld = false →
    s.dev.rd 0x103F 5 = 0 ∨ s.dev.rd 0x103F 5 = 0x20 → Completes (.ppsPlace w) s fun d => d.answer.abort = 0 ∧ d.rd 0x1040 1 = 1 ∧
    d.rd 0x103F 1 = 3 ∧ d.rd 0x103F 5 = 0x20 ∧ .pin "PPS_OUT" false ∈ d.emits ∧
    s.dev.keeps (fun i j => only 0x1040 1 i j || (i = 0x103F && (j = 1 || j = 5))) d) ∧
  (∀ (w : Wr) (s : State), s.dev.hears 0x1040 1 w = true → w.value = 0 → s.dev.ppsHeld = false → s.dev.rd 0x103F 5 = 0x20 →
    Completes (.ppsPlace w) s fun d => d.answer.abort = 0 ∧ d.rd 0x1040 1 = 0 ∧ d.rd 0x103F 1 = 0 ∧ d.rd 0x103F 5 = 0 ∧
    s.dev.keeps (fun i j => only 0x1040 1 i j || (i = 0x103F && (j = 1 || j = 5))) d) ∧
  (∀ (tdi : List Bool) (s : State), s.dev.tapRuns = true → Completes (.bypass tdi) s fun d => d.tap = { s.dev.tap with inst := 0 } ∧
    d.emits = .tdo (scan [false] tdi).1 :: s.dev.emits ∧ d = { s.dev with tap := d.tap, emits := d.emits }) ∧
  (∀ (tdi : List Bool) (s : State), s.dev.tapRuns = true → Completes (.idcode tdi) s fun d => d.tap = { s.dev.tap with inst := 1 } ∧
    d.emits = .tdo (scan (lsbFirst 32 s.dev.idcode) tdi).1 :: s.dev.emits ∧ d = { s.dev with tap := d.tap, emits := d.emits }) ∧
  (∀ (balls tdi : List Bool) (s : State), s.dev.tapRuns = true → Completes (.samplePreload balls tdi) s fun d =>
    d.tap = ⟨2, (scan balls tdi).2⟩ ∧ d.emits = .tdo (scan balls tdi).1 :: s.dev.emits ∧ d = { s.dev with tap := d.tap, emits := d.emits }) ∧
  (∀ (balls tdi : List Bool) (s : State), s.dev.tapRuns = true → s.dev.boot.sysRstLow = true → Completes (.extest balls tdi) s fun d =>
    d.tap = ⟨3, (scan balls tdi).2⟩ ∧
    d.emits = .balls 0 (scan balls tdi).2 :: .tdo (scan balls tdi).1 :: .balls 0 s.dev.tap.cells :: s.dev.emits ∧
    d = { s.dev with tap := d.tap, emits := d.emits }) ∧
  (∀ (balls tdi : List Bool) (s : State), s.dev.tapRuns = true → s.dev.boot.sysRstLow = true →
    Completes (.extestPulse balls tdi) s fun d => d.tap = ⟨4, (scan balls tdi).2⟩ ∧
    d.emits = .balls 1 (scan balls tdi).2 :: .tdo (scan balls tdi).1 :: .balls 1 s.dev.tap.cells :: s.dev.emits ∧
    d = { s.dev with tap := d.tap, emits := d.emits }) ∧
  (∀ (balls tdi : List Bool) (s : State), s.dev.tapRuns = true → s.dev.boot.sysRstLow = true →
    Completes (.extestTrain balls tdi) s fun d => d.tap = ⟨5, (scan balls tdi).2⟩ ∧
    d.emits = .balls 2 (scan balls tdi).2 :: .tdo (scan balls tdi).1 :: .balls 2 s.dev.tap.cells :: s.dev.emits ∧
    d = { s.dev with tap := d.tap, emits := d.emits }) ∧
  (∀ (tdi : List Bool) (s : State), s.dev.tapRuns = true → s.dev.boot.sysRstLow = true → Completes (.clamp tdi) s fun d =>
    d.tap = { s.dev.tap with inst := 6 } ∧ d.emits = .tdo (scan [false] tdi).1 :: .balls 0 s.dev.tap.cells :: s.dev.emits ∧
    d = { s.dev with tap := d.tap, emits := d.emits }) ∧
  (∀ (tdi : List Bool) (s : State), s.dev.tapRuns = true → s.dev.boot.sysRstLow = true → Completes (.highz tdi) s fun d =>
    d.tap = { s.dev.tap with inst := 7 } ∧ d.emits = .tdo (scan [false] tdi).1 :: .balls 3 [] :: s.dev.emits ∧
    d = { s.dev with tap := d.tap, emits := d.emits })

/-- BAR0 reads capture and writes commit, BAR2 reads answer bytes, and MSI-X messages wait for their masks. Where the rules leave a
    point open, the outcome stated is the model's own choice, in entries 27, 28 and 31 of the assumption log. -/
def Obligations.HostAccessesAndMsixMessages : Prop :=
  (∀ (g t : Nat) (s : State), g < 25 → s.dev.endpointUp = true → s.dev.boot.ready = true → s.dev.readAbort .host (0x1400 + g) 4 = 0 →
    Completes (.bar0ReadCapture (4096 * (0x1400 + g) + 64) 16 t) s fun d => d.answer.abort = 0 ∧ d.answer.len = 16 ∧
    d.answer.value % 2 ^ 96 = s.dev.rd (0x1400 + g) 4 % 65536 ∧
    d.bar0.capture = some (okey (0x1400 + g) 4, s.dev.rd (0x1400 + g) 4 % 65536) ∧ s.dev.keeps (fun _ _ => false) d) ∧
  (∀ (g v t : Nat) (s : State), g < 25 → s.dev.hears (0x1400 + g) 4 ⟨.host, Ty.u16.code, 2, v % 65536⟩ = true →
    Completes (.bar0Write (4096 * (0x1400 + g) + 64) 4 v t) s fun d => d.answer.abort = 0 ∧ d.rd (0x1400 + g) 4 = v % 65536 ∧
    d.bar0.stagingOf = none ∧ s.dev.keeps (only (0x1400 + g) 4) d) ∧
  (∀ (i j t : Nat) (w : Wr) (s : State), s.dev.hears i j w = true →
    (within 0x1400 25 i = true ∧ j = 4) ∨ (within 0x1100 142 i = true ∧ j = 3) ∨ (within 0x5000 512 i = true ∧ j = 4) →
    Completes (.dictionaryWrite i j t w) s fun d => d.answer.abort = 0 ∧ d.rd i j = w.value ∧ s.dev.keeps (only i j) d) ∧
  (∀ (o len : Nat) (s : State), s.dev.endpointUp = true → s.dev.boot.ready = true → (∀ i ∈ governing o, s.dev.hasRight 0 .host i = true) →
    Completes (.bar2Access o len false 0) s fun d =>
    d.answer = ⟨0, 0, len, ofLE ((List.range len).map (fun x => s.dev.bar2Byte (o + x)))⟩ ∧ d.emits = s.dev.emits ∧
    s.dev.keeps (fun _ _ => false) d) ∧
  (∀ (v : Nat) (s : State), v < 64 → s.dev.endpointUp = true → s.dev.boot.ready = true → Completes (.msixMaskClear (some v)) s fun d =>
    bit 96 (Tbl.get msixDflt d.msix.table v) = false ∧ (s.dev.msix.enable = true → s.dev.msix.fmask = false → bit v d.msix.pba = false) ∧
    d.dict = s.dev.dict ∧ s.dev.keeps (fun _ _ => false) d) ∧
  (∀ (s : State), s.dev.endpointUp = true → Completes (.msixMaskClear none) s fun d => d.msix.fmask = false ∧
    d.msix.enable = s.dev.msix.enable ∧ d.msix.table = s.dev.msix.table ∧ d.dict = s.dev.dict ∧ s.dev.keeps (fun _ _ => false) d) ∧
  (∀ (a b : Bool) (s : State), s.dev.endpointUp = true → Completes (.msixEnable a b) s fun d => d.msix.enable = a ∧ d.msix.fmask = b ∧
    d.msix.table = s.dev.msix.table ∧ d.dict = s.dev.dict ∧ s.dev.keeps (fun _ _ => false) d)

/-- The host advances its index, FLUSH discards descriptors, a punted frame fills a posted buffer and an inject descriptor becomes a
    background frame. Where the rules leave a point open, the outcome stated is the model's own choice, in entries 21, 30, 32
    and 157 of the assumption log. -/
def Obligations.RingsMoveTheirIndices : Prop :=
  (∀ (r v : Nat) (s : State), r < 136 → s.dev.endpointUp = true → s.dev.boot.ready = true →
    (∀ i ∈ governing (ringBase r), s.dev.hasRight 8 .host i = true) → 6 ≤ (s.dev.ring r).size → (s.dev.ring r).size ≤ 16 →
    Completes (.ringDoorbell r v) s fun d => (r < 64 → (d.ring r).cons = v % 2 ^ 32 % 2 ^ (s.dev.ring r).size) ∧
    (64 ≤ r → (d.ring r).prod = v % 2 ^ 32 % 2 ^ (s.dev.ring r).size) ∧ s.dev.keeps (fun _ _ => false) { d with rings := s.dev.rings }) ∧
  (∀ (p : Nat) (s : State), p < 64 → s.dev.endpointUp = true → s.dev.boot.ready = true → s.dev.hasRight 8 .host 0x1551 = true →
    Completes (.ringFlush p) s fun d => (d.ring (64 + p)).cons = (d.ring (64 + p)).prod ∧
    (d.ring (64 + p)).enable = (s.dev.ring (64 + p)).enable ∧ s.dev.keeps (fun _ _ => false) { d with rings := s.dev.rings }) ∧
  (∀ (q p addr size : Nat) (f : Punt) (s : State), q < 4 → p < 64 → s.dev.endpointUp = true → (s.dev.ring p).avail = true →
    s.dev.puntQ q = [f] → f.ring = p → 256 ≤ size → f.data.length ≤ size / 256 * 256 → Completes (.punt q p addr size) s fun d =>
    .hostWrite addr f.data ∈ d.emits ∧ d.puntQ q = [] ∧ (d.ring p).prod = (s.dev.ring p).succ (s.dev.ring p).prod ∧
    s.dev.keeps (fun i _ => i = 0x5000 + 64 * q || (i = 0x8000)) { d with rings := s.dev.rings, punts := s.dev.punts, counters := s.dev.counters }) ∧
  (∀ (p len port cls flags chan t n : Nat) (b : List Byte) (s : State), p < 64 → s.dev.endpointUp = true →
    (s.dev.ring (64 + p)).avail = true → n = port % 256 → s.dev.injectBad n len (bit 1 flags) chan = false → s.dev.assay.draining = none →
    Completes (.injectDescriptor p len port cls flags chan b t) s fun d =>
    (d.ring (64 + p)).cons = (s.dev.ring (64 + p)).succ (s.dev.ring (64 + p)).cons ∧
    (d.bgOf (8 * (if bit 15 port then dSliceOf n else eSliceOf n))).getLast? = some ⟨{ (s.dev.at t).newFrame n (bit 15 port) true (b.take len) t with chan := if bit 1 flags then chan else 0, cls := cls % 8, prot := bit 1 flags && !bit 15 port }, 0⟩ ∧
    s.dev.keeps (fun _ _ => false) { d with rings := s.dev.rings, bg := s.dev.bg, frameNo := s.dev.frameNo }) ∧
  (∀ (p len port cls flags chan t : Nat) (b : List Byte) (s : State), p < 64 → s.dev.endpointUp = true →
    (s.dev.ring (64 + p)).avail = true → s.dev.injectBad (port % 256) len (bit 1 flags) chan = true →
    Completes (.injectDescriptor p len port cls flags chan b t) s fun d =>
    (d.ring (64 + p)).cons = (s.dev.ring (64 + p)).succ (s.dev.ring (64 + p)).cons ∧ bit 8 (d.rd 0x1405 1) = true ∧
    s.dev.keeps (fun _ _ => false) { d with rings := s.dev.rings })

/-- A request with its session's MAC and an acceptable sequence number is performed and that number recorded in its session alone;
    any other is refused as a replay. Where the rules leave a point open, the outcome stated is the model's own choice, in
    entries 34 and 38 of the assumption log. -/
def Obligations.RequestsArePerformedOnTheirSession : Prop :=
  (∀ (f : Bool) (peer sid seq g t : Nat) (x : Session) (s : State), s.dev.portsUp = true → s.dev.authSlot (transport f) ≠ 0xFF →
    s.dev.boot.ready = true → sid ≠ 0 → sid < 65536 → seq < 2 ^ 64 → s.dev.session (transport f) sid = some x → x.takes seq = true →
    g < 25 → (s.dev.linkHolds (0x1400 + g) 4).isNone = true ∧ (s.dev.linkHit (0x1400 + g) 4).isNone = true →
    s.dev.readAbort (transport f) (0x1400 + g) 4 = 0 →
    Completes (.dapMessage f peer (dapMsg x.key 1 sid seq 0 (bodyHead (0x1400 + g) 4 0)) t) s fun d =>
    d.answer = ⟨0, Ty.u16.code, 2, s.dev.rd (0x1400 + g) 4 % 65536⟩ ∧
    (d.session (transport f) sid).map Session.bare = some (x.took seq peer).bare ∧
    d.bareSessions = s.dev.tookIn (transport f) sid seq peer ∧ s.dev.keeps (fun _ _ => false) d) ∧
  (∀ (f : Bool) (peer sid seq g t : Nat) (x : Session) (s : State), s.dev.portsUp = true → s.dev.authSlot (transport f) ≠ 0xFF →
    s.dev.boot.ready = true → sid ≠ 0 → sid < 65536 → seq < 2 ^ 64 → s.dev.session (transport f) sid = some x → x.takes seq = true →
    seq < x.high → g < 25 → (s.dev.linkHolds (0x1400 + g) 4).isNone = true ∧ (s.dev.linkHit (0x1400 + g) 4).isNone = true →
    s.dev.readAbort (transport f) (0x1400 + g) 4 = 0 → Completes (.read f peer sid seq (0x1400 + g) 4 t) s fun d =>
    d.answer = ⟨0, Ty.u16.code, 2, s.dev.rd (0x1400 + g) 4 % 65536⟩ ∧
    (d.session (transport f) sid).map (fun y => (y.high, bit (x.high - 1 - seq) y.seen, y.takes seq)) = some (x.high, true, false) ∧
    (d.session (transport f) sid).map Session.bare = some (x.took seq peer).bare ∧
    d.bareSessions = s.dev.tookIn (transport f) sid seq peer ∧ s.dev.keeps (fun _ _ => false) d) ∧
  (∀ (f : Bool) (peer sid seq g t : Nat) (x : Session) (s : State), s.dev.portsUp = true → s.dev.authSlot (transport f) ≠ 0xFF →
    s.dev.boot.ready = true → sid ≠ 0 → sid < 65536 → seq < 2 ^ 64 → s.dev.session (transport f) sid = some x → x.takes seq = false →
    Completes (.read f peer sid seq (0x1400 + g) 4 t) s fun d => d.rd 0x1540 3 = satAdd 64 (s.dev.rd 0x1540 3) 1 ∧
    bit 2 (d.rd 0x1405 1) = true ∧ d.bareSessions = s.dev.bareSessions ∧ s.dev.keeps (fun i j => only 0x1540 3 i j || only 0x1530 2 i j) d) ∧
  (∀ (f : Bool) (peer sid seq g t : Nat) (x : Session) (s : State), s.dev.portsUp = true → s.dev.authSlot (transport f) ≠ 0xFF →
    s.dev.boot.ready = true → sid ≠ 0 → sid < 65536 → seq < 2 ^ 64 → s.dev.session (transport f) sid = some x → x.takes seq = true →
    g < 25 → (s.dev.linkHolds (0x1400 + g) 4).isNone = true ∧ (s.dev.linkHit (0x1400 + g) 4).isNone = true →
    s.dev.readAbort (transport f) (0x1400 + g) 4 = 0 → Completes (.read f peer sid seq (0x1400 + g) 4 t) s fun d =>
    d.answer = ⟨0, Ty.u16.code, 2, s.dev.rd (0x1400 + g) 4 % 65536⟩ ∧
    (d.session (transport f) sid).map Session.bare = some (x.took seq peer).bare ∧
    d.bareSessions = s.dev.tookIn (transport f) sid seq peer ∧ s.dev.keeps (fun _ _ => false) d) ∧
  (∀ (f : Bool) (peer sid seq g t : Nat) (x : Session) (s : State), s.dev.portsUp = true → s.dev.authSlot (transport f) ≠ 0xFF →
    s.dev.boot.ready = true → sid ≠ 0 → sid < 65536 → seq < 2 ^ 64 → s.dev.session (transport f) sid = some x → x.takes seq = true →
    g < 25 → (s.dev.linkHolds (0x1400 + g) 4).isNone = true ∧ (s.dev.linkHit (0x1400 + g) 4).isNone = true →
    s.dev.readAbort (transport f) (0x1400 + g) 4 = 0 → Completes (.readBlock f peer sid seq (0x1400 + g) 4 1 t) s fun d =>
    d.answer = ⟨0, Ty.u16.code, 2, s.dev.rd (0x1400 + g) 4 % 65536⟩ ∧
    (d.session (transport f) sid).map Session.bare = some (x.took seq peer).bare ∧
    d.bareSessions = s.dev.tookIn (transport f) sid seq peer ∧ s.dev.keeps (fun _ _ => false) d) ∧
  (∀ (f : Bool) (peer sid seq g v t : Nat) (x : Session) (s : State), s.dev.portsUp = true → s.dev.authSlot (transport f) ≠ 0xFF →
    s.dev.boot.ready = true → sid ≠ 0 → sid < 65536 → seq < 2 ^ 64 → s.dev.session (transport f) sid = some x → x.takes seq = true →
    g < 25 → v < 65536 → s.dev.hears (0x1400 + g) 4 ⟨dapPath (transport f), Ty.u16.code, 2, v⟩ = true →
    Completes (.write f peer sid seq (0x1400 + g) 4 Ty.u16.code 2 v t) s fun d => d.answer.abort = 0 ∧ d.rd (0x1400 + g) 4 = v ∧
    (d.session (transport f) sid).map Session.bare = some (x.took seq peer).bare ∧
    d.bareSessions = s.dev.tookIn (transport f) sid seq peer ∧ s.dev.keeps (only (0x1400 + g) 4) d) ∧
  (∀ (f : Bool) (peer sid seq g v t : Nat) (x : Session) (s : State), s.dev.portsUp = true → s.dev.authSlot (transport f) ≠ 0xFF →
    s.dev.boot.ready = true → sid ≠ 0 → sid < 65536 → seq < 2 ^ 64 → s.dev.session (transport f) sid = some x → x.takes seq = true →
    g < 25 → v < 65536 → s.dev.hears (0x1400 + g) 4 ⟨dapPath (transport f), Ty.u16.code, 2, v⟩ = true →
    Completes (.writeBlock f peer sid seq (0x1400 + g) 4 1 (bodyArg Ty.u16.code 2 v) t) s fun d => d.answer.abort = 0 ∧
    d.rd (0x1400 + g) 4 = v ∧ (d.session (transport f) sid).map Session.bare = some (x.took seq peer).bare ∧
    d.bareSessions = s.dev.tookIn (transport f) sid seq peer ∧ s.dev.keeps (only (0x1400 + g) 4) d) ∧
  (∀ (f : Bool) (peer sid seq g v t : Nat) (x : Session) (s : State), s.dev.portsUp = true → s.dev.authSlot (transport f) ≠ 0xFF →
    s.dev.boot.ready = true → sid ≠ 0 → sid < 65536 → seq < 2 ^ 64 → s.dev.session (transport f) sid = some x → x.takes seq = true →
    g < 25 → v < 65536 → s.dev.hears (0x1400 + g) 3 ⟨dapPath (transport f), Ty.u16.code, 2, v⟩ = true →
    Completes (.exec f peer sid seq (0x1400 + g) 3 Ty.u16.code 2 v t) s fun d => d.answer.abort = 0 ∧ d.rd (0x1400 + g) 1 &&& v = 0 ∧
    (d.session (transport f) sid).map Session.bare = some (x.took seq peer).bare ∧
    d.bareSessions = s.dev.tookIn (transport f) sid seq peer ∧ s.dev.keeps (only (0x1400 + g) 1) d) ∧
  (∀ (f : Bool) (peer sid seq q t : Nat) (x : Session) (s : State), s.dev.portsUp = true → s.dev.authSlot (transport f) ≠ 0xFF →
    s.dev.boot.ready = true → sid ≠ 0 → sid < 65536 → seq < 2 ^ 64 → s.dev.session (transport f) sid = some x → x.takes seq = true →
    Completes (.abort f peer sid seq q t) s fun d => (f = true → d.dap.reasm = none) ∧
    (d.session (transport f) sid).map Session.bare = some (x.took seq peer).bare ∧
    d.bareSessions = s.dev.tookIn (transport f) sid seq peer ∧ d.dict = (s.dev.at t).dict ∧ d.emits = (s.dev.at t).emits ∧
    s.dev.keeps (fun _ _ => false) d) ∧
  (∀ (f : Bool) (peer sid seq id t : Nat) (x : Session) (s : State), s.dev.portsUp = true → s.dev.authSlot (transport f) ≠ 0xFF →
    s.dev.boot.ready = true → sid ≠ 0 → sid < 65536 → seq < 2 ^ 64 → s.dev.session (transport f) sid = some x → x.takes seq = true →
    id < 65536 → s.dev.hears 0x1500 2 ⟨dapPath (transport f), Ty.u16.code, 2, id⟩ = true →
    s.dev.dap.sessions.any (fun y => y.id = id) = true → Completes (.sessionClose f peer sid seq id t) s fun d => d.answer.abort = 0 ∧
    d.bareSessions = (s.dev.tookIn (transport f) sid seq peer).filter (fun y => y.id != id) ∧ s.dev.keeps (fun _ _ => false) d)

/-- Opening, idling out and NOTIFY holdoffs of sessions, the pending reply, and the events of the management and CAN FD ports. Where
    the rules leave a point open, the outcome stated is the model's own choice, in entries 41, 43 and 155 of the assumption log. -/
def Obligations.SessionsAndTheirPortsFollowEvents : Prop :=
  (∀ (f : Bool) (peer seq nonce t : Nat) (s : State), s.dev.portsUp = true → s.dev.authSlot (transport f) ≠ 0xFF →
    s.dev.boot.ready = true → (s.dev.authRoot (transport f)).isSome = true → s.dev.baseHigh (transport f) < seq → seq < 2 ^ 64 →
    nonce < 2 ^ 96 → (s.dev.sessionsOf (transport f)).length < (if f then 4 else 8) → s.dev.rd 0x3000 6 ≠ 2 →
    (s.dev.entryFor 4 3).isSome = true → (s.dev.accessed (transport f)).writeAbort (transport f) 0x1500 1 7 12 nonce = 0 →
    Completes (.sessionOpen f peer seq nonce t) s fun d => d.answer.abort = 0 ∧ d.dap.sessions.length = s.dev.dap.sessions.length + 1 ∧
    d.dap.sessions.getLast?.map (fun y => (y.role, y.high, y.peer)) = some (transport f, 0, peer) ∧ d.baseHigh (transport f) = seq ∧
    d.keys.requests = s.dev.keys.requests + 1 ∧ d.boot = s.dev.boot ∧
    s.dev.keeps (fun i j => only 0x3054 6 i j || (within 0x3010 64 i && j = 5)) { d with fresh := s.dev.fresh, keys := s.dev.keys }) ∧
  (∀ (id : Nat) (s : State), Completes (.sessionIdleTimeout id) s fun d =>
    d.dap.sessions = s.dev.dap.sessions.filter (fun y => y.id != id) ∧ s.dev.keeps (fun _ _ => false) d) ∧
  (∀ (f : Bool) (sid seq : Nat) (s : State),
    s.dev.dap.waits.any (fun w => w.2.role = transport f && w.2.sid = sid && w.2.seq = seq) = true →
    Completes (.execPendingReply f sid seq) s fun d =>
    d.dap.waits.all (fun w => !(w.2.role = transport f && w.2.sid = sid && w.2.seq = seq)) = true ∧ s.dev.keeps (fun _ _ => false) d) ∧
  (∀ (id e : Nat) (x : Session) (s : State), s.dev.dap.sessions = [x] → x.id = id → x.hold = [(e, none)] →
    Completes (.notifyHoldoffEnd id e) s fun d => d.dap.sessions = [{ x with hold := [] }] ∧ s.dev.keeps (fun _ _ => false) d) ∧
  (∀ (id e m n : Nat) (x : Session) (s : State), s.dev.dap.sessions = [x] → x.id = id → x.hold = [(e, some (m, n))] →
    Completes (.notifyHoldoffEnd id e) s fun d => d.dap.sessions = [{ x with hold := [(e, none)], notes := x.notes + 1 }] ∧
    d.rd 0x1419 5 = satAdd 64 (s.dev.rd 0x1419 5) n ∧ d.rd 0x1419 4 = satAdd 64 (s.dev.rd 0x1419 4) 1 ∧ s.dev.keeps (only 0x1419 5) d) ∧
  (∀ (kind dst port peer t : Nat) (b : List Byte) (s : State), s.dev.portsUp = true → dst = s.dev.rd 0x1510 1 → kind < 2 →
    Completes (.udpDatagram kind dst port peer b t) s fun d => d.emits.head? = some (.mgmt b) ∧ d.dict = (s.dev.at t).dict ∧
    s.dev.keeps (fun _ _ => false) d) ∧
  (∀ (s : State), s.dev.portsUp = true → Completes (.mgmtLinkChange) s fun d => bit 5 (d.rd 0x1405 1) = true ∧
    s.dev.keeps (fun _ _ => false) d) ∧
  (∀ (ident t : Nat) (b : List Byte) (s : State), s.dev.portsUp = true → s.dev.rd 0x1520 5 ≠ 2 → ident = 0x300 + s.dev.rd 0x1520 1 →
    b.length ≤ 63 → Completes (.canSegment ident (0x80 :: b) t) s fun d => d.dap.reasm = some (b, 1) ∧ d.dict = (s.dev.at t).dict ∧
    d.emits = (s.dev.at t).emits ∧ s.dev.keeps (fun _ _ => false) d) ∧
  (∀ (s : State), Completes (.canReassemblyTimeout) s fun d => d.dap.reasm = none ∧ d.dap.sessions = s.dev.dap.sessions ∧
    s.dev.keeps (fun _ _ => false) d) ∧
  (∀ (s : State), s.dev.portsUp = true → Completes (.errorPassive) s fun d => d.rd 0x1520 5 = 1 ∧ bit 4 (d.rd 0x1405 1) = true ∧
    s.dev.keeps (only 0x1520 5) d) ∧
  (∀ (s : State), s.dev.portsUp = true → Completes (.busOff) s fun d => d.rd 0x1520 5 = 2 ∧ bit 3 (d.rd 0x1405 1) = true ∧
    s.dev.keeps (only 0x1520 5) d) ∧
  (∀ (s : State), s.dev.portsUp = true → Completes (.errorActive) s fun d => d.rd 0x1520 5 = 0 ∧ s.dev.keeps (only 0x1520 5) d)

/-- No command of the lanes, carriers, tables, queues, clocks, pins and sources changes the capture and staging of BAR0, MSI-X
    Enable, or an open session -/
def Obligations.AccessPortsStandApart : Prop :=
  ∀ (c : Instr) (s : State), apart c = true → c.wf = true →
    Completes c s fun d => d.bar0 = s.dev.bar0 ∧ d.msix.enable = s.dev.msix.enable ∧ d.bareSessions = s.dev.bareSessions
end

