-- ==== Sys2Proof/Laws/Tbl.lean ====
section
/-! SUPPORT. The laws of sparse tables: a read after a write, and every operation keeps the canonical form. -/
namespace Sys2Proof.Machine

variable {α : Type}

@[simp] theorem Tbl.find_nil (k : Nat) : Tbl.find ([] : Tbl α) k = none := rfl

theorem Tbl.find_filter_true (p : Nat × α → Bool) (t : Tbl α) (k : Nat) (h : ∀ v, p (k, v) = true) :
    Tbl.find (t.filter p) k = Tbl.find t k := by
  induction t with
  | nil => rfl
  | cons e t ih =>
    obtain ⟨k', v⟩ := e
    by_cases hk : k' = k
    · subst hk; simp [List.filter, h, Tbl.find]
    · by_cases hp : p (k', v) <;> simp [List.filter, hp, Tbl.find, hk, ih]

theorem Tbl.find_filter_false (p : Nat × α → Bool) (t : Tbl α) (k : Nat) (h : ∀ v, p (k, v) = false) :
    Tbl.find (t.filter p) k = none := by
  induction t with
  | nil => rfl
  | cons e t ih =>
    obtain ⟨k', v⟩ := e
    by_cases hk : k' = k
    · subst hk; simp [List.filter, h, ih]
    · by_cases hp : p (k', v) <;> simp [List.filter, hp, Tbl.find, hk, ih]

theorem Tbl.find_erase_self (t : Tbl α) (k : Nat) : Tbl.find (Tbl.erase t k) k = none :=
  Tbl.find_filter_false _ _ _ (by simp)

theorem Tbl.find_erase_ne (t : Tbl α) {k k' : Nat} (h : k ≠ k') : Tbl.find (Tbl.erase t k') k = Tbl.find t k :=
  Tbl.find_filter_true _ _ _ (by simp [h])

theorem Tbl.find_ins_self (t : Tbl α) (k : Nat) (v : α) (h : Tbl.find t k = none) :
    Tbl.find (Tbl.ins k v t) k = some v := by
  induction t with
  | nil => simp [Tbl.ins, Tbl.find]
  | cons e t ih =>
    obtain ⟨k', v'⟩ := e
    by_cases hk : k' = k
    · subst hk; simp [Tbl.find] at h
    · simp only [Tbl.find, hk, if_false] at h
      by_cases hl : k < k' <;> simp [Tbl.ins, hl, Tbl.find, hk, ih h]

theorem Tbl.find_ins_ne (t : Tbl α) {k k' : Nat} (v : α) (h : k ≠ k') :
    Tbl.find (Tbl.ins k' v t) k = Tbl.find t k := by
  induction t with
  | nil => simp [Tbl.ins, Tbl.find, h.symm]
  | cons e t ih =>
    obtain ⟨k1, v1⟩ := e
    by_cases hl : k' < k1
    · simp [Tbl.ins, hl, Tbl.find, h.symm]
    · simp [Tbl.ins, hl, Tbl.find, ih]

/-- A read of the key just written gives the value written. -/
@[simp] theorem Tbl.get_set_self [DecidableEq α] (d : Nat → α) (t : Tbl α) (k : Nat) (v : α) :
    Tbl.get d (Tbl.set d t k v) k = v := by
  by_cases h : v = d k
  · simp [Tbl.get, Tbl.set, h, Tbl.find_erase_self]
  · simp [Tbl.get, Tbl.set, h, Tbl.find_ins_self _ _ _ (Tbl.find_erase_self t k)]

/-- A write leaves every other key alone. -/
theorem Tbl.get_set_ne [DecidableEq α] (d : Nat → α) (t : Tbl α) {k k' : Nat} (v : α) (h : k ≠ k') :
    Tbl.get d (Tbl.set d t k' v) k = Tbl.get d t k := by
  by_cases hv : v = d k'
  · simp [Tbl.get, Tbl.set, hv, Tbl.find_erase_ne t h]
  · simp [Tbl.get, Tbl.set, hv, Tbl.find_ins_ne _ _ h, Tbl.find_erase_ne t h]

theorem Tbl.get_set [DecidableEq α] (d : Nat → α) (t : Tbl α) (k k' : Nat) (v : α) :
    Tbl.get d (Tbl.set d t k' v) k = if k = k' then v else Tbl.get d t k := by
  by_cases h : k = k'
  · subst h; simp
  · simp [h, Tbl.get_set_ne d t v h]

/-- Dropping keys returns them to their defaults and leaves the others alone. -/
theorem Tbl.get_drop (d : Nat → α) (p : Nat → Bool) (t : Tbl α) (k : Nat) :
    Tbl.get d (Tbl.drop p t) k = if p k then d k else Tbl.get d t k := by
  by_cases h : p k
  · simp [Tbl.get, Tbl.drop, Tbl.find_filter_false (fun e : Nat × α => !p e.1) t k (by simp [h]), h]
  · simp [Tbl.get, Tbl.drop, Tbl.find_filter_true (fun e : Nat × α => !p e.1) t k (by simp [h]), h]

@[simp] theorem Tbl.get_nil (d : Nat → α) (k : Nat) : Tbl.get d [] k = d k := rfl

/-! ## The canonical form -/

theorem Tbl.wf_iff [DecidableEq α] (d : Nat → α) (t : Tbl α) :
    Tbl.wf d t = true ↔ (t.map (·.1)).Pairwise (· < ·) ∧ ∀ p ∈ t, p.2 ≠ d p.1 := by
  simp [Tbl.wf]

theorem Tbl.wf_filter [DecidableEq α] (d : Nat → α) (p : Nat × α → Bool) (t : Tbl α) (h : Tbl.wf d t = true) :
    Tbl.wf d (t.filter p) = true := by
  rw [Tbl.wf_iff] at *
  refine ⟨h.1.sublist (List.Sublist.map _ List.filter_sublist), fun e he => h.2 e (List.mem_of_mem_filter he)⟩

/-- Dropping keys keeps the canonical form. -/
theorem Tbl.wf_drop [DecidableEq α] (d : Nat → α) (p : Nat → Bool) (t : Tbl α) (h : Tbl.wf d t = true) :
    Tbl.wf d (Tbl.drop p t) = true := Tbl.wf_filter d _ t h

theorem Tbl.mem_ins (k : Nat) (v : α) (t : Tbl α) (e : Nat × α) : e ∈ Tbl.ins k v t ↔ e = (k, v) ∨ e ∈ t := by
  induction t with
  | nil => simp [Tbl.ins]
  | cons x t ih =>
    by_cases h : k < x.1
    · simp [Tbl.ins, h]
    · simp [Tbl.ins, h, ih]; tauto

theorem Tbl.pairwise_ins (k : Nat) (v : α) (t : Tbl α) (hk : ∀ e ∈ t, e.1 ≠ k) (h : (t.map (·.1)).Pairwise (· < ·)) :
    ((Tbl.ins k v t).map (·.1)).Pairwise (· < ·) := by
  induction t with
  | nil => simp [Tbl.ins]
  | cons x t ih =>
    simp only [List.map_cons, List.pairwise_cons] at h
    by_cases hl : k < x.1
    · simp only [Tbl.ins, hl, if_true, List.map_cons, List.pairwise_cons]
      refine ⟨?_, h⟩
      intro a ha
      rcases List.mem_cons.1 ha with rfl | ha
      · exact hl
      · exact hl.trans (h.1 a ha)
    · simp only [Tbl.ins, hl, if_false, List.map_cons, List.pairwise_cons]
      refine ⟨?_, ih (fun e he => hk e (by simp [he])) h.2⟩
      intro a ha
      obtain ⟨e, he, rfl⟩ := List.mem_map.1 ha
      rcases (Tbl.mem_ins k v t e).1 he with rfl | he
      · have := hk x (by simp); show x.1 < k; omega
      · exact h.1 _ (List.mem_map_of_mem he)

/-- A write keeps the canonical form. -/
theorem Tbl.wf_set [DecidableEq α] (d : Nat → α) (t : Tbl α) (k : Nat) (v : α) (h : Tbl.wf d t = true) :
    Tbl.wf d (Tbl.set d t k v) = true := by
  have he : Tbl.wf d (Tbl.erase t k) = true := Tbl.wf_filter d _ t h
  by_cases hv : v = d k
  · simp [Tbl.set, hv, he]
  · simp only [Tbl.set, hv, if_false]
    rw [Tbl.wf_iff] at he ⊢
    refine ⟨Tbl.pairwise_ins k v _ ?_ he.1, ?_⟩
    · intro e hm; simpa using (List.mem_filter.1 hm).2
    · intro e hm
      rcases (Tbl.mem_ins k v _ e).1 hm with rfl | hm
      · exact hv
      · exact he.2 e hm

end Sys2Proof.Machine
end

