-- ==== Sys2Proof/Laws/State.lean ====
section
/-! SUPPORT. What each update of the block leaves alone, field by field: the frame lemmas of the named operations on registers and
outputs, each true by unfolding, so that no later proof opens a record update. -/
namespace Sys2Proof.Machine

variable (d : Dev)

/-! ## Registers -/

theorem Dev.rd_wr (i j i' j' v : Nat) : (d.wr i j v).rd i' j' = if i' * 256 + j' = i * 256 + j then v else d.rd i' j' := by
  simp [Dev.rd, Dev.wr, Tbl.get_set, okey]

@[simp] theorem Dev.rd_wr_self (i j v : Nat) : (d.wr i j v).rd i j = v := by simp [Dev.rd_wr]

theorem Dev.rd_wr_ne {i j i' j' : Nat} (v : Nat) (h : i' * 256 + j' ≠ i * 256 + j) : (d.wr i j v).rd i' j' = d.rd i' j' := by
  simp [Dev.rd_wr, h]

theorem Dev.rd_defaults (p : Nat → Nat → Bool) (i j : Nat) (hj : j < 256) :
    (d.defaults p).rd i j = if p i j then dflt (okey i j) else d.rd i j := by
  have h1 : okey i j / 256 = i := by simp only [okey]; omega
  have h2 : okey i j % 256 = j := by simp only [okey]; omega
  simp [Dev.rd, Dev.defaults, Tbl.get_drop, h1, h2]

@[simp] theorem Dev.rd_emit (e : Emit) (i j : Nat) : (d.emit e).rd i j = d.rd i j := rfl
@[simp] theorem Dev.rd_setCtr (k e v x i j : Nat) : (d.setCtr k e v x).rd i j = d.rd i j := rfl
@[simp] theorem Dev.rd_cntBy (k e v x i j : Nat) : (d.cntBy k e v x).rd i j = d.rd i j := rfl
@[simp] theorem Dev.rd_cnt (k e v i j : Nat) : (d.cnt k e v).rd i j = d.rd i j := rfl
@[simp] theorem Dev.rd_draw (i j : Nat) : d.draw.2.rd i j = d.rd i j := rfl
@[simp] theorem Dev.count_eq (w i j k : Nat) : d.count w i j k = d.wr i j (satAdd w (d.rd i j) k) := rfl
@[simp] theorem Dev.wrBit_eq (i j b : Nat) (v : Bool) : d.wrBit i j b v = d.wr i j (putBit b (d.rd i j) v) := rfl
@[simp] theorem when_true (f : Dev → Dev) : when true f d = f d := rfl
@[simp] theorem when_false (f : Dev → Dev) : when false f d = d := rfl
@[simp] theorem seqAll_nil : seqAll [] d = d := rfl
@[simp] theorem seqAll_cons (f : Dev → Dev) (l : List (Dev → Dev)) : seqAll (f :: l) d = seqAll l (f d) := rfl

/-- A live counter read after it was written. -/
theorem Dev.ctr_setCtr (k e v x k' e' v' : Nat) :
    (d.setCtr k e v x).ctr k' e' v' = if ckey k' e' v' = ckey k e v then x else d.ctr k' e' v' := by
  simp [Dev.ctr, Dev.setCtr, Tbl.get_set]

/-! ## The canonical form of the register table -/

theorem Dev.wr_wf (i j v : Nat) (h : Tbl.wf dflt d.dict = true) : Tbl.wf dflt (d.wr i j v).dict = true := Tbl.wf_set _ _ _ _ h

theorem Dev.defaults_wf (p : Nat → Nat → Bool) (h : Tbl.wf dflt d.dict = true) : Tbl.wf dflt (d.defaults p).dict = true :=
  Tbl.wf_drop dflt (fun k => p (k / 256) (k % 256)) _ h

/-! ## Fields -/

@[simp] theorem Dev.wr_answer (i j v : Nat) : (d.wr i j v).answer = d.answer := rfl
@[simp] theorem Dev.wr_now (i j v : Nat) : (d.wr i j v).now = d.now := rfl
@[simp] theorem Dev.wr_pulses (i j v : Nat) : (d.wr i j v).pulses = d.pulses := rfl
@[simp] theorem Dev.wr_emits (i j v : Nat) : (d.wr i j v).emits = d.emits := rfl
@[simp] theorem Dev.wr_fresh (i j v : Nat) : (d.wr i j v).fresh = d.fresh := rfl
@[simp] theorem Dev.wr_pend (i j v : Nat) : (d.wr i j v).pend = d.pend := rfl
@[simp] theorem Dev.wr_bar0 (i j v : Nat) : (d.wr i j v).bar0 = d.bar0 := rfl
@[simp] theorem Dev.wr_rings (i j v : Nat) : (d.wr i j v).rings = d.rings := rfl
@[simp] theorem Dev.wr_punts (i j v : Nat) : (d.wr i j v).punts = d.punts := rfl
@[simp] theorem Dev.wr_msix (i j v : Nat) : (d.wr i j v).msix = d.msix := rfl
@[simp] theorem Dev.wr_dap (i j v : Nat) : (d.wr i j v).dap = d.dap := rfl
@[simp] theorem Dev.wr_boot (i j v : Nat) : (d.wr i j v).boot = d.boot := rfl
@[simp] theorem Dev.wr_power (i j v : Nat) : (d.wr i j v).power = d.power := rfl
@[simp] theorem Dev.wr_time (i j v : Nat) : (d.wr i j v).time = d.time := rfl
@[simp] theorem Dev.wr_lanes (i j v : Nat) : (d.wr i j v).lanes = d.lanes := rfl
@[simp] theorem Dev.wr_sides (i j v : Nat) : (d.wr i j v).sides = d.sides := rfl
@[simp] theorem Dev.wr_keys (i j v : Nat) : (d.wr i j v).keys = d.keys := rfl
@[simp] theorem Dev.wr_counters (i j v : Nat) : (d.wr i j v).counters = d.counters := rfl
@[simp] theorem Dev.wr_slots (i j v : Nat) : (d.wr i j v).slots = d.slots := rfl
@[simp] theorem Dev.wr_chans (i j v : Nat) : (d.wr i j v).chans = d.chans := rfl
@[simp] theorem Dev.wr_tabs (i j v : Nat) : (d.wr i j v).tabs = d.tabs := rfl
@[simp] theorem Dev.wr_eccBad (i j v : Nat) : (d.wr i j v).eccBad = d.eccBad := rfl
@[simp] theorem Dev.wr_dmaRuns (i j v : Nat) : (d.wr i j v).dmaRuns = d.dmaRuns := rfl
@[simp] theorem Dev.wr_learnNotes (i j v : Nat) : (d.wr i j v).learnNotes = d.learnNotes := rfl
@[simp] theorem Dev.wr_queues (i j v : Nat) : (d.wr i j v).queues = d.queues := rfl
@[simp] theorem Dev.wr_nodes (i j v : Nat) : (d.wr i j v).nodes = d.nodes := rfl
@[simp] theorem Dev.wr_policers (i j v : Nat) : (d.wr i j v).policers = d.policers := rfl
@[simp] theorem Dev.wr_scheds (i j v : Nat) : (d.wr i j v).scheds = d.scheds := rfl
@[simp] theorem Dev.wr_gates (i j v : Nat) : (d.wr i j v).gates = d.gates := rfl
@[simp] theorem Dev.wr_samplers (i j v : Nat) : (d.wr i j v).samplers = d.samplers := rfl
@[simp] theorem Dev.wr_eFlight (i j v : Nat) : (d.wr i j v).eFlight = d.eFlight := rfl
@[simp] theorem Dev.wr_dFlight (i j v : Nat) : (d.wr i j v).dFlight = d.dFlight := rfl
@[simp] theorem Dev.wr_staging (i j v : Nat) : (d.wr i j v).staging = d.staging := rfl
@[simp] theorem Dev.wr_stagedBg (i j v : Nat) : (d.wr i j v).stagedBg = d.stagedBg := rfl
@[simp] theorem Dev.wr_frameNo (i j v : Nat) : (d.wr i j v).frameNo = d.frameNo := rfl
@[simp] theorem Dev.wr_spillFull (i j v : Nat) : (d.wr i j v).spillFull = d.spillFull := rfl
@[simp] theorem Dev.wr_deepWrites (i j v : Nat) : (d.wr i j v).deepWrites = d.deepWrites := rfl
@[simp] theorem Dev.wr_spills (i j v : Nat) : (d.wr i j v).spills = d.spills := rfl
@[simp] theorem Dev.wr_bg (i j v : Nat) : (d.wr i j v).bg = d.bg := rfl
@[simp] theorem Dev.wr_cals (i j v : Nat) : (d.wr i j v).cals = d.cals := rfl
@[simp] theorem Dev.wr_genSent (i j v : Nat) : (d.wr i j v).genSent = d.genSent := rfl
@[simp] theorem Dev.wr_carriers (i j v : Nat) : (d.wr i j v).carriers = d.carriers := rfl
@[simp] theorem Dev.wr_eccSoft (i j v : Nat) : (d.wr i j v).eccSoft = d.eccSoft := rfl
@[simp] theorem Dev.wr_tamper (i j v : Nat) : (d.wr i j v).tamper = d.tamper := rfl
@[simp] theorem Dev.wr_assay (i j v : Nat) : (d.wr i j v).assay = d.assay := rfl
@[simp] theorem Dev.wr_inject (i j v : Nat) : (d.wr i j v).inject = d.inject := rfl
@[simp] theorem Dev.wr_darkUntil (i j v : Nat) : (d.wr i j v).darkUntil = d.darkUntil := rfl
@[simp] theorem Dev.wr_wdCores (i j v : Nat) : (d.wr i j v).wdCores = d.wdCores := rfl
@[simp] theorem Dev.wr_wdTimes (i j v : Nat) : (d.wr i j v).wdTimes = d.wdTimes := rfl
@[simp] theorem Dev.wr_wdHeld (i j v : Nat) : (d.wr i j v).wdHeld = d.wdHeld := rfl
@[simp] theorem Dev.wr_linkWaits (i j v : Nat) : (d.wr i j v).linkWaits = d.linkWaits := rfl
@[simp] theorem Dev.wr_wakeWaits (i j v : Nat) : (d.wr i j v).wakeWaits = d.wakeWaits := rfl
@[simp] theorem Dev.wr_tap (i j v : Nat) : (d.wr i j v).tap = d.tap := rfl

@[simp] theorem Dev.defaults_answer (p : Nat → Nat → Bool) : (d.defaults p).answer = d.answer := rfl
@[simp] theorem Dev.defaults_now (p : Nat → Nat → Bool) : (d.defaults p).now = d.now := rfl
@[simp] theorem Dev.defaults_pulses (p : Nat → Nat → Bool) : (d.defaults p).pulses = d.pulses := rfl
@[simp] theorem Dev.defaults_emits (p : Nat → Nat → Bool) : (d.defaults p).emits = d.emits := rfl
@[simp] theorem Dev.defaults_fresh (p : Nat → Nat → Bool) : (d.defaults p).fresh = d.fresh := rfl
@[simp] theorem Dev.defaults_pend (p : Nat → Nat → Bool) : (d.defaults p).pend = d.pend := rfl
@[simp] theorem Dev.defaults_bar0 (p : Nat → Nat → Bool) : (d.defaults p).bar0 = d.bar0 := rfl
@[simp] theorem Dev.defaults_rings (p : Nat → Nat → Bool) : (d.defaults p).rings = d.rings := rfl
@[simp] theorem Dev.defaults_punts (p : Nat → Nat → Bool) : (d.defaults p).punts = d.punts := rfl
@[simp] theorem Dev.defaults_msix (p : Nat → Nat → Bool) : (d.defaults p).msix = d.msix := rfl
@[simp] theorem Dev.defaults_dap (p : Nat → Nat → Bool) : (d.defaults p).dap = d.dap := rfl
@[simp] theorem Dev.defaults_boot (p : Nat → Nat → Bool) : (d.defaults p).boot = d.boot := rfl
@[simp] theorem Dev.defaults_power (p : Nat → Nat → Bool) : (d.defaults p).power = d.power := rfl
@[simp] theorem Dev.defaults_time (p : Nat → Nat → Bool) : (d.defaults p).time = d.time := rfl
@[simp] theorem Dev.defaults_lanes (p : Nat → Nat → Bool) : (d.defaults p).lanes = d.lanes := rfl
@[simp] theorem Dev.defaults_sides (p : Nat → Nat → Bool) : (d.defaults p).sides = d.sides := rfl
@[simp] theorem Dev.defaults_keys (p : Nat → Nat → Bool) : (d.defaults p).keys = d.keys := rfl
@[simp] theorem Dev.defaults_counters (p : Nat → Nat → Bool) : (d.defaults p).counters = d.counters := rfl
@[simp] theorem Dev.defaults_slots (p : Nat → Nat → Bool) : (d.defaults p).slots = d.slots := rfl
@[simp] theorem Dev.defaults_chans (p : Nat → Nat → Bool) : (d.defaults p).chans = d.chans := rfl
@[simp] theorem Dev.defaults_tabs (p : Nat → Nat → Bool) : (d.defaults p).tabs = d.tabs := rfl
@[simp] theorem Dev.defaults_eccBad (p : Nat → Nat → Bool) : (d.defaults p).eccBad = d.eccBad := rfl
@[simp] theorem Dev.defaults_dmaRuns (p : Nat → Nat → Bool) : (d.defaults p).dmaRuns = d.dmaRuns := rfl
@[simp] theorem Dev.defaults_learnNotes (p : Nat → Nat → Bool) : (d.defaults p).learnNotes = d.learnNotes := rfl
@[simp] theorem Dev.defaults_queues (p : Nat → Nat → Bool) : (d.defaults p).queues = d.queues := rfl
@[simp] theorem Dev.defaults_nodes (p : Nat → Nat → Bool) : (d.defaults p).nodes = d.nodes := rfl
@[simp] theorem Dev.defaults_policers (p : Nat → Nat → Bool) : (d.defaults p).policers = d.policers := rfl
@[simp] theorem Dev.defaults_scheds (p : Nat → Nat → Bool) : (d.defaults p).scheds = d.scheds := rfl
@[simp] theorem Dev.defaults_gates (p : Nat → Nat → Bool) : (d.defaults p).gates = d.gates := rfl
@[simp] theorem Dev.defaults_samplers (p : Nat → Nat → Bool) : (d.defaults p).samplers = d.samplers := rfl
@[simp] theorem Dev.defaults_eFlight (p : Nat → Nat → Bool) : (d.defaults p).eFlight = d.eFlight := rfl
@[simp] theorem Dev.defaults_dFlight (p : Nat → Nat → Bool) : (d.defaults p).dFlight = d.dFlight := rfl
@[simp] theorem Dev.defaults_staging (p : Nat → Nat → Bool) : (d.defaults p).staging = d.staging := rfl
@[simp] theorem Dev.defaults_stagedBg (p : Nat → Nat → Bool) : (d.defaults p).stagedBg = d.stagedBg := rfl
@[simp] theorem Dev.defaults_frameNo (p : Nat → Nat → Bool) : (d.defaults p).frameNo = d.frameNo := rfl
@[simp] theorem Dev.defaults_spillFull (p : Nat → Nat → Bool) : (d.defaults p).spillFull = d.spillFull := rfl
@[simp] theorem Dev.defaults_deepWrites (p : Nat → Nat → Bool) : (d.defaults p).deepWrites = d.deepWrites := rfl
@[simp] theorem Dev.defaults_spills (p : Nat → Nat → Bool) : (d.defaults p).spills = d.spills := rfl
@[simp] theorem Dev.defaults_bg (p : Nat → Nat → Bool) : (d.defaults p).bg = d.bg := rfl
@[simp] theorem Dev.defaults_cals (p : Nat → Nat → Bool) : (d.defaults p).cals = d.cals := rfl
@[simp] theorem Dev.defaults_genSent (p : Nat → Nat → Bool) : (d.defaults p).genSent = d.genSent := rfl
@[simp] theorem Dev.defaults_carriers (p : Nat → Nat → Bool) : (d.defaults p).carriers = d.carriers := rfl
@[simp] theorem Dev.defaults_eccSoft (p : Nat → Nat → Bool) : (d.defaults p).eccSoft = d.eccSoft := rfl
@[simp] theorem Dev.defaults_tamper (p : Nat → Nat → Bool) : (d.defaults p).tamper = d.tamper := rfl
@[simp] theorem Dev.defaults_assay (p : Nat → Nat → Bool) : (d.defaults p).assay = d.assay := rfl
@[simp] theorem Dev.defaults_inject (p : Nat → Nat → Bool) : (d.defaults p).inject = d.inject := rfl
@[simp] theorem Dev.defaults_darkUntil (p : Nat → Nat → Bool) : (d.defaults p).darkUntil = d.darkUntil := rfl
@[simp] theorem Dev.defaults_wdCores (p : Nat → Nat → Bool) : (d.defaults p).wdCores = d.wdCores := rfl
@[simp] theorem Dev.defaults_wdTimes (p : Nat → Nat → Bool) : (d.defaults p).wdTimes = d.wdTimes := rfl
@[simp] theorem Dev.defaults_wdHeld (p : Nat → Nat → Bool) : (d.defaults p).wdHeld = d.wdHeld := rfl
@[simp] theorem Dev.defaults_linkWaits (p : Nat → Nat → Bool) : (d.defaults p).linkWaits = d.linkWaits := rfl
@[simp] theorem Dev.defaults_wakeWaits (p : Nat → Nat → Bool) : (d.defaults p).wakeWaits = d.wakeWaits := rfl
@[simp] theorem Dev.defaults_tap (p : Nat → Nat → Bool) : (d.defaults p).tap = d.tap := rfl

@[simp] theorem Dev.emit_dict (e : Emit) : (d.emit e).dict = d.dict := rfl
@[simp] theorem Dev.emit_answer (e : Emit) : (d.emit e).answer = d.answer := rfl
@[simp] theorem Dev.emit_now (e : Emit) : (d.emit e).now = d.now := rfl
@[simp] theorem Dev.emit_pulses (e : Emit) : (d.emit e).pulses = d.pulses := rfl
@[simp] theorem Dev.emit_fresh (e : Emit) : (d.emit e).fresh = d.fresh := rfl
@[simp] theorem Dev.emit_pend (e : Emit) : (d.emit e).pend = d.pend := rfl
@[simp] theorem Dev.emit_bar0 (e : Emit) : (d.emit e).bar0 = d.bar0 := rfl
@[simp] theorem Dev.emit_rings (e : Emit) : (d.emit e).rings = d.rings := rfl
@[simp] theorem Dev.emit_punts (e : Emit) : (d.emit e).punts = d.punts := rfl
@[simp] theorem Dev.emit_msix (e : Emit) : (d.emit e).msix = d.msix := rfl
@[simp] theorem Dev.emit_dap (e : Emit) : (d.emit e).dap = d.dap := rfl
@[simp] theorem Dev.emit_boot (e : Emit) : (d.emit e).boot = d.boot := rfl
@[simp] theorem Dev.emit_power (e : Emit) : (d.emit e).power = d.power := rfl
@[simp] theorem Dev.emit_time (e : Emit) : (d.emit e).time = d.time := rfl
@[simp] theorem Dev.emit_lanes (e : Emit) : (d.emit e).lanes = d.lanes := rfl
@[simp] theorem Dev.emit_sides (e : Emit) : (d.emit e).sides = d.sides := rfl
@[simp] theorem Dev.emit_keys (e : Emit) : (d.emit e).keys = d.keys := rfl
@[simp] theorem Dev.emit_counters (e : Emit) : (d.emit e).counters = d.counters := rfl
@[simp] theorem Dev.emit_slots (e : Emit) : (d.emit e).slots = d.slots := rfl
@[simp] theorem Dev.emit_chans (e : Emit) : (d.emit e).chans = d.chans := rfl
@[simp] theorem Dev.emit_tabs (e : Emit) : (d.emit e).tabs = d.tabs := rfl
@[simp] theorem Dev.emit_eccBad (e : Emit) : (d.emit e).eccBad = d.eccBad := rfl
@[simp] theorem Dev.emit_dmaRuns (e : Emit) : (d.emit e).dmaRuns = d.dmaRuns := rfl
@[simp] theorem Dev.emit_learnNotes (e : Emit) : (d.emit e).learnNotes = d.learnNotes := rfl
@[simp] theorem Dev.emit_queues (e : Emit) : (d.emit e).queues = d.queues := rfl
@[simp] theorem Dev.emit_nodes (e : Emit) : (d.emit e).nodes = d.nodes := rfl
@[simp] theorem Dev.emit_policers (e : Emit) : (d.emit e).policers = d.policers := rfl
@[simp] theorem Dev.emit_scheds (e : Emit) : (d.emit e).scheds = d.scheds := rfl
@[simp] theorem Dev.emit_gates (e : Emit) : (d.emit e).gates = d.gates := rfl
@[simp] theorem Dev.emit_samplers (e : Emit) : (d.emit e).samplers = d.samplers := rfl
@[simp] theorem Dev.emit_eFlight (e : Emit) : (d.emit e).eFlight = d.eFlight := rfl
@[simp] theorem Dev.emit_dFlight (e : Emit) : (d.emit e).dFlight = d.dFlight := rfl
@[simp] theorem Dev.emit_staging (e : Emit) : (d.emit e).staging = d.staging := rfl
@[simp] theorem Dev.emit_stagedBg (e : Emit) : (d.emit e).stagedBg = d.stagedBg := rfl
@[simp] theorem Dev.emit_frameNo (e : Emit) : (d.emit e).frameNo = d.frameNo := rfl
@[simp] theorem Dev.emit_spillFull (e : Emit) : (d.emit e).spillFull = d.spillFull := rfl
@[simp] theorem Dev.emit_deepWrites (e : Emit) : (d.emit e).deepWrites = d.deepWrites := rfl
@[simp] theorem Dev.emit_spills (e : Emit) : (d.emit e).spills = d.spills := rfl
@[simp] theorem Dev.emit_bg (e : Emit) : (d.emit e).bg = d.bg := rfl
@[simp] theorem Dev.emit_cals (e : Emit) : (d.emit e).cals = d.cals := rfl
@[simp] theorem Dev.emit_genSent (e : Emit) : (d.emit e).genSent = d.genSent := rfl
@[simp] theorem Dev.emit_carriers (e : Emit) : (d.emit e).carriers = d.carriers := rfl
@[simp] theorem Dev.emit_eccSoft (e : Emit) : (d.emit e).eccSoft = d.eccSoft := rfl
@[simp] theorem Dev.emit_tamper (e : Emit) : (d.emit e).tamper = d.tamper := rfl
@[simp] theorem Dev.emit_assay (e : Emit) : (d.emit e).assay = d.assay := rfl
@[simp] theorem Dev.emit_inject (e : Emit) : (d.emit e).inject = d.inject := rfl
@[simp] theorem Dev.emit_darkUntil (e : Emit) : (d.emit e).darkUntil = d.darkUntil := rfl
@[simp] theorem Dev.emit_wdCores (e : Emit) : (d.emit e).wdCores = d.wdCores := rfl
@[simp] theorem Dev.emit_wdTimes (e : Emit) : (d.emit e).wdTimes = d.wdTimes := rfl
@[simp] theorem Dev.emit_wdHeld (e : Emit) : (d.emit e).wdHeld = d.wdHeld := rfl
@[simp] theorem Dev.emit_linkWaits (e : Emit) : (d.emit e).linkWaits = d.linkWaits := rfl
@[simp] theorem Dev.emit_wakeWaits (e : Emit) : (d.emit e).wakeWaits = d.wakeWaits := rfl
@[simp] theorem Dev.emit_tap (e : Emit) : (d.emit e).tap = d.tap := rfl

@[simp] theorem Dev.setCtr_dict (k e v x : Nat) : (d.setCtr k e v x).dict = d.dict := rfl
@[simp] theorem Dev.setCtr_answer (k e v x : Nat) : (d.setCtr k e v x).answer = d.answer := rfl
@[simp] theorem Dev.setCtr_now (k e v x : Nat) : (d.setCtr k e v x).now = d.now := rfl
@[simp] theorem Dev.setCtr_pulses (k e v x : Nat) : (d.setCtr k e v x).pulses = d.pulses := rfl
@[simp] theorem Dev.setCtr_emits (k e v x : Nat) : (d.setCtr k e v x).emits = d.emits := rfl
@[simp] theorem Dev.setCtr_fresh (k e v x : Nat) : (d.setCtr k e v x).fresh = d.fresh := rfl
@[simp] theorem Dev.setCtr_pend (k e v x : Nat) : (d.setCtr k e v x).pend = d.pend := rfl
@[simp] theorem Dev.setCtr_bar0 (k e v x : Nat) : (d.setCtr k e v x).bar0 = d.bar0 := rfl
@[simp] theorem Dev.setCtr_rings (k e v x : Nat) : (d.setCtr k e v x).rings = d.rings := rfl
@[simp] theorem Dev.setCtr_punts (k e v x : Nat) : (d.setCtr k e v x).punts = d.punts := rfl
@[simp] theorem Dev.setCtr_msix (k e v x : Nat) : (d.setCtr k e v x).msix = d.msix := rfl
@[simp] theorem Dev.setCtr_dap (k e v x : Nat) : (d.setCtr k e v x).dap = d.dap := rfl
@[simp] theorem Dev.setCtr_boot (k e v x : Nat) : (d.setCtr k e v x).boot = d.boot := rfl
@[simp] theorem Dev.setCtr_power (k e v x : Nat) : (d.setCtr k e v x).power = d.power := rfl
@[simp] theorem Dev.setCtr_time (k e v x : Nat) : (d.setCtr k e v x).time = d.time := rfl
@[simp] theorem Dev.setCtr_lanes (k e v x : Nat) : (d.setCtr k e v x).lanes = d.lanes := rfl
@[simp] theorem Dev.setCtr_sides (k e v x : Nat) : (d.setCtr k e v x).sides = d.sides := rfl
@[simp] theorem Dev.setCtr_keys (k e v x : Nat) : (d.setCtr k e v x).keys = d.keys := rfl
@[simp] theorem Dev.setCtr_slots (k e v x : Nat) : (d.setCtr k e v x).slots = d.slots := rfl
@[simp] theorem Dev.setCtr_chans (k e v x : Nat) : (d.setCtr k e v x).chans = d.chans := rfl
@[simp] theorem Dev.setCtr_tabs (k e v x : Nat) : (d.setCtr k e v x).tabs = d.tabs := rfl
@[simp] theorem Dev.setCtr_eccBad (k e v x : Nat) : (d.setCtr k e v x).eccBad = d.eccBad := rfl
@[simp] theorem Dev.setCtr_dmaRuns (k e v x : Nat) : (d.setCtr k e v x).dmaRuns = d.dmaRuns := rfl
@[simp] theorem Dev.setCtr_learnNotes (k e v x : Nat) : (d.setCtr k e v x).learnNotes = d.learnNotes := rfl
@[simp] theorem Dev.setCtr_queues (k e v x : Nat) : (d.setCtr k e v x).queues = d.queues := rfl
@[simp] theorem Dev.setCtr_nodes (k e v x : Nat) : (d.setCtr k e v x).nodes = d.nodes := rfl
@[simp] theorem Dev.setCtr_policers (k e v x : Nat) : (d.setCtr k e v x).policers = d.policers := rfl
@[simp] theorem Dev.setCtr_scheds (k e v x : Nat) : (d.setCtr k e v x).scheds = d.scheds := rfl
@[simp] theorem Dev.setCtr_gates (k e v x : Nat) : (d.setCtr k e v x).gates = d.gates := rfl
@[simp] theorem Dev.setCtr_samplers (k e v x : Nat) : (d.setCtr k e v x).samplers = d.samplers := rfl
@[simp] theorem Dev.setCtr_eFlight (k e v x : Nat) : (d.setCtr k e v x).eFlight = d.eFlight := rfl
@[simp] theorem Dev.setCtr_dFlight (k e v x : Nat) : (d.setCtr k e v x).dFlight = d.dFlight := rfl
@[simp] theorem Dev.setCtr_staging (k e v x : Nat) : (d.setCtr k e v x).staging = d.staging := rfl
@[simp] theorem Dev.setCtr_stagedBg (k e v x : Nat) : (d.setCtr k e v x).stagedBg = d.stagedBg := rfl
@[simp] theorem Dev.setCtr_frameNo (k e v x : Nat) : (d.setCtr k e v x).frameNo = d.frameNo := rfl
@[simp] theorem Dev.setCtr_spillFull (k e v x : Nat) : (d.setCtr k e v x).spillFull = d.spillFull := rfl
@[simp] theorem Dev.setCtr_deepWrites (k e v x : Nat) : (d.setCtr k e v x).deepWrites = d.deepWrites := rfl
@[simp] theorem Dev.setCtr_spills (k e v x : Nat) : (d.setCtr k e v x).spills = d.spills := rfl
@[simp] theorem Dev.setCtr_bg (k e v x : Nat) : (d.setCtr k e v x).bg = d.bg := rfl
@[simp] theorem Dev.setCtr_cals (k e v x : Nat) : (d.setCtr k e v x).cals = d.cals := rfl
@[simp] theorem Dev.setCtr_genSent (k e v x : Nat) : (d.setCtr k e v x).genSent = d.genSent := rfl
@[simp] theorem Dev.setCtr_carriers (k e v x : Nat) : (d.setCtr k e v x).carriers = d.carriers := rfl
@[simp] theorem Dev.setCtr_eccSoft (k e v x : Nat) : (d.setCtr k e v x).eccSoft = d.eccSoft := rfl
@[simp] theorem Dev.setCtr_tamper (k e v x : Nat) : (d.setCtr k e v x).tamper = d.tamper := rfl
@[simp] theorem Dev.setCtr_assay (k e v x : Nat) : (d.setCtr k e v x).assay = d.assay := rfl
@[simp] theorem Dev.setCtr_inject (k e v x : Nat) : (d.setCtr k e v x).inject = d.inject := rfl
@[simp] theorem Dev.setCtr_darkUntil (k e v x : Nat) : (d.setCtr k e v x).darkUntil = d.darkUntil := rfl
@[simp] theorem Dev.setCtr_wdCores (k e v x : Nat) : (d.setCtr k e v x).wdCores = d.wdCores := rfl
@[simp] theorem Dev.setCtr_wdTimes (k e v x : Nat) : (d.setCtr k e v x).wdTimes = d.wdTimes := rfl
@[simp] theorem Dev.setCtr_wdHeld (k e v x : Nat) : (d.setCtr k e v x).wdHeld = d.wdHeld := rfl
@[simp] theorem Dev.setCtr_linkWaits (k e v x : Nat) : (d.setCtr k e v x).linkWaits = d.linkWaits := rfl
@[simp] theorem Dev.setCtr_wakeWaits (k e v x : Nat) : (d.setCtr k e v x).wakeWaits = d.wakeWaits := rfl
@[simp] theorem Dev.setCtr_tap (k e v x : Nat) : (d.setCtr k e v x).tap = d.tap := rfl

@[simp] theorem Dev.emit_emits (e : Emit) : (d.emit e).emits = e :: d.emits := rfl

end Sys2Proof.Machine
end

