-- ==== Sys2Proof/Laws/Events.lean ====
section
/-! SUPPORT. Everything that raising an event, counting a performance source, or setting a cause can do: the event, performance and
cause registers change, and what is put out, sent or woken by it; every other register and every other part of the block stays. -/
namespace Sys2Proof.Machine

/-- `b` differs from `a` only in what an event may change. -/
structure Dev.Quiet (a b : Dev) : Prop where
  same : b = { a with dict := b.dict, pulses := b.pulses, emits := b.emits, msix := b.msix, dap := b.dap, power := b.power }
  rd : ∀ i j, j < 256 → eventReg i j = false → b.rd i j = a.rd i j
  status : ∀ g x, bit x (a.rd (0x1400 + g) 1) = true → g < 25 → bit x (b.rd (0x1400 + g) 1) = true
  wf : Tbl.wf dflt a.dict = true → Tbl.wf dflt b.dict = true
  ids : b.dap.sessions.map (fun x => (x.role, x.id, x.key)) = a.dap.sessions.map (fun x => (x.role, x.id, x.key))

theorem Dev.Quiet.refl (a : Dev) : Dev.Quiet a a := ⟨rfl, fun _ _ _ _ => rfl, fun _ _ h _ => h, id, rfl⟩

theorem Dev.Quiet.trans {a b c : Dev} (h : Dev.Quiet a b) (k : Dev.Quiet b c) : Dev.Quiet a c :=
  ⟨by rw [k.same, h.same], fun i j hj he => (k.rd i j hj he).trans (h.rd i j hj he),
    fun g x hb hg => k.status g x (h.status g x hb hg) hg, fun w => k.wf (h.wf w), k.ids.trans h.ids⟩

theorem Dev.Quiet.wr (a : Dev) (i j v : Nat) (h : eventReg i j = true) (hj : j < 256)
    (hs : j = 1 → i = 0x1188 ∨ ∀ x, bit x (a.rd i 1) = true → bit x v = true) : Dev.Quiet a (a.wr i j v) := by
  refine ⟨rfl, fun i' j' hj' he => ?_, fun g x hb hg => ?_, fun w => a.wr_wf i j v w, rfl⟩
  · refine a.rd_wr_ne v fun hk => ?_
    have : i' = i ∧ j' = j := by omega
    rw [this.1, this.2, h] at he; cases he
  · by_cases hk : (0x1400 + g) * 256 + 1 = i * 256 + j
    · have hi : i = 0x1400 + g ∧ j = 1 := by omega
      obtain ⟨rfl, rfl⟩ := hi
      rcases hs rfl with h0 | h0
      · omega
      · simpa [Dev.rd_wr] using h0 x hb
    · rw [a.rd_wr_ne v hk]; exact hb

/-- A bit that is 0 added changes no other bit. -/
theorem bit_add_two_pow {b v x : Nat} (hb : bit b v = false) (h : x ≠ b) : bit x (v + 2 ^ b) = bit x v := by
  simp only [bit, decide_eq_false_iff_not] at hb
  have h2 : v / 2 ^ b % 2 = 0 := by omega
  suffices hs : (v + 2 ^ b) / 2 ^ x % 2 = v / 2 ^ x % 2 by simp only [bit, hs]
  rcases Nat.lt_or_gt_of_ne h with hx | hx
  · obtain ⟨c, rfl⟩ : ∃ c, b = x + 1 + c := ⟨b - x - 1, by omega⟩
    have e : 2 ^ (x + 1 + c) = 2 ^ x * (2 * 2 ^ c) := by rw [Nat.pow_add, Nat.pow_succ]; ring
    rw [e, Nat.add_mul_div_left _ _ (by positivity)]; omega
  · obtain ⟨c, rfl⟩ : ∃ c, x = b + 1 + c := ⟨x - b - 1, by omega⟩
    have e : 2 ^ (b + 1 + c) = 2 ^ b * 2 * 2 ^ c := by rw [Nat.pow_add, Nat.pow_succ]
    rw [e, ← Nat.div_div_eq_div_mul, ← Nat.div_div_eq_div_mul, ← Nat.div_div_eq_div_mul v, ← Nat.div_div_eq_div_mul v,
      Nat.add_div_right _ (by positivity)]
    have : (v / 2 ^ b + 1) / 2 = v / 2 ^ b / 2 := by omega
    rw [show (v / 2 ^ b).succ / 2 = v / 2 ^ b / 2 from this]

@[simp] theorem bit_setBit_self (b v : Nat) : bit b (setBit b v) = true := by
  unfold setBit
  split
  · assumption
  · next h =>
    simp only [bit, decide_eq_true_eq] at *
    rw [Nat.add_div_right _ (by positivity)]; omega

theorem bit_setBit_ne {b v x : Nat} (h : x ≠ b) : bit x (setBit b v) = bit x v := by
  unfold setBit
  split
  · rfl
  · next hb => exact bit_add_two_pow (by simpa using hb) h

/-- Setting a bit takes no bit away. -/
theorem bit_setBit_mono {b v x : Nat} (h : bit x v = true) : bit x (setBit b v) = true := by
  by_cases hx : x = b
  · subst hx; simp
  · rw [bit_setBit_ne hx, h]

theorem Dev.Quiet.emit (a : Dev) (e : Emit) : Dev.Quiet a (a.emit e) := ⟨rfl, fun _ _ _ _ => rfl, fun _ _ h _ => h, id, rfl⟩

theorem Dev.Quiet.foldl {α : Type} (f : Dev → α → Dev) (hf : ∀ d x, Dev.Quiet d (f d x)) (l : List α) (a : Dev) :
    Dev.Quiet a (l.foldl f a) := by
  induction l generalizing a with
  | nil => exact Dev.Quiet.refl a
  | cons x l ih => exact (hf a x).trans (ih _)

theorem Dev.Quiet.ite {p : Prop} [Decidable p] {a b c : Dev} (h : Dev.Quiet a b) (k : Dev.Quiet a c) :
    Dev.Quiet a (if p then b else c) := by split <;> assumption

theorem Dev.quiet_sendMsix (v : Nat) (a : Dev) : Dev.Quiet a (a.sendMsix v) := by
  unfold Dev.sendMsix; simp only
  split
  · exact .refl a
  · split
    · exact ⟨rfl, fun _ _ _ _ => rfl, fun _ _ h _ => h, id, rfl⟩
    · exact .emit a _

theorem Dev.quiet_warmUp (a : Dev) : Dev.Quiet a (a.warmUp 136) := by
  unfold Dev.warmUp
  split
  · refine (Dev.Quiet.wr a 0x1188 1 2 (by decide) (by decide) (fun _ => .inl rfl)).trans
      ((Dev.Quiet.wr _ 0x1188 2 psToOn (by decide) (by decide) (by simp)).trans ?_)
    exact ⟨rfl, fun _ _ _ _ => rfl, fun _ _ h _ => h, id, rfl⟩
  · exact .refl a

theorem Dev.quiet_deliver (g : Nat) (a : Dev) : Dev.Quiet a (a.deliver g) := by
  unfold Dev.deliver; simp only
  have h : Dev.Quiet a (if bit 6 (a.rd (0x1400 + g) 4) then a.sendMsix (fld 5 0 (a.rd (0x1400 + g) 4)) else a) :=
    .ite (a.quiet_sendMsix _) (.refl a)
  split
  · exact h.trans ((Dev.Quiet.emit _ _).trans (Dev.quiet_warmUp _))
  · exact h

/-- What waits for the CAN FD bus is no session's business. -/
theorem Dev.Quiet.canOut (a : Dev) (l : List (Bytes × Bytes)) : Dev.Quiet a { a with dap := { a.dap with canOut := l } } :=
  ⟨rfl, fun _ _ _ _ => rfl, fun _ _ h _ => h, id, rfl⟩

theorem Dev.quiet_canNext (a : Dev) : Dev.Quiet a a.canNext := by
  unfold Dev.canNext
  split
  · exact .refl a
  · exact .ite ((Dev.Quiet.canOut a _).trans (.emit _ _)) (.refl a)

theorem Dev.quiet_sendDap (r : Role) (peer : Nat) (m : Bytes) (a : Dev) : Dev.Quiet a (a.sendDap r peer m) := by
  unfold Dev.sendDap; simp only
  split
  · exact .ite ((Dev.Quiet.canOut a _).trans (Dev.quiet_canNext _)) (.canOut a _)
  · exact .emit a _

theorem map_setNth {α β : Type} (f : α → β) (x : α) (l : List α) (k : Nat) (y : α) (h : l[k]? = some y) (hf : f x = f y) :
    (setNth x l k).map f = l.map f := by
  induction l generalizing k with
  | nil => simp [setNth]
  | cons z l ih =>
    cases k with
    | zero => simp at h; subst h; simp [setNth, hf]
    | succ k => simp [setNth]; exact ih k (by simpa using h)

theorem Dev.quiet_holdOn (k e : Nat) (m : Option (Nat × Nat)) (a : Dev) : Dev.Quiet a (a.holdOn k e m) := by
  unfold Dev.holdOn
  split
  · exact .refl a
  · next x h => exact ⟨rfl, fun _ _ _ _ => rfl, fun _ _ h _ => h, id, map_setNth _ _ _ _ _ h rfl⟩

theorem Dev.quiet_notifyOn (k e t : Nat) (a : Dev) : Dev.Quiet a (a.notifyOn k e t) := by
  unfold Dev.notifyOn
  split
  · exact .refl a
  · next x h =>
    have h1 : Dev.Quiet a { a with dap := { a.dap with sessions := setNth { x with notes := x.notes + 1 } a.dap.sessions k } } :=
      ⟨rfl, fun _ _ _ _ => rfl, fun _ _ h _ => h, id, map_setNth _ _ _ _ _ h rfl⟩
    exact h1.trans ((Dev.quiet_sendDap _ _ _ _).trans (Dev.Quiet.wr _ 0x1419 4 _ (by decide) (by decide) (by simp)))

theorem Dev.quiet_notifyRaise (e t : Nat) (a : Dev) (k : Nat) : Dev.Quiet a (a.notifyRaise e t k) := by
  unfold Dev.notifyRaise
  split
  · exact .refl a
  · split
    · exact a.quiet_holdOn _ _ _
    · exact (a.quiet_notifyOn _ _ _).trans (Dev.quiet_holdOn _ _ _ _)

/-- Event `e` below 400 raised changes nothing but what an event may change. -/
theorem Dev.quiet_raise0 (e : Nat) (he : e < 400) (a : Dev) : Dev.Quiet a (a.raise0 e) := by
  have hg : ∀ j, j = 1 ∨ j = 5 → eventReg (0x1400 + e / 16) j = true := by
    intro j hj
    simp only [eventReg, within, Bool.or_eq_true, Bool.and_eq_true, decide_eq_true_eq]; omega
  unfold Dev.raise0; simp only [Dev.count_eq]
  have h1 := (Dev.Quiet.wr a (0x1400 + e / 16) 1 (setBit (e % 16) (a.rd (0x1400 + e / 16) 1)) (hg 1 (.inl rfl)) (by decide)
      (fun _ => .inr fun _ h => bit_setBit_mono h)).trans
    (Dev.Quiet.wr _ (0x1400 + e / 16) 5
      (satAdd 64 ((a.wr (0x1400 + e / 16) 1 (setBit (e % 16) (a.rd (0x1400 + e / 16) 1))).rd (0x1400 + e / 16) 5) 1) (hg 5 (.inr rfl)) (by decide)
      (by simp))
  split
  · exact h1
  · refine h1.trans (Dev.Quiet.trans (b := _) ?_ (Dev.Quiet.foldl _ (fun d k => d.quiet_notifyRaise _ _ k) _ _))
    exact .ite (.refl _) (Dev.quiet_deliver _ _)

theorem Dev.quiet_perfAdd (sat : Dev → Dev) (hs : ∀ d, Dev.Quiet d (sat d)) (b j k : Nat) (hb : b < 5) (hj : j < 64) (a : Dev) :
    Dev.Quiet a (a.perfAdd sat b j k) := by
  have hg : ∀ x, x = 3 ∨ (0x90 ≤ x ∧ x < 0xD0) → eventReg (0x8100 + b) x = true := by
    intro x hx
    simp only [eventReg, within, Bool.or_eq_true, Bool.and_eq_true, decide_eq_true_eq]; omega
  have w : ∀ (d : Dev) (v : Nat), Dev.Quiet d (d.wr (0x8100 + b) (0x90 + j) v) := fun d v =>
    .wr d _ _ v (hg _ (by omega)) (by omega) (by omega)
  have x : ∀ (d : Dev), Dev.Quiet d (sat (d.wrBit (0x8100 + b) 3 j true)) := fun d =>
    (Dev.Quiet.wr d _ 3 _ (hg 3 (.inl rfl)) (by decide) (by simp)).trans (hs _)
  unfold Dev.perfAdd; simp only
  split <;> split
  · exact w a _
  · exact (w a _).trans (x _)
  · exact w a _
  · exact (w a _).trans (x _)

theorem Dev.quiet_perfWith (sat : Dev → Dev) (hs : ∀ d, Dev.Quiet d (sat d)) (b ev inst k : Nat) (hb : b < 5) (a : Dev) :
    Dev.Quiet a (a.perfWith sat b ev inst k) := by
  unfold Dev.perfWith
  split
  · exact .refl a
  · have : ∀ (l : List Nat), (∀ j ∈ l, j < 64) → ∀ d : Dev,
        Dev.Quiet d (l.foldl (fun x j => if x.perfOn b ev inst j then x.perfAdd sat b j k else x) d) := by
      intro l
      induction l with
      | nil => intro _ d; exact .refl d
      | cons j l ih =>
        intro hl d
        refine Dev.Quiet.trans ?_ (ih (fun i hi => hl i (by simp [hi])) _)
        exact .ite (d.quiet_perfAdd sat hs b j k hb (hl j (by simp))) (.refl d)
    exact this _ (by simp) a

theorem Dev.quiet_raise110 (a : Dev) : Dev.Quiet a a.raise110 :=
  (a.quiet_raise0 110 (by decide)).trans (Dev.quiet_perfWith _ (fun d => d.quiet_raise0 110 (by decide)) 4 _ _ _ (by decide) _)

/-- Counting a source changes nothing but what an event may change. -/
theorem Dev.quiet_perf (b ev inst k : Nat) (hb : b < 5) (a : Dev) : Dev.Quiet a (a.perf b ev inst k) :=
  a.quiet_perfWith _ Dev.quiet_raise110 b ev inst k hb

/-- The clock of a block of counters changes nothing but what an event may change (R459). -/
theorem Dev.quiet_perfClock (n b : Nat) (hb : b < 5) (a : Dev) : Dev.Quiet a (a.perfClock n b) := by
  unfold Dev.perfClock
  split
  · exact .refl a
  · have : ∀ (l : List Nat), (∀ j ∈ l, j < 64) → ∀ d : Dev, Dev.Quiet d (l.foldl (fun x j =>
        if bit j (a.rd (0x8100 + b) 1) && n * a.perfRate b j != 0 then x.perfAdd Dev.raise110 b j (n * a.perfRate b j) else x) d) := by
      intro l
      induction l with
      | nil => intro _ d; exact .refl d
      | cons j l ih =>
        intro hl d
        refine Dev.Quiet.trans ?_ (ih (fun i hi => hl i (by simp [hi])) _)
        exact .ite (d.quiet_perfAdd _ Dev.quiet_raise110 b j _ hb (hl j (by simp))) (.refl d)
    exact this _ (by simp) a

/-- The clocks of the blocks of counters, as a moment comes. -/
theorem Dev.at_eq (t : Nat) (a : Dev) : ∃ b, Dev.Quiet a b ∧ a.at t = { b with now := t } := by
  refine ⟨_, ?_, rfl⟩
  have : ∀ (l : List Nat), (∀ b ∈ l, b < 5) → ∀ d : Dev, Dev.Quiet d (l.foldl (fun x b =>
      x.perfClock (if b = 4 then t * 3 / 4 - a.now * 3 / 4 else t - a.now) b) d) := by
    intro l
    induction l with
    | nil => intro _ d; exact .refl d
    | cons b l ih =>
      intro hl d
      exact (d.quiet_perfClock _ b (hl b (by simp))).trans (ih (fun i hi => hl i (by simp [hi])) _)
  exact this _ (by simp) a

/-- A moment that comes changes no register but what an event may change. -/
theorem Dev.rd_at (t i j : Nat) (hj : j < 256) (h : eventReg i j = false) (a : Dev) : (a.at t).rd i j = a.rd i j := by
  obtain ⟨b, hb, e⟩ := a.at_eq t
  rw [e]
  exact hb.rd i j hj h

/-- A pulse that enters a crossing changes nothing else (R410). -/
theorem Dev.quiet_setCrossing (k n t : Nat) (a : Dev) : Dev.Quiet a (a.setCrossing k n t) :=
  ⟨rfl, fun _ _ _ _ => rfl, fun _ _ h _ => h, id, rfl⟩

/-- An event that reaches the keystone changes nothing but what an event may change. -/
theorem Dev.quiet_hear (e : Nat) (he : e < 400) (a : Dev) : Dev.Quiet a (a.hear e) :=
  (Dev.quiet_raise0 e he _).trans (Dev.quiet_perf _ _ _ _ (by decide) _)

theorem Dev.quiet_setOverflow (b : Nat) (a : Dev) : Dev.Quiet a (a.setOverflow b) := by
  unfold Dev.setOverflow
  refine (Dev.Quiet.wr a 0x1200 5 _ (by decide) (by decide) (by simp)).trans (Dev.quiet_hear _ ?_ _)
  split
  · simp [quadEvent]; omega
  · decide

theorem Dev.quiet_crossCount (k : Nat) (hk : k < 400) (a : Dev) : Dev.Quiet a (a.crossCount k) := by
  unfold Dev.crossCount
  exact .ite ((a.quiet_setCrossing _ _ _).trans (Dev.quiet_hear _ hk _)) (.refl a)

/-- Raising an event of the part changes nothing but what an event may change. -/
theorem Dev.quiet_raise (e : Nat) (he : e < 400) (a : Dev) : Dev.Quiet a (a.raise e) := by
  unfold Dev.raise
  split
  · exact a.quiet_hear e he
  · refine (a.quiet_crossCount e he).trans ?_
    have deliver : ∀ (d : Dev) (n t : Nat), Dev.Quiet d ((d.setCrossing e n t).hear e) := fun d n t =>
      (d.quiet_setCrossing _ _ _).trans (Dev.quiet_hear _ he _)
    have again : ∀ (d : Dev) (p : Prop) [Decidable p] (n m t u : Nat),
        Dev.Quiet d ((if p then d.setCrossing e n t else d.setCrossing e m u).hear e) := fun d p _ n m t u =>
      (Dev.Quiet.ite (d.quiet_setCrossing _ _ _) (d.quiet_setCrossing _ _ _)).trans (Dev.quiet_hear _ he _)
    exact .ite (deliver _ _ _) (.ite (again _ _ _ _ _ _) (.ite (Dev.quiet_setCrossing _ _ _ _) (Dev.quiet_setOverflow _ _)))

theorem Dev.quiet_when (p : Bool) (f : Dev → Dev) (hf : ∀ d, Dev.Quiet d (f d)) (a : Dev) : Dev.Quiet a (when p f a) := by
  cases p
  · exact .refl a
  · exact hf a

/-- What an event leaves alone, register by register. -/
theorem Dev.rd_raise (e : Nat) (he : e < 400) (i j : Nat) (hj : j < 256) (h : eventReg i j = false) (a : Dev) :
    (a.raise e).rd i j = a.rd i j := (a.quiet_raise e he).rd i j hj h

theorem Dev.rd_perf (b ev inst k : Nat) (hb : b < 5) (i j : Nat) (hj : j < 256) (h : eventReg i j = false) (a : Dev) :
    (a.perf b ev inst k).rd i j = a.rd i j := (a.quiet_perf b ev inst k hb).rd i j hj h

/-- An event the keystone takes stands in STATUS of its group. -/
theorem Dev.status_hear (e : Nat) (he : e < 400) (a : Dev) : bit (e % 16) ((a.hear e).rd (0x1400 + e / 16) 1) = true := by
  have h0 : ∀ a : Dev, bit (e % 16) ((a.raise0 e).rd (0x1400 + e / 16) 1) = true := by
    intro a
    unfold Dev.raise0; simp only [Dev.count_eq]
    split
    · simp [Dev.rd_wr]
    · refine (Dev.Quiet.foldl _ (fun d k => d.quiet_notifyRaise _ _ k) _ _).status _ _ ?_ (by omega)
      split
      · simp [Dev.rd_wr]
      · refine (Dev.quiet_deliver _ _).status _ _ ?_ (by omega)
        simp [Dev.rd_wr]
  exact (Dev.quiet_perf _ _ _ _ (by decide) _).status _ _ (h0 _) (by omega)

/-- A raised event stands in STATUS of its group, with every event that stood there: its pulse is delivered, or is counted or lost behind one
that stands there (R410, R465). -/
theorem Dev.status_raise (e : Nat) (he : e < 400) (a : Dev) : bit (e % 16) ((a.raise e).rd (0x1400 + e / 16) 1) = true := by
  unfold Dev.raise
  split
  · exact a.status_hear e he
  · simp only
    split
    · exact Dev.status_hear e he _
    · split
      · exact Dev.status_hear e he _
      · next h =>
        have hb : bit (e % 16) ((a.crossCount e).rd (0x1400 + e / 16) 1) = true := by simpa using h
        split
        · exact hb
        · exact (Dev.quiet_setOverflow _ _).status _ _ hb (by omega)

theorem Dev.status_keeps (e : Nat) (he : e < 400) (a : Dev) (g x : Nat) (hg : g < 25) (h : bit x (a.rd (0x1400 + g) 1) = true) :
    bit x ((a.raise e).rd (0x1400 + g) 1) = true := (a.quiet_raise e he).status g x h hg

/-- Raising an event keeps the canonical form. -/
theorem Dev.wf_raise (e : Nat) (he : e < 400) (a : Dev) (h : Tbl.wf dflt a.dict = true) : Tbl.wf dflt (a.raise e).dict = true :=
  (a.quiet_raise e he).wf h

end Sys2Proof.Machine
end

