-- ==== Sys2Proof/Laws/Access.lean ====
section
/-! SUPPORT. Everything that a write of an object can do before and after its owner's effect: counting, waking, answering. -/
namespace Sys2Proof.Machine

/-- Counting an access changes nothing but what an event may change. -/
theorem Dev.quiet_accessed (r : Role) (d : Dev) : Dev.Quiet d (d.accessed r) := d.quiet_perf _ _ _ _ (by decide)

/-- What the owner meets differs from the block before in what counting may change only. -/
theorem Dev.quiet_atOwner (w : Wr) (d : Dev) : Dev.Quiet d (d.atOwner w) := d.quiet_accessed _

theorem Dev.rd_atOwner (i j : Nat) (w : Wr) (hj : j < 256) (h : eventReg i j = false) (d : Dev) : (d.atOwner w).rd i j = d.rd i j :=
  (d.quiet_atOwner w).rd i j hj h

/-! ## Waking a domain (R43, R405) -/

/-- A domain set going to ON: its two registers, and the list of domains on their way from RETAIN. -/
theorem Dev.warmUp_same (k : Nat) (d : Dev) : d.warmUp k = { d with dict := (d.warmUp k).dict, power := (d.warmUp k).power } := by
  unfold Dev.warmUp
  split <;> rfl

theorem Dev.rd_warmUp (k i j : Nat) (hk : k < 256) (hj : j < 256) (h : wakeReg i j = false) (d : Dev) : (d.warmUp k).rd i j = d.rd i j := by
  unfold Dev.warmUp
  split
  · have hn : ∀ j', j' = 1 ∨ j' = 2 → i * 256 + j ≠ (0x1100 + k) * 256 + j' := by
      intro j' hj' he
      have e1 : i = 0x1100 + k := by omega
      have e2 : j = j' := by omega
      subst e1 e2
      simp only [wakeReg, within, Bool.and_eq_false_iff, Bool.or_eq_false_iff, decide_eq_false_iff_not] at h
      omega
    exact (Dev.rd_wr_ne _ _ (hn 2 (by simp))).trans (Dev.rd_wr_ne _ _ (hn 1 (by simp)))
  · rfl

theorem Dev.rd_askOn (k i j : Nat) (hk : k < 256) (hj : j < 256) (h : wakeReg i j = false) (d : Dev) : (d.askOn k).rd i j = d.rd i j := by
  unfold Dev.askOn
  split
  · refine Dev.rd_wr_ne _ _ fun he => ?_
    have e1 : i = 0x1100 + k := by omega
    have e2 : j = 1 := by omega
    subst e1 e2
    simp [wakeReg, within] at h
    omega
  · exact Dev.rd_warmUp k i j hk hj h d

/-- Every domain's parent has a number below 256. -/
theorem parentOf_lt (k : Nat) (hk : k < 256) : parentOf k < 256 := by
  unfold parentOf
  split
  · rename_i h
    simp only [Bool.and_eq_true, decide_eq_true_eq] at h
    omega
  · omega

/-- A wake begun changes POWER_REQ and POWER_STATE of domains, nothing else among the registers. -/
theorem Dev.rd_wake (k i j : Nat) (hk : k < 256) (hj : j < 256) (h : wakeReg i j = false) (d : Dev) : (d.wake k).rd i j = d.rd i j := by
  unfold Dev.wake
  split
  · simp only
    split
    · refine (Dev.rd_wr_ne _ _ fun he => ?_).trans (Dev.rd_askOn _ i j (parentOf_lt k hk) hj h d)
      have e1 : i = 0x1100 + k := by omega
      have e2 : j = 1 := by omega
      subst e1 e2
      simp [wakeReg, within] at h
      omega
    · exact Dev.rd_warmUp k i j hk hj h d
  · rfl

/-! ## Answering -/

@[simp] theorem Dev.respond_answer (p : Path) (i j a ty len v : Nat) (d : Dev) :
    (d.respond p i j a ty len v).answer = ⟨a, ty, len, v⟩ := by
  by_cases ha : a = 0 <;> by_cases hp : p = .host <;> simp only [Dev.respond, Dev.lastAbort, ha, hp, if_true, if_false] <;> rfl

/-- The register table after an answer: LAST_ABORT of a refusal, nothing else. -/
theorem Dev.respond_dict (p : Path) (i j a ty len v : Nat) (d : Dev) :
    (d.respond p i j a ty len v).dict = if a = 0 then d.dict else (d.wr 0x1530 2 (i * 2 ^ 24 + j * 2 ^ 16 + a)).dict := by
  by_cases ha : a = 0 <;> by_cases hp : p = .host <;> simp only [Dev.respond, Dev.lastAbort, ha, hp, if_true, if_false] <;> rfl

/-- Answering touches the answer, LAST_ABORT and ENTRY_STATUS only. -/
theorem Dev.respond_same (p : Path) (i j a ty len v : Nat) (d : Dev) :
    d.respond p i j a ty len v = { d with answer := ⟨a, ty, len, v⟩, dict := (d.respond p i j a ty len v).dict,
                                          bar0 := (d.respond p i j a ty len v).bar0 } := by
  by_cases ha : a = 0 <;> by_cases hp : p = .host <;> simp only [Dev.respond, Dev.lastAbort, Dev.wr, ha, hp, if_true, if_false]

theorem Dev.rd_of_dict {a b : Dev} (h : a.dict = b.dict) (i j : Nat) : a.rd i j = b.rd i j := by unfold Dev.rd; rw [h]

/-- An accepted access changes no register by its answer. -/
@[simp] theorem Dev.rd_respond_zero (p : Path) (i j ty len v i' j' : Nat) (d : Dev) :
    (d.respond p i j 0 ty len v).rd i' j' = d.rd i' j' :=
  Dev.rd_of_dict (by rw [Dev.respond_dict, if_pos rfl]) _ _

/-- A refused access changes LAST_ABORT alone by its answer. -/
theorem Dev.rd_respond (p : Path) (i j a ty len v i' j' : Nat) (h : i' * 256 + j' ≠ 0x1530 * 256 + 2) (d : Dev) :
    (d.respond p i j a ty len v).rd i' j' = d.rd i' j' := by
  by_cases ha : a = 0
  · exact Dev.rd_of_dict (by rw [Dev.respond_dict, if_pos ha]) _ _
  · exact (Dev.rd_of_dict (by rw [Dev.respond_dict, if_neg ha]) _ _).trans (Dev.rd_wr_ne _ _ h)

theorem Dev.wf_respond (p : Path) (i j a ty len v : Nat) (d : Dev) (h : Tbl.wf dflt d.dict = true) :
    Tbl.wf dflt (d.respond p i j a ty len v).dict = true := by
  rw [Dev.respond_dict]
  split
  · exact h
  · exact Dev.wr_wf _ _ _ _ h

/-! ## The write as a whole -/

/-- An access that no armed injection meets crosses its link as it is. -/
theorem Dev.linkMeets_none (i j : Nat) (d : Dev) (h : d.linkHit i j = none) : d.linkMeets i j = d := by
  unfold Dev.linkHit at h
  unfold Dev.linkMeets
  split
  · rename_i q hq
    rw [hq] at h
    unfold Dev.linkAttempt
    rw [show d.linkErr q = none from h]
  · rfl

/-- A write that reaches the dictionary, waits for no link and meets no injection there is performed. -/
theorem Dev.write_performed (eff : Eff) (i j : Nat) (w : Wr) (d : Dev) (h1 : d.reaches w.path = true) (h2 : d.linkHolds i j = none)
    (h3 : d.linkHit i j = none) : d.write eff i j w = d.doWrite eff w.path i j w.ty w.len w.value := by
  unfold Dev.write
  simp only [d.linkMeets_none i j h3, h1, h2, Bool.not_true, Bool.false_eq_true, if_false]

/-- A write refused before its owner's checks is answered with that code and does nothing else; where the objects it acts by name the domain,
POWERED_OFF stands before a type or range refusal (R79). -/
theorem Dev.doWrite_refused (eff : Eff) (p : Path) (i j ty len v : Nat) (d : Dev)
    (h : (d.accessed (d.roleOf p)).writeAbort (d.roleOf p) i j ty len v ≠ 0) :
    ∃ a, d.doWrite eff p i j ty len v = (d.accessed (d.roleOf p)).respond p i j a 0 0 0 ∧ a ≠ 0 ∧
      (namesDomain i j = false → a = (d.accessed (d.roleOf p)).writeAbort (d.roleOf p) i j ty len v) := by
  unfold Dev.doWrite
  simp only [bne_iff_ne, ne_eq, h, not_false_eq_true, if_true]
  refine ⟨_, rfl, ?_, fun hn => by simp [hn]⟩
  split
  · decide
  · exact h

/-- A write that its owner takes and whose domain is in RETAIN is answered 0 and waits while the domain wakes (R43, R405). -/
theorem Dev.doWrite_waits (eff : Eff) (p : Path) (i j ty len v k : Nat) (d : Dev)
    (h3 : (d.accessed (d.roleOf p)).writeAbort (d.roleOf p) i j ty len v = 0)
    (h4 : (d.accessed (d.roleOf p)).absorbedAt i = false) (h5 : (d.accessed (d.roleOf p)).isPending i j = false)
    (h6 : (d.accessed (d.roleOf p)).wakesFor i j = some k) (h7 : (eff (d.roleOf p) v (d.accessed (d.roleOf p))).1 = 0) :
    d.doWrite eff p i j ty len v =
      { ((d.accessed (d.roleOf p)).wake k).respond p i j 0 0 0 0 with
        wakeWaits := (((d.accessed (d.roleOf p)).wake k).respond p i j 0 0 0 0).wakeWaits ++ [⟨k, i, j, ⟨p, ty, len, v⟩, false, none⟩] } := by
  unfold Dev.doWrite
  simp only [h3, h4, h5, h6, h7, bne_self_eq_false, Bool.false_eq_true, if_false, if_true]

/-- A write that comes as far as its owner, its domain not in RETAIN: the owner's effect, answered with its abort code. -/
theorem Dev.doWrite_owner (eff : Eff) (p : Path) (i j ty len v : Nat) (d : Dev)
    (h3 : (d.accessed (d.roleOf p)).writeAbort (d.roleOf p) i j ty len v = 0)
    (h4 : (d.accessed (d.roleOf p)).absorbedAt i = false) (h5 : (d.accessed (d.roleOf p)).isPending i j = false)
    (h6 : (d.accessed (d.roleOf p)).wakesFor i j = none) :
    d.doWrite eff p i j ty len v =
      (eff (d.roleOf p) v (d.accessed (d.roleOf p))).2.respond p i j (eff (d.roleOf p) v (d.accessed (d.roleOf p))).1 0 0 0 := by
  unfold Dev.doWrite
  simp only [h3, h4, h5, h6, bne_self_eq_false, Bool.false_eq_true, if_false, ite_self]

/-- What a heard write has met. -/
theorem Dev.hears_parts (i j : Nat) (w : Wr) (d : Dev) (h : d.hears i j w = true) :
    d.reaches w.path = true ∧ d.linkHolds i j = none ∧ d.linkHit i j = none ∧
    (d.accessed (d.roleOf w.path)).writeAbort (d.roleOf w.path) i j w.ty w.len w.value = 0 ∧
    (d.accessed (d.roleOf w.path)).absorbedAt i = false ∧ (d.accessed (d.roleOf w.path)).isPending i j = false ∧
    (d.accessed (d.roleOf w.path)).wakesFor i j = none := by
  unfold Dev.hears at h
  simp only [Bool.and_eq_true, Bool.not_eq_true', decide_eq_true_eq, Option.isNone_iff_eq_none] at h
  obtain ⟨⟨⟨⟨⟨⟨h1, h2⟩, h0⟩, h3⟩, h4⟩, h5⟩, h6⟩ := h
  exact ⟨h1, h2, h0, h3, h4, h5, h6⟩

/-- A write that its owner meets: the owner's effect, answered with its abort code. -/
theorem Dev.write_hears (eff : Eff) (i j : Nat) (w : Wr) (d : Dev) (h : d.hears i j w = true) :
    d.write eff i j w =
      (eff (d.roleOf w.path) w.value (d.atOwner w)).2.respond w.path i j (eff (d.roleOf w.path) w.value (d.atOwner w)).1 0 0 0 := by
  obtain ⟨h1, h2, h0, h3, h4, h5, h6⟩ := d.hears_parts i j w h
  unfold Dev.atOwner
  rw [Dev.write_performed eff i j w d h1 h2 h0]
  exact Dev.doWrite_owner eff w.path i j w.ty w.len w.value d h3 h4 h5 h6

end Sys2Proof.Machine
end

