-- ==== Sys2Proof/Tests/Slice0.lean ====
section
/-! SUPPORT. The model's own tests: ill-formed commands that the check refuses, one small step of each family with a result taken from the
spec's text, and a witness for every statement of Certificates/Slice0/Obligations.lean. -/
namespace Sys2Proof.Machine

set_option Elab.async false

/-- A write by the control cluster of `v` to object `i.j`, with the type and length of its row. -/
def wOf (i j v : Nat) : Wr :=
  match objAt i j with
  | some (_, _, r) => ⟨.cluster, r.ty.code, r.ty.size, v⟩
  | none => ⟨.cluster, 0, 0, v⟩

/-- The block after reset with the domains of `l` ON. -/
def onDoms (l : List Nat) : Dev := l.foldl (fun d k => d.wr (0x1100 + k) 2 2) Dev.reset

/-- The block after reset with the first slices and lanes of quadrant 0, the last slices, every table and buffer domain, the stacks, the
transports and the time unit ON. -/
def allOn : Dev := onDoms [0, 8, 16, 24, 32, 33, 66, 67, 100, 101, 109, 117, 134, 135, 137, 138, 140, 141]

/-- The block after reset with pair `n` formed as a frame port of one 25GbE lane, its lanes in LANE_STATE `st`. -/
def pairAt (n st : Nat) : Dev :=
  ((((allOn.wr (0x2000 + n) 1 1).wr (0x2000 + n) 5 2).wr (0x2200 + n) 1 st).wr (0x2300 + n) 1 st)

/-- A frame of 60 bytes at pair `n`, channel `c`. -/
def aFrame (line : Bool) (n c : Nat) (prot : Bool) : Frame :=
  ⟨1, line, n, c, 0, List.replicate 60 0, .good, prot, false, false, 0, 0, .none, false, false, none⟩

/-- A frame in a D-slice for RX channel `c` of pair `n`, not encrypted, on a channel that does not validate. -/
def aHeld (n c : Nat) : Held := ⟨aFrame true n c true, c, 9, 0, [], 1, false, false, [], List.replicate 48 0, [], 0, 48, false⟩

/-- Pair `n` in PASS mode with both sides UP; channel 1 serves it toward the line and names SA 7, channel 2 toward the system. -/
def passPair (n : Nat) : Dev :=
  ((((((((pairAt n lnLocked).wr (0x2000 + n) 1 3).wr (0x2000 + n) 0x20 3).wr (0x2100 + n) 4 3).wr (0x2400 + n) 0x10 1).wr (0x2400 + n)
    0x11 2).wr 0x5000 0xDF 100).setChan 1 (n * 2 ^ 64 + 2 ^ 73 + 2 ^ 74 + 7 * 2 ^ 128 + 2 ^ 143)).setChan 2 (n * 2 ^ 64 + 2 ^ 72 + 2 ^ 73)

/-- The same with a frame in queue `x`. -/
def queued (x n : Nat) : Dev := (passPair n).setQ x { Queue.init with sram := [aFrame (x = 16) n (x / 8) false] }

/-- Pair `n` formed as a carrier of one lane in ALIGNING, its line side UP. -/
def carrierPair (n : Nat) : Dev :=
  (((pairAt n lnLocked).wr (0x2000 + n) 1 2).wr (0x2000 + n) 0x20 3).wr (0x2500 + n) 0x10 1

/-- A job of code `code` for SA or anchor `target` from slot `slot`. -/
def aJob (code : Nat) (win : Option Nat) (target slot : Nat) : Job :=
  { code := code, win := win, role := .boot, core := 0, slot := slot, target := target, ctxA := 1, ctxB := 0, param := 0, data := [],
    dataAddr := 0, own := false, started := false, pos := 0, derived := 0, skipped := 0, stop := false, out := [] }

/-- Window 3 of the planishers holding job `code` for planisher 0 and SA 9, from test key 0x81. -/
def loaded (code : Nat) : Dev :=
  (((allOn.wr 0x3063 1 code).wr 0x3063 2 0).wr 0x3063 3 0x81).wr 0x3063 4 9

/-- Table 0 with one entry of key 0 at place `l` of its bucket under seeds that put it there. -/
def tabled (l : Nat) : Dev := { allOn with slots := [(4 * hashKey 0xFFFFFFFF 0 + l % 4, ⟨0, 0, 5, 1⟩)] }

/-- Table-DMA ring 0 with one descriptor posted, the endpoint up, table `k` locked by HOST. -/
def dmaReady (k : Nat) : Dev :=
  let d := onDoms [32, 139]
  ({ d with boot := { d.boot with configReady := true } } : Dev).setRing 128 { Ring.init with base := 4096, size := 6, prod := 1, enable := true }
    |>.setTab k { Tab.init with lock := some (.host, 9) }

/-- The block with DAP served from key slot 7 on both transports, every role holding every right. -/
def dapUp : Dev :=
  let d := (((((onDoms [139, 140]).wr 0x1510 5 7).wr 0x1520 4 7).wr 0x3017 1 4).wr 0x3017 2 1).wr 0x1300 3 0x1E1E1E1E
  ({ d with boot := { d.boot with ready := true, configReady := true } } : Dev).setSlotKey 7 (some 5)

/-- An open session of role `r`, ID 9. -/
def aSession (r : Role) : Session := ⟨r, 9, List.replicate 32 1, 5, 0, 0, 3, []⟩

/-- The same with one session of role `r` open. -/
def opened (r : Role) : Dev := { dapUp with dap := { dapUp.dap with sessions := [aSession r] } }

/-- The message of a READ of ROUTE of event group `g` on session 9 with sequence number `q`. -/
def readMessage (g q : Nat) : List Byte := dapMsg (List.replicate 32 1) 1 9 q 0 (bodyHead (0x1400 + g) 4 0)

/-! ## Commands that name no instance of the part are ill formed -/

/-- Operands one past the last instance. -/
theorem test_ill_formed_1 :
    (([
     (.ringDoorbell 136 0), (.ringFlush 64), (.punt 4 0 0 0), (.punt 0 64 0 0), (.injectDescriptor 64 0 0 0 0 0 [] 0),
      (.portCompat 256 ⟨.host, 0, 0, 0⟩), (.portWidth 256 ⟨.host, 0, 0, 0⟩), (.portMode 256 ⟨.host, 0, 0, 0⟩),
      (.portModeOff 256 ⟨.host, 0, 0, 0⟩), (.signalDetect 512), (.cdrLock 512), (.cdrLockTimeout 512), (.adaptComplete 512),
      (.laneLockLost 512), (.firstLock 512 [] []), (.linkFaultReceived 512 0)] : List Instr).all fun c => !c.wf) = true := by decide

/-- Operands one past the last instance. -/
theorem test_ill_formed_2 :
    (([
     (.codewordLock 512 [] false), (.prbsPattern 512 ⟨.host, 0, 0, 0⟩), (.prbsCheck 512 ⟨.host, 0, 0, 0⟩), (.prbsLock 512 []),
      (.prbsClear 512 ⟨.host, 0, 0, 0⟩), (.prbsInsert 512 ⟨.host, 0, 0, 0⟩), (.portPowerIdle 512 ⟨.host, 0, 0, 0⟩),
      (.fastExit 512 ⟨.host, 0, 0, 0⟩), (.fastRelockTimeout 512), (.idleRetainExpiry 512), (.verdict 64 0),
      (.causeClear (.pair 256) 0 ⟨.host, 0, 0, 0⟩), (.causeClear (.carrier 256) 0 ⟨.host, 0, 0, 0⟩),
      (.causeClear (.table 16) 0 ⟨.host, 0, 0, 0⟩), (.causeClear (.buffer 4) 0 ⟨.host, 0, 0, 0⟩),
      (.causeClear (.calendar 64) 0 ⟨.host, 0, 0, 0⟩)] : List Instr).all fun c => !c.wf) = true := by decide

/-- Operands one past the last instance. -/
theorem test_ill_formed_3 :
    (([
     (.causeEnable (.pair 256) ⟨.host, 0, 0, 0⟩), (.carrierFrameTx 256 0 [] ⟨0, 0, 0, 0, 0, 0⟩), (.laneWordRx 256 0 [] 0 none []),
      (.carrierFrameRx 256 [] ⟨0, 0, 0, 0, 0, 0⟩), (.carrierVerdict 256), (.losDeclare 256), (.losClear 256), (.lofDeclare 256),
      (.lofClear 256), (.carrierStart 256), (.carrierRunning 256), (.carrierKeyLoaded 256), (.loadNext 256 ⟨.host, 0, 0, 0⟩),
      (.switchNow 256 ⟨.host, 0, 0, 0⟩), (.switchAtTime 256 ⟨.host, 0, 0, 0⟩), (.epochHighClear 256 ⟨.host, 0, 0, 0⟩)] : List Instr).all fun c => !c.wf) = true := by decide

/-- Operands one past the last instance. -/
theorem test_ill_formed_4 :
    (([
     (.erase 64 ⟨.host, 0, 0, 0⟩), (.usage 64 ⟨.host, 0, 0, 0⟩), (.keyBusTransfer 5 false), (.deriveSa 8 .host 0), (.deriveSa 0 .host 4),
      (.rekeyBatch 8 .host 0), (.rekeyBatch 0 .host 4), (.rekeyBatchContinue 5), (.rootLoad 8 .host 0), (.rootLoad 0 .host 4),
      (.unwrapBlob 8 .host 0), (.unwrapBlob 0 .host 4), (.mkaKeys 8 .host 0), (.mkaKeys 0 .host 4), (.mkaIcv 8 .host 0),
      (.mkaIcv 0 .host 4)] : List Instr).all fun c => !c.wf) = true := by decide

/-- Operands one past the last instance. -/
theorem test_ill_formed_5 :
    (([
     (.randomSak 8 .host 0), (.randomSak 0 .host 4), (.unwrapSak 8 .host 0), (.unwrapSak 0 .host 4), (.hashkey 8 .host 0),
      (.hashkey 0 .host 4), (.testLoad 8 .host 0), (.testLoad 0 .host 4), (.jobStart 5), (.cancel 8 ⟨.host, 0, 0, 0⟩),
      (.configure 16 .host), (.saRead 16 .host), (.setThreshold 16 .host), (.setPn 16 .host), (.saErase 16 .host),
      (.notePop 4 ⟨.host, 0, 0, 0⟩)] : List Instr).all fun c => !c.wf) = true := by decide

/-- Operands one past the last instance. -/
theorem test_ill_formed_6 :
    (([
     (.schedSubmit 4 ⟨.host, 0, 0, 0⟩), (.schedCancel 4 ⟨.host, 0, 0, 0⟩), (.changeover 4), (.txRetire 65536), (.retireDelayExpiry 65536),
      (.mkaBindingEnable 64 ⟨.host, 0, 0, 0⟩), (.lookup 64 .host), (.insert 64 .host), (.update 64 .host), (.delete 64 .host),
      (.readSlot 64 .host), (.readEntry 64 .host false), (.stashDrain 16), (.migrate 16 ⟨.host, 0, 0, 0⟩), (.migrationStep 16),
      (.lock 16 ⟨.host, 0, 0, 0⟩ 0)] : List Instr).all fun c => !c.wf) = true := by decide

/-- Operands one past the last instance. -/
theorem test_ill_formed_7 :
    (([
     (.lockRelease 16 ⟨.host, 0, 0, 0⟩), (.leaseExpiry 16), (.plumbSet 16 ⟨.host, 0, 0, 0⟩), (.plumbPass 16),
      (.learnPop 4 ⟨.host, 0, 0, 0⟩), (.queueWindowRead 16 0 .host), (.queueWindowWrite 16 0 .host), (.queueWindowStatus 16 0 .host),
      (.flush 16 0 .host), (.poolOwner 4 0 ⟨.host, 0, 0, 0⟩), (.poolOwner 0 15 ⟨.host, 0, 0, 0⟩), (.readback 262144 0),
      (.schedulerSelect 512 0 0), (.frameEndCharge 512 0), (.stackFailed 2), (.configChange 512 ⟨.host, 0, 0, 0⟩)] : List Instr).all fun c => !c.wf) = true := by decide

/-- Operands one past the last instance. -/
theorem test_ill_formed_8 :
    (([
     (.configCancel 512 ⟨.host, 0, 0, 0⟩), (.gateTakeover 512 0), (.gateTransition 512 0), (.gateEnable 512 0 ⟨.host, 0, 0, 0⟩),
      (.samplePassStart 4 0 false), (.sampleVisit 4 0 false), (.sampleSize 4 ⟨.host, 0, 0, 0⟩ 0), (.slotVisit 64 0),
      (.swap 64 ⟨.host, 0, 0, 0⟩), (.swapAtWrap 64), (.hotEdit 64 ⟨.host, 0, 0, 0⟩), (.bgBase 64 false ⟨.host, 0, 0, 0⟩), (.bgWait 64 0),
      (.bgWaitClear 64 ⟨.host, 0, 0, 0⟩), (.tsPop 512 ⟨.host, 0, 0, 0⟩), (.function 8 ⟨.host, 0, 0, 0⟩)] : List Instr).all fun c => !c.wf) = true := by decide

/-- Operands one past the last instance. -/
theorem test_ill_formed_9 :
    (([
     (.pulseEdge 8), (.eventAtTime 8), (.powerReq 142 ⟨.host, 0, 0, 0⟩), (.domainTransitionDone 142 0), (.domainFault 142),
      (.pllLocked 8), (.pllLockLoss 8), (.refclkWindow 8 0 false), (.pulseOverflow 8), (.tamperAlarmEnd 13), (.wakeOnEdge 5 0 false 0),
      (.fuseBlow 13 ⟨.host, 0, 0, 0⟩), (.creditMarker 70 false 0 0 0), (.select 8 0 ⟨.host, 0, 0, 0⟩), (.clearMask 8 ⟨.host, 0, 0, 0⟩),
      (.pcEnable 5 ⟨.host, 0, 0, 0⟩)] : List Instr).all fun c => !c.wf) = true := by decide

/-- Operands one past the last instance. -/
theorem test_ill_formed_10 :
    (([
     (.pcClear 5 ⟨.host, 0, 0, 0⟩), (.pcSaturatedClear 5 ⟨.host, 0, 0, 0⟩), (.pcSaturation 5 0), (.pcSaturation 0 64), (.eventRaise 400),
      (.clear 25 [] ⟨.host, 0, 0, 0⟩), (.mask 25 ⟨.host, 0, 0, 0⟩), (.wdExpiry 4 0), (.coreRestart 4), (.fence 64 ⟨.host, 0, 0, 0⟩),
      (.sliceInternalFault 64 0), (.sliceInternalFault 0 4), (.unfence 64 ⟨.host, 0, 0, 0⟩), (.unfenceComplete 64 false),
      (.faultClear 64 ⟨.host, 0, 0, 0⟩), (.linkReset 4)] : List Instr).all fun c => !c.wf) = true := by decide

/-- Operands one past the last instance. -/
theorem test_ill_formed_11 :
    (([
     (.linkRetrained 4 0), (.linkAccessTimeout 4), (.loopback 256 ⟨.host, 0, 0, 0⟩), (.tgStart 4 ⟨.host, 0, 0, 0⟩),
      (.tgStop 4 ⟨.host, 0, 0, 0⟩), (.powerOnReset false 4), (.softReset false 4 ⟨.host, 0, 0, 0⟩), (.gpioFunc 16 ⟨.host, 0, 0, 0⟩),
      (.stackTrainingDone 2 false), (.resetRelease false 4)] : List Instr).all fun c => !c.wf) = true := by decide

/-! ## Published results of the standards that the spec names -/

/-- "123456789", the customary check input of a CRC. -/
def checkInput : Bytes := [0x31, 0x32, 0x33, 0x34, 0x35, 0x36, 0x37, 0x38, 0x39]

/-- The Ethernet CRC of the check input (the catalogued check value of CRC-32). -/
theorem test_crc32 : crc32 checkInput = 0xCBF43926 := by decide +kernel

/-- The CRC-32C of the check input, before its final inversion (the catalogued check value of CRC-32C). -/
theorem test_crc32c : crc32c 0xFFFFFFFF checkInput ^^^ 0xFFFFFFFF = 0xE3069283 := by decide +kernel

/-- AES-128: the example vector of FIPS 197, appendix C.1. -/
theorem test_aes128 : beN (aesBlk (roundKeys (List.range 16)) ((List.range 16).map (fun i => 17 * i))) =
    0x69C4E0D86A7B0430D8CDB78070B4C55A := by decide +kernel

/-- AES-256: the example vector of FIPS 197, appendix C.3. -/
theorem test_aes256 : beN (aesBlk (roundKeys (List.range 32)) ((List.range 16).map (fun i => 17 * i))) =
    0x8EA2B7CA516745BFEAFC49904B496089 := by decide +kernel

/-- AES-CMAC: example 2 of RFC 4493. -/
theorem test_cmac : ofBE (cmac (toBE 16 0x2B7E151628AED2A6ABF7158809CF4F3C) (toBE 16 0x6BC1BEE22E409F96E93D7E117393172A)) =
    0x070A16B46B4D4144F79BDD9DD04A287C := by decide +kernel

/-- AES-GCM: test case 2 of the GCM submission (zero key, IV and block). -/
theorem test_gcm : ofBE (gcmText (toBE 16 0) (toBE 12 0) (toBE 16 0)) = 0x0388DACE60B6A392F328C2B971B2FE78 ∧
    ofBE (gcmTag (toBE 16 0) (toBE 12 0) [] (toBE 16 0x0388DACE60B6A392F328C2B971B2FE78)) = 0xAB6E47D42CEC13BDF53A67B21257BDDF := by
  decide +kernel

/-- FIPS 180-4: SHA-384 of "abc". -/
theorem test_sha384 : sha384 [0x61, 0x62, 0x63] =
    0xCB00753F45A35E8BB5A03D699AC65007272C32AB0EDED1631A8B605A43FF5BED8086072BA1E7CC2358BAECA134C825A7 := by decide +kernel

/-- Twice the base point of P-384, worked out from the curve's equation. -/
theorem test_p384 : ecMul 2 2 (some ecG) = some
    (0x8D999057BA3D2D969260045C55B97F089025959A6F434D651D207D19FB96E9E4FE0E86EBE0E64F85B96A9C75295DF61,
     0x8E80F1FA5B1B3CEDB7BFE8DFFD6DBA74B275D875BC6CC43E904E505F256AB4255FFD43E94D39E22D61501E700A940E80) := by
  decide +kernel

/-! ## Small steps -/

/-- The abort code that a command answers with. -/
def answerOf (o : Out) : Option Nat :=
  match o with
  | .next t => some t.dev.answer.abort
  | _ => none

/-- R42, R79: an index without an object, and a subindex that its object lacks. -/
theorem test_no_object : answerOf (execDictionaryWrite 0x1FFF 1 0 (wOf 0x1FFF 1 0) ⟨[], allOn⟩) = some 0xA100 ∧
    answerOf (execDictionaryWrite 0x2000 0xEE 0 (wOf 0x2000 0xEE 0) ⟨[], allOn⟩) = some 0xA101 := by decide +kernel

/-- R43, R79: after reset the lane domains are OFF; with them ON, a value of the wrong length, then one out of range. -/
theorem test_refused_writes : answerOf (execPrbsPattern 0 (wOf 0x2200 0xA 1) ⟨[], Dev.reset⟩) = some 0xA10D ∧
    answerOf (execPortMode 0 ⟨.cluster, 2, 2, 1⟩ ⟨[], allOn⟩) = some abType ∧
    answerOf (execPortMode 0 (wOf 0x2000 1 9) ⟨[], allOn⟩) = some abRange := by decide +kernel

/-- R25: the event of pair 255 is E391, bit 7 of group 24. -/
theorem test_event_of_pair : eventExists 391 = true ∧ bit 7 ((Dev.reset.raise 391).rd 0x1418 1) = true := by decide +kernel

/-- R72: with 100 as the highest number accepted, 101 is new, 100 is a replay, 37 is within the window and 36 is not. -/
theorem test_sequence_window :
    ([101, 100, 37, 36].map (fun q => ({ aSession .oob with high := 100, seen := 0 } : Session).takes q)) = [true, false, true, false] := by
  decide

/-- R20: queue 65,535 belongs to channel 8,191 of quadrant 0, whose frames are stored in quadrant 0's buffer. -/
theorem test_cells : cellsOf 256 = 1 ∧ cellsOf 257 = 2 ∧ eSliceOf 255 = 55 ∧ dSliceOf 255 = 63 := by decide

/-- An MKPDU as IEEE 802.1X-2020, 11.11 lays it out: version 3, priority 0x10, key server, SCI 0xA1, member 7 with message 4, one byte of
CKN; live peer 9 with message 2. -/
def anMkpdu : Bytes :=
  toBE 6 0x0180C2000003 ++ toBE 6 0 ++ [0x88, 0x8E, 3, 5] ++ toBE 2 72 ++
    ([3, 0x10, 0xF0, 29] ++ toBE 8 0xA1 ++ toBE 12 7 ++ toBE 4 4 ++ toBE 4 0x0080C201 ++ [0x55, 0, 0, 0]) ++
    ([1, 0, 0, 16] ++ toBE 12 9 ++ toBE 4 2)

/-- R250: what an MKPDU says, and that its ICV is its last 16 bytes. -/
theorem test_mkpdu : readPdu anMkpdu = some ⟨0x10, 0xA1, 7, 4, [0x55], [(9, 2)], none, none⟩ ∧
    mkaSplit (anMkpdu ++ toBE 16 3) = some (anMkpdu, toBE 16 3) := by decide +kernel

/-- R470, R471: a core with a timeout of 10 ms that was kicked in cycle 100 expires 16,000,000 cycles later and not before. -/
theorem test_watchdog :
    let d := (allOn.wr 0x141A 1 1).wr 0x141A 2 10
    let k := (effKick .firm 0 { d with now := 100, boot := { d.boot with clusterRuns := true } }).2
    (k.wdTime 0 16000099).wdHeld = [] ∧ (k.wdTime 0 16000100).wdHeld = [0] := by decide +kernel

/-- R151, R454: RECLAIM frees the cells of a frame that awaits its verdict in hold mode, and counts them. -/
theorem test_reclaim :
    let h : Held := { aHeld 0 2 with frame := { aFrame true 0 2 true with wait := .whole } }
    let d := ((passPair 0).admission 0 h.frame).setInD 8 [h]
    let r := ({ d with assay := { d.assay with reclaiming := some 8 } } : Dev).reclaimDone
    r.ctr 9 0 3 = 1 ∧ r.rd 0x5000 0xCB = d.rd 0x5000 0xCB + 1 ∧ (r.queue 16).sram = [] := by decide +kernel

/-- The machine runs: a command at the front of the queue is taken by one step. -/
theorem test_step : ((State.run ⟨[.canReassemblyTimeout], Dev.reset⟩ 1).map (·.pending)) = some [] := by decide +kernel

/-! ## Witnesses of the statements -/

/-- A state whose queue is empty. -/
theorem witness_step_takes_the_front_command : State.reset.pending = [] := rfl

/-- A well-formed command and an ill-formed one. -/
theorem witness_commands_complete_unless_they_name_no_instance :
    (Instr.laneLockLost 511).wf = true ∧ (Instr.laneLockLost 512).wf = false := by decide

/-- A state with two well-formed commands waiting. -/
theorem witness_sound_queues_run_to_their_end : State.sound ⟨[.laneLockLost 5, .mgmtLinkChange], Dev.reset⟩ := by
  intro c h; simp at h; rcases h with rfl | rfl <;> rfl

/-- The block after reset has the form, and a step from it with a command waiting answers a next state. -/
theorem witness_registers_stay_in_their_canonical_form :
    Tbl.wf dflt Dev.reset.dict = true ∧ (∃ t, step ⟨[.behaviourLevel (wOf 0x1003 1 1)], Dev.reset⟩ = .next t) :=
  ⟨by decide +kernel, _, rfl⟩

/-- The block after reset has the form, and so has one that holds an entry; a step from it with a command waiting answers a next state. -/
theorem witness_tables_stay_in_their_canonical_form :
    Dev.reset.canonical = true ∧ (tabled 0).canonical = true ∧ (∃ t, step ⟨[.laneLockLost 5], tabled 0⟩ = .next t) :=
  ⟨by decide +kernel, by decide +kernel, _, rfl⟩

/-- A register, a lane and a group that the clauses speak of. -/
theorem witness_reset_leaves_the_block_at_its_defaults : (5 : Nat) < 256 ∧ (0x2005, 1) ≠ (0x304F, 2) ∧ (0x2005, 1) ≠ (0x5003, 0xC2) ∧ (0x2005, 1) ≠ (0x7800, 1) := by decide

/-- A state and operands that meet the hypotheses of each clause of RefusedWritesAreAnsweredAndDoNothingElse. -/
theorem witness_refused_writes_are_answered_and_do_nothing_else :
  (fun (i j _t : Nat) (w : Wr) (s : State) => j < 256 ∧ s.dev.reaches w.path = true ∧ s.dev.linkHolds i j = none ∧
    s.dev.linkHit i j = none ∧ (s.dev.accessed (s.dev.roleOf w.path)).writeAbort (s.dev.roleOf w.path) i j w.ty w.len w.value ≠ 0)
    0x2005 1 9 (wOf 0x2005 1 9) ⟨[], allOn⟩ ∧
  (fun (i j _t : Nat) (w : Wr) (s : State) => within 0x1300 256 i = true ∧ (objAt i j).isSome = true ∧ s.dev.boot.sealed = true ∧
    s.dev.reaches w.path = true ∧ s.dev.linkHolds i j = none ∧ s.dev.linkHit i j = none)
    0x1300 3 9 (wOf 0x1300 3 9) ⟨[], { allOn with boot := { allOn.boot with sealed := true } }⟩ ∧
  (fun (i j _t : Nat) (w : Wr) (s : State) => insts i = [] ∧ objAt i j = none ∧ s.dev.reaches w.path = true ∧ s.dev.linkHolds i j = none ∧
    s.dev.linkHit i j = none) 0x1FFF 1 9 (wOf 0x1FFF 1 9) ⟨[], allOn⟩ ∧
  (fun (i j _t : Nat) (w : Wr) (s : State) => insts i ≠ [] ∧ objAt i j = none ∧ j ≠ 0 ∧ s.dev.reaches w.path = true ∧
    s.dev.linkHolds i j = none ∧ s.dev.linkHit i j = none) 0x2005 0xEE 9 (wOf 0x2005 1 9) ⟨[], allOn⟩ := by
  refine ⟨?_, ?_, ?_, ?_⟩ <;> decide +kernel


/-- A state and operands that meet the hypotheses of each clause of ZeroiseStartsOnlyOnItsValue. -/
theorem witness_zeroise_starts_only_on_its_value :
  (fun (w : Wr) (s : State) => s.dev.hears 0x3000 1 w = true ∧ w.value = 0x5A45524F ∧ s.dev.rd 0x3000 2 ≠ 1)
    (wOf 0x3000 1 0x5A45524F) ⟨[], allOn⟩ ∧
  (fun (w : Wr) (s : State) => s.dev.reaches w.path = true ∧ s.dev.linkHolds 0x3000 1 = none ∧ s.dev.linkHit 0x3000 1 = none ∧
    (s.dev.accessed (s.dev.roleOf w.path)).writeAbort (s.dev.roleOf w.path) 0x3000 1 w.ty w.len 0x5A45524F = 0 ∧ w.value < 2 ^ 32 ∧
    w.value ≠ 0x5A45524F) (wOf 0x3000 1 5) ⟨[], allOn⟩ := by
  refine ⟨?_, ?_⟩ <;> decide +kernel

/-- A state and operands that meet the hypotheses of each clause of PortCompatFollowsTheBehaviourLevel. -/
theorem witness_port_compat_follows_the_behaviour_level :
  (fun (n : Nat) (s : State) => n < 256 ∧ s.dev.rd (0x2000 + n) 3 = 1) 5 ⟨[], allOn.wr 0x2005 3 1⟩ ∧
  (fun (n : Nat) (s : State) => n < 256 ∧ s.dev.levelDev = 1) 5 ⟨[], allOn.wr 0x1003 1 1⟩ ∧
  (fun (n : Nat) (w : Wr) (s : State) => n < 256 ∧ s.dev.hears (0x2000 + n) 3 w = true ∧ w.value = 0 ∧ s.dev.levelDev = 1)
    5 (wOf 0x2005 3 0) ⟨[], allOn.wr 0x1003 1 1⟩ ∧
  (fun (n : Nat) (w : Wr) (s : State) => n < 256 ∧ s.dev.hears (0x2000 + n) 3 w = true ∧ ((w.value = 0 → s.dev.levelDev ≠ 1)) ∧
    s.dev.mode n ≠ pmOff) 5 (wOf 0x2005 3 1) ⟨[], pairAt 5 lnLocked⟩ ∧
  (fun (n : Nat) (w : Wr) (s : State) => n < 256 ∧ s.dev.hears (0x2000 + n) 3 w = true ∧ ((w.value = 0 → s.dev.levelDev ≠ 1)) ∧
    s.dev.mode n = pmOff) 5 (wOf 0x2005 3 1) ⟨[], allOn⟩ := by
  refine ⟨?_, ?_, ?_, ?_, ?_⟩ <;> decide +kernel

/-- A state and operands that meet the hypotheses of each clause of PortModeChangesGoThroughOff. -/
theorem witness_port_mode_changes_go_through_off :
  (fun (n i j _t : Nat) (w : Wr) (s : State) => n < 256 ∧
    (i, j) ∈ [(0x2000 + n, 2), (0x2000 + n, 5), (0x2000 + n, 0x10), (0x2000 + n, 0x11), (0x2000 + n, 0x14), (0x2100 + n, 0x10), (0x2100 + n, 0x11), (0x2100 + n, 0x14), (0x2100 + n, 0x18)] ∧
    s.dev.hears i j w = true ∧ ((j = 2 → n % w.value = 0)) ∧ s.dev.mode n ≠ pmOff) 5 0x2005 5 9 (wOf 0x2005 5 2) ⟨[], pairAt 5 lnLocked⟩ ∧
  (fun (n i j _t : Nat) (w : Wr) (s : State) => n < 256 ∧
    (i, j) ∈ [(0x2000 + n, 5), (0x2000 + n, 0x10), (0x2000 + n, 0x11), (0x2000 + n, 0x14), (0x2100 + n, 0x10), (0x2100 + n, 0x11), (0x2100 + n, 0x14), (0x2100 + n, 0x18)] ∧
    s.dev.hears i j w = true ∧ s.dev.mode n = pmOff) 5 0x2105 0x18 9 (wOf 0x2105 0x18 2) ⟨[], allOn⟩ ∧
  (fun (n _t : Nat) (w : Wr) (s : State) => n < 256 ∧ s.dev.hears (0x2000 + n) 2 w = true ∧ n % w.value = 0 ∧
    ((∀ k, k < w.value → s.dev.mode (n + k) = pmOff))) 4 9 (wOf 0x2004 2 4) ⟨[], allOn⟩ ∧
  (fun (n _t : Nat) (w : Wr) (s : State) => n < 256 ∧ s.dev.hears (0x2000 + n) 2 w = true ∧ n % w.value ≠ 0)
    5 9 (wOf 0x2005 2 4) ⟨[], allOn⟩ ∧
  (fun (n : Nat) (w : Wr) (s : State) => n < 256 ∧ s.dev.hears (0x2000 + n) 1 w = true ∧ s.dev.mode n ≠ pmOff ∧ w.value ≠ pmOff ∧
    w.value ≠ s.dev.mode n ∧ widthOk n (s.dev.width n) w.value = true) 5 (wOf 0x2005 1 3) ⟨[], pairAt 5 lnLocked⟩ ∧
  (fun (n : Nat) (w : Wr) (s : State) => n < 256 ∧ s.dev.hears (0x2000 + n) 1 { w with value := 0 } = true ∧ s.dev.mode n ≠ pmOff)
    5 (wOf 0x2005 1 1) ⟨[], pairAt 5 lnLocked⟩ := by
  refine ⟨?_, ?_, ?_, ?_, ?_, ?_⟩ <;> decide +kernel

/-- A state and operands that meet the hypotheses of each clause of LanesComeUpStateByState. -/
theorem witness_lanes_come_up_state_by_state :
  (fun (l : Nat) (s : State) => l < 512 ∧ s.dev.laneState l = lnSignalWait ∧ Tbl.get (fun _ => 0) s.dev.darkUntil l ≤ s.dev.now)
    5 ⟨[], pairAt 5 lnSignalWait⟩ ∧
  (fun (l : Nat) (s : State) => l < 512 ∧ s.dev.laneState l = lnCdrLock ∧ (s.dev.lane l).adapt = false) 5 ⟨[], pairAt 5 lnCdrLock⟩ ∧
  (fun (l : Nat) (s : State) => l < 512 ∧ s.dev.laneState l = lnCdrLock) 261 ⟨[], pairAt 5 lnCdrLock⟩ ∧
  (fun (l : Nat) (s : State) => l < 512 ∧ s.dev.laneState l = lnAdapt) 511 ⟨[], pairAt 255 lnAdapt⟩ ∧
  (fun (l : Nat) (s : State) => l < 512 ∧ s.dev.laneState l = lnLocked)
    5 ⟨[], (pairAt 5 lnLocked).setLane 5 { Lane.init with adapt := true, polDone := true }⟩ ∧
  (fun (l x : Nat) (_syms : List Nat) (s : State) => l < 512 ∧ s.dev.sideOfLane l = some x ∧ s.dev.laneState l = lnLocked ∧
    s.dev.carrierLine x = true ∧ (s.dev.lane l).cwLock = false ∧ (s.dev.lane l).cwGood = 2 ∧ (s.dev.lane l).polDone = true)
    5 5 [0] ⟨[], ((pairAt 5 lnLocked).wr 0x2005 1 pmCarrier).setLane 5 { Lane.init with polDone := true, cwGood := 2 }⟩ ∧
  (fun (x k : Nat) (_nums : List (List Nat)) (skew : List Nat) (s : State) => x < 512 ∧ s.dev.mode (x % 256) ≠ pmOff ∧
    s.dev.sideIdle x = false ∧ s.dev.carrierLine x = false ∧ s.dev.lanesLocked x = true ∧
    (s.dev.sideLanes x).all (fun l => (s.dev.lane l).polDone) = true ∧ k < (s.dev.sideLanes x).length ∧
    180000 + (List.range (s.dev.sideLanes x).length).foldl (fun a i => min a (nth 0 skew i)) (nth 0 skew 0) < nth 0 skew k)
    4 1 [[0],[1]] [1000,181001] ⟨[], (((pairAt 4 lnLocked).wr 0x2004 2 2).wr 0x2205 1 lnLocked).setLane 4 { Lane.init with polDone := true } |>.setLane 5 { Lane.init with polDone := true }⟩ ∧
  (fun (x : Nat) (s : State) => x < 512 ∧ s.dev.mode (x % 256) ≠ pmOff ∧ s.dev.sideIdle x = false ∧ s.dev.carrierLine x = false ∧
    s.dev.power.forming.contains (x % 256) = false ∧ s.dev.power.exiting.contains x = false ∧ s.dev.lanesLocked x = true ∧
    (s.dev.side x).aligned = true) 261 ⟨[], (pairAt 5 lnLocked).setSide 261 ⟨true, true, 2⟩⟩ := by
  refine ⟨?_, ?_, ?_, ?_, ?_, ?_, ?_, ?_⟩ <;> decide +kernel

/-- A state and operands that meet the hypotheses of each clause of StoredAdaptationShortensRelocking. -/
theorem witness_stored_adaptation_shortens_relocking :
  (fun (l : Nat) (s : State) => l < 512 ∧ s.dev.laneState l = lnCdrLock ∧ (s.dev.lane l).adapt = true)
    5 ⟨[], (pairAt 5 lnCdrLock).setLane 5 { Lane.init with adapt := true }⟩ ∧
  (fun (l : Nat) (s : State) => l < 512 ∧ s.dev.laneState l = lnCdrLock)
    5 ⟨[], (pairAt 5 lnCdrLock).setLane 5 { Lane.init with adapt := true }⟩ ∧
  (fun (l : Nat) (want got : List Byte) (s : State) => l < 512 ∧ s.dev.laneState l = lnLocked ∧ (s.dev.lane l).polDone = false ∧
    s.dev.rd (0x2200 + l) 3 ≠ 2 ∧ got = want) 261 [1, 2] [1, 2] ⟨[], pairAt 5 lnLocked⟩ ∧
  (fun (l : Nat) (want got : List Byte) (s : State) => l < 512 ∧ s.dev.laneState l = lnLocked ∧ (s.dev.lane l).polDone = false ∧
    got ≠ want ∧ mirrored (isPam4 (s.dev.laneRate l)) got = want ∧
    ((s.dev.rd (0x2200 + l) 3 = 2 ∨ (s.dev.rd (0x2200 + l) 3 = 0 ∧ (s.dev.lane l).inverted = 1))))
    261 [1, 2] [254, 253] ⟨[], ((pairAt 5 lnLocked).setLane 261 { Lane.init with inverted := 1 })⟩ ∧
  (fun (l : Nat) (want got : List Byte) (s : State) => l < 512 ∧ s.dev.laneState l = lnLocked ∧ (s.dev.lane l).polDone = false ∧
    got ≠ want ∧ mirrored (isPam4 (s.dev.laneRate l)) got ≠ want)
    261 [1, 2] [3, 2] ⟨[], ((pairAt 5 lnLocked).setLane 261 { Lane.init with inverted := 1 })⟩ ∧
  (fun (x : Nat) (s : State) => x < 512 ∧ s.dev.mode (x % 256) ≠ pmOff ∧ s.dev.sideIdle x = true)
    5 ⟨[], ((pairAt 5 lnIdle).wr 0x2005 6 1).setLane 5 { Lane.init with adapt := true }⟩ := by
  refine ⟨?_, ?_, ?_, ?_, ?_, ?_⟩ <;> decide +kernel

/-- A state and operands that meet the hypotheses of each clause of SidesAlignFaultAndIdle. -/
theorem witness_sides_align_fault_and_idle :
  (fun (x : Nat) (nums : List (List Nat)) (skew : List Nat) (s : State) => x < 512 ∧ s.dev.mode (x % 256) ≠ pmOff ∧
    s.dev.sideIdle x = false ∧ s.dev.carrierLine x = false ∧ s.dev.power.forming.contains (x % 256) = false ∧
    s.dev.power.exiting.contains x = false ∧ s.dev.lanesLocked x = true ∧
    (s.dev.sideLanes x).all (fun l => (s.dev.lane l).polDone) = true ∧ x % 256 + s.dev.sysWidth (x % 256) ≤ 256 ∧
    isOrder (s.dev.sideLanes x).length (nums.map lanePosition) = true ∧ (skew.take (s.dev.sideLanes x).length).foldl max 0 ≤ 180000)
    5 [[0]] [1000] ⟨[], (pairAt 5 lnLocked).setLane 5 { Lane.init with polDone := true }⟩ ∧
  (fun (x f : Nat) (s : State) => x < 512 ∧ s.dev.mode (x % 256) ≠ pmOff ∧ s.dev.sideIdle x = false ∧ s.dev.carrierLine x = false ∧
    s.dev.power.forming.contains (x % 256) = false ∧ s.dev.power.exiting.contains x = false ∧ s.dev.lanesLocked x = true ∧ 1 ≤ f ∧ f ≤ 3)
    261 2 ⟨[], pairAt 5 lnLocked⟩ ∧
  (fun (l x : Nat) (_syms : List Nat) (s : State) => l < 512 ∧ s.dev.sideOfLane l = some x ∧ s.dev.laneState l = lnLocked ∧
    s.dev.carrierLine x = false ∧ (s.dev.side x).aligned = true) 5 5 [3] ⟨[], (pairAt 5 lnLocked).setSide 5 ⟨true, true, 0⟩⟩ ∧
  (fun (x : Nat) (w : Wr) (s : State) => x < 512 ∧ s.dev.hears (0x2000 + x) 6 { w with value := 1 } = true ∧ s.dev.mode (x % 256) ≠ pmOff ∧
    s.dev.rd (0x2000 + x) 6 = 0 ∧ x % 256 + s.dev.sysWidth (x % 256) ≤ 256) 5 (wOf 0x2005 6 1) ⟨[], pairAt 5 lnLocked⟩ ∧
  (fun (x : Nat) (w : Wr) (s : State) => x < 512 ∧ s.dev.hears (0x2000 + x) 6 { w with value := 0 } = true ∧ s.dev.mode (x % 256) ≠ pmOff ∧
    s.dev.rd (0x2000 + x) 6 = 1 ∧ (s.dev.sideDomains x).all s.dev.isOn = true ∧ x % 256 + s.dev.sysWidth (x % 256) ≤ 256)
    5 (wOf 0x2005 6 1) ⟨[], (pairAt 5 lnIdle).wr 0x2005 6 1⟩ ∧
  (fun (x : Nat) (w : Wr) (s : State) => x < 512 ∧ s.dev.hears (0x2000 + x) 6 { w with value := 0 } = true ∧ s.dev.mode (x % 256) ≠ pmOff ∧
    s.dev.rd (0x2000 + x) 6 = 1 ∧ (s.dev.sideDomains x).all s.dev.isOn = false ∧ x % 256 + s.dev.sysWidth (x % 256) ≤ 256)
    5 (wOf 0x2005 6 1) ⟨[], ((pairAt 5 lnIdle).wr 0x2005 6 1).wr 0x1110 2 psRetain⟩ := by
  refine ⟨?_, ?_, ?_, ?_, ?_, ?_⟩ <;> decide +kernel

/-- A state and operands that meet the hypotheses of each clause of PortObjectsAreWrittenWhileOff. -/
theorem witness_port_objects_are_written_while_off :
  (fun (w : Wr) (s : State) => s.dev.hears 0x1003 1 w = true ∧ ((s.dev.boot.compat = true → w.value ≠ 2)) ∧ s.dev.formedPairs = [])
    (wOf 0x1003 1 1) ⟨[], allOn⟩ ∧
  (fun (n : Nat) (w : Wr) (s : State) => n < 256 ∧ s.dev.hears (0x2000 + n) 3 w = true ∧ w.value = 1 ∧ s.dev.mode n = pmOff)
    5 (wOf 0x2005 3 1) ⟨[], allOn⟩ ∧
  (fun (n : Nat) (w : Wr) (s : State) => n < 256 ∧ s.dev.hears (0x2000 + n) 2 w = true ∧ n % w.value = 0 ∧
    ((∀ k, k < w.value → s.dev.mode (n + k) = pmOff))) 4 (wOf 0x2004 2 4) ⟨[], allOn⟩ ∧
  (fun (n : Nat) (w : Wr) (s : State) => n < 256 ∧ s.dev.hears (0x2000 + n) 1 w = true ∧ w.value ≠ pmOff ∧ w.value ≠ pmCarrier ∧
    s.dev.mode n = pmOff ∧ s.dev.formAbort n w.value = 0 ∧ (s.dev.pairDomains n).all s.dev.isOn = true)
    4 (wOf 0x2004 1 1) ⟨[], ((allOn.wr 0x2004 5 2).wr 0x2004 0x10 2)⟩ ∧
  (fun (n : Nat) (w : Wr) (s : State) => n < 256 ∧ s.dev.hears (0x2000 + n) 1 w = true ∧ w.value = pmCarrier ∧ s.dev.mode n = pmOff ∧
    s.dev.formAbort n pmCarrier = 0 ∧ (s.dev.pairDomains n).all s.dev.isOn = true ∧ n + s.dev.sysWidth n ≤ 256)
    4 (wOf 0x2004 1 2) ⟨[], ((((allOn.wr 0x2004 5 0x22).wr 0x2004 0x10 3).wr 0x2504 2 1).wr 0x2504 1 0)⟩ ∧
  (fun (n : Nat) (w : Wr) (s : State) => n < 256 ∧ s.dev.hears (0x2000 + n) 1 w = true ∧ w.value ≠ pmOff ∧ s.dev.mode n = pmOff ∧
    s.dev.formAbort n w.value = 0 ∧ (s.dev.pairDomains n).all s.dev.isOn = false)
    4 (wOf 0x2004 1 1) ⟨[], (((allOn.wr 0x2004 5 2).wr 0x2004 0x10 2).wr 0x1100 2 psRetain)⟩ ∧
  (fun (n : Nat) (w : Wr) (s : State) => n < 256 ∧ s.dev.hears (0x2000 + n) 1 { w with value := 0 } = true ∧ s.dev.mode n ≠ pmOff)
    5 (wOf 0x2005 1 1) ⟨[], pairAt 5 lnLocked⟩ ∧
  (fun (x : Nat) (w : Wr) (s : State) => x < 512 ∧ s.dev.hears (0x2000 + x) 6 { w with value := 1 } = true ∧ s.dev.mode (x % 256) = pmOff)
    261 (wOf 0x2005 6 1) ⟨[], allOn⟩ ∧
  (fun (x : Nat) (w : Wr) (s : State) => x < 512 ∧ s.dev.hears (0x2000 + x) 6 { w with value := 0 } = true ∧ s.dev.mode (x % 256) = pmOff)
    261 (wOf 0x2005 6 1) ⟨[], allOn.wr 0x2105 6 1⟩ := by
  refine ⟨?_, ?_, ?_, ?_, ?_, ?_, ?_, ?_, ?_⟩ <;> decide +kernel

/-- A state and operands that meet the hypotheses of each clause of PrbsObjectsTestALane. -/
theorem witness_prbs_objects_test_a_lane :
  (fun (l : Nat) (w : Wr) (s : State) => l < 512 ∧ s.dev.hears (0x2200 + l) 0xA w = true ∧
    prbsFits w.value (s.dev.rd (0x2200 + l) 2) = true ∧ s.dev.laneHolder l = none) 5 (wOf 0x2205 0xA 1) ⟨[], allOn.wr 0x2205 2 1⟩ ∧
  (fun (l : Nat) (w : Wr) (s : State) => l < 512 ∧ s.dev.hears (0x2200 + l) 0xB w = true ∧
    prbsFits w.value (s.dev.rd (0x2200 + l) 2) = true ∧ s.dev.laneHolder l = none) 5 (wOf 0x2205 0xB 1) ⟨[], allOn.wr 0x2205 2 1⟩ ∧
  (fun (l : Nat) (b : Bool) (s : State) => l < 512 ∧ s.dev.isOn (laneDom l) = true ∧ s.dev.rd (0x2200 + l) 0xB ≠ 0 ∧
    bit 0 (s.dev.rd (0x2200 + l) 0xC) = false ∧ prbsDegree (s.dev.rd (0x2200 + l) 0xB) ≤ (s.dev.lane l).chk.seen ∧
    (s.dev.lane l).chk.run = 63 ∧ b = prbsNext (s.dev.rd (0x2200 + l) 0xB) (s.dev.lane l).chk.reg)
    5 false ⟨[], ((allOn.wr 0x2205 2 1).wr 0x2205 0xB 1).setLane 5 { Lane.init with chk := { Checker.init with seen := 7, run := 63 } }⟩ ∧
  (fun (l : Nat) (_b : Bool) (s : State) => l < 512 ∧ s.dev.isOn (laneDom l) = true ∧ s.dev.rd (0x2200 + l) 0xB ≠ 0 ∧
    bit 0 (s.dev.rd (0x2200 + l) 0xC) = true ∧ (s.dev.lane l).chk.inv = false)
    5 true ⟨[], ((allOn.wr 0x2205 2 1).wr 0x2205 0xB 1).wr 0x2205 0xC 1⟩ ∧
  (fun (l : Nat) (bits : List Bool) (s : State) => l < 512 ∧ s.dev.isOn (laneDom l) = true ∧ s.dev.rd (0x2200 + l) 0xB ≠ 0 ∧
    bit 0 (s.dev.rd (0x2200 + l) 0xC) = true ∧ (s.dev.lane l).chk.errs + bits.length ≤ 512 ∧ bits ≠ [])
    5 [true, false, true] ⟨[], ((allOn.wr 0x2205 2 1).wr 0x2205 0xB 1).wr 0x2205 0xC 1⟩ ∧
  (fun (l : Nat) (w : Wr) (s : State) => l < 512 ∧ s.dev.hears (0x2200 + l) 0xF w = true) 5 (wOf 0x2205 0xF 1) ⟨[], allOn.wr 0x2205 0xD 9⟩ ∧
  (fun (l : Nat) (w : Wr) (s : State) => l < 512 ∧ s.dev.hears (0x2200 + l) 0x10 w = true ∧ w.value ≠ 0 ∧ s.dev.rd (0x2200 + l) 0xA ≠ 0)
    5 (wOf 0x2205 0x10 3) ⟨[], (allOn.wr 0x2205 2 1).wr 0x2205 0xA 1⟩ := by
  refine ⟨?_, ?_, ?_, ?_, ?_, ?_, ?_⟩ <;> decide +kernel

/-- A state and operands that meet the hypotheses of each clause of FramesQueueBehindThoseOfTheirChannel. -/
theorem witness_frames_queue_behind_those_of_their_channel :
  (fun (n c k t : Nat) (p ptp : Bool) (b : List Byte) (s : State) => n < 256 ∧ c < 32768 ∧ k < 8 ∧ s.dev.takes (256 + n) = true ∧
    s.dev.quiesced = false ∧ 60 ≤ b.length ∧ b.length + 36 ≤ s.dev.rd (0x2400 + n) 5 ∧
    (((s.dev.at t).countFrame.received n false (b.length + 4)).classifyEgress n b).1 = .go c k p ptp ∧
    (s.dev.queue (8 * c + k)).sram ≠ [] ∧ (s.dev.queue (8 * c + k)).deep = [] ∧ (s.dev.queue (8 * c + k)).maySpill = false ∧
    (s.dev.queue (8 * c + k)).cells + cellsOf (b.length + 4) ≤ (s.dev.queue (8 * c + k)).sramLimit ∧
    s.dev.poolFits (c / 8192) (s.dev.queue (8 * c + k)).pool (cellsOf (b.length + 4)) = true ∧ s.dev.inject = none ∧
    s.dev.assay.draining = none) 5 1 0 100 false false (List.replicate 60 0) ⟨[], queued 8 5⟩ ∧
  (fun (n c k t : Nat) (b : List Byte) (s : State) => n < 256 ∧ s.dev.takes n = true ∧ s.dev.mode n = pmPass ∧ s.dev.quiesced = false ∧
    s.dev.isFenced (dSliceOf n) = false ∧ 60 ≤ b.length ∧ c = s.dev.rd (0x2400 + n) 0x11 ∧ s.dev.recordBad c = false ∧
    s.dev.chanServes c true n = true ∧ k = (parse b).pcp ∧
    (((s.dev.at t).countFrame.received n true (b.length + 4)).tcamLook (quadOf n) (tcamKey n true none ⟨[], (parse b).off, (parse b).etype⟩ b)).1 = some none ∧
    (s.dev.queue (8 * c + k)).sram ≠ [] ∧ (s.dev.queue (8 * c + k)).deep = [] ∧ (s.dev.queue (8 * c + k)).maySpill = false ∧
    (s.dev.queue (8 * c + k)).cells + cellsOf (b.length + 4) ≤ (s.dev.queue (8 * c + k)).sramLimit ∧
    s.dev.poolFits (c / 8192) (s.dev.queue (8 * c + k)).pool (cellsOf (b.length + 4)) = true ∧ s.dev.inject = none ∧
    s.dev.assay.draining = none) 5 2 0 100 (List.replicate 60 0) ⟨[], queued 16 5⟩ ∧
  (fun (n c a pn v t : Nat) (g : Tag) (e : Ent) (b o : List Byte) (p : Bytes × Bytes × Bytes × Bytes × Bytes) (s : State) => n < 256 ∧
    s.dev.takes n = true ∧ s.dev.mode n = pmFrame ∧ s.dev.quiesced = false ∧ s.dev.isFenced (dSliceOf n) = false ∧ 60 ≤ b.length ∧
    b.length + 4 ≤ s.dev.rd (0x2400 + n) 5 ∧ findTag (s.dev.rd (0x2400 + n) 6) b = some g ∧ g.bad b = false ∧
    g.sci (s.dev.rd (0x2400 + n) 7) b = some v ∧
    (((s.dev.at t).countFrame.received n true (b.length + 4)).tcamLook (quadOf n) (tcamKey n true (some v) (parseTags (s.dev.rd (0x2400 + n) 6) (b.take 128) 12 []) b)).1 = some none ∧
    ((((s.dev.at t).countFrame.received n true (b.length + 4)).tcamLook (quadOf n) (tcamKey n true (some v) (parseTags (s.dev.rd (0x2400 + n) 6) (b.take 128) 12 []) b)).2.exactLook (4 * quadOf n + 1) (n + v * 2 ^ 8)).1.map (fun z => z.map (fun y => y.1)) = some (some e) ∧
    e.action = 0 ∧ c = quadOf n * 8192 + fld 12 0 e.res ∧ s.dev.recordBad c = false ∧ s.dev.chanServes c true n = true ∧
    chSaOk (s.dev.chan c) (g.tci % 4) = true ∧ a = s.dev.saOf c (g.tci % 4) ∧ s.dev.saBad a = false ∧
    [saReady, saActive, saRetiring].contains (s.dev.sa a).state = true ∧ s.dev.testBarred n (s.dev.sa a) = false ∧
    (((s.dev.sa a).suite < 2 → g.pn ≠ 0)) ∧ pn = recoverPn (s.dev.sa a) g.pn ∧ ((bit 82 (s.dev.chan c) = true → (s.dev.sa a).lowPn ≤ pn)) ∧
    p = tagParts g (s.dev.chan c) b ∧ s.dev.sliceRoom (dSliceOf n) = true ∧
    o = delivered p.2.2.2.2 p.2.1 (if bit 3 g.tci = true then gcmText (toBE (s.dev.sa a).keyLen (s.dev.sa a).key) (toBE 12 (ivOf (s.dev.sa a) (chSci (s.dev.chan c)) pn)) p.2.2.1 else p.2.2.1) ∧
    (s.dev.queue (8 * c)).sram ≠ [] ∧ (s.dev.queue (8 * c)).deep = [] ∧ (s.dev.queue (8 * c)).maySpill = false ∧
    (s.dev.queue (8 * c)).cells + cellsOf (o.length + 4) ≤ (s.dev.queue (8 * c)).sramLimit ∧
    s.dev.poolFits (c / 8192) (s.dev.queue (8 * c)).pool (cellsOf (o.length + 4)) = true ∧ s.dev.inject = none ∧
    s.dev.assay.draining = none)
    5 2 9 1 3 100 ⟨12, 0x20, 0, 1, 16⟩ ⟨5 + 3 * 2 ^ 8, 0, 2, 1⟩ (List.replicate 12 1 ++ [0x88, 0xE5, 0x20, 0] ++ [0, 0, 0, 1] ++ [0, 0, 0, 0, 0, 0, 0, 3] ++ List.replicate 64 7) (List.replicate 12 1 ++ List.replicate 48 7) (tagParts ⟨12, 0x20, 0, 1, 16⟩ (5 * 2 ^ 64 + 2 ^ 72 + 2 ^ 73 + 9 * 2 ^ 128 + 2 ^ 143) (List.replicate 12 1 ++ [0x88, 0xE5, 0x20, 0] ++ [0, 0, 0, 1] ++ [0, 0, 0, 0, 0, 0, 0, 3] ++ List.replicate 64 7)) ⟨[], let d := ((queued 16 5).wr 0x2005 1 1).setChan 2 (5 * 2 ^ 64 + 2 ^ 72 + 2 ^ 73 + 9 * 2 ^ 128 + 2 ^ 143) |>.setSa 9 { Sa.init with rx := true, state := saActive, keyLen := 16 }; { d with slots := [(slotKey 1 0x8000, ⟨5 + 3 * 2 ^ 8, 0, 2, 1⟩)] }⟩ := by
  refine ⟨?_, ?_, ?_⟩ <;> decide +kernel

/-- A state and operands that meet the hypotheses of each clause of FramesLeaveFlightProtectedOrClear. -/
theorem witness_frames_leave_flight_protected_or_clear :
  (fun (k _t : Nat) (e : Drawn) (rest : List Drawn) (s : State) => k < 64 ∧ s.dev.inE k = e :: rest ∧ s.dev.runs (sliceDom k) = true ∧
    s.dev.isFenced k = false ∧ e.frame.prot = false ∧ e.frame.ptp = false ∧ s.dev.mayBind e = true)
    0 100 ⟨aFrame false 5 1 false, 64, false, false⟩ [] ⟨[], (passPair 5).setInE 0 [⟨aFrame false 5 1 false, 64, false, false⟩]⟩ ∧
  (fun (k _t a : Nat) (e : Drawn) (rest : List Drawn) (s : State) => k < 64 ∧ s.dev.inE k = e :: rest ∧ s.dev.runs (sliceDom k) = true ∧
    s.dev.isFenced k = false ∧ e.frame.prot = true ∧ e.frame.ptp = false ∧ e.frame.chan < 32768 ∧ s.dev.mayBind e = true ∧
    s.dev.inject = none ∧ s.dev.recordBad e.frame.chan = false ∧ chSaOk (s.dev.chan e.frame.chan) (chAn (s.dev.chan e.frame.chan)) = true ∧
    a = s.dev.saOf e.frame.chan (chAn (s.dev.chan e.frame.chan)) ∧ s.dev.saBad a = false ∧ (s.dev.sa a).state = saActive ∧
    s.dev.testBarred e.frame.pair (s.dev.sa a) = false ∧ (s.dev.sa a).nextPn < largestPn (s.dev.sa a).suite)
    0 100 7 ⟨aFrame false 5 1 true, 64, false, false⟩ [] ⟨[], ((passPair 5).setInE 0 [⟨aFrame false 5 1 true, 64, false, false⟩]).setSa 7 { Sa.init with state := saActive, keyLen := 16 }⟩ ∧
  (fun (k _t x : Nat) (h : Held) (rest : List Held) (s : State) => k < 64 ∧ s.dev.inD k = h :: rest ∧ s.dev.inject = none ∧
    s.dev.runs (sliceDom k) = true ∧ s.dev.isFenced k = false ∧ h.fcsBad = false ∧ h.e = false ∧ chValidate h.word = 0 ∧
    ((bit 83 h.word = false ∨ h.through = false)) ∧ (s.dev.sa h.sa).state ≠ saZeroised ∧ x = 8 * h.frame.chan + h.frame.cls)
    8 100 16 (aHeld 5 2) [] ⟨[], (queued 16 5).setInD 8 [aHeld 5 2]⟩ ∧
  (fun (k _t x : Nat) (h : Held) (rest : List Held) (s : State) => k < 64 ∧ s.dev.inD k = h :: rest ∧ s.dev.inject = none ∧
    s.dev.runs (sliceDom k) = true ∧ s.dev.isFenced k = false ∧ h.fcsBad = true ∧ bit 83 h.word = false ∧
    x = 8 * h.frame.chan + h.frame.cls)
    8 100 16 { aHeld 5 2 with fcsBad := true } [] ⟨[], (queued 16 5).setInD 8 [{ aHeld 5 2 with fcsBad := true }]⟩ ∧
  (fun (k _t x : Nat) (h : Held) (rest : List Held) (s : State) => k < 64 ∧ s.dev.inD k = h :: rest ∧ s.dev.inject = none ∧
    s.dev.runs (sliceDom k) = true ∧ s.dev.isFenced k = false ∧ h.fcsBad = false ∧ (s.dev.sa h.sa).state ≠ saZeroised ∧
    x = 8 * h.frame.chan + h.frame.cls ∧ ((chValidate h.word ≠ 0 ∨ h.e = true)) ∧ gcmTag h.key (toBE 12 h.iv) h.aad h.text = h.icv ∧
    (s.dev.sa h.sa).lowPn ≤ h.pn ∧ ((bit 83 h.word = false ∨ h.through = false)))
    8 100 16 { aHeld 5 2 with key := List.replicate 16 0, icv := gcmTag (List.replicate 16 0) (toBE 12 0) [] (List.replicate 48 0), word := 2 * 2 ^ 80 } [] ⟨[], ((queued 16 5).setInD 8 [{ aHeld 5 2 with key := List.replicate 16 0, icv := gcmTag (List.replicate 16 0) (toBE 12 0) [] (List.replicate 48 0), word := 2 * 2 ^ 80 }]).setSa 9 { Sa.init with rx := true, state := saActive, lowPn := 1, nextPn := 1 }⟩ ∧
  (fun (k _t x : Nat) (h : Held) (rest : List Held) (s : State) => k < 64 ∧ s.dev.inD k = h :: rest ∧ s.dev.inject = none ∧
    s.dev.runs (sliceDom k) = true ∧ s.dev.isFenced k = false ∧ h.fcsBad = false ∧ (s.dev.sa h.sa).state ≠ saZeroised ∧
    x = 8 * h.frame.chan + h.frame.cls ∧ ((chValidate h.word = 2 ∨ h.e = true)) ∧ gcmTag h.key (toBE 12 h.iv) h.aad h.text ≠ h.icv ∧
    bit 83 h.word = false)
    8 100 16 { aHeld 5 2 with key := List.replicate 16 0, icv := [], word := 2 * 2 ^ 80 } [] ⟨[], ((queued 16 5).setInD 8 [{ aHeld 5 2 with key := List.replicate 16 0, icv := [], word := 2 * 2 ^ 80 }]).setSa 9 { Sa.init with rx := true, state := saActive, lowPn := 1, nextPn := 1 }⟩ ∧
  (fun (k _t x : Nat) (h : Held) (rest : List Held) (s : State) => k < 64 ∧ s.dev.inD k = h :: rest ∧ s.dev.inject = none ∧
    s.dev.runs (sliceDom k) = true ∧ s.dev.isFenced k = false ∧ h.fcsBad = false ∧ (s.dev.sa h.sa).state ≠ saZeroised ∧
    x = 8 * h.frame.chan + h.frame.cls ∧ ((chValidate h.word = 2 ∨ h.e = true)) ∧ gcmTag h.key (toBE 12 h.iv) h.aad h.text ≠ h.icv ∧
    bit 83 h.word = true ∧ (s.dev.queue x).sram.any (fun y => y.no = h.frame.no) = true)
    8 100 16 { aHeld 5 2 with key := List.replicate 16 0, icv := [], word := 2 * 2 ^ 80 + 2 ^ 83 } [] ⟨[], ((queued 16 5).setInD 8 [{ aHeld 5 2 with key := List.replicate 16 0, icv := [], word := 2 * 2 ^ 80 + 2 ^ 83 }]).setSa 9 { Sa.init with rx := true, state := saActive, lowPn := 1, nextPn := 1 }⟩ ∧
  (fun (k _t x : Nat) (h : Held) (rest : List Held) (s : State) => k < 64 ∧ s.dev.inD k = h :: rest ∧ s.dev.inject = none ∧
    s.dev.runs (sliceDom k) = true ∧ s.dev.isFenced k = false ∧ h.fcsBad = false ∧ (s.dev.sa h.sa).state ≠ saZeroised ∧
    x = 8 * h.frame.chan + h.frame.cls ∧ chValidate h.word = 1 ∧ h.e = false ∧ gcmTag h.key (toBE 12 h.iv) h.aad h.text ≠ h.icv ∧
    ((bit 83 h.word = false ∨ h.through = false)))
    8 100 16 { aHeld 5 2 with key := List.replicate 16 0, icv := [], word := 1 * 2 ^ 80 } [] ⟨[], ((queued 16 5).setInD 8 [{ aHeld 5 2 with key := List.replicate 16 0, icv := [], word := 1 * 2 ^ 80 }]).setSa 9 { Sa.init with rx := true, state := saActive, lowPn := 1, nextPn := 1 }⟩ ∧
  (fun (k _t x : Nat) (h : Held) (rest : List Held) (s : State) => k < 64 ∧ s.dev.inD k = h :: rest ∧ s.dev.inject = none ∧
    s.dev.runs (sliceDom k) = true ∧ s.dev.isFenced k = false ∧ h.fcsBad = false ∧ (s.dev.sa h.sa).state ≠ saZeroised ∧
    x = 8 * h.frame.chan + h.frame.cls ∧ ((chValidate h.word ≠ 0 ∨ h.e = true)) ∧ gcmTag h.key (toBE 12 h.iv) h.aad h.text = h.icv ∧
    h.pn < (s.dev.sa h.sa).lowPn ∧ bit 82 h.word = true ∧ bit 83 h.word = false)
    8 100 16 { aHeld 5 2 with key := List.replicate 16 0, icv := gcmTag (List.replicate 16 0) (toBE 12 0) [] (List.replicate 48 0), word := 2 * 2 ^ 80 + 2 ^ 82 } [] ⟨[], ((queued 16 5).setInD 8 [{ aHeld 5 2 with key := List.replicate 16 0, icv := gcmTag (List.replicate 16 0) (toBE 12 0) [] (List.replicate 48 0), word := 2 * 2 ^ 80 + 2 ^ 82 }]).setSa 9 { Sa.init with rx := true, state := saActive, lowPn := 7, nextPn := 1 }⟩ ∧
  (fun (k _t x : Nat) (h : Held) (rest : List Held) (s : State) => k < 64 ∧ s.dev.inD k = h :: rest ∧ s.dev.inject = none ∧
    s.dev.runs (sliceDom k) = true ∧ s.dev.isFenced k = false ∧ h.fcsBad = false ∧ (s.dev.sa h.sa).state ≠ saZeroised ∧
    x = 8 * h.frame.chan + h.frame.cls ∧ ((chValidate h.word ≠ 0 ∨ h.e = true)) ∧ gcmTag h.key (toBE 12 h.iv) h.aad h.text = h.icv ∧
    h.pn < (s.dev.sa h.sa).lowPn ∧ bit 82 h.word = false ∧ ((bit 83 h.word = false ∨ h.through = false)))
    8 100 16 { aHeld 5 2 with key := List.replicate 16 0, icv := gcmTag (List.replicate 16 0) (toBE 12 0) [] (List.replicate 48 0), word := 2 * 2 ^ 80 } [] ⟨[], ((queued 16 5).setInD 8 [{ aHeld 5 2 with key := List.replicate 16 0, icv := gcmTag (List.replicate 16 0) (toBE 12 0) [] (List.replicate 48 0), word := 2 * 2 ^ 80 }]).setSa 9 { Sa.init with rx := true, state := saActive, lowPn := 7, nextPn := 1 }⟩ ∧
  (fun (g _t a v o : Nat) (x : Staged) (rest : List Staged) (s : State) => g < 512 ∧ s.dev.runs (bufDom (quadOf (g % 256))) = true ∧
    s.dev.staged g = x :: rest ∧ s.dev.drawn g = [] ∧ s.dev.stagedBgOf g = [] ∧ s.dev.inject = none ∧ x.left = true ∧ x.full = true ∧
    x.frame.wait = .none ∧ x.frame.tally = some (a, v, o) ∧ v < 2)
    0 9 7 1 44 ⟨{ aFrame false 0 1 true with tally := some (7, 1, 44) }, 64, true, some 7, false⟩ [] ⟨[], (passPair 0).setStaged 0 [⟨{ aFrame false 0 1 true with tally := some (7, 1, 44) }, 64, true, some 7, false⟩]⟩ := by
  refine ⟨?_, ?_, ?_, ?_, ⟨by decide +kernel, by decide +kernel, by decide +kernel, by decide +kernel, by decide +kernel, by decide +kernel, by decide +kernel, by decide +kernel, by decide +kernel, by simp only [aHeld], by decide +kernel, by decide +kernel⟩, ?_, ?_, ?_, ⟨by decide +kernel, by decide +kernel, by decide +kernel, by decide +kernel, by decide +kernel, by decide +kernel, by decide +kernel, by decide +kernel, by decide +kernel, by simp only [aHeld], by decide +kernel, by decide +kernel, by decide +kernel⟩, ⟨by decide +kernel, by decide +kernel, by decide +kernel, by decide +kernel, by decide +kernel, by decide +kernel, by decide +kernel, by decide +kernel, by decide +kernel, by simp only [aHeld], by decide +kernel, by decide +kernel, by decide +kernel⟩, ?_⟩ <;> decide +kernel

/-- A state and operands that meet the hypotheses of each clause of CausesAreClearedAndEnabledBitByBit. -/
theorem witness_causes_are_cleared_and_enabled_bit_by_bit :
  (fun (b : CauseBlock) (_again : Nat) (w : Wr) (s : State) => causeOk b = true ∧ s.dev.hears (causeAt b).1 (causeAt b).2.2.1 w = true ∧
    s.dev.causeHeld b = false) (.buffer 0) 4 (wOf 0x5000 0xC4 3) ⟨[], allOn.wr 0x5000 0xC3 7⟩ ∧
  (fun (b : CauseBlock) (w : Wr) (s : State) => causeOk b = true ∧ s.dev.hears (causeAt b).1 (causeAt b).2.2.2 w = true ∧
    s.dev.causeHeld b = false) (.pair 255) (wOf 0x24FF 0x14 3) ⟨[], allOn.wr 0x24FF 0x12 7⟩ := by
  refine ⟨?_, ?_⟩ <;> decide +kernel

/-- A state and operands that meet the hypotheses of each clause of CarrierDefectsAreDeclaredAndCleared. -/
theorem witness_carrier_defects_are_declared_and_cleared :
  (fun (n : Nat) (s : State) => n < 256 ∧ s.dev.carrierLive n = true ∧ s.dev.defect n 0 = false) 5 ⟨[], carrierPair 5⟩ ∧
  (fun (n : Nat) (s : State) => n < 256 ∧ s.dev.carrierLive n = true ∧ s.dev.defect n 0 = true) 5 ⟨[], (carrierPair 5).wr 0x2505 0x11 1⟩ ∧
  (fun (n : Nat) (s : State) => n < 256 ∧ s.dev.carrierLive n = true ∧ s.dev.defect n 5 = true ∧ s.dev.defect n 1 = false)
    5 ⟨[], (carrierPair 5).wr 0x2505 0x11 0x20⟩ ∧
  (fun (n : Nat) (s : State) => n < 256 ∧ s.dev.carrierLive n = true ∧ s.dev.defect n 5 = false ∧ s.dev.defect n 1 = true)
    5 ⟨[], (carrierPair 5).wr 0x2505 0x11 2⟩ := by
  refine ⟨?_, ?_, ?_, ?_⟩ <;> decide +kernel

/-- A state and operands that meet the hypotheses of each clause of CarrierLanesFramesAndVerdicts. -/
theorem witness_carrier_lanes_frames_and_verdicts :
  (fun (l n pos m _mfi : Nat) (_par : Option Nat) (a b : List Byte) (_skew : List Nat) (s : State) => l < 256 ∧
    s.dev.sideOfLane l = some n ∧ s.dev.carrierLine n = true ∧ s.dev.laneState l = lnLocked ∧ (s.dev.lane l).cwLock = true ∧
    s.dev.rd (0x2200 + l) 0x11 ≠ 2 ∧ b = s.dev.rxForm l a ∧ b.take 6 = faw ∧ beAt 6 1 b = m + 16 * widthCode (s.dev.width n) ∧ m < 16 ∧
    m < s.dev.width n ∧ (s.dev.lane l).cands.find? (fun c => c.1 = pos) = none ∧ (s.dev.lane l).cands.length < 4 ∧ s.dev.inject = none)
    5 5 7 0 0 none (faw ++ List.replicate 10 0) (faw ++ List.replicate 10 0) [] ⟨[], (carrierPair 5).setLane 5 { Lane.init with cwLock := true }⟩ ∧
  (fun (l n pos m k _mfi : Nat) (_par : Option Nat) (a b : List Byte) (_skew : List Nat) (s : State) => l < 256 ∧
    s.dev.sideOfLane l = some n ∧ s.dev.carrierLine n = true ∧ s.dev.laneState l = lnLocked ∧ (s.dev.lane l).cwLock = true ∧
    s.dev.rd (0x2200 + l) 0x11 ≠ 2 ∧ b = s.dev.rxForm l a ∧ b.take 6 = faw ∧ beAt 6 1 b = m + 16 * widthCode (s.dev.width n) ∧ m < 16 ∧
    m < s.dev.width n ∧ (s.dev.lane l).cands.find? (fun c => c.1 = pos) = some (pos, m, k) ∧ s.dev.rd (0x2500 + n) 7 ≤ k + 1 ∧
    n + s.dev.sysWidth n ≤ 256 ∧ s.dev.inject = none)
    5 5 7 0 9 0 none (faw ++ List.replicate 10 0) (faw ++ List.replicate 10 0) [] ⟨[], (carrierPair 5).setLane 5 { Lane.init with cwLock := true, cands := [(7, 0, 9)] }⟩ ∧
  (fun (n : Nat) (_adj : Int) (_b : List ClientItem) (_u : ClientUse) (s : State) => n < 256 ∧ s.dev.carrierLive n = true ∧
    s.dev.runs (sliceDom (eSliceOf n)) = true ∧ s.dev.rd (0x2500 + n) 0x10 ≠ 3)
    5 0 [.marker] ⟨0, 0, 0, 0, 0, 0⟩ ⟨[], (carrierPair 5).wr 0x2505 0x10 4⟩ ∧
  (fun (n : Nat) (_adj : Int) (_b : List ClientItem) (_u : ClientUse) (k : CKey) (s : State) => n < 256 ∧ s.dev.carrierLive n = true ∧
    s.dev.runs (sliceDom (eSliceOf n)) = true ∧ s.dev.rd (0x2500 + n) 0x10 = 3 ∧ (s.dev.carrier n).txCur = some k ∧
    (s.dev.carrier n).want = false ∧ (s.dev.carrier n).fc < 2 ^ 48 - 1 ∧ (s.dev.carrier n).fc ≠ s.dev.rd (0x2500 + n) 0xE ∧
    (s.dev.carrier n).fc ≠ s.dev.rd (0x2500 + n) 0xF)
    5 0 [.block true [1, 2, 3, 4, 5, 6, 7, 8]] ⟨0, 0, 0, 0, 0, 0⟩ ⟨1, 0, 0, none⟩ ⟨[], ((carrierPair 5).wr 0x2505 0x10 3).setCarrier 5 { Carrier.init with fc := 1, txCur := some ⟨1, 0, 0, none⟩ }⟩ ∧
  (fun (n : Nat) (b : List Byte) (_u : ClientUse) (s : State) => n < 256 ∧ s.dev.carrierLive n = true ∧ (s.dev.side n).aligned = true ∧
    b.length = 8192 * s.dev.width n ∧ (b.drop (8192 * s.dev.width n - 16)).all (fun x => x = 0) = true)
    5 (List.replicate 8192 0) ⟨0, 0, 0, 0, 0, 0⟩ ⟨[], (carrierPair 5).setSide 5 ⟨true, true, 0⟩⟩ ∧
  (fun (n : Nat) (r : CarrierRx) (rest : List CarrierRx) (k : CKey) (s : State) => n < 256 ∧ s.dev.runs (sliceDom (dSliceOf n)) = true ∧
    (s.dev.carrier n).rx = r :: rest ∧ r.unkeyed = false ∧ r.epoch.bind (s.dev.carrier n).rxOf = some k ∧ r.tagOk = true ∧
    k.replayed r.fc = false ∧ beAt 0 1 r.oh % 64 = k.epoch % 64 ∧ beAt 10 1 r.oh = s.dev.clientType n ∧ s.dev.mappingAgrees n = true ∧
    s.dev.inject = none)
    5 ⟨false, some 1, true, 9, [1, 0, 0, 0, 0, 0, 0, 0, 0, 0, 0x10], 8, [], true, 0, ⟨0, 0, 0, 0, 0, 0⟩⟩ [] ⟨1, 0, 0, none⟩ ⟨[], ((carrierPair 5).wr 0x2505 2 0x10).setCarrier 5 { Carrier.init with rxCur := some ⟨1, 0, 0, none⟩, rx := [⟨false, some 1, true, 9, [1, 0, 0, 0, 0, 0, 0, 0, 0, 0, 0x10], 8, [], true, 0, ⟨0, 0, 0, 0, 0, 0⟩⟩] }⟩ ∧
  (fun (n : Nat) (r : CarrierRx) (rest : List CarrierRx) (s : State) => n < 256 ∧ s.dev.runs (sliceDom (dSliceOf n)) = true ∧
    (s.dev.carrier n).rx = r :: rest ∧ r.unkeyed = true ∧ s.dev.rd (0x2500 + n) 0x10 = 3 ∧ s.dev.inject = none)
    5 ⟨true, none, false, 0, [], 8, [], false, 0, ⟨0, 0, 0, 0, 0, 0⟩⟩ [] ⟨[], ((carrierPair 5).wr 0x2505 0x10 3).setCarrier 5 { Carrier.init with rx := [⟨true, none, false, 0, [], 8, [], false, 0, ⟨0, 0, 0, 0, 0, 0⟩⟩] }⟩ := by
  refine ⟨?_, ?_, ?_, ?_, ?_, ?_, ?_⟩ <;> decide +kernel

/-- A state and operands that meet the hypotheses of each clause of CarriersStartKeyAndRun. -/
theorem witness_carriers_start_key_and_run :
  (fun (n : Nat) (s : State) => n < 256 ∧ s.dev.mode n = pmCarrier ∧ s.dev.rd (0x2500 + n) 0x10 = 1 ∧ s.dev.sideState n = stUp ∧
    s.dev.rootReady n = true) 5 ⟨[], ((carrierPair 5).wr 0x2505 5 2).wr 0x3012 1 1 |>.wr 0x3012 2 1⟩ ∧
  (fun (n : Nat) (s : State) => n < 256 ∧ s.dev.mode n = pmCarrier ∧ s.dev.rd (0x2500 + n) 0x10 = 1 ∧ s.dev.sideState n = stUp ∧
    s.dev.rootReady n = false) 5 ⟨[], carrierPair 5⟩ ∧
  (fun (n root : Nat) (j : Job) (s : State) => n < 256 ∧ (s.dev.pl (quadOf n)).exec = some j ∧ j.code = 0x80 ∧ j.target = n ∧
    j.win = none ∧ j.slot < 64 ∧ s.dev.slotLoaded j.slot = true ∧ s.dev.rootReady n = true ∧
    (s.dev.pl (quadOf n)).cache.find? (fun e => e.1 == j.slot) = some (j.slot, root) ∧ j.ctxA = s.dev.direction n true ∧
    (s.dev.carrier n).txCur = none)
    5 77 (aJob 0x80 none 5 2) ⟨[], (((carrierPair 5).wr 0x2505 5 2).wr 0x3012 1 1).wr 0x3012 2 1 |>.setPl 0 ⟨[], some (aJob 0x80 none 5 2), [(2, 77)]⟩⟩ ∧
  (fun (n e : Nat) (k r : CKey) (s : State) => n < 256 ∧ s.dev.rd (0x2500 + n) 0x10 = 2 ∧ (s.dev.carrier n).agreed = some e ∧
    (s.dev.carrier n).txCur = some k ∧ (s.dev.carrier n).rxCur = some r ∧ k.epoch = e ∧ r.epoch = e ∧ 2 ≤ (s.dev.carrier n).acks ∧
    s.dev.defect n 9 = false)
    5 9 ⟨9, 1, 1, none⟩ ⟨9, 2, 2, none⟩ ⟨[], ((carrierPair 5).wr 0x2505 0x10 2).setCarrier 5 { Carrier.init with txCur := some ⟨9, 1, 1, none⟩, rxCur := some ⟨9, 2, 2, none⟩, agreed := some 9, acks := 2 }⟩ := by
  refine ⟨?_, ?_, ?_, ?_⟩ <;> decide +kernel

/-- A state and operands that meet the hypotheses of each clause of CarrierChangeoversAreAskedFor. -/
theorem witness_carrier_changeovers_are_asked_for :
  (fun (n : Nat) (w : Wr) (k r : CKey) (s : State) => n < 256 ∧ s.dev.hears (0x2500 + n) 0x1A w = true ∧ (s.dev.carrier n).txCur = some k ∧
    (s.dev.carrier n).rxCur = some r ∧ (s.dev.carrier n).txNext = none ∧ (s.dev.carrier n).rxNext = none ∧ k.epoch < 0xFFFFFF ∧
    r.epoch < 0xFFFFFF ∧ s.dev.vaultNormal = true ∧ (s.dev.pl (quadOf n)).jobs = [] ∧
    s.dev.quota (quadOf n) 0 + s.dev.quota (quadOf n) 1 + s.dev.quota (quadOf n) 2 < 63)
    5 (wOf 0x2505 0x1A 1) ⟨9, 1, 1, none⟩ ⟨9, 2, 2, none⟩ ⟨[], (carrierPair 5).setCarrier 5 { Carrier.init with txCur := some ⟨9, 1, 1, none⟩, rxCur := some ⟨9, 2, 2, none⟩ }⟩ ∧
  (fun (n : Nat) (w : Wr) (s : State) => n < 256 ∧ s.dev.hears (0x2500 + n) 0x1B w = true ∧ s.dev.rd (0x2500 + n) 0x10 = 3 ∧
    s.dev.switchAllowed n = true)
    5 (wOf 0x2505 0x1B 1) ⟨[], ((carrierPair 5).wr 0x2505 0x10 3).setCarrier 5 { Carrier.init with txNext := some ⟨1, 1, 1, none⟩, rxNext := some ⟨1, 2, 2, none⟩, ready := 3, farReady := some 1 }⟩ ∧
  (fun (n : Nat) (w : Wr) (s : State) => n < 256 ∧ s.dev.hears (0x2500 + n) 0x1C w = true ∧ w.value ≠ 0 ∧ s.dev.badTarget w.value = false ∧
    s.dev.isOn 141 = true ∧ s.dev.time.queue.length < 4096) 5 (wOf 0x2505 0x1C (5 * 2 ^ 48)) ⟨[], carrierPair 5⟩ ∧
  (fun (n : Nat) (w : Wr) (s : State) => n < 256 ∧ s.dev.hears (0x2500 + n) 0x1C w = true ∧ w.value = 0)
    5 (wOf 0x2505 0x1C 0) ⟨[], (carrierPair 5).wr 0x2505 0x1C 7⟩ ∧
  (fun (n : Nat) (w : Wr) (s : State) => n < 256 ∧ s.dev.hears (0x2500 + n) 0x1F w = true ∧ s.dev.mode n = pmOff)
    5 (wOf 0x2505 0x1F 0x45504F43) ⟨[], allOn.wr 0x2505 0x19 7⟩ := by
  refine ⟨?_, ?_, ?_, ?_, ?_⟩ <;> decide +kernel

/-- A state and operands that meet the hypotheses of each clause of JobsAreSubmittedRunAndCancelled. -/
theorem witness_jobs_are_submitted_run_and_cancelled :
  (fun (code win core : Nat) (p : Path) (s : State) => 1 ≤ code ∧ code ≤ 10 ∧ win < 8 ∧ core < 4 ∧ s.dev.rd (0x3060 + win) 1 = code ∧
    s.dev.hears (0x3060 + win) 1 ⟨p, 2, 1, code⟩ = true ∧ s.dev.hears (0x3060 + win) 0xA ⟨p, 2, 1, 0⟩ = true ∧ s.dev.winBusy win = false ∧
    ((s.dev.rd (0x3060 + win) 2 < 4 → s.dev.answersOff (tabDom (s.dev.rd (0x3060 + win) 2)) = false)) ∧
    s.dev.jobRangeOk (s.dev.roleOf p) win = true ∧ s.dev.jobStateOk win = true ∧
    ((s.dev.entryFor (s.dev.rd (0x3060 + win) 2) (if code = 2 then 2 else if s.dev.roleOf p = .firm ∨ s.dev.roleOf p = .boot then 0 else 1)).isSome = true))
    10 3 0 .cluster ⟨[], loaded 10⟩ ∧
  (fun (p w : Nat) (j : Job) (rest : List Job) (s : State) => p < 5 ∧ (if p < 4 then s.dev.runs (tabDom p) else s.dev.engineRuns) = true ∧
    (s.dev.pl p).exec = none ∧ (s.dev.pl p).queue = j :: rest ∧ j.started = false ∧ j.win = some w)
    4 7 (aJob 5 (some 7) 0 2) [] ⟨[], allOn.setPl 4 ⟨[aJob 5 (some 7) 0 2], none, []⟩⟩ ∧
  (fun (p w : Nat) (j : Job) (rest : List Job) (s : State) => p < 5 ∧ (if p < 4 then s.dev.runs (tabDom p) else s.dev.engineRuns) = true ∧
    (s.dev.pl p).exec = none ∧ (s.dev.pl p).queue = j :: rest ∧ j.started = true ∧ j.win = some w)
    3 7 { aJob 2 (some 7) 0 2 with started := true } [] ⟨[], allOn.setPl 3 ⟨[{ aJob 2 (some 7) 0 2 with started := true }], none, []⟩⟩ ∧
  (fun (p w : Nat) (j : Job) (s : State) => p < 4 ∧ s.dev.runs (tabDom p) = true ∧ (s.dev.pl p).exec = some j ∧ j.code = 10 ∧
    j.win = some w ∧ w < 8 ∧ j.dataAddr = 0 ∧ j.target < 65536 ∧ s.dev.keys.zeroed.contains (j.target / 16384) = false)
    0 7 (aJob 10 (some 7) 9 0x81) ⟨[], allOn.setPl 0 ⟨[], some (aJob 10 (some 7) 9 0x81), []⟩⟩ ∧
  (fun (p w k kn : Nat) (j : Job) (s : State) => s.dev.runs (tabDom p) = true ∧ p < 4 ∧ (s.dev.pl p).exec = some j ∧ j.code = 1 ∧
    j.win = some w ∧ w < 8 ∧ j.dataAddr = 0 ∧ j.target < 65536 ∧ s.dev.keys.zeroed.contains (j.target / 16384) = false ∧
    (s.dev.root [2] p j.slot).map (fun r => r.1) = some k ∧ kn = fld 31 0 j.ctxB ∧ s.dev.knRefused j.target kn = false)
    0 7 77 0 (aJob 1 (some 7) 9 5) ⟨[], (((allOn.wr 0x3015 2 1).wr 0x3015 1 2).setSlotKey 5 (some 77)).setPl 0 ⟨[], some (aJob 1 (some 7) 9 5), []⟩⟩ ∧
  (fun (p w : Nat) (j : Job) (s : State) => s.dev.runs (tabDom p) = true ∧ p < 4 ∧ (s.dev.pl p).exec = some j ∧ j.code = 1 ∧
    j.win = some w ∧ w < 8 ∧ j.dataAddr = 0 ∧ j.target < 65536 ∧ (s.dev.root [2] p j.slot).isSome = false ∧
    (s.dev.sa j.target).state = saLoading)
    0 7 (aJob 1 (some 7) 9 5) ⟨[], (allOn.setPl 0 ⟨[], some (aJob 1 (some 7) 9 5), []⟩).setSa 9 { Sa.init with state := saLoading }⟩ ∧
  (fun (p w k kn i a sk c : Nat) (j : Job) (s : State) => s.dev.runs (tabDom p) = true ∧ p < 4 ∧ (s.dev.pl p).exec = some j ∧ j.code = 2 ∧
    j.win = some w ∧ w < 8 ∧ j.stop = false ∧ (s.dev.pl p).queue = [] ∧ (s.dev.root [2] p j.slot).map (fun r => r.1) = some k ∧
    kn = fld 31 0 j.ctxB ∧ s.dev.batchNext j (j.param - j.pos) j.pos 0 = (some (i, a), sk) ∧ a < 65536 ∧
    s.dev.keys.zeroed.contains (a / 16384) = false ∧ c = j.target + i)
    0 7 77 0 0 9 0 3 { aJob 2 (some 7) 3 5 with param := 2, started := true } ⟨[], (((allOn.wr 0x3015 2 1).wr 0x3015 1 2).setSlotKey 5 (some 77)).setPl 0 ⟨[], some { aJob 2 (some 7) 3 5 with param := 2, started := true }, []⟩ |>.setChan 3 (2 ^ 89 + 9 * 2 ^ 128 + 2 ^ 143) |>.setSa 9 { Sa.init with channel := 3 }⟩ ∧
  (fun (p w k : Nat) (j : Job) (s : State) => s.dev.runs (tabDom p) = true ∧ p < 4 ∧ (s.dev.pl p).exec = some j ∧ j.code = 3 ∧
    j.win = some w ∧ w < 8 ∧ j.dataAddr = 0 ∧ (s.dev.root (rootUsages p) p j.slot).map (fun r => r.1) = some k)
    2 7 77 (aJob 3 (some 7) 0 5) ⟨[], (((allOn.wr 0x3015 2 1).wr 0x3015 1 2).setSlotKey 5 (some 77)).setPl 2 ⟨[], some (aJob 3 (some 7) 0 5), []⟩⟩ ∧
  (fun (w k : Nat) (j : Job) (s : State) => s.dev.engineRuns = true ∧ (s.dev.pl 4).exec = some j ∧ j.code = 4 ∧ j.win = some w ∧ w < 8 ∧
    j.dataAddr = 0 ∧ j.slot < 63 ∧ (s.dev.root [5] 4 63).map (fun r => r.1) = some k ∧ beAt 0 4 j.data = 0x514B4231 ∧ beAt 4 1 j.data = 1 ∧
    beAt 5 1 j.data = s.dev.usage j.slot ∧ beAt 6 1 j.data = j.slot ∧ s.dev.rd (0x3010 + j.slot) 2 = 0)
    7 77 { aJob 4 (some 7) 0 5 with data := [0x51, 0x4B, 0x42, 0x31, 1, 2, 5, 0, 0x3E, 0x9D, 0xD7, 0x2F, 0x6D, 0xF0, 0x7A, 0x83, 0x3E, 0x6E, 0x93, 0xE9, 0xBE, 0x1C, 0xDB, 7, 0x8D, 0xE6, 0x28, 0x8D, 0x8F, 0x74, 0x52, 0xEF, 0x61, 0xA5, 0x84, 0xAB, 0x3E, 0x31, 0x1E, 0xE2, 0x40, 0x99, 0x8D, 0x34, 0x9F, 0x85, 0x35, 0xC6] } ⟨[], (((allOn.wr 0x304F 2 1).wr 0x304F 1 5).wr 0x3015 1 2).setSlotKey 63 (some 77) |>.setPl 4 ⟨[], some { aJob 4 (some 7) 0 5 with data := [0x51, 0x4B, 0x42, 0x31, 1, 2, 5, 0, 0x3E, 0x9D, 0xD7, 0x2F, 0x6D, 0xF0, 0x7A, 0x83, 0x3E, 0x6E, 0x93, 0xE9, 0xBE, 0x1C, 0xDB, 7, 0x8D, 0xE6, 0x28, 0x8D, 0x8F, 0x74, 0x52, 0xEF, 0x61, 0xA5, 0x84, 0xAB, 0x3E, 0x31, 0x1E, 0xE2, 0x40, 0x99, 0x8D, 0x34, 0x9F, 0x85, 0x35, 0xC6] }, []⟩⟩ ∧
  (fun (w k n : Nat) (j : Job) (s : State) => s.dev.engineRuns = true ∧ (s.dev.pl 4).exec = some j ∧ j.code = 5 ∧ j.win = some w ∧ w < 8 ∧
    j.dataAddr = 0 ∧ (s.dev.root [3] 4 j.slot).map (fun r => r.1) = some k ∧ n = (if bit 0 j.param = true then 32 else 16))
    7 77 16 { aJob 5 (some 7) 130 5 with data := [1, 2, 3] } ⟨[], (((allOn.wr 0x3015 2 1).wr 0x3015 1 3).setSlotKey 5 (some 77)).setPl 4 ⟨[], some { aJob 5 (some 7) 130 5 with data := [1, 2, 3] }, []⟩⟩ ∧
  (fun (w : Nat) (j : Job) (s : State) => s.dev.engineRuns = true ∧ (s.dev.pl 4).exec = some j ∧ j.code = 6 ∧ j.win = some w ∧ w < 8 ∧
    j.dataAddr = 0 ∧ (s.dev.ctx j.target).hasKeys = true ∧
    ((bit 0 j.param = true → ofBE (cmac (toBE (s.dev.ctx j.target).cakLen (s.dev.ctx j.target).ick) j.data) = j.ctxA * 2 ^ 64 + j.ctxB)))
    7 { aJob 6 (some 7) 130 0 with data := [1, 2, 3] } ⟨[], (allOn.setCtx 130 { Ctx.init with hasKeys := true, ick := 5, kek := 6, cakLen := 16 }).setPl 4 ⟨[], some { aJob 6 (some 7) 130 0 with data := [1, 2, 3] }, []⟩⟩ ∧
  (fun (w n : Nat) (j : Job) (s : State) => s.dev.engineRuns = true ∧ (s.dev.pl 4).exec = some j ∧ j.code = 7 ∧ j.win = some w ∧ w < 8 ∧
    j.dataAddr = 0 ∧ (s.dev.ctx j.target).hasKeys = true ∧ s.dev.rd 0x3000 6 = 0 ∧ n = (if bit 0 j.param = true then 32 else 16))
    7 16 (aJob 7 (some 7) 130 0) ⟨[], (allOn.setCtx 130 { Ctx.init with hasKeys := true, ick := 5, kek := 6, cakLen := 16 }).setPl 4 ⟨[], some (aJob 7 (some 7) 130 0), []⟩⟩ ∧
  (fun (w : Nat) (j : Job) (s : State) => s.dev.engineRuns = true ∧ (s.dev.pl 4).exec = some j ∧ j.code = 8 ∧ j.win = some w ∧ w < 8 ∧
    j.dataAddr = 0 ∧ (s.dev.ctx j.target).hasKeys = true)
    7 { aJob 8 (some 7) 130 0 with data := [0x0C, 0x85, 0xC1, 0x27, 0xE7, 0x0C, 0x52, 0x31, 0x8C, 5, 0x10, 0x35, 0x8D, 0x72, 0x5C, 0x1F, 0xF7, 0x0C, 0x8B, 0x91, 1, 0xBE, 0xE7, 0x88] } ⟨[], (allOn.setCtx 130 { Ctx.init with hasKeys := true, ick := 5, kek := 6, cakLen := 16 }).setPl 4 ⟨[], some { aJob 8 (some 7) 130 0 with data := [0x0C, 0x85, 0xC1, 0x27, 0xE7, 0x0C, 0x52, 0x31, 0x8C, 5, 0x10, 0x35, 0x8D, 0x72, 0x5C, 0x1F, 0xF7, 0x0C, 0x8B, 0x91, 1, 0xBE, 0xE7, 0x88] }, []⟩⟩ ∧
  (fun (w c kn : Nat) (j : Job) (x : Ctx) (y : Sa) (s : State) => s.dev.engineRuns = true ∧ (s.dev.pl 4).exec = some j ∧ j.code = 9 ∧
    j.win = some w ∧ w < 8 ∧ j.dataAddr = 0 ∧ j.target < 65536 ∧ s.dev.keys.zeroed.contains (j.target / 16384) = false ∧
    c = fld 7 0 j.param ∧ x = s.dev.ctx c ∧ y = s.dev.sa j.target ∧ x.hasSak = true ∧ x.sakLen = suiteKeyLen y.suite ∧
    ((x.spent = true → y.rx = true)) ∧ kn = fld 31 0 j.ctxB)
    7 130 0 { aJob 9 (some 7) 9 0 with param := 130 } { Ctx.init with hasKeys := true, ick := 5, kek := 6, cakLen := 16, hasSak := true, sak := 7, sakLen := 16 } Sa.init ⟨[], (allOn.setCtx 130 { Ctx.init with hasKeys := true, ick := 5, kek := 6, cakLen := 16, hasSak := true, sak := 7, sakLen := 16 }).setPl 4 ⟨[], some { aJob 9 (some 7) 9 0 with param := 130 }, []⟩⟩ ∧
  (fun (p : Nat) (j : Job) (us : List Nat) (s : State) => p < 5 ∧ (if p < 4 then s.dev.runs (tabDom p) else s.dev.engineRuns) = true ∧
    (s.dev.pl p).exec = some j ∧ s.dev.rd 0x3000 2 ≠ 1 ∧ j.source p = some (j.slot, us) ∧ us.contains (s.dev.usage j.slot) = true ∧
    j.slot < 64 ∧ s.dev.slotLoaded j.slot = true ∧ (s.dev.pl p).cache.any (fun e => e.1 == j.slot) = false ∧ s.dev.inject = none)
    2 (aJob 3 (some 7) 0 5) (rootUsages 3) ⟨[], ((allOn.wr 0x3015 2 1).wr 0x3015 1 2).setPl 2 ⟨[], some (aJob 3 (some 7) 0 5), []⟩⟩ ∧
  (fun (win : Nat) (w : Wr) (j : Job) (s : State) => win < 8 ∧ s.dev.hears (0x3060 + win) 0xF w = true ∧ s.dev.rd (0x3060 + win) 2 < 5 ∧
    (s.dev.pl (s.dev.rd (0x3060 + win) 2)).jobs.find? (fun x => x.win == some win) = some j ∧ j.started = false)
    7 (wOf 0x3067 0xF 1) (aJob 3 (some 7) 0 5) ⟨[], (allOn.wr 0x3067 2 1).setPl 1 ⟨[aJob 3 (some 7) 0 5], none, []⟩⟩ := by
  refine ⟨?_, ?_, ?_, ?_, ?_, ?_, ?_, ?_, ?_, ?_, ?_, ?_, ?_, ?_, ?_, ?_⟩ <;> decide +kernel

/-- A state and operands that meet the hypotheses of each clause of VaultSlotsAndGeneratorAreServed. -/
theorem witness_vault_slots_and_generator_are_served :
  (fun (slot : Nat) (w : Wr) (s : State) => slot < 64 ∧ s.dev.hears (0x3010 + slot) 1 w = true ∧ w.value < 5 ∧
    s.dev.rd (0x3010 + slot) 2 = 0) 5 (wOf 0x3015 1 4) ⟨[], allOn⟩ ∧
  (fun (slot : Nat) (w : Wr) (s : State) => slot < 64 ∧ s.dev.hears (0x3010 + slot) 4 w = true ∧ w.value = 0x5A45524F ∧
    s.dev.vaultNormal = true ∧ s.dev.slotInUse slot = false) 63 (wOf 0x304F 4 0x5A45524F) ⟨[], allOn⟩ ∧
  (fun (_ok : Bool) (w : Wr) (s : State) => s.dev.hears 0x3000 7 w = true) false (wOf 0x3000 7 1) ⟨[], allOn⟩ ∧
  (fun (s : State) => s.dev.rd 0x3000 6 = 0) ⟨[], allOn⟩ ∧
  (fun (s : State) => s.dev.rd 0x3000 6 ≠ 2) ⟨[], allOn⟩ ∧
  (fun (b : Nat) (w : Wr) (s : State) => b < 64 ∧ s.dev.hears (0x3080 + b) 1 w = true ∧ w.value = 0)
    63 (wOf 0x30BF 1 0) ⟨[], allOn.wr 0x30BF 1 1⟩ ∧
  (fun (b : Nat) (w : Wr) (s : State) => b < 64 ∧ s.dev.hears (0x3080 + b) 1 w = true ∧ w.value = 1 ∧ s.dev.rd (0x3080 + b) 1 = 0 ∧
    s.dev.mkaChannel (s.dev.rd (0x3080 + b) 2) (s.dev.rd (0x3080 + b) 0xD) false = true ∧
    (List.range (s.dev.rd (0x3080 + b) 0xF)).all (fun i => s.dev.mkaChannel (s.dev.rd (0x3080 + b) 2) (s.dev.rd (0x3080 + b) 0xE + i) true) = true ∧
    s.dev.mkaBound (s.dev.rd (0x3080 + b) 2) = false)
    0 (wOf 0x3080 1 1) ⟨[], (((((passPair 5).wr 0x3080 2 5).wr 0x3080 0xD 1).wr 0x3080 0xE 2).setChan 1 (5 * 2 ^ 64 + 2 ^ 73 + 2 ^ 90)).setChan 2 (5 * 2 ^ 64 + 2 ^ 72 + 2 ^ 73 + 2 ^ 90)⟩ := by
  refine ⟨?_, ?_, ?_, ?_, ?_, ?_, ?_⟩ <;> decide +kernel

/-- A state and operands that meet the hypotheses of each clause of ZeroisationRunsAndIsCleared. -/
theorem witness_zeroisation_runs_and_is_cleared :
  (fun (w : Wr) (s : State) => s.dev.hears 0x3000 1 w = true ∧ w.value = 0x5A45524F ∧ s.dev.rd 0x3000 2 ≠ 1)
    (wOf 0x3000 1 0x5A45524F) ⟨[], allOn⟩ ∧
  (fun (s : State) => s.dev.tamper.zeroDone = false ∧ s.dev.power.supply < 2 ∧ s.dev.rd 0x3000 2 ≠ 1) ⟨[], allOn⟩ ∧
  (fun (s : State) => s.dev.rd 0x3000 2 = 1 ∧ s.dev.boot.keysWait = false) ⟨[], allOn.wr 0x3000 2 1⟩ ∧
  (fun (s : State) => s.dev.keys.dapDue = true) ⟨[], { allOn with keys := { allOn.keys with dapDue := true } }⟩ ∧
  (fun (w : Wr) (s : State) => s.dev.hears 0x3000 3 w = true ∧ w.value = 0x434C4541 ∧ s.dev.rd 0x3000 2 = 2 ∧
    s.dev.tamper.zeroLow = false ∧ s.dev.zeroAlarm = false) (wOf 0x3000 3 0x434C4541) ⟨[], allOn.wr 0x3000 2 2⟩ ∧
  (fun (s : State) => s.dev.keys.clearing = true) ⟨[], { allOn.wr 0x3000 2 2 with keys := { allOn.keys with clearing := true } }⟩ := by
  refine ⟨?_, ?_, ?_, ?_, ?_, ?_⟩ <;> decide +kernel

/-- A state and operands that meet the hypotheses of each clause of SaStoreOperationsActOnTheirSa. -/
theorem witness_sa_store_operations_act_on_their_sa :
  (fun (win : Nat) (p : Path) (s : State) => win < 16 ∧ s.dev.hears (0x3100 + win) 1 (cmdWr p 2) = true ∧
    s.dev.rd (0x3100 + win) 2 ≤ 16383 ∧
    configRangeOk (s.dev.rd (0x3100 + win) 3) (s.dev.rd (0x3100 + win) 4) (s.dev.rd (0x3100 + win) 5) (s.dev.rd (0x3100 + win) 6) = true ∧
    s.dev.vaultNormal = true ∧ (s.dev.sa (win / 4 * 16384 + s.dev.rd (0x3100 + win) 2)).state = saEmpty)
    0 .cluster ⟨[], ((allOn.wr 0x3100 2 16383).wr 0x3100 4 1)⟩ ∧
  (fun (win : Nat) (p : Path) (s : State) => win < 16 ∧ s.dev.hears (0x3100 + win) 1 (cmdWr p 1) = true ∧
    s.dev.rd (0x3100 + win) 2 ≤ 16383) 0 .cluster ⟨[], allOn.wr 0x3100 2 16383⟩ ∧
  (fun (win : Nat) (p : Path) (s : State) => win < 16 ∧ s.dev.hears (0x3100 + win) 1 (cmdWr p 3) = true ∧
    s.dev.rd (0x3100 + win) 2 ≤ 16383 ∧ (s.dev.sa (win / 4 * 16384 + s.dev.rd (0x3100 + win) 2)).state ≠ saZeroised)
    0 .cluster ⟨[], (allOn.wr 0x3100 2 16383).wr 0x3100 6 77⟩ ∧
  (fun (win : Nat) (p : Path) (s : State) => win < 16 ∧ s.dev.hears (0x3100 + win) 1 (cmdWr p 4) = true ∧
    s.dev.rd (0x3100 + win) 2 ≤ 16383 ∧ (s.dev.sa (win / 4 * 16384 + s.dev.rd (0x3100 + win) 2)).rx = false ∧
    (s.dev.sa (win / 4 * 16384 + s.dev.rd (0x3100 + win) 2)).state = saReady)
    0 .cluster ⟨[], ((allOn.wr 0x3100 2 16383).wr 0x3100 4 77).setSa 16383 { Sa.init with state := saReady }⟩ ∧
  (fun (win : Nat) (p : Path) (s : State) => win < 16 ∧ s.dev.hears (0x3100 + win) 1 (cmdWr p 4) = true ∧
    s.dev.rd (0x3100 + win) 2 ≤ 16383 ∧ (s.dev.sa (win / 4 * 16384 + s.dev.rd (0x3100 + win) 2)).rx = true ∧
    [saReady, saActive, saRetiring].contains (s.dev.sa (win / 4 * 16384 + s.dev.rd (0x3100 + win) 2)).state = true)
    0 .cluster ⟨[], ((allOn.wr 0x3100 2 16383).wr 0x3100 5 77).setSa 16383 { Sa.init with state := saActive, rx := true }⟩ ∧
  (fun (win : Nat) (p : Path) (s : State) => win < 16 ∧ s.dev.hears (0x3100 + win) 1 (cmdWr p 5) = true ∧
    s.dev.rd (0x3100 + win) 2 ≤ 16383 ∧
    [saEmpty, saReady, saRetiring, saExhausted].contains (s.dev.sa (win / 4 * 16384 + s.dev.rd (0x3100 + win) 2)).state = true)
    0 .cluster ⟨[], (allOn.wr 0x3100 2 16383).setSa 16383 { Sa.init with state := saReady, keyNo := 7 }⟩ := by
  refine ⟨?_, ?_, ?_, ?_, ?_, ?_⟩ <;> decide +kernel

/-- A state and operands that meet the hypotheses of each clause of SaNotificationsSchedulesAndRetirement. -/
theorem witness_sa_notifications_schedules_and_retirement :
  (fun (q v : Nat) (rest : List Nat) (w : Wr) (s : State) => q < 4 ∧ s.dev.hears (0x3110 + q) 2 w = true ∧ s.dev.notes q = v :: rest)
    3 9 [8] (wOf 0x3113 2 1) ⟨[], (onDoms [134, 135]).setNotes 3 [9, 8]⟩ ∧
  (fun (q c : Nat) (w : Wr) (s : State) => q < 4 ∧ s.dev.hears (0x3110 + q) 9 w = true ∧ c = s.dev.rd (0x3110 + q) 6 ∧ c / 8192 = q ∧
    chRx (s.dev.chan c) = false ∧ s.dev.isOn 141 = true ∧ s.dev.time.queue.length < 4096)
    0 1 (wOf 0x3110 9 1) ⟨[], (passPair 5).wr 0x3110 6 1⟩ ∧
  (fun (q : Nat) (w : Wr) (s : State) => q < 4 ∧ s.dev.hears (0x3110 + q) 0xA w = true ∧ w.value / 8192 = q)
    0 (wOf 0x3110 0xA 1) ⟨[], allOn.setQueue [⟨5, .channel 1 2, 0⟩]⟩ ∧
  (fun (q c a x : Nat) (s : State) => q < 4 ∧ s.dev.runs (tabDom q) = true ∧
    Tbl.get (fun _ => []) s.dev.keys.triggers q = [⟨true, c, a, x⟩] ∧ c / 8192 = q ∧ a < 4 ∧ chAn (s.dev.chan c) ≠ a ∧
    s.dev.mayChange c a = true)
    0 1 1 0 ⟨[], (((passPair 5).setChan 1 (5 * 2 ^ 64 + 2 ^ 73 + 2 ^ 159 + 9 * 2 ^ 144)).setSa 9 { Sa.init with state := saReady, an := 1, channel := 1 }).trigger ⟨true, 1, 1, 0⟩⟩ ∧
  (fun (i : Nat) (s : State) => i < 65536 ∧ (s.dev.sa i).rx = false ∧ (s.dev.sa i).state = saRetiring ∧
    s.dev.runs (tabDom (i / 16384)) = true ∧ s.dev.boundIn (chPair (s.dev.chan (i / 16384 * 8192 + (s.dev.sa i).channel))) i = false ∧
    ((s.dev.isFenced (eSliceOf (chPair (s.dev.chan (i / 16384 * 8192 + (s.dev.sa i).channel)))) = true → s.dev.assay.reclaimed.contains (eSliceOf (chPair (s.dev.chan (i / 16384 * 8192 + (s.dev.sa i).channel)))) = true)))
    16384  ⟨[], allOn.setSa 16384 { Sa.init with state := saRetiring, key := 5 }⟩ ∧
  (fun (i : Nat) (s : State) => i < 65536 ∧ s.dev.runs (tabDom (i / 16384)) = true ∧ (s.dev.sa i).rx = true ∧
    (s.dev.sa i).state = saRetiring) 65535 ⟨[], allOn.setSa 65535 { Sa.init with rx := true, state := saRetiring, key := 5 }⟩ ∧
  (fun (w : Wr) (s : State) => s.dev.hears 0x3070 3 w = true)
    (wOf 0x3070 3 1) ⟨[], (allOn.wr 0x3070 1 7).setCtx 7 { Ctx.init with hasKeys := true }⟩ := by
  refine ⟨?_, ?_, ?_, ?_, ?_, ?_, ?_⟩ <;> decide +kernel

/-- A state and operands that meet the hypotheses of each clause of TableWindowsLookAndChangeEntries. -/
theorem witness_table_windows_look_and_change_entries :
  (fun (n l : Nat) (p : Path) (s : State) => n < 64 ∧ s.dev.hears (0x4040 + n) 1 ⟨p, 2, 1, 1⟩ = true ∧ n / 4 % 4 < 2 ∧
    s.dev.findKey (n / 4) (s.dev.winKey n) = some l ∧ s.dev.eccAmong (n / 4) (s.dev.winKey n) = none ∧ s.dev.inject = none)
    0 (4 * hashKey 0xFFFFFFFF 0) .cluster ⟨[], tabled 0⟩ ∧
  (fun (n l : Nat) (p : Path) (_hit : Bool) (s : State) => n < 64 ∧ s.dev.hears (0x4040 + n) 1 ⟨p, 2, 1, 6⟩ = true ∧ n / 4 % 4 < 2 ∧
    s.dev.findKey (n / 4) (s.dev.winKey n) = some l ∧ s.dev.eccAmong (n / 4) (s.dev.winKey n) = none ∧
    bit 0 (s.dev.rd (0x4040 + n) 3) = false ∧ s.dev.inject = none) 0 (4 * hashKey 0xFFFFFFFF 0) .cluster false ⟨[], tabled 0⟩ ∧
  (fun (n l : Nat) (p : Path) (_hit : Bool) (s : State) => n < 64 ∧ s.dev.hears (0x4040 + n) 1 ⟨p, 2, 1, 6⟩ = true ∧ n / 4 % 4 < 2 ∧
    s.dev.findKey (n / 4) (s.dev.winKey n) = some l ∧ s.dev.eccAmong (n / 4) (s.dev.winKey n) = none ∧
    bit 0 (s.dev.rd (0x4040 + n) 3) = true ∧ s.dev.inject = none)
    0 (4 * hashKey 0xFFFFFFFF 0) .cluster false ⟨[], (tabled 0).wr 0x4040 3 1⟩ ∧
  (fun (n l : Nat) (p : Path) (s : State) => n < 64 ∧ s.dev.hears (0x4040 + n) 1 ⟨p, 2, 1, 5⟩ = true ∧ n / 4 % 4 < 2 ∧
    l = s.dev.rd (0x4040 + n) 2 ∧ l < 32768 ∧ s.dev.eccBad.contains (slotKey (n / 4) l) = false)
    0 (4 * hashKey 0xFFFFFFFF 0) .cluster ⟨[], (tabled 0).wr 0x4040 2 (4 * hashKey 0xFFFFFFFF 0)⟩ ∧
  (fun (n l : Nat) (p : Path) (s : State) => n < 64 ∧ s.dev.hears (0x4040 + n) 1 ⟨p, 2, 1, 2⟩ = true ∧ n / 4 % 4 < 2 ∧
    s.dev.lockedFor (n / 4) (s.dev.roleOf p) = false ∧
    exactOk (n / 4) (s.dev.winKey n) (s.dev.rd (0x4040 + n) 0xC) (s.dev.rd (0x4040 + n) 0xD) = true ∧
    s.dev.findKey (n / 4) (s.dev.winKey n) = none ∧ s.dev.freeIn (n / 4) (bucketsOf (s.dev.seedsNow (n / 4)) (s.dev.winKey n)).1 = some l)
    0 (4 * hashKey 0xFFFFFFFF 0) .cluster ⟨[], allOn⟩ ∧
  (fun (n l : Nat) (p : Path) (s : State) => n < 64 ∧ s.dev.hears (0x4040 + n) 1 ⟨p, 2, 1, 3⟩ = true ∧ n / 4 % 4 < 2 ∧
    s.dev.lockedFor (n / 4) (s.dev.roleOf p) = false ∧
    exactOk (n / 4) (s.dev.winKey n) (s.dev.rd (0x4040 + n) 0xC) (s.dev.rd (0x4040 + n) 0xD) = true ∧
    s.dev.findKey (n / 4) (s.dev.winKey n) = some l ∧ bit 0 (s.dev.rd (0x4040 + n) 0xD) = true)
    0 (4 * hashKey 0xFFFFFFFF 0) .cluster ⟨[], (tabled 0).wr 0x4040 0xD 1⟩ ∧
  (fun (n i : Nat) (p : Path) (s : State) => n < 64 ∧ s.dev.hears (0x4040 + n) 1 ⟨p, 2, 1, 3⟩ = true ∧ n / 4 % 4 = 2 ∧
    i = s.dev.rd (0x4040 + n) 2 ∧ i < 1024 ∧ ((i < 32 → n % 4 = 0)) ∧ s.dev.lockedFor (n / 4) (s.dev.roleOf p) = false ∧
    tcamOk (n / 16) (s.dev.winKey n % 2 ^ 192) (s.dev.winMask n) (s.dev.rd (0x4040 + n) 0xC) = true)
    8 40 .cluster ⟨[], (((allOn.wr 0x4048 2 40).wr 0x4048 9 (2 ^ 8)).wr 0x4048 0xC 0).wr 0x4048 0xD 1⟩ ∧
  (fun (n i c r : Nat) (p : Path) (s : State) => n < 64 ∧ s.dev.hears (0x4040 + n) 1 ⟨p, 2, 1, 3⟩ = true ∧ n / 4 % 4 = 3 ∧
    i = s.dev.rd (0x4040 + n) 2 ∧ i < 8192 ∧ c = n / 16 * 8192 + i ∧ r = chanClean (s.dev.winWords n) ∧
    s.dev.lockedFor (n / 4) (s.dev.roleOf p) = false ∧ bit 1 (s.dev.rd (0x4040 + n) 3) = false ∧ chanOk (n / 16) r = true ∧
    ((chRx r = true → bit 83 r = false → s.dev.level1 (chPair r) = false)) ∧ chPair r = chPair (s.dev.chan c) ∧
    chRx r = chRx (s.dev.chan c))
    12 5 5 (2 ^ 74 + 2 ^ 77) .cluster ⟨[], ((allOn.wr 0x404C 2 5).wr 0x404C 0xD (2 ^ 10 + 2 ^ 13)).setChan 5 (3 * 2 ^ 86)⟩ ∧
  (fun (n l : Nat) (p : Path) (s : State) => n < 64 ∧ s.dev.hears (0x4040 + n) 1 ⟨p, 2, 1, 4⟩ = true ∧ n / 4 % 4 < 2 ∧
    s.dev.lockedFor (n / 4) (s.dev.roleOf p) = false ∧ s.dev.findKey (n / 4) (s.dev.winKey n) = some l)
    0 (4 * hashKey 0xFFFFFFFF 0) .cluster ⟨[], tabled 0⟩ := by
  refine ⟨?_, ?_, ?_, ?_, ?_, ?_, ?_, ?_, ?_⟩ <;> decide +kernel

/-- A state and operands that meet the hypotheses of each clause of TablesDrainMigrateAndAge. -/
theorem witness_tables_drain_migrate_and_age :
  (fun (k x y : Nat) (s : State) => k < 16 ∧ k % 4 < 2 ∧ s.dev.tableOn k = true ∧ s.dev.isLocked k = false ∧
    stashLocs.find? (fun z => (s.dev.ent k z).valid && (s.dev.drainPlace k z).isSome) = some x ∧ s.dev.drainPlace k x = some y)
    0 0x8000 (4 * hashKey 0xFFFFFFFF 0) ⟨[], { allOn with slots := [(0x8000, ⟨0, 0, 0, 1⟩)] }⟩ ∧
  (fun (k : Nat) (w : Wr) (s : State) => k < 16 ∧ s.dev.hears (0x4010 + k) 8 w = true ∧ s.dev.rd (0x4010 + k) 6 ≠ s.dev.rd (0x4010 + k) 7 ∧
    s.dev.rd (0x4010 + k) 9 % 4 = 0 ∧ s.dev.isLocked k = false) 0 (wOf 0x4010 8 1) ⟨[], allOn.wr 0x4010 6 5⟩ ∧
  (fun (k a b : Nat) (s : State) => k < 16 ∧ s.dev.tableOn k = true ∧ (s.dev.tab k).seeds = some (a, b) ∧ s.dev.rd (0x4010 + k) 9 % 4 = 1 ∧
    s.dev.isLocked k = false ∧ s.dev.oldEntries k 0 = [] ∧ s.dev.oldEntries k (fld 28 16 (s.dev.rd (0x4010 + k) 9)) = [])
    0 5 6 ⟨[], (allOn.wr 0x4010 9 1).setTab 0 { Tab.init with seeds := some (5, 6) }⟩ ∧
  (fun (k l z : Nat) (e : Ent) (rest : List Nat) (s : State) => k < 16 ∧ k % 4 < 2 ∧ s.dev.tableOn k = true ∧ s.dev.isLocked k = false ∧
    (s.dev.tab k).seeds.isSome = true ∧ s.dev.rd (0x4010 + k) 9 % 4 = 1 ∧
    s.dev.oldEntries k (fld 28 16 (s.dev.rd (0x4010 + k) 9)) = l :: rest ∧ e = s.dev.inEpoch k (s.dev.ent k l) ∧
    s.dev.freeIn k (bucketsOf (s.dev.seedsNow k) e.key).1 = some z)
    0 (4 * hashKey 0xFFFFFFFF 0) (4 * (bucketsOf (5, 6) 0).1) ⟨0, 0, 5, 33⟩ [] ⟨[], ((tabled 0).wr 0x4010 9 1).setTab 0 { Tab.init with epoch := 1, seeds := some (5, 6) }⟩ ∧
  (fun (k loc : Nat) (s : State) => k < 16 ∧ k % 4 < 2 ∧ s.dev.tableOn k = true ∧ s.dev.isLocked k = false ∧
    s.dev.rd (0x4080 + k / 4) 1 ≠ 0 ∧ (s.dev.ent k loc).valid = true ∧ bit 2 (s.dev.ent k loc).ctl = true)
    0 8 ⟨[], ({ allOn with slots := [(8, ⟨0, 0, 0, 5⟩)] }).wr 0x4080 1 1⟩ ∧
  (fun (k loc : Nat) (s : State) => k < 16 ∧ k % 4 < 2 ∧ s.dev.tableOn k = true ∧ s.dev.isLocked k = false ∧
    s.dev.rd (0x4080 + k / 4) 1 ≠ 0 ∧ (s.dev.ent k loc).valid = true ∧ bit 2 (s.dev.ent k loc).ctl = true ∧
    (s.dev.ent k loc).active = true) 0 8 ⟨[], ({ allOn with slots := [(8, ⟨0, 0, 0, 7⟩)] }).wr 0x4080 1 1⟩ ∧
  (fun (k loc : Nat) (s : State) => k < 16 ∧ k % 4 < 2 ∧ s.dev.tableOn k = true ∧ s.dev.isLocked k = false ∧
    s.dev.rd (0x4080 + k / 4) 1 ≠ 0 ∧ (s.dev.ent k loc).valid = true ∧ bit 2 (s.dev.ent k loc).ctl = true ∧
    (s.dev.ent k loc).active = false ∧ bit 3 (s.dev.ent k loc).ctl = false)
    0 8 ⟨[], ({ allOn with slots := [(8, ⟨0, 0, 0, 5⟩)] }).wr 0x4080 1 1⟩ := by
  refine ⟨?_, ?_, ?_, ?_, ?_, ?_, ?_⟩ <;> decide +kernel

/-- A state and operands that meet the hypotheses of each clause of TableLocksNotesAndPlumbBlocks. -/
theorem witness_table_locks_notes_and_plumb_blocks :
  (fun (k _t : Nat) (w : Wr) (s : State) => k < 16 ∧ s.dev.hears (0x4010 + k) 0xA w = true ∧
    s.dev.lockedFor k (s.dev.roleOf w.path) = false) 15 7 (wOf 0x401F 0xA 9) ⟨[], onDoms [134, 135]⟩ ∧
  (fun (k lease : Nat) (w : Wr) (s : State) => k < 16 ∧ s.dev.hears (0x4010 + k) 0xB w = true ∧
    (s.dev.tab k).lock = some (s.dev.roleOf w.path, lease))
    0 9 (wOf 0x4010 0xB 1) ⟨[], allOn.setTab 0 { Tab.init with lock := some (.boot, 9) }⟩ ∧
  (fun (k : Nat) (s : State) => k < 16 ∧ s.dev.isLocked k = true ∧ s.dev.runs (tabDom (k / 4)) = true)
    0 ⟨[], allOn.setTab 0 { Tab.init with lock := some (.boot, 9) }⟩ ∧
  (fun (q v : Nat) (rest : List Nat) (w : Wr) (s : State) => q < 4 ∧ s.dev.hears (0x4080 + q) 7 w = true ∧ s.dev.learnQ q = v :: rest)
    0 9 [8] (wOf 0x4080 7 1) ⟨[], allOn.setLearnQ 0 [9, 8]⟩ ∧
  (fun (k : Nat) (w : Wr) (s : State) => k < 16 ∧ s.dev.hears (0x4010 + k) 0x17 w = true ∧ fld 39 32 w.value < plumbBlocks k)
    0 (wOf 0x4010 0x17 (127 * 2 ^ 32 + 5)) ⟨[], allOn⟩ ∧
  (fun (k : Nat) (s : State) => k < 16 ∧ s.dev.rd (0x4010 + k) 0x15 = 1 ∧ s.dev.tableOn k = true ∧ s.dev.inject = none)
    0 ⟨[], (allOn.wr 0x4010 0x15 1).setTab 0 { Tab.init with dirty := [5] }⟩ ∧
  (fun (k b : Nat) (s : State) => k < 16 ∧ s.dev.rd (0x4010 + k) 0x15 = 1 ∧ s.dev.tableOn k = true ∧ s.dev.inject = none ∧
    (s.dev.tab k).seeds = none ∧
    ((s.dev.tab k).plumb.filter (fun e => bit 32 e.2 && !(s.dev.tab k).dirty.contains e.1 && s.dev.plumbValue k e.1 != e.2 % 2 ^ 32)).map (fun e => e.1) = [b])
    0 7 ⟨[], (allOn.wr 0x4010 0x15 1).setTab 0 { Tab.init with dirty := [5], plumb := [(7, 2 ^ 32 + 9)] }⟩ := by
  refine ⟨?_, ?_, ?_, ?_, ?_, ?_, ?_⟩ <;> decide +kernel

/-- A state and operands that meet the hypotheses of each clause of TableDmaMovesImages. -/
theorem witness_table_dma_moves_images :
  (fun (op : Nat) (t : Nat) (g : DmaDesc) (_b : List Byte) (s : State) => t < 8 ∧ (s.dev.ring (128 + t)).avail = true ∧
    s.dev.endpointUp = true ∧ s.dev.dmaRuns = [] ∧ g.table < 16 ∧ g.addr % 64 = 0 ∧ s.dev.answersOff (tabDom (g.table / 4)) = false ∧
    (op = 1 ∨ op = 3 ∨ op = 5 ∨ op = 7) ∧ dmaFits op g.table = true ∧ g.count = 1 ∧ g.first < (dmaUnits op g.table).1)
    7 0 ⟨64, 1, 3, 8190, false⟩ [] ⟨[], dmaReady 3⟩ ∧
  (fun (op : Nat) (t : Nat) (g : DmaDesc) (_b : List Byte) (s : State) => t < 8 ∧ (s.dev.ring (128 + t)).avail = true ∧
    s.dev.endpointUp = true ∧ s.dev.dmaRuns = [] ∧ g.table < 16 ∧ g.addr % 64 = 0 ∧ s.dev.answersOff (tabDom (g.table / 4)) = false ∧
    (op = 1 ∨ op = 3 ∨ op = 5 ∨ op = 7) ∧ dmaFits op g.table = true ∧ 1 < g.count ∧ g.first + g.count ≤ (dmaUnits op g.table).1)
    7 0 ⟨64, 2, 3, 8190, false⟩ [] ⟨[], dmaReady 3⟩ ∧
  (fun (t : Nat) (j : DmaJob) (rest : List (Nat × DmaJob)) (s : State) => s.dev.dmaRuns = (t, j) :: rest ∧
    s.dev.dmaBar j.op j.desc.table = none ∧ (j.op = 1 ∨ j.op = 3 ∨ j.op = 5 ∨ j.op = 7) ∧ j.next + 1 < j.desc.count)
    0 ⟨7, ⟨64, 5, 3, 8000, false⟩, [], 1, 0⟩ [] ⟨[], { dmaReady 3 with dmaRuns := [(0, ⟨7, ⟨64, 5, 3, 8000, false⟩, [], 1, 0⟩)] }⟩ ∧
  (fun (t : Nat) (g : DmaDesc) (b : List Byte) (s : State) => t < 8 ∧ (s.dev.ring (128 + t)).avail = true ∧ s.dev.endpointUp = true ∧
    s.dev.dmaRuns = [] ∧ g.table < 16 ∧ g.addr % 64 = 0 ∧ s.dev.answersOff (tabDom (g.table / 4)) = false ∧
    s.dev.runs (tabDom (g.table / 4)) = true ∧ (s.dev.tab g.table).lock.map (fun x => x.1) = some .host ∧ g.table % 4 < 2 ∧ g.count = 1 ∧
    g.first < 8192 ∧ 256 ≤ b.length ∧ ((∀ j ∈ List.range 4, (imageSlot (slice (64 * j) 64 (slice 0 256 b))).valid = false)))
    0 ⟨64, 1, 1, 8191, false⟩ (List.replicate 256 0) ⟨[], dmaReady 1⟩ ∧
  (fun (t : Nat) (g : DmaDesc) (b : List Byte) (e : Ent) (s : State) => t < 8 ∧ (s.dev.ring (128 + t)).avail = true ∧
    s.dev.endpointUp = true ∧ s.dev.dmaRuns = [] ∧ g.table < 16 ∧ g.addr % 64 = 0 ∧ s.dev.answersOff (tabDom (g.table / 4)) = false ∧
    s.dev.runs (tabDom (g.table / 4)) = true ∧ (s.dev.tab g.table).lock.map (fun x => x.1) = some .host ∧ g.table % 4 < 2 ∧ g.count = 1 ∧
    g.first < 64 ∧ 64 ≤ b.length ∧ e = imageSlot (slice 0 64 b) ∧ e.valid = true ∧ exactOk g.table e.key e.res e.ctl = true)
    0 ⟨64, 1, 0, 63, false⟩ (slotImage ⟨0, 0, 0, 1⟩) ⟨0, 0, 0, 1⟩ ⟨[], dmaReady 0⟩ ∧
  (fun (t : Nat) (g : DmaDesc) (b : List Byte) (e : Ent) (s : State) => t < 8 ∧ (s.dev.ring (128 + t)).avail = true ∧
    s.dev.endpointUp = true ∧ s.dev.dmaRuns = [] ∧ g.table < 16 ∧ g.addr % 64 = 0 ∧ s.dev.answersOff (tabDom (g.table / 4)) = false ∧
    s.dev.runs (tabDom (g.table / 4)) = true ∧ (s.dev.tab g.table).lock.map (fun x => x.1) = some .host ∧ g.table % 4 = 2 ∧ g.count = 1 ∧
    32 ≤ g.first ∧ g.first < 1024 ∧ 64 ≤ b.length ∧ e = imageTcam (slice 0 64 b) ∧ tcamOk (g.table / 4) e.key e.mask e.res = true)
    0 ⟨64, 1, 2, 32, false⟩ (tcamImage ⟨5, 0x1FF, 2 ^ 16, 1⟩) ⟨5, 0x1FF, 2 ^ 16, 1⟩ ⟨[], dmaReady 2⟩ ∧
  (fun (t : Nat) (g : DmaDesc) (b : List Byte) (c r : Nat) (s : State) => t < 8 ∧ (s.dev.ring (128 + t)).avail = true ∧
    s.dev.endpointUp = true ∧ s.dev.dmaRuns = [] ∧ g.table < 16 ∧ g.addr % 64 = 0 ∧ s.dev.answersOff (tabDom (g.table / 4)) = false ∧
    s.dev.runs (tabDom (g.table / 4)) = true ∧ (s.dev.tab g.table).lock.map (fun x => x.1) = some .host ∧ g.table % 4 = 3 ∧ g.count = 1 ∧
    g.setAn = false ∧ g.first < 8192 ∧ 32 ≤ b.length ∧ c = g.table / 4 * 8192 + g.first ∧ r = chanClean (ofLE (slice 0 32 b)) ∧
    chanOk (c / 8192) r = true ∧ chRx r = false ∧ chPair r = chPair (s.dev.chan c) ∧ chRx (s.dev.chan c) = false)
    0 ⟨64, 1, 3, 5, false⟩ (toLE 32 (2 ^ 74 + 2 ^ 77)) 5 (2 ^ 74 + 2 ^ 77) ⟨[], dmaReady 3⟩ ∧
  (fun (t : Nat) (g : DmaDesc) (b : List Byte) (s : State) => t < 8 ∧ (s.dev.ring (128 + t)).avail = true ∧ s.dev.endpointUp = true ∧
    s.dev.dmaRuns = [] ∧ g.table < 16 ∧ g.addr % 64 = 0 ∧ s.dev.answersOff (tabDom (g.table / 4)) = false ∧
    s.dev.runs (tabDom (g.table / 4)) = true ∧ g.count = 1 ∧ g.first < plumbBlocks g.table ∧ 8 ≤ b.length)
    0 ⟨64, 1, 3, 31, false⟩ (toLE 8 5) ⟨[], dmaReady 3⟩ := by
  refine ⟨?_, ?_, ?_, ?_, ?_, ?_, ?_, ?_⟩ <;> decide +kernel

/-- A state and operands that meet the hypotheses of each clause of QueueWindowsReadWriteAndFlush. -/
theorem witness_queue_windows_read_write_and_flush :
  (fun (n _t i : Nat) (p : Path) (s : State) => n < 16 ∧ s.dev.hears (qwIndex n) (qwSub n) ⟨p, 2, 1, 1⟩ = true ∧
    i = s.dev.rd (qwIndex n) (qwSub n + 2) ∧ s.dev.rd (qwIndex n) (qwSub n + 1) < 3 ∧
    ((s.dev.rd (qwIndex n) (qwSub n + 1) = 0 → i / 65536 = n / 4)) ∧ ((s.dev.rd (qwIndex n) (qwSub n + 1) = 1 → i / 8192 = n / 4)) ∧
    ((s.dev.rd (qwIndex n) (qwSub n + 1) = 2 → i < 1024))) 15 9 1023 .cluster ⟨[], (onDoms [135]).wr 0x50C1 0xF1 2 |>.wr 0x50C1 0xF2 1023⟩ ∧
  (fun (n _t i v : Nat) (p : Path) (s : State) => n < 16 ∧ s.dev.hears (qwIndex n) (qwSub n) ⟨p, 2, 1, 2⟩ = true ∧
    i = s.dev.rd (qwIndex n) (qwSub n + 2) ∧ s.dev.rd (qwIndex n) (qwSub n + 1) = 0 ∧ i / 65536 = n / 4 ∧ v = s.dev.qwData n % 2 ^ 128 ∧
    s.dev.queueWordOk (n / 4) v = true ∧ (fld 3 0 v = (s.dev.queue i).pool ∨ (s.dev.queue i).isEmpty = true))
    3 9 5 (15 + 2 ^ 8 + 64 * 2 ^ 66) .cluster ⟨[], ((onDoms [33]).wr 0x5001 0xF2 5).wr 0x5001 0xF3 (15 + 2 ^ 8) |>.wr 0x5001 0xF4 (64 * 4)⟩ ∧
  (fun (n _t i v : Nat) (p : Path) (s : State) => n < 16 ∧ s.dev.hears (qwIndex n) (qwSub n) ⟨p, 2, 1, 2⟩ = true ∧
    i = s.dev.rd (qwIndex n) (qwSub n + 2) ∧ s.dev.rd (qwIndex n) (qwSub n + 1) = 1 ∧ i / 8192 = n / 4 ∧ v = s.dev.qwData n ∧
    nodeWordOk v = true) 3 9 5 (64 * 2 ^ 128) .cluster ⟨[], ((onDoms [33]).wr 0x5001 0xF2 5).wr 0x5001 0xF1 1 |>.wr 0x5001 0xF5 64⟩ ∧
  (fun (n _t i v : Nat) (p : Path) (s : State) => n < 16 ∧ s.dev.hears (qwIndex n) (qwSub n) ⟨p, 2, 1, 2⟩ = true ∧
    i = s.dev.rd (qwIndex n) (qwSub n + 2) ∧ s.dev.rd (qwIndex n) (qwSub n + 1) = 2 ∧ i < 1024 ∧ v = s.dev.qwData n ∧
    policerWordOk v = true)
    3 9 5 (2 ^ 96 + 2 ^ 64 + 2 ^ 80) .cluster ⟨[], ((onDoms [33]).wr 0x5001 0xF2 5).wr 0x5001 0xF1 2 |>.wr 0x5001 0xF4 (1 + 2 ^ 16 + 2 ^ 32)⟩ ∧
  (fun (n _t i : Nat) (p : Path) (s : State) => n < 16 ∧ s.dev.hears (qwIndex n) (qwSub n) ⟨p, 2, 1, 3⟩ = true ∧
    i = s.dev.rd (qwIndex n) (qwSub n + 2) ∧ s.dev.rd (qwIndex n) (qwSub n + 1) = 0 ∧ i / 65536 = n / 4)
    3 9 16 .cluster ⟨[], (queued 16 0).wr 0x5001 0xF2 16⟩ ∧
  (fun (n _t x : Nat) (p : Path) (s : State) => n < 16 ∧ s.dev.hears (qwIndex n) (qwSub n) ⟨p, 2, 1, 4⟩ = true ∧
    x = s.dev.rd (qwIndex n) (qwSub n + 2) ∧ s.dev.rd (qwIndex n) (qwSub n + 1) = 0 ∧ x / 65536 = n / 4)
    3 9 16 .cluster ⟨[], (queued 16 0).wr 0x5001 0xF2 16⟩ := by
  refine ⟨?_, ?_, ?_, ?_, ?_, ?_⟩ <;> decide +kernel

/-- A state and operands that meet the hypotheses of each clause of PoolsAreOwnedAndSpilledPagesReturn. -/
theorem witness_pools_are_owned_and_spilled_pages_return :
  (fun (q p : Nat) (w : Wr) (s : State) => q < 4 ∧ p < 15 ∧ s.dev.hears (0x5000 + 64 * q) (0xF0 + p) w = true ∧ w.value ≠ 0 ∧
    (s.dev.rd (0x5000 + 64 * q) (0xF0 + p) = 0 ∨ s.dev.rd (0x5000 + 64 * q) (0xF0 + p) = w.value))
    3 14 (wOf 0x50C0 0xFE 1) ⟨[], onDoms [135]⟩ ∧
  (fun (q p : Nat) (w : Wr) (s : State) => q < 4 ∧ p < 15 ∧ s.dev.hears (0x5000 + 64 * q) (0xF0 + p) w = true ∧ w.value = 0 ∧
    s.dev.poolUsed q p = 0 ∧ s.dev.poolNamed q p = false ∧ s.dev.rd (0x5000 + 64 * q) 0xC8 ≠ p)
    3 14 (wOf 0x50C0 0xFE 0) ⟨[], (onDoms [135]).wr 0x50C0 0xFE 1⟩ ∧
  (fun (x : Nat) (f : Frame) (g : Page) (s : State) => x / 8 < 32768 ∧ s.dev.runs (bufDom (x / 65536)) = true ∧
    (s.dev.queue x).pages = [g] ∧ g.stack < 2 ∧ (s.dev.queue x).deep = [(f, false)] ∧ (s.dev.queue x).readBack = 0 ∧
    f.len ≤ 4096 - (s.dev.queue x).room ∧ (s.dev.queue x).cells < (s.dev.queue x).threshold ∧
    s.dev.poolFits (x / 65536) (s.dev.queue x).pool (cellsOf f.len) = true ∧ s.dev.inject = none)
    16 (aFrame true 0 2 false) ⟨1, stackPages, 1, []⟩ ⟨[], (passPair 0).setQ 16 { Queue.init with deep := [(aFrame true 0 2 false, false)], pages := [⟨1, stackPages, 1, []⟩], room := 4000 }⟩ ∧
  (fun (k : Nat) (_ok : Bool) (s : State) => k < 2 ∧ s.dev.stackState k = 1) 1 true ⟨[], allOn.wr 0x5003 0xDB 1⟩ ∧
  (fun (k : Nat) (s : State) => k < 2 ∧ s.dev.isLive (137 + k) = true) 1 ⟨[], allOn.wr 0x5003 0xDB 2⟩ := by
  refine ⟨?_, ?_, ?_, ?_, ?_⟩ <;> decide +kernel

/-- A state and operands that meet the hypotheses of each clause of PortSchedulersSelectAndCharge. -/
theorem witness_port_schedulers_select_and_charge :
  (fun (g t x : Nat) (f : Frame) (rest : List Frame) (s : State) => g < 512 ∧ x < 262144 ∧ s.dev.runs (bufDom (quadOf (g % 256))) = true ∧
    s.dev.sends g = true ∧ s.dev.inject = none ∧ s.dev.mayDraw g = true ∧ s.dev.portMayServe g t = true ∧
    s.dev.queuesWhere (s.dev.feeds g) = [x] ∧ (s.dev.queue x).sram = f :: rest ∧ s.dev.exitLen f ≤ s.dev.maxSdu g (x % 8) ∧
    s.dev.tooLong g (x % 8) (s.dev.exitLen f) = false ∧ s.dev.queueEligible g t x = true ∧
    (((s.dev.node (x / 8)).accrue t).tier).isSome = true ∧ s.dev.keys.suspended.contains (x / 8) = false ∧
    (s.dev.sched g).turn = some (x / 8) ∧ 0 < (s.dev.node (x / 8)).deficit ∧ bit (x % 8) (s.dev.rd (0x5000 + g) 1) = true)
    0 9 15 (aFrame false 0 1 false) [] ⟨[], ((queued 15 0).setSched 0 { Sched.init with turn := some 1 }).setNode 1 { Node.init with deficit := 5 } |>.wr 0x5000 1 0x80⟩ ∧
  (fun (g _t : Nat) (x : Staged) (rest : List Staged) (s : State) => g < 512 ∧ s.dev.runs (bufDom (quadOf (g % 256))) = true ∧
    s.dev.staged g = x :: rest ∧ s.dev.drawn g = [] ∧ s.dev.inject = none ∧ x.left = true ∧ x.full = true ∧ x.frame.wait = .none)
    511 9 ⟨aFrame true 255 1 false, 64, true, none, false⟩ [] ⟨[], (passPair 255).setStaged 511 [⟨aFrame true 255 1 false, 64, true, none, false⟩]⟩ ∧
  (fun (g _t : Nat) (x : Staged) (rest : List Staged) (s : State) => g < 512 ∧ s.dev.runs (bufDom (quadOf (g % 256))) = true ∧
    s.dev.staged g = x :: rest ∧ s.dev.drawn g = [] ∧ s.dev.inject = none ∧ x.left = true ∧ x.full = false ∧
    s.dev.isShort (pacer g) (g % 256) = true)
    511 9 ⟨aFrame true 255 1 false, 10, true, none, false⟩ [] ⟨[], ((passPair 255).setStaged 511 [⟨aFrame true 255 1 false, 10, true, none, false⟩]).wr (0x6000 + pacer 511) 6 128⟩ := by
  refine ⟨?_, ?_, ?_⟩ <;> decide +kernel

/-- A state and operands that meet the hypotheses of each clause of GatesFollowTheirLists. -/
theorem witness_gates_follow_their_lists :
  (fun (g k : Nat) (w : Wr) (s : State) => g < 512 ∧ s.dev.hears (0x5800 + g) 7 w = true ∧
    (s.dev.adminList g).entries.any (fun e => e / 256 < 64) = false ∧ (s.dev.adminList g).ext ≤ (s.dev.adminList g).cycle ∧
    s.dev.isOn 141 = true ∧ k = takeoverAt (s.dev.adminList g) s.dev.compact ∧ tooFarAhead s.dev.compact k = false ∧
    s.dev.time.queue.length < 4096) 0 10000 (wOf 0x5800 7 1) ⟨[], ((allOn.wr 0x5800 4 1000).wr 0x5800 3 1).wr 0x5800 0x40 (64 * 256 + 255)⟩ ∧
  (fun (g : Nat) (w : Wr) (s : State) => g < 512 ∧ s.dev.hears (0x5800 + g) 8 w = true ∧ s.dev.rd (0x5800 + g) 9 ≠ 0)
    0 (wOf 0x5800 8 1) ⟨[], (allOn.wr 0x5800 9 1).setGate 0 ⟨some (⟨1000, 0, 0, [64 * 256 + 255], 255⟩, 9), none, 255⟩⟩ ∧
  (fun (g t k : Nat) (l : GateList) (s : State) => g < 512 ∧
    s.dev.time.handed.any (fun e => e.owner = .gate g && s.dev.due (quadOf (g % 256)) t e) = true ∧
    s.dev.runs (bufDom (quadOf (g % 256))) = true ∧ (s.dev.gate g).submitted = some (l, k))
    0 9 20 ⟨1000, 0, 0, [64 * 256 + 255], 255⟩ ⟨[], let d := allOn.setGate 0 ⟨some (⟨1000, 0, 0, [64 * 256 + 255], 255⟩, 20), none, 255⟩; { d with time := { d.time with handed := [⟨20, .gate 0, 0⟩], followers := [(0, ⟨true, 20 * 2 ^ 36, 0, 80, 0⟩)] } }⟩ ∧
  (fun (g _t : Nat) (s : State) => g < 512 ∧ s.dev.runs (bufDom (quadOf (g % 256))) = true) 511 9 ⟨[], allOn⟩ ∧
  (fun (g _t : Nat) (w : Wr) (s : State) => g < 512 ∧ s.dev.hears (0x5800 + g) 1 w = true)
    0 9 (wOf 0x5800 1 0) ⟨[], allOn.setGate 0 ⟨none, none, 0⟩⟩ := by
  refine ⟨?_, ?_, ?_, ?_, ?_⟩ <;> decide +kernel

/-- A state and operands that meet the hypotheses of each clause of SamplersRecordQueues. -/
theorem witness_samplers_record_queues :
  (fun (q _t : Nat) (s : State) => q < 4 ∧ s.dev.runs (bufDom q) = true ∧ s.dev.samples q = true ∧
    (s.dev.rd (smp q) 0xC7 + 1) % 2 ^ (s.dev.rd (smp q) 0xC5) ≠ s.dev.rd (smp q) 0xC8 % 2 ^ (s.dev.rd (smp q) 0xC5) ∧
    s.dev.isOn 139 = true ∧ s.dev.boot.perstLow = false ∧ (s.dev.sampler q).running = false)
    0 9 ⟨[], ((((onDoms [33, 139]).wr 0x5002 0xC0 5).wr 0x5002 0xC5 6).wr 0x5002 0xC4 4096)⟩ ∧
  (fun (q _t i : Nat) (s : State) => q < 4 ∧ s.dev.runs (bufDom q) = true ∧ s.dev.samples q = true ∧
    (s.dev.rd (smp q) 0xC7 + 1) % 2 ^ (s.dev.rd (smp q) 0xC5) ≠ s.dev.rd (smp q) 0xC8 % 2 ^ (s.dev.rd (smp q) 0xC5) ∧
    s.dev.isOn 139 = true ∧ s.dev.boot.perstLow = false ∧ (s.dev.sampler q).running = true ∧ bit 0 (s.dev.rd (smp q) 0xC3) = false ∧
    (s.dev.sampler q).next + 1 < s.dev.sampleCount q ∧ i = s.dev.rd (smp q) 0xC1 + (s.dev.sampler q).next)
    0 9 0 ⟨[], ((((onDoms [33, 139]).wr 0x5002 0xC0 5).wr 0x5002 0xC5 6).wr 0x5002 0xC4 4096).setSampler 0 ⟨0, 5, false, true⟩ |>.wr 0x5002 0xC2 9⟩ ∧
  (fun (q _t : Nat) (w : Wr) (s : State) => q < 4 ∧ s.dev.hears (smp q) 0xC5 w = true ∧
    (w.value ≠ s.dev.rd (smp q) 0xC5 ∨ (s.dev.sampler q).stopped = true) ∧ (w.value = 0 ∨ s.dev.rd (smp q) 0xC0 = 0))
    0 9 (wOf 0x5002 0xC5 8) ⟨[], (onDoms [33]).setSampler 0 ⟨0, 5, true, false⟩⟩ ∧
  (fun (q _t : Nat) (w : Wr) (s : State) => q < 4 ∧ s.dev.hears (smp q) 0xC5 w = true ∧
    (w.value ≠ s.dev.rd (smp q) 0xC5 ∨ (s.dev.sampler q).stopped = true) ∧ w.value ≠ 0 ∧ s.dev.rd (smp q) 0xC0 ≠ 0 ∧
    s.dev.isOn (bufDom q) = true ∧ s.dev.isOn 139 = true ∧ s.dev.boot.perstLow = false ∧
    (s.dev.rd (smp q) 0xC7 + 1) % 2 ^ w.value ≠ s.dev.rd (smp q) 0xC8 % 2 ^ w.value)
    0 9 (wOf 0x5002 0xC5 8) ⟨[], ((onDoms [33, 139]).setSampler 0 ⟨0, 5, true, false⟩).wr 0x5002 0xC0 5⟩ := by
  refine ⟨?_, ?_, ?_, ?_⟩ <;> decide +kernel

/-- A state and operands that meet the hypotheses of each clause of CalendarsVisitSwapAndEdit. -/
theorem witness_calendars_visit_swap_and_edit :
  (fun (k _t : Nat) (s : State) => k < 64 ∧ s.dev.runs (sliceDom k) = true ∧ s.dev.rd (0x6000 + k) 5 ≠ 2)
    63 9 ⟨[], allOn.setCal 63 { Cal.init with slot := 127 }⟩ ∧
  (fun (k _t n : Nat) (x : Staged) (s : State) => k < 64 ∧ s.dev.runs (sliceDom k) = true ∧ s.dev.rd (0x6000 + k) 5 = 0 ∧
    ((s.dev.rd (0x6000 + k) 3 ≠ 1 ∨ (s.dev.cal k).slot ≠ 0)) ∧ (s.dev.cal k).edit = none ∧ s.dev.sliceWorks k = true ∧
    s.dev.ownerAt k (s.dev.slotEntry k (s.dev.activeBank k) (s.dev.cal k).slot) = some n ∧ s.dev.mode n ≠ pmCarrier ∧
    pacer (pacedSide k n) = k ∧ s.dev.staged (pacedSide k n) = [x] ∧ x.left = true ∧ x.done + 64 ≤ x.frame.sent)
    0 9 1 ⟨{ aFrame false 1 1 false with data := List.replicate 124 0 }, 64, true, none, false⟩ ⟨[], ((passPair 1).wr 0x6000 0x10 1).setStaged 1 [⟨{ aFrame false 1 1 false with data := List.replicate 124 0 }, 64, true, none, false⟩]⟩ ∧
  (fun (k _t n : Nat) (e : Drawn) (s : State) => k < 64 ∧ s.dev.runs (sliceDom k) = true ∧ s.dev.rd (0x6000 + k) 5 = 0 ∧
    ((s.dev.rd (0x6000 + k) 3 ≠ 1 ∨ (s.dev.cal k).slot ≠ 0)) ∧ (s.dev.cal k).edit = none ∧ s.dev.sliceWorks k = true ∧
    s.dev.ownerAt k (s.dev.slotEntry k (s.dev.activeBank k) (s.dev.cal k).slot) = some n ∧ s.dev.mode n ≠ pmCarrier ∧ k / 8 % 2 = 0 ∧
    pacer n = k ∧ s.dev.staged n = [] ∧ s.dev.stagedBgOf n = [] ∧ s.dev.inE k = [e] ∧ e.frame.exit = n ∧
    e.done + 64 ≤ s.dev.handLen e.frame)
    0 9 1 ⟨aFrame false 1 1 false, 0, false, false⟩ ⟨[], ((passPair 1).wr 0x6000 0x10 1).setInE 0 [⟨aFrame false 1 1 false, 0, false, false⟩]⟩ ∧
  (fun (k _t n : Nat) (s : State) => k < 64 ∧ s.dev.runs (sliceDom k) = true ∧ s.dev.rd (0x6000 + k) 5 = 0 ∧
    ((s.dev.rd (0x6000 + k) 3 ≠ 1 ∨ (s.dev.cal k).slot ≠ 0)) ∧ (s.dev.cal k).edit = none ∧ s.dev.sliceWorks k = true ∧
    s.dev.ownerAt k (s.dev.slotEntry k (s.dev.activeBank k) (s.dev.cal k).slot) = some n ∧ s.dev.mode n = pmCarrier ∧
    s.dev.stagedBgOf (pacedSide k n) = [] ∧ s.dev.carrierBeats (k / 8 % 2 = 0) n = true ∧ s.dev.takesSlot k n (s.dev.cal k).slot = true)
    0 9 1 ⟨[], ((((carrierPair 1).wr 0x2001 5 0x22).wr 0x6000 0x10 1).wr 0x2501 0x10 3).setCarrier 1 { Carrier.init with txCur := some ⟨1, 0, 0, none⟩ }⟩ ∧
  (fun (k : Nat) (w : Wr) (s : State) => k < 64 ∧ s.dev.hears (0x6000 + k) 2 w = true ∧ s.dev.calWrites k = true ∧
    s.dev.rd (0x6000 + k) 3 ≠ 1) 0 (wOf 0x6000 2 1) ⟨[], allOn⟩ ∧
  (fun (k : Nat) (s : State) => k < 64 ∧ s.dev.runs (sliceDom k) = true ∧ s.dev.isFenced k = false ∧ (s.dev.cal k).slot = 0 ∧
    s.dev.rd (0x6000 + k) 3 = 1 ∧ s.dev.bankBreaks k (1 - (s.dev.activeBank k)) = false) 0 ⟨[], allOn.wr 0x6000 3 1⟩ ∧
  (fun (k e x : Nat) (w : Wr) (s : State) => k < 64 ∧ s.dev.hears (0x6000 + k) 4 w = true ∧ s.dev.calWrites k = true ∧ x = w.value % 256 ∧
    e = w.value / 256 ∧ x < s.dev.calLen k ∧ s.dev.entryOk k e = true ∧ s.dev.rd (0x6000 + k) 3 ≠ 1 ∧
    (s.dev.setSlot k (s.dev.activeBank k) x e).bankBreaks k (s.dev.activeBank k) = false ∧
    (e = s.dev.slotEntry k (s.dev.activeBank k) x ∨ (s.dev.ownerAt k (s.dev.slotEntry k (s.dev.activeBank k) x)).isSome = false ∨ (s.dev.ownerAt k e).isSome = false))
    0 5 127 (wOf 0x6000 4 (5 * 256 + 127)) ⟨[], allOn⟩ := by
  refine ⟨?_, ?_, ?_, ?_, ?_, ?_, ?_⟩ <;> decide +kernel

/-- A state and operands that meet the hypotheses of each clause of BackgroundRequestersAreServed. -/
theorem witness_background_requesters_are_served :
  (fun (k _t r : Nat) (s : State) => k < 64 ∧ s.dev.runs (sliceDom k) = true ∧ s.dev.rd (0x6000 + k) 5 = 0 ∧
    ((s.dev.rd (0x6000 + k) 3 ≠ 1 ∨ (s.dev.cal k).slot ≠ 0)) ∧ (s.dev.cal k).edit = none ∧ s.dev.sliceWorks k = true ∧
    (s.dev.cal k).grant = none ∧ s.dev.ownerAt k (s.dev.slotEntry k (s.dev.activeBank k) (s.dev.cal k).slot) = none ∧ s.dev.asking k = [r])
    0 9 3 ⟨[], ({ allOn with bg := [(3, [⟨aFrame false 0 0 false, 0⟩])] }).wr 0x6000 0x10 0x80⟩ ∧
  (fun (k : Nat) (c : Bool) (w : Wr) (s : State) => k < 64 ∧ s.dev.hears (0x6000 + k) (if c = true then 0x51 else 0x50) w = true ∧
    s.dev.calWrites k = true) 0 true (wOf 0x6000 0x51 5) ⟨[], allOn⟩ ∧
  (fun (k r : Nat) (s : State) => k < 64 ∧ s.dev.runs (sliceDom k) = true ∧ s.dev.rd (0x6000 + k) 0x55 ≠ 0 ∧
    s.dev.rd (0x6000 + k) 0x55 < nth 0 (s.dev.cal k).waits r ∧ (s.dev.cal k).flagged.contains r = false)
    0 4 ⟨[], (allOn.wr 0x6000 0x55 5).setCal 0 { Cal.init with waits := [0, 0, 0, 0, 6] }⟩ ∧
  (fun (k : Nat) (w : Wr) (s : State) => k < 64 ∧ s.dev.hears (0x6000 + k) 0x65 w = true ∧ s.dev.calWrites k = true)
    0 (wOf 0x6000 0x65 1) ⟨[], allOn.wr 0x6000 0x64 9⟩ := by
  refine ⟨?_, ?_, ?_, ?_⟩ <;> decide +kernel

/-- A state and operands that meet the hypotheses of each clause of TimeTicksAndSteps. -/
theorem witness_time_ticks_and_steps :
  (fun (s : State) => s.dev.timeRuns = true ∧ s.dev.time.steps = []) ⟨[], (onDoms [141]).wr 0x1216 1 2⟩ ∧
  (fun (x : TimeStep) (s : State) => s.dev.timeRuns = true ∧ s.dev.time.steps = [x] ∧
    0 ≤ Int.ofNat (s.dev.time.time + s.dev.rd 0x7000 4) + x.offset)
    ⟨-5, 5⟩ ⟨[], { (onDoms [141]).wr 0x1216 1 2 with time := { Dev.reset.time with steps := [⟨-5, 5⟩] } }⟩ ∧
  (fun (w : Wr) (s : State) => s.dev.hears 0x7000 4 w = true) (wOf 0x7000 4 (2 ^ 33)) ⟨[], (onDoms [141]).wr 0x1216 1 2⟩ ∧
  (fun (off : Int) (w : Wr) (s : State) => s.dev.hears 0x7000 5 w = true ∧ fld 15 9 w.value = 0 ∧ fld 7 0 w.value = 0 ∧
    off = (toInt 64 (fld 95 32 w.value) * 2 ^ 16 + Int.ofNat (fld 31 16 w.value)) * 2 ^ 16 ∧
    (bit 8 w.value = true ∨ off.natAbs ≤ s.dev.rd 0x7000 6 * 2 ^ 32)) (2 ^ 32) (wOf 0x7000 5 (2 ^ 32)) ⟨[], (onDoms [141]).wr 0x1216 1 2⟩ ∧
  (fun (off : Int) (w : Wr) (s : State) => s.dev.hears 0x7000 7 w = true ∧ fld 47 16 w.value ≤ 999999999 ∧
    off = Int.ofNat (ofTime96 w.value) - Int.ofNat s.dev.time.time ∧ (s.dev.timeValid = false ∨ off.natAbs ≤ s.dev.rd 0x7000 6 * 2 ^ 32))
    (5 * 1000000000 * 2 ^ 32) (wOf 0x7000 7 (5 * 2 ^ 48)) ⟨[], (onDoms [141]).wr 0x1216 1 2⟩ ∧
  (fun (_t : Nat) (s : State) => s.dev.timeRuns = true ∧ 512 ≤ s.dev.time.epochTick)
    9 ⟨[], { (onDoms [141]).wr 0x1216 1 2 with time := { Dev.reset.time with epochTick := 512 } }⟩ := by
  refine ⟨?_, ?_, ?_, ?_, ?_, ?_⟩ <;> decide +kernel

/-- A state and operands that meet the hypotheses of each clause of ScheduledActionsAreHandedAndFire. -/
theorem witness_scheduled_actions_are_handed_and_fire :
  (fun (e : SchedEntry) (rest : List SchedEntry) (s : State) => s.dev.timeRuns = true ∧ s.dev.time.queue = e :: rest ∧
    (reached s.dev.compact e.target = true ∨ (e.target + 2 ^ 64 - s.dev.compact) % 2 ^ 64 ≤ 1000000000))
    ⟨20, .carrier 3, 0⟩ [⟨30, .gate 4, 1⟩] ⟨[], { (onDoms [141]).wr 0x1216 1 2 with time := { Dev.reset.time with queue := [⟨20, .carrier 3, 0⟩, ⟨30, .gate 4, 1⟩] } }⟩ ∧
  (fun (t c an x m : Nat) (s : State) => firstOf (fun e => s.dev.due e.owner.quad t e) s.dev.time.handed = some ⟨x, .channel c an, m⟩)
    9 1 2 0 5 ⟨[], { (onDoms [33, 141]).wr 0x1216 1 2 with time := { Dev.reset.time with handed := [⟨0, .channel 1 2, 5⟩], followers := [(0, ⟨true, 20, 0, 5, 0⟩)] } }⟩ ∧
  (fun (t n x m : Nat) (s : State) => n < 256 ∧ firstOf (fun e => s.dev.due e.owner.quad t e) s.dev.time.handed = some ⟨x, .carrier n, m⟩)
    9 3 0 5 ⟨[], { (onDoms [33, 141]).wr 0x1216 1 2 with time := { Dev.reset.time with handed := [⟨0, .carrier 3, 5⟩], followers := [(0, ⟨true, 20, 0, 5, 0⟩)] } }⟩ ∧
  (fun (t g x k m : Nat) (l : GateList) (s : State) =>
    firstOf (fun e => s.dev.due e.owner.quad t e) s.dev.time.handed = some ⟨x, .gate g, m⟩ ∧ (s.dev.gate g).submitted = some (l, k))
    9 3 0 7 5 ⟨1000, 0, 0, [64 * 256 + 255], 255⟩ ⟨[], ({ (onDoms [33, 141]).wr 0x1216 1 2 with time := { Dev.reset.time with handed := [⟨0, .gate 3, 5⟩], followers := [(0, ⟨true, 20, 0, 5, 0⟩)] } }).setGate 3 ⟨some (⟨1000, 0, 0, [64 * 256 + 255], 255⟩, 7), none, 255⟩⟩ := by
  refine ⟨?_, ?_, ?_, ?_⟩ <;> decide +kernel

/-- A state and operands that meet the hypotheses of each clause of ComparatorsTimestampsAndReferences. -/
theorem witness_comparators_timestamps_and_references :
  (fun (k : Nat) (w : Wr) (s : State) => k < 8 ∧ s.dev.hears (0x7010 + k) 1 w = true ∧ w.value = 0)
    7 (wOf 0x7017 1 0) ⟨[], ((onDoms [141]).wr 0x1216 1 2).wr 0x7017 1 3⟩ ∧
  (fun (k : Nat) (w : Wr) (s : State) => k < 8 ∧ s.dev.hears (0x7010 + k) 1 w = true ∧ w.value = 1 ∧ s.dev.rd (0x7010 + k) 4 < 1000000000 ∧
    s.dev.rd (0x7010 + k) 1 = 0 ∧ s.dev.ppsHeld = false) 7 (wOf 0x7017 1 1) ⟨[], (onDoms [141]).wr 0x1216 1 2⟩ ∧
  (fun (k g : Nat) (w : Wr) (s : State) => k < 8 ∧ s.dev.hears (0x7010 + k) 1 w = true ∧ w.value = 2 ∧ g = s.dev.rd (0x7010 + k) 5 ∧
    g ≠ 0xFF ∧ s.dev.rd (0x7010 + k) 4 < s.dev.rd (0x7010 + k) 3 ∧ s.dev.rd (0x7010 + k) 1 = 0 ∧ s.dev.rd (0x1030 + g) 5 = 0)
    7 9 (wOf 0x7017 1 2) ⟨[], (((((onDoms [141]).wr 0x1216 1 2).wr 0x7017 5 9).wr 0x7017 3 90).wr 0x7017 4 89)⟩ ∧
  (fun (k : Nat) (w : Wr) (s : State) => k < 8 ∧ s.dev.hears (0x7010 + k) 1 w = true ∧ w.value = 3 ∧ s.dev.rd (0x7010 + k) 1 = 0)
    7 (wOf 0x7017 1 3) ⟨[], (onDoms [141]).wr 0x1216 1 2⟩ ∧
  (fun (k t : Nat) (s : State) => k < 8 ∧ s.dev.timeRuns = true ∧ (s.dev.comp k).high = false ∧ s.dev.instant k = some t ∧
    s.dev.time.time - t < s.dev.rd 0x7000 4 ∧ (s.dev.comp k).last = none ∧ after t (s.dev.comp k).passed = true)
    7 0 ⟨[], ((onDoms [141]).wr 0x1216 1 2).wr 0x7017 1 1⟩ ∧
  (fun (k : Nat) (s : State) => k < 8 ∧ s.dev.timeRuns = true ∧ (s.dev.comp k).high = true ∧
    s.dev.rd (0x7010 + k) 4 * 2 ^ 32 ≤ s.dev.time.sf - (s.dev.comp k).riseSf)
    7 ⟨[], (((onDoms [141]).wr 0x1216 1 2).wr 0x7017 1 1).wr 0x7017 4 0 |>.setComp 7 ⟨true, 0, some 0, none⟩⟩ ∧
  (fun (k : Nat) (s : State) => k < 8 ∧ s.dev.isOn 141 = true ∧ s.dev.rd (0x7010 + k) 1 = 3 ∧
    reached s.dev.compact (compactOf (s.dev.rd (0x7010 + k) 2)) = true) 7 ⟨[], ((onDoms [141]).wr 0x1216 1 2).wr 0x7017 1 3⟩ ∧
  (fun (x v : Nat) (rest : List Nat) (w : Wr) (s : State) => x < 512 ∧ s.dev.hears (tsIndex x) 0x31 w = true ∧
    Tbl.get (fun _ => []) s.dev.time.fifo x = v :: rest)
    511 9 [8] (wOf 0x21FF 0x31 1) ⟨[], { allOn with time := { Dev.reset.time with fifo := [(511, [9, 8])] } } |>.wr 0x1185 2 2⟩ ∧
  (fun (b : Bool) (s : State) => s.dev.isOn 141 = true ∧ s.dev.rd 0x7000 12 = (if b = true then 1 else 0) ∧
    (s.dev.time.ppsLast = none ∨ 500000000 * 2 ^ 32 ≤ s.dev.time.sf - s.dev.time.ppsLast.getD 0))
    true ⟨[], (onDoms [141]).wr 0x1216 1 2 |>.wr 0x7000 12 1⟩ ∧
  (fun (x : Nat) (s : State) => s.dev.isOn 141 = true ∧ s.dev.time.ppsLast = some x ∧ s.dev.time.ppsLost = false ∧
    1500000000 * 2 ^ 32 ≤ s.dev.time.sf - x)
    0 ⟨[], { (onDoms [141]).wr 0x1216 1 2 with time := { Dev.reset.time with ppsLast := some 0, sf := 1500000000 * 2 ^ 32 } }⟩ ∧
  (fun (x : Nat) (s : State) => s.dev.isOn 141 = true ∧ s.dev.rd 0x7000 13 = 1 ∧ s.dev.time.clk10m = some x)
    0 ⟨[], ({ (onDoms [141]).wr 0x1216 1 2 with time := { Dev.reset.time with clk10m := some 0 } } : Dev).wr 0x7000 13 1⟩ ∧
  (fun (x : Nat) (s : State) => s.dev.isOn 141 = true ∧ s.dev.rd 0x7000 13 = 1 ∧ s.dev.time.clk10m = some x)
    0 ⟨[], ({ (onDoms [141]).wr 0x1216 1 2 with time := { Dev.reset.time with clk10m := some 0 } } : Dev).wr 0x7000 13 1⟩ := by
  refine ⟨?_, ?_, ?_, ?_, ?_, ?_, ?_, ?_, ?_, ?_, ?_, ?_⟩ <;> decide +kernel

/-- A state and operands that meet the hypotheses of each clause of DomainsChangeStateAndServeTheirWrites. -/
theorem witness_domains_change_state_and_serve_their_writes :
  (fun (k : Nat) (w : Wr) (s : State) => k < 142 ∧ s.dev.hears (0x1100 + k) 1 w = true ∧ s.dev.othersRest k = true ∧ w.value = 2 ∧
    s.dev.pstate k = psOff ∧ (parentOf k = 0xFF ∨ s.dev.isOn (parentOf k) = true) ∧ bit 2 (statesAllowed k) = true ∧
    ((k < 136 → bit 1 (s.dev.rd 0x7800 5) = false)) ∧ s.dev.power.zeroWoken.contains k = false)
    33 (wOf 0x1121 1 2) ⟨[], onDoms [139, 140, 141]⟩ ∧
  (fun (k : Nat) (w : Wr) (s : State) => k < 142 ∧ s.dev.hears (0x1100 + k) 1 w = true ∧ s.dev.othersRest k = true ∧ w.value = 1 ∧
    s.dev.pstate k = psOn ∧ bit 1 (statesAllowed k) = true ∧ (parentOf k = 0xFF ∨ s.dev.isOn (parentOf k) = true) ∧
    (childrenOf k).any (fun c => s.dev.isOn c || s.dev.pstate c = psToOn) = false ∧ s.dev.isHeld k = false ∧
    s.dev.power.zeroWoken.contains k = false) 33 (wOf 0x1121 1 1) ⟨[], (onDoms [33, 139, 140, 141]).wr 0x1121 1 2⟩ ∧
  (fun (k : Nat) (w : Wr) (s : State) => k < 142 ∧ s.dev.hears (0x1100 + k) 1 w = true ∧ s.dev.othersRest k = true ∧ w.value = 0 ∧
    s.dev.pstate k = psOn ∧ bit 0 (statesAllowed k) = true ∧ (k < 137 ∨ k = 141) ∧
    (childrenOf k).any (fun c => !s.dev.countsOff c) = false ∧ s.dev.isHeld k = false ∧ s.dev.assay.draining ≠ some k ∧
    s.dev.power.zeroWoken.contains k = false) 33 (wOf 0x1121 1 0) ⟨[], (onDoms [33, 139, 140, 141]).wr 0x1121 1 2⟩ ∧
  (fun (k _t : Nat) (s : State) => k < 142 ∧ s.dev.othersRest k = true ∧ s.dev.pstate k = psToOn ∧ s.dev.powerReq k = 2 ∧
    s.dev.pll (pllOf k) = 2 ∧ s.dev.wakeWaits.filter (fun x => x.unit = k) = [] ∧ s.dev.power.forming = [] ∧ s.dev.power.exiting = [])
    33 9 ⟨[], (((onDoms [139, 140, 141]).wr 0x1121 1 2).wr 0x1121 2 psToOn).wr 0x1210 1 2⟩ ∧
  (fun (k _t : Nat) (s : State) => k < 142 ∧ s.dev.othersRest k = true ∧ s.dev.pstate k = psToRetain ∧ s.dev.powerReq k = 1 ∧
    ((k = 136 → s.dev.rd (0x1100 + k) 3 ≠ 1))) 33 9 ⟨[], ((onDoms [139, 140, 141]).wr 0x1121 1 1).wr 0x1121 2 psToRetain⟩ ∧
  (fun (k _t : Nat) (s : State) => k < 142 ∧ s.dev.othersRest k = true ∧ s.dev.pstate k = psToOff ∧ s.dev.powerReq k = 0)
    33 9 ⟨[], (onDoms [139, 140, 141]).wr 0x1121 2 psToOff⟩ ∧
  (fun (k : Nat) (s : State) => k < 142 ∧ s.dev.othersRest k = true ∧ s.dev.pstate k = psToOn ∧ s.dev.power.warm.contains k = false)
    33 ⟨[], ((onDoms [139, 140, 141]).wr 0x1121 1 2).wr 0x1121 2 psToOn⟩ ∧
  (fun (i j k t : Nat) (w : Wr) (s : State) => s.dev.reaches w.path = true ∧ s.dev.linkHolds i j = none ∧ s.dev.linkHit i j = none ∧
    (s.dev.accessed (s.dev.roleOf w.path)).writeAbort (s.dev.roleOf w.path) i j w.ty w.len w.value = 0 ∧
    (s.dev.accessed (s.dev.roleOf w.path)).absorbedAt i = false ∧ (s.dev.accessed (s.dev.roleOf w.path)).isPending i j = false ∧
    (s.dev.accessed (s.dev.roleOf w.path)).wakesFor i j = some k ∧
    (effectOf t i j (s.dev.roleOf w.path) w.value ((s.dev.at t).accessed (s.dev.roleOf w.path))).1 = 0)
    0x5800 0x18 33 9 (wOf 0x5800 0x18 7) ⟨[], (onDoms [139, 140, 141]).wr 0x1121 2 1⟩ ∧
  (fun (k g t : Nat) (w : Wr) (s : State) => k < 136 ∧ k % 34 = 33 ∧ g < 512 ∧ s.dev.othersRest k = true ∧ s.dev.pstate k = psToOn ∧
    s.dev.powerReq k = 2 ∧ s.dev.pll (pllOf k) = 2 ∧ s.dev.power.forming = [] ∧ s.dev.power.exiting = [] ∧
    s.dev.wakeWaits = [⟨k, 0x5800 + g, 0x18, w, false, none⟩] ∧
    ((s.dev.asWoken k t).accessed ((s.dev.asWoken k t).roleOf w.path)).writeAbort ((s.dev.asWoken k t).roleOf w.path) (0x5800 + g) 0x18 w.ty w.len w.value = 0 ∧
    ((s.dev.asWoken k t).accessed ((s.dev.asWoken k t).roleOf w.path)).isPending (0x5800 + g) 0x18 = false ∧
    ((s.dev.asWoken k t).accessed ((s.dev.asWoken k t).roleOf w.path)).wakesFor (0x5800 + g) 0x18 = none)
    33 0 9 (wOf 0x5800 0x18 7) ⟨[], { ((((onDoms [139, 140, 141]).wr 0x1121 1 2).wr 0x1121 2 psToOn).wr 0x1210 1 2) with wakeWaits := [⟨33, 0x5800, 0x18, wOf 0x5800 0x18 7, false, none⟩], power := { Dev.reset.power with warm := [33] } }⟩ := by
  refine ⟨?_, ?_, ?_, ?_, ?_, ?_, ?_, ?_, ?_⟩ <;> decide +kernel

/-- A state and operands that meet the hypotheses of each clause of ClocksAreWatched. -/
theorem witness_clocks_are_watched :
  (fun (p : Nat) (s : State) => p < 8 ∧ s.dev.pll p = 1) 6 ⟨[], (onDoms [139, 140, 141]).wr 0x7000 8 1⟩ ∧
  (fun (p : Nat) (s : State) => p < 8 ∧ p ≠ 4 ∧ p ≠ 7 ∧ s.dev.pll p = 2 ∧ s.dev.power.supply < 2)
    3 ⟨[], (onDoms [139, 140, 141]).wr 0x1213 1 2⟩ ∧
  (fun (p : Nat) (s : State) => (p = 4 ∨ p = 7) ∧ s.dev.pll p = 2 ∧ s.dev.power.supply < 2 ∧ s.dev.boot.holding = 0)
    7 ⟨[], onDoms [139, 140, 141]⟩ ∧
  (fun (i : Nat) (_ppb : Int) (_gone : Bool) (s : State) => i < 8 ∧ s.dev.onMain = true) 7 (-200001) false ⟨[], onDoms [139, 140, 141]⟩ ∧
  (fun (_ppb : Int) (s : State) => s.dev.onMain = true) 500001 ⟨[], onDoms [139, 140, 141]⟩ ∧
  (fun (s : State) => s.dev.power.supply < 2 ∧ s.dev.boot.holding = 0) ⟨[], onDoms [139, 140, 141]⟩ ∧
  (fun (b : Nat) (_s : State) => b < 8) 7 ⟨[], onDoms [139, 140, 141]⟩ ∧
  (fun (w : Wr) (s : State) => s.dev.hears 0x1200 6 w = true) (wOf 0x1200 6 0x81) ⟨[], (onDoms [139, 140, 141]).wr 0x1200 5 0xC1⟩ := by
  refine ⟨?_, ?_, ?_, ?_, ?_, ?_, ?_, ?_⟩ <;> decide +kernel

/-- A state and operands that meet the hypotheses of each clause of MainPowerAndKeystoneResets. -/
theorem witness_main_power_and_keystone_resets :
  (fun (s : State) => s.dev.power.supply = 0) ⟨[], onDoms [139, 140, 141]⟩ ∧
  (fun (_t _ticks : Nat) (s : State) => s.dev.power.supply = 1)
    9 7 ⟨[], { onDoms [139, 140, 141] with power := { Dev.reset.power with supply := 1 }, tamper := { Dev.reset.tamper with disarmed := true } }⟩ ∧
  (fun (s : State) => s.dev.power.supply ≠ 2) ⟨[], onDoms [139, 140, 141]⟩ ∧
  (fun (s : State) => s.dev.power.supply = 2)
    ⟨[], { onDoms [139, 140, 141] with power := { Dev.reset.power with supply := 2 }, tamper := { Dev.reset.tamper with disarmed := true, disarmed3 := true, due := 4, deferred := [5] } }⟩ ∧
  (fun (s : State) => s.dev.power.supply < 2 ∧ s.dev.boot.holding = 0)
    ⟨[], { onDoms [33, 139, 140, 141] with boot := { Dev.reset.boot with sealed := true } }⟩ ∧
  (fun (_b : Bool) (x : Nat) (w : Wr) (s : State) => x < 4 ∧ s.dev.hears 0x1020 3 w = true ∧ w.value = 0x52535430 ∧
    s.dev.boot.holding = 0 ∧ s.dev.power.supply < 2) true 2 (wOf 0x1020 3 0x52535430) ⟨[], onDoms [33, 139, 140, 141]⟩ ∧
  (fun (_b : Bool) (x : Nat) (s : State) => x < 4 ∧ s.dev.boot.holding ≠ 0 ∧ bit 0 s.dev.boot.holding = false ∧
    bit 2 s.dev.boot.holding = false) true 1 ⟨[], { onDoms [33, 139, 140, 141] with boot := { Dev.reset.boot with holding := 8 } }⟩ ∧
  (fun (_b : Bool) (x : Nat) (s : State) => x < 4 ∧ s.dev.power.supply = 3 ∧ s.dev.boot.sysRstLow = false)
    false 0 ⟨[], { onDoms [33, 139, 140, 141] with power := { Dev.reset.power with supply := 3 } }⟩ ∧
  (fun (k : Nat) (w : Wr) (s : State) => s.dev.hears 0x1020 7 w = true ∧ k = w.value ∧ k < 142 ∧ s.dev.isHeld k = false ∧
    s.dev.isOn k = true) 33 (wOf 0x1020 7 33) ⟨[], onDoms [33, 139, 140, 141]⟩ := by
  refine ⟨?_, ?_, ?_, ?_, ?_, ?_, ?_, ?_, ?_⟩ <;> decide +kernel

/-- A state and operands that meet the hypotheses of each clause of TamperConditionsAreWatched. -/
theorem witness_tamper_conditions_are_watched :
  (fun (_g _levels _t _ticks : Nat) (s : State) => s.dev.onMain = true) 1 0x100 9 7 ⟨[], onDoms [139, 140, 141]⟩ ∧
  (fun (m _ticks i : Nat) (s : State) => s.dev.onMain = true ∧
    (List.range 13).filter (fun x => bit x m && !isGlitch x && (s.dev.src x).present && s.dev.watches x && !s.dev.isDisarmed x) = [i] ∧
    s.dev.inAlarm i = false ∧ s.dev.responseOf i = 3 ∧ s.dev.tamper.log.length < 32)
    0x20 7 5 ⟨[], ((onDoms [139, 140, 141]).wr 0x7815 2 1 |>.wr 0x7815 1 3).setSrc 5 ⟨true, 0, 0, 0⟩⟩ ∧
  (fun (i : Nat) (s : State) => i < 13 ∧ s.dev.onMain = true ∧ s.dev.inAlarm i = true ∧
    (isGlitch i = true ∨ (s.dev.src i).present = false)) 12 ⟨[], (onDoms [139, 140, 141]).wr 0x7800 3 0x1000⟩ ∧
  (fun (_levels _ticks : Nat) (_z : Bool) (s : State) => s.dev.power.supply = 2)
    0x20 7 true ⟨[], { onDoms [139, 140, 141] with power := { Dev.reset.power with supply := 2 } }⟩ ∧
  (fun (pin _levels _ticks : Nat) (_z : Bool) (s : State) => pin < 5 ∧ s.dev.power.supply = 2 ∧ s.dev.rd 0x7800 8 = 1 ∧
    (pin = 4 ∨ s.dev.rd (0x7819 + pin) 2 = 1))
    4 0x20 7 true ⟨[], { onDoms [139, 140, 141] with power := { Dev.reset.power with supply := 2 } } |>.wr 0x7800 8 1⟩ ∧
  (fun (_mv : Nat) (s : State) => s.dev.onMain = true) 2599 ⟨[], onDoms [139, 140, 141] |>.wr 0x7800 7 2600⟩ := by
  refine ⟨?_, ?_, ?_, ?_, ?_, ?_⟩ <;> decide +kernel

/-- A state and operands that meet the hypotheses of each clause of TamperEvidenceIsClearedAndFused. -/
theorem witness_tamper_evidence_is_cleared_and_fused :
  (fun (w : Wr) (s : State) => s.dev.hears 0x7800 2 w = true ∧ w.value &&& s.dev.rd 0x7800 3 = 0)
    (wOf 0x7800 2 5) ⟨[], (onDoms [139, 140, 141]).wr 0x7800 1 7⟩ ∧
  (fun (w : Wr) (s : State) => s.dev.hears 0x7800 6 w = true ∧ ((bit 0 w.value = true → s.dev.alarmHolds 3 = false)) ∧
    ((bit 1 w.value = true → s.dev.alarmHolds 5 = false)) ∧ ((bit 2 w.value = true → s.dev.alarmHolds 2 = false)))
    (wOf 0x7800 6 7) ⟨[], (onDoms [139, 140, 141]).wr 0x7800 5 0x37⟩ ∧
  (fun (i : Nat) (w : Wr) (s : State) => i < 13 ∧ s.dev.hears (0x7810 + i) 9 w = true ∧ w.value = 0x46555345 ∧ s.dev.inAlarm i = false)
    12 (wOf 0x781C 9 0x46555345) ⟨[], onDoms [139, 140, 141]⟩ ∧
  (fun (v : Nat) (rest : List Nat) (w : Wr) (s : State) => s.dev.hears 0x7800 0xB w = true ∧ s.dev.tamper.log = v :: rest)
    9 [8] (wOf 0x7800 0xB 1) ⟨[], { onDoms [139, 140, 141] with tamper := { Dev.reset.tamper with log := [9, 8] } }⟩ := by
  refine ⟨?_, ?_, ?_, ?_⟩ <;> decide +kernel

/-- A state and operands that meet the hypotheses of each clause of TheAssayFindsMismatchesAndReclaims. -/
theorem witness_the_assay_finds_mismatches_and_reclaims :
  (fun (law loc dir c : Nat) (s : State) => placeOk law loc = true ∧ dir < 2 ∧ s.dev.lawOn law = true ∧
    s.dev.assay.fresh.contains law = false ∧
    (Int.ofNat c - s.dev.counted law loc dir) ≠ Tbl.get (fun _ => (0 : Int)) s.dev.assay.base (placeKey law loc dir) ∧
    s.dev.assay.reports.length < 32 ∧ s.dev.inject = none) 1 255 1 5 ⟨[], (onDoms [33, 139, 140, 141]).wr 0x8000 1 1⟩ ∧
  (fun (law loc dir c : Nat) (s : State) => placeOk law loc = true ∧ dir < 2 ∧
    ((Int.ofNat c - s.dev.counted law loc dir) = Tbl.get (fun _ => (0 : Int)) s.dev.assay.base (placeKey law loc dir) ∨ s.dev.assay.fresh.contains law = true) ∧
    s.dev.inject = none) 2 3 0 98304 ⟨[], ((onDoms [33, 139, 140, 141]).wr 0x8000 1 2).wr 0x50C0 0xCB 98304⟩ ∧
  (fun (i _av _fl _he : Nat) (_dir : Bool) (s : State) => i < 70 ∧ s.dev.inject = none) 69 1 2 3 true ⟨[], onDoms [33, 139, 140, 141]⟩ ∧
  (fun (v : Nat) (rest : List Nat) (w : Wr) (s : State) => s.dev.hears 0x8000 4 w = true ∧ s.dev.assay.reports = v :: rest)
    9 [8] (wOf 0x8000 4 1) ⟨[], { onDoms [33, 139, 140, 141] with assay := { Assay.init with reports := [9, 8] } }⟩ ∧
  (fun (w : Wr) (s : State) => s.dev.hears 0x8000 0xB w = true ∧ s.dev.assay.draining = none)
    (wOf 0x8000 0xB 1) ⟨[], (onDoms [33, 139, 140, 141]).wr 0x8000 0xA 15⟩ ∧
  (fun (v : Nat) (w : Wr) (s : State) => s.dev.hears 0x8000 0x10 w = true ∧ v = w.value ∧ (v < 136 ∨ v = 137 ∨ v = 138) ∧
    s.dev.countsOff v = false ∧ s.dev.isHeld v = false ∧ ((136 < v → bit (v - 137) (s.dev.rd 0x5003 0xC3) = false)) ∧
    s.dev.assay.draining = none) 33 (wOf 0x8000 0x10 33) ⟨[], onDoms [33, 139, 140, 141]⟩ ∧
  (fun (k : Nat) (s : State) => s.dev.assay.draining = some k ∧ s.dev.pstate k ≠ psOff)
    33 ⟨[], { (onDoms [33, 139, 140, 141]).wr 0x1121 1 2 with assay := { Assay.init with draining := some 33 } }⟩ ∧
  (fun (v : Nat) (w : Wr) (s : State) => s.dev.hears 0x8000 0x12 w = true ∧ v = w.value ∧ v < 64 ∧ s.dev.isFenced v = true ∧
    s.dev.assay.reclaiming = none) 63 (wOf 0x8000 0x12 63) ⟨[], (onDoms [33, 139, 140, 141]).wr 0x263F 1 2⟩ ∧
  (fun (k : Nat) (s : State) => s.dev.assay.reclaiming = some k)
    63 ⟨[], ({ onDoms [33, 139, 140, 141] with assay := { Assay.init with reclaiming := some 63 } }).setInE 63 [⟨aFrame false 1 1 false, 0, false, false⟩]⟩ := by
  refine ⟨?_, ?_, ?_, ?_, ?_, ?_, ?_, ?_, ?_⟩ <;> decide +kernel

/-- A state and operands that meet the hypotheses of each clause of CountersAreCapturedAndCleared. -/
theorem witness_counters_are_captured_and_cleared :
  (fun (n _t kind e : Nat) (w : Wr) (s : State) => n < 8 ∧ s.dev.hears (0x8010 + n) 1 w = true ∧ w.value < 2 ^ 32 ∧ kind = w.value % 256 ∧
    e = w.value / 256 ∧ blockExists kind e = true ∧ ((∀ k ∈ blockDomain kind e, s.dev.answersOff k = false)))
    7 9 5 5 (wOf 0x8017 1 (5 * 256 + 5)) ⟨[], onDoms [33, 139, 140, 141]⟩ ∧
  (fun (n kind e : Nat) (w : Wr) (s : State) => n < 8 ∧ s.dev.hears (0x8010 + n) 3 w = true ∧ s.dev.assay.selected.contains n = true ∧
    kind = s.dev.rd (0x8010 + n) 1 % 256 ∧ e = fld 31 8 (s.dev.rd (0x8010 + n) 1) ∧
    ((∀ k ∈ blockDomain kind e, s.dev.answersOff k = false)) ∧ andNot (w.value &&& (blockMask kind).1) (blockMask kind).2 = 0)
    7 5 5 (wOf 0x8017 3 1) ⟨[], ({ (onDoms [33, 139, 140, 141]).wr 0x8017 1 (5 * 256 + 5) with assay := { Assay.init with selected := [7] } }).cnt 5 5 0⟩ ∧
  (fun (b : Nat) (w : Wr) (s : State) => b < 5 ∧ s.dev.hears (0x8100 + b) 1 w = true)
    4 (wOf 0x8104 1 0x80000001) ⟨[], onDoms [33, 139, 140, 141]⟩ ∧
  (fun (b : Nat) (w : Wr) (s : State) => b < 5 ∧ s.dev.hears (0x8100 + b) 2 w = true)
    0 (wOf 0x8100 2 (2 ^ 63)) ⟨[], (onDoms [33, 139, 140, 141]).wr 0x8100 0xCF 9⟩ ∧
  (fun (b : Nat) (w : Wr) (s : State) => b < 5 ∧ s.dev.hears (0x8100 + b) 4 w = true)
    4 (wOf 0x8104 4 (2 ^ 31)) ⟨[], (onDoms [33, 139, 140, 141]).wr 0x8104 3 (2 ^ 31)⟩ ∧
  (fun (b j : Nat) (s : State) => b < 5 ∧ j < 64 ∧ s.dev.perfCycles b j = true)
    4 31 ⟨[], ((onDoms [33, 139, 140, 141]).wr 0x8104 1 (2 ^ 31)).wr 0x8104 0x2F 0x111⟩ := by
  refine ⟨?_, ?_, ?_, ?_, ?_, ?_⟩ <;> decide +kernel

/-- A state and operands that meet the hypotheses of each clause of EventsAreRaisedClearedAndMasked. -/
theorem witness_events_are_raised_cleared_and_masked :
  (fun (e : Nat) (_s : State) => e < 400 ∧ eventExists e = true) 399 ⟨[], onDoms [33, 139, 140, 141]⟩ ∧
  (fun (e : Nat) (_s : State) => e < 400 ∧ eventExists e = false) 58 ⟨[], onDoms [33, 139, 140, 141]⟩ ∧
  (fun (g : Nat) (w : Wr) (s : State) => g < 25 ∧ s.dev.hears (0x1400 + g) 3 w = true)
    24 (wOf 0x1418 3 6) ⟨[], (onDoms [33, 139, 140, 141]).wr 0x1418 1 7⟩ ∧
  (fun (g e : Nat) (w : Wr) (s : State) => g < 25 ∧ s.dev.hears (0x1400 + g) 3 w = true ∧ e / 16 = g ∧ eventExists e = true)
    24 384 (wOf 0x1418 3 7) ⟨[], (onDoms [33, 139, 140, 141]).wr 0x1418 1 7⟩ ∧
  (fun (g : Nat) (w : Wr) (s : State) => g < 25 ∧ s.dev.hears (0x1400 + g) 2 w = true)
    24 (wOf 0x1418 2 0xFFFE) ⟨[], (onDoms [33, 139, 140, 141]).wr 0x1418 1 1⟩ ∧
  (fun (w : Wr) (s : State) => s.dev.hears 0x141A 3 w = true ∧ w.value < 4)
    (wOf 0x141A 3 3) ⟨[], { onDoms [33, 139, 140, 141] with boot := { Dev.reset.boot with sealed := true } } |>.wr 0x1300 3 0xFFFFFFFF⟩ ∧
  (fun (_t : Nat) (w : Wr) (s : State) => s.dev.hears 0x141A 1 w = true)
    9 (wOf 0x141A 1 5) ⟨[], onDoms [33, 139, 140, 141] |>.wr 0x141A 1 4⟩ ∧
  (fun (k t : Nat) (s : State) => k < 4 ∧
    t < (Tbl.get (fun _ => CoreTimer.init) s.dev.wdCores k).since + 1600000 * (Tbl.get (fun _ => CoreTimer.init) s.dev.wdCores k).timeout)
    3 1600000 ⟨[], (onDoms [33, 139, 140, 141]).wr 0x141A 1 8 |>.wr 0x141A 2 2⟩ ∧
  (fun (k t : Nat) (s : State) => k < 4 ∧ s.dev.wdRuns k = true ∧
    (Tbl.get (fun _ => CoreTimer.init) s.dev.wdCores k).since + 1600000 * (Tbl.get (fun _ => CoreTimer.init) s.dev.wdCores k).timeout ≤ t)
    3 96000000000 ⟨[], (onDoms [33, 139, 140, 141]).wr 0x141A 1 8⟩ ∧
  (fun (k : Nat) (s : State) => k < 4 ∧ s.dev.wdHeld.contains k = true) 3 ⟨[], { onDoms [33, 139, 140, 141] with wdHeld := [3, 1] }⟩ ∧
  (fun (s : State) => s.dev.rd 0x141A 6 ≤ s.dev.wdTimes.length ∧ s.dev.boot.clusterRuns = true)
    ⟨[], { (onDoms [33, 139, 140, 141]).wr 0x141A 6 2 with wdTimes := [1, 2] }⟩ := by
  refine ⟨?_, ?_, ?_, ?_, ?_, ?_, ?_, ?_, ?_, ?_, ?_⟩ <;> decide +kernel

/-- A state and operands that meet the hypotheses of each clause of SlicesAreFencedAndReturn. -/
theorem witness_slices_are_fenced_and_return :
  (fun (k : Nat) (w : Wr) (s : State) => k < 64 ∧ s.dev.hears (0x2600 + k) 0x10 w = true ∧ s.dev.answersOff (sliceDom k) = false ∧
    s.dev.isFenced k = false) 0 (wOf 0x2600 0x10 1) ⟨[], onDoms [0, 33, 139, 140, 141]⟩ ∧
  (fun (k b : Nat) (s : State) => k < 64 ∧ b < 4 ∧ s.dev.isOn (sliceDom k) = true)
    0 3 ⟨[], (onDoms [0, 33, 139, 140, 141]).wr 0x2600 0x12 1⟩ ∧
  (fun (k : Nat) (w : Wr) (s : State) => k < 64 ∧ s.dev.hears (0x2600 + k) 0x14 w = true)
    0 (wOf 0x2600 0x14 5) ⟨[], (onDoms [0, 33, 139, 140, 141]).wr 0x2600 0x13 7⟩ ∧
  (fun (k : Nat) (w : Wr) (s : State) => k < 64 ∧ s.dev.hears (0x2600 + k) 0x11 w = true ∧ s.dev.isFenced k = true ∧
    s.dev.assay.reclaimed.contains k = true ∧ s.dev.rd (0x2600 + k) 0x13 % 32 = 0)
    0 (wOf 0x2600 0x11 1) ⟨[], { (onDoms [0, 33, 139, 140, 141]).wr 0x2600 1 2 with assay := { Assay.init with reclaimed := [0] } }⟩ ∧
  (fun (k : Nat) (s : State) => k < 64 ∧ s.dev.isPending (0x2600 + k) 0x11 = true)
    0 ⟨[], ((onDoms [0, 33, 139, 140, 141]).wr 0x2600 1 2).startPend 0x2600 0x11 .cluster⟩ ∧
  (fun (k : Nat) (s : State) => k < 64 ∧ s.dev.isPending (0x2600 + k) 0x11 = true)
    0 ⟨[], ((onDoms [0, 33, 139, 140, 141]).wr 0x2600 1 2).startPend 0x2600 0x11 .cluster⟩ := by
  refine ⟨?_, ?_, ?_, ?_, ?_, ?_⟩ <;> decide +kernel

/-- A state and operands that meet the hypotheses of each clause of LinksLoopbacksGeneratorsAndInjection. -/
theorem witness_links_loopbacks_generators_and_injection :
  (fun (q : Nat) (s : State) => q < 4 ∧ s.dev.rd (0x141C + q) 1 = 2) 3 ⟨[], (onDoms [33, 139, 140, 141]).wr 0x141F 1 2⟩ ∧
  (fun (q _t : Nat) (s : State) => q < 4 ∧ s.dev.rd (0x141C + q) 1 = 1 ∧ s.dev.linkWaits.filter (fun x => x.unit = q) = [])
    3 9 ⟨[], (onDoms [33, 139, 140, 141]).wr 0x141F 1 1⟩ ∧
  (fun (q i j : Nat) (w : Wr) (rest : List AccessWait) (s : State) => q < 4 ∧ s.dev.rd (0x141C + q) 1 ≠ 2 ∧
    s.dev.linkWaits = ⟨q, i, j, w, false, none⟩ :: rest)
    3 0x50C0 0xF1 (wOf 0x50C0 0xF1 1) [] ⟨[], { (onDoms [33, 139, 140, 141]).wr 0x141F 1 1 with linkWaits := [⟨3, 0x50C0, 0xF1, wOf 0x50C0 0xF1 1, false, none⟩] }⟩ ∧
  (fun (q i j len off : Nat) (rest : List AccessWait) (s : State) => q < 4 ∧ s.dev.rd (0x141C + q) 1 ≠ 2 ∧
    s.dev.linkWaits = ⟨q, i, j, ⟨.host, 0, len, off⟩, true, none⟩ :: rest)
    3 0x50C0 0xF1 16 (4096 * 0x50C0 + 16 * 0xF1) [] ⟨[], { (onDoms [33, 139, 140, 141]).wr 0x141F 1 1 with linkWaits := [⟨3, 0x50C0, 0xF1, ⟨.host, 0, 16, 4096 * 0x50C0 + 16 * 0xF1⟩, true, none⟩] }⟩ ∧
  (fun (n : Nat) (w : Wr) (s : State) => n < 256 ∧ s.dev.hears (0x9030 + n / 64) (1 + n % 64) w = true ∧ w.value ≤ 4 ∧
    s.dev.mode n ≠ pmOff ∧ ((w.value = 1 ∨ w.value = 3 → s.dev.mode n ≠ pmCarrier))) 255 (wOf 0x9033 64 4) ⟨[], pairAt 255 lnLocked⟩ ∧
  (fun (q : Nat) (w : Wr) (s : State) => q < 4 ∧ s.dev.hears (0x9010 + q) 8 w = true ∧
    (s.dev.rd (0x9010 + q) 5 = 0xFFFFFFFF ∨ (s.dev.rd (0x9010 + q) 5 < 32768 ∧ s.dev.chanServes (s.dev.rd (0x9010 + q) 5) false (s.dev.rd (0x9010 + q) 1) = true)) ∧
    s.dev.isUp (s.dev.rd (0x9010 + q) 1) = true) 0 (wOf 0x9010 8 1) ⟨[], ((passPair 5).wr 0x9010 1 5).wr 0x9010 5 1⟩ ∧
  (fun (q : Nat) (w : Wr) (s : State) => q < 4 ∧ s.dev.hears (0x9010 + q) 9 w = true ∧ s.dev.genBusy q = false)
    3 (wOf 0x9013 9 1) ⟨[], (onDoms [33, 139, 140, 141]).wr 0x9013 0xA 1⟩ ∧
  (fun (q : Nat) (w : Wr) (s : State) => q < 4 ∧ s.dev.hears (0x9010 + q) 9 w = true ∧ s.dev.genBusy q = true)
    3 (wOf 0x9013 9 1) ⟨[], ((onDoms [33, 139, 140, 141]).wr 0x9013 0xA 1).setBg 490 [⟨aFrame false 192 0 false, 64⟩]⟩ ∧
  (fun (_t : Nat) (w : Wr) (s : State) => s.dev.hears 0x9000 5 w = true ∧
    s.dev.injRangeOk (s.dev.rd 0x9000 1) (s.dev.rd 0x9000 2) (s.dev.rd 0x9000 3) = true ∧
    ((∀ k ∈ s.dev.injDomain (s.dev.rd 0x9000 1) (s.dev.rd 0x9000 2) (s.dev.rd 0x9000 3), s.dev.answersOff k = false)) ∧
    s.dev.injStateBad (s.dev.rd 0x9000 1) (s.dev.rd 0x9000 2) (s.dev.rd 0x9000 3) = false ∧ s.dev.inject = none ∧
    injNow (s.dev.rd 0x9000 1) = false)
    9 (wOf 0x9000 5 1) ⟨[], ((((onDoms [33, 139, 140, 141]).wr 0x9000 1 6).wr 0x9000 2 0).wr 0x9000 3 65536).wr 0x9000 4 5⟩ ∧
  (fun (_t : Nat) (w : Wr) (s : State) => s.dev.hears 0x9000 5 w = true ∧
    s.dev.injRangeOk (s.dev.rd 0x9000 1) (s.dev.rd 0x9000 2) (s.dev.rd 0x9000 3) = true ∧
    ((∀ k ∈ s.dev.injDomain (s.dev.rd 0x9000 1) (s.dev.rd 0x9000 2) (s.dev.rd 0x9000 3), s.dev.answersOff k = false)) ∧
    s.dev.injStateBad (s.dev.rd 0x9000 1) (s.dev.rd 0x9000 2) (s.dev.rd 0x9000 3) = false ∧ s.dev.inject = none ∧
    injNow (s.dev.rd 0x9000 1) = true ∧ s.dev.rd 0x9000 4 = 1)
    9 (wOf 0x9000 5 1) ⟨[], ((((onDoms [33, 139, 140, 141]).wr 0x9000 1 0x12).wr 0x9000 2 0).wr 0x9000 3 0).wr 0x9000 4 1⟩ ∧
  (fun (q _n _t : Nat) (_b : List Byte) (x : Inject) (s : State) => s.dev.inject = some x ∧ x.point = 6 ∧ x.inst = q ∧ q < 4 ∧
    s.dev.rd (0x141C + q) 1 = 2 ∧ bit 16 x.arg = false ∧ x.left ≤ 1)
    3 0 9 [] ⟨6, 3, 0, 1⟩ ⟨[], { (onDoms [33, 139, 140, 141]).wr 0x141F 1 2 with inject := some ⟨6, 3, 0, 1⟩ }⟩ ∧
  (fun (w : Wr) (s : State) => s.dev.hears 0x9000 6 w = true ∧ s.dev.inject.isSome = true)
    (wOf 0x9000 6 1) ⟨[], { onDoms [33, 139, 140, 141] with inject := some ⟨6, 3, 0, 1⟩ }⟩ ∧
  (fun (w : Wr) (s : State) => s.dev.hears 0x9000 9 w = true) (wOf 0x9000 9 1) ⟨[], onDoms [33, 139, 140, 141]⟩ := by
  refine ⟨?_, ?_, ?_, ?_, ?_, ?_, ?_, ?_, ?_, ?_, ?_, ?_, ?_⟩ <;> decide +kernel

/-- A state and operands that meet the hypotheses of each clause of TheBootRomReadsAndVerifies. -/
theorem witness_the_boot_rom_reads_and_verifies :
  (fun (s : State) => s.dev.hostReads = false)
    ⟨[], { onDoms [33, 139, 140, 141] with boot := { Dev.reset.boot with configReady := true, imageLen := 9 } } |>.setRing 5 { Ring.init with enable := true }⟩ ∧
  (fun (_x : Nat) (s : State) => s.dev.boot.perstLow = false ∧ s.dev.engineRuns = true ∧ s.dev.isOn 139 = true)
    255 ⟨[], onDoms [33, 139, 140, 141]⟩ ∧
  (fun (_a _n : Nat) (s : State) => s.dev.boot.configReady = true ∧ s.dev.boot.perstLow = false ∧ s.dev.boot.ready = false)
    8192 9 ⟨[], { onDoms [33, 139, 140, 141] with boot := { Dev.reset.boot with configReady := true, bootSrc := 1, source := 2 } }⟩ ∧
  (fun (_b : Option (List Byte)) (s : State) => s.dev.bootState = 1) (some []) ⟨[], onDoms [33, 139, 140, 141] |>.wr 0x1020 4 1⟩ ∧
  (fun (s : State) => s.dev.bootState = 2) ⟨[], onDoms [33, 139, 140, 141] |>.wr 0x1020 4 2⟩ ∧
  (fun (s : State) => s.dev.boot.restart = false ∧ s.dev.bootState = 3 ∧ s.dev.boot.sealed = false ∧ s.dev.boot.timeouts < 2)
    ⟨[], onDoms [33, 139, 140, 141] |>.wr 0x1020 4 3⟩ := by
  refine ⟨?_, ?_, ?_, ?_, ?_, ?_⟩ <;> decide +kernel

/-- A state and operands that meet the hypotheses of each clause of BootCodeSealsAndReadies. -/
theorem witness_boot_code_seals_and_readies :
  (fun (i j ty len v _t : Nat) (s : State) => s.dev.bootState = 3 ∧ s.dev.boot.restart = false ∧ s.dev.clusterUp = true ∧
    s.dev.boot.sealed = false ∧ within 0x1400 25 i = true ∧ j = 4 ∧ ty = 3 ∧ len = 2 ∧ v < 2 ^ 16 ∧
    s.dev.writeAbort .boot i j ty len v = 0 ∧ s.dev.isPending i j = false)
    0x1402 4 3 2 9 9 ⟨[], onDoms [33, 139, 140, 141] |>.wr 0x1020 4 3⟩ ∧
  (fun (w : Wr) (s : State) => s.dev.hears 0x1300 1 w = true) (wOf 0x1300 1 1) ⟨[], onDoms [33, 139, 140, 141]⟩ ∧
  (fun (_ms : Nat) (s : State) => s.dev.boot.restart = false ∧ s.dev.bootState = 4 ∧ s.dev.clusterUp = true ∧
    [139, 140, 141].all s.dev.isOn = true ∧ s.dev.timeRuns = true ∧ s.dev.mkaLoaded = true)
    70 ⟨[], (onDoms [136, 139, 140, 141]).wr 0x1020 4 4 |>.wr 0x1216 1 2⟩ ∧
  (fun (w : Wr) (s : State) => s.dev.hears 0x1010 7 w = true ∧ s.dev.rd 0x1010 5 ≤ w.value ∧ w.value ≤ s.dev.rd 0x1010 2)
    (wOf 0x1010 7 5) ⟨[], onDoms [33, 139, 140, 141] |>.wr 0x1010 2 6⟩ ∧
  (fun (w : Wr) (s : State) => s.dev.hears 0x1010 8 w = true ∧ w.value < 4 ∧ w.value ≠ s.dev.rd 0x1010 3 ∧
    setBit w.value (s.dev.rd 0x1010 6) % 16 ≠ 15) (wOf 0x1010 8 3) ⟨[], onDoms [33, 139, 140, 141]⟩ := by
  refine ⟨?_, ?_, ?_, ?_, ?_⟩ <;> decide +kernel

/-- A state and operands that meet the hypotheses of each clause of PinsAndTheTestAccessPort. -/
theorem witness_pins_and_the_test_access_port :
  (fun (n : Nat) (w : Wr) (s : State) => n < 16 ∧ s.dev.hears (0x1030 + n) 1 w = true ∧
    (w.value = 1 ∨ (w.value = 4 ∧ n = 14) ∨ (w.value = 5 ∧ n = 13)) ∧ s.dev.rd (0x1030 + n) 5 ≤ 1)
    14 (wOf 0x103E 1 4) ⟨[], onDoms [139, 140, 141]⟩ ∧
  (fun (n : Nat) (w : Wr) (s : State) => n < 16 ∧ s.dev.hears (0x1030 + n) 1 w = true ∧ w.value = 0 ∧ s.dev.rd (0x1030 + n) 5 ≤ 1)
    14 (wOf 0x103E 1 0) ⟨[], (onDoms [139, 140, 141]).wr 0x103E 1 4 |>.wr 0x103E 5 1⟩ ∧
  (fun (w : Wr) (s : State) => s.dev.hears 0x1040 1 w = true ∧ w.value = 1 ∧ s.dev.ppsHeld = false ∧
    (s.dev.rd 0x103F 5 = 0 ∨ s.dev.rd 0x103F 5 = 0x20)) (wOf 0x1040 1 1) ⟨[], onDoms [139, 140, 141]⟩ ∧
  (fun (w : Wr) (s : State) => s.dev.hears 0x1040 1 w = true ∧ w.value = 0 ∧ s.dev.ppsHeld = false ∧ s.dev.rd 0x103F 5 = 0x20)
    (wOf 0x1040 1 0) ⟨[], ((onDoms [139, 140, 141]).wr 0x1040 1 1).wr 0x103F 1 3 |>.wr 0x103F 5 0x20⟩ ∧
  (fun (_tdi : List Bool) (s : State) => s.dev.tapRuns = true)
    [true, false] ⟨[], { onDoms [139, 140, 141] with boot := { Dev.reset.boot with sysRstLow := true }, tap := ⟨2, [true, false]⟩ }⟩ ∧
  (fun (_tdi : List Bool) (s : State) => s.dev.tapRuns = true)
    [true, false] ⟨[], { onDoms [139, 140, 141] with boot := { Dev.reset.boot with sysRstLow := true }, tap := ⟨2, [true, false]⟩ }⟩ ∧
  (fun (_balls _tdi : List Bool) (s : State) => s.dev.tapRuns = true)
    [true, false] [true] ⟨[], { onDoms [139, 140, 141] with boot := { Dev.reset.boot with sysRstLow := true }, tap := ⟨2, [true, false]⟩ }⟩ ∧
  (fun (_balls _tdi : List Bool) (s : State) => s.dev.tapRuns = true ∧ s.dev.boot.sysRstLow = true)
    [false, true] [true] ⟨[], { onDoms [139, 140, 141] with boot := { Dev.reset.boot with sysRstLow := true }, tap := ⟨2, [true, false]⟩ }⟩ ∧
  (fun (_balls _tdi : List Bool) (s : State) => s.dev.tapRuns = true ∧ s.dev.boot.sysRstLow = true)
    [false, true] [true] ⟨[], { onDoms [139, 140, 141] with boot := { Dev.reset.boot with sysRstLow := true }, tap := ⟨2, [true, false]⟩ }⟩ ∧
  (fun (_balls _tdi : List Bool) (s : State) => s.dev.tapRuns = true ∧ s.dev.boot.sysRstLow = true)
    [false, true] [true] ⟨[], { onDoms [139, 140, 141] with boot := { Dev.reset.boot with sysRstLow := true }, tap := ⟨2, [true, false]⟩ }⟩ ∧
  (fun (_tdi : List Bool) (s : State) => s.dev.tapRuns = true ∧ s.dev.boot.sysRstLow = true)
    [true] ⟨[], { onDoms [139, 140, 141] with boot := { Dev.reset.boot with sysRstLow := true }, tap := ⟨2, [true, false]⟩ }⟩ ∧
  (fun (_tdi : List Bool) (s : State) => s.dev.tapRuns = true ∧ s.dev.boot.sysRstLow = true)
    [true] ⟨[], { onDoms [139, 140, 141] with boot := { Dev.reset.boot with sysRstLow := true }, tap := ⟨2, [true, false]⟩ }⟩ := by
  refine ⟨?_, ?_, ?_, ?_, ?_, ?_, ?_, ?_, ?_, ?_, ?_, ?_⟩ <;> decide +kernel

/-- A state and operands that meet the hypotheses of each clause of HostAccessesAndMsixMessages. -/
theorem witness_host_accesses_and_msix_messages :
  (fun (g _t : Nat) (s : State) => g < 25 ∧ s.dev.endpointUp = true ∧ s.dev.boot.ready = true ∧ s.dev.readAbort .host (0x1400 + g) 4 = 0)
    24 9 ⟨[], dapUp⟩ ∧
  (fun (g v _t : Nat) (s : State) => g < 25 ∧ s.dev.hears (0x1400 + g) 4 ⟨.host, Ty.u16.code, 2, v % 65536⟩ = true)
    24 0x10005 9 ⟨[], dapUp⟩ ∧
  (fun (i j _t : Nat) (w : Wr) (s : State) => s.dev.hears i j w = true ∧
    ((within 0x1400 25 i = true ∧ j = 4) ∨ (within 0x1100 142 i = true ∧ j = 3) ∨ (within 0x5000 512 i = true ∧ j = 4)))
    0x1418 4 9 (wOf 0x1418 4 5) ⟨[], onDoms [139]⟩ ∧
  (fun (o _len : Nat) (s : State) => s.dev.endpointUp = true ∧ s.dev.boot.ready = true ∧
    ((∀ i ∈ governing o, s.dev.hasRight 0 .host i = true))) 0x2000014 4 ⟨[], dapUp⟩ ∧
  (fun (v : Nat) (s : State) => v < 64 ∧ s.dev.endpointUp = true ∧ s.dev.boot.ready = true)
    63 ⟨[], { dapUp with msix := ⟨true, false, [], 2 ^ 63⟩ }⟩ ∧
  (fun (s : State) => s.dev.endpointUp = true) ⟨[], { dapUp with msix := ⟨true, true, [(5, 7)], 32⟩ }⟩ ∧
  (fun (_a _b : Bool) (s : State) => s.dev.endpointUp = true) true false ⟨[], dapUp⟩ := by
  refine ⟨?_, ?_, ?_, ?_, ?_, ?_, ?_⟩ <;> decide +kernel

/-- A state and operands that meet the hypotheses of each clause of RingsMoveTheirIndices. -/
theorem witness_rings_move_their_indices :
  (fun (r _v : Nat) (s : State) => r < 136 ∧ s.dev.endpointUp = true ∧ s.dev.boot.ready = true ∧
    ((∀ i ∈ governing (ringBase r), s.dev.hasRight 8 .host i = true)) ∧ 6 ≤ (s.dev.ring r).size ∧ (s.dev.ring r).size ≤ 16)
    5 65 ⟨[], dapUp.setRing 5 { Ring.init with size := 6 }⟩ ∧
  (fun (p : Nat) (s : State) => p < 64 ∧ s.dev.endpointUp = true ∧ s.dev.boot.ready = true ∧ s.dev.hasRight 8 .host 0x1551 = true)
    5 ⟨[], dapUp.setRing 69 { Ring.init with base := 4096, size := 6, prod := 3, cons := 1, enable := true }⟩ ∧
  (fun (q p _addr size : Nat) (f : Punt) (s : State) => q < 4 ∧ p < 64 ∧ s.dev.endpointUp = true ∧ (s.dev.ring p).avail = true ∧
    s.dev.puntQ q = [f] ∧ f.ring = p ∧ 256 ≤ size ∧ f.data.length ≤ size / 256 * 256)
    0 5 8192 256 ⟨5, 64, 15, 3, true, 1, 0, 0, List.replicate 60 0, false⟩ ⟨[], (dapUp.setRing 5 { Ring.init with base := 4096, size := 6, cons := 1, enable := true }).setPuntQ 0 [⟨5, 64, 15, 3, true, 1, 0, 0, List.replicate 60 0, false⟩]⟩ ∧
  (fun (p len port _cls flags chan _t n : Nat) (_b : List Byte) (s : State) => p < 64 ∧ s.dev.endpointUp = true ∧
    (s.dev.ring (64 + p)).avail = true ∧ n = port % 256 ∧ s.dev.injectBad n len (bit 1 flags) chan = false ∧ s.dev.assay.draining = none)
    5 60 5 0 0 0 9 5 (List.replicate 60 0) ⟨[], let x := passPair 5; ({ x with boot := { x.boot with configReady := true } } : Dev).wr 0x118B 2 2 |>.setRing 69 { Ring.init with base := 4096, size := 6, prod := 3, cons := 1, enable := true }⟩ ∧
  (fun (p len port _cls flags chan _t : Nat) (_b : List Byte) (s : State) => p < 64 ∧ s.dev.endpointUp = true ∧
    (s.dev.ring (64 + p)).avail = true ∧ s.dev.injectBad (port % 256) len (bit 1 flags) chan = true)
    5 59 5 0 0 0 9 [] ⟨[], dapUp.setRing 69 { Ring.init with base := 4096, size := 6, prod := 3, cons := 1, enable := true }⟩ := by
  refine ⟨?_, ?_, ?_, ?_, ?_⟩ <;> decide +kernel

/-- A state and operands that meet the hypotheses of each clause of RequestsArePerformedOnTheirSession. -/
theorem witness_requests_are_performed_on_their_session :
  (fun (f : Bool) (_peer sid seq g _t : Nat) (x : Session) (s : State) => s.dev.portsUp = true ∧ s.dev.authSlot (transport f) ≠ 0xFF ∧
    s.dev.boot.ready = true ∧ sid ≠ 0 ∧ sid < 65536 ∧ seq < 2 ^ 64 ∧ s.dev.session (transport f) sid = some x ∧ x.takes seq = true ∧
    g < 25 ∧ ((s.dev.linkHolds (0x1400 + g) 4).isNone = true ∧ (s.dev.linkHit (0x1400 + g) 4).isNone = true) ∧
    s.dev.readAbort (transport f) (0x1400 + g) 4 = 0) true 7 9 6 24 5 (aSession .field) ⟨[], opened .field⟩ ∧
  (fun (f : Bool) (_peer sid seq g _t : Nat) (x : Session) (s : State) => s.dev.portsUp = true ∧ s.dev.authSlot (transport f) ≠ 0xFF ∧
    s.dev.boot.ready = true ∧ sid ≠ 0 ∧ sid < 65536 ∧ seq < 2 ^ 64 ∧ s.dev.session (transport f) sid = some x ∧ x.takes seq = true ∧
    seq < x.high ∧ g < 25 ∧ ((s.dev.linkHolds (0x1400 + g) 4).isNone = true ∧ (s.dev.linkHit (0x1400 + g) 4).isNone = true) ∧
    s.dev.readAbort (transport f) (0x1400 + g) 4 = 0)
    true 7 9 6 24 5 { (aSession .field) with high := 9 } ⟨[], { (opened .field) with dap := { (opened .field).dap with sessions := [{ (aSession .field) with high := 9 }] } }⟩ ∧
  (fun (f : Bool) (_peer sid seq _g _t : Nat) (x : Session) (s : State) => s.dev.portsUp = true ∧ s.dev.authSlot (transport f) ≠ 0xFF ∧
    s.dev.boot.ready = true ∧ sid ≠ 0 ∧ sid < 65536 ∧ seq < 2 ^ 64 ∧ s.dev.session (transport f) sid = some x ∧ x.takes seq = false)
    true 7 9 6 24 5 { (aSession .field) with high := 6 } ⟨[], { (opened .field) with dap := { (opened .field).dap with sessions := [{ (aSession .field) with high := 6 }] } }⟩ ∧
  (fun (f : Bool) (_peer sid seq g _t : Nat) (x : Session) (s : State) => s.dev.portsUp = true ∧ s.dev.authSlot (transport f) ≠ 0xFF ∧
    s.dev.boot.ready = true ∧ sid ≠ 0 ∧ sid < 65536 ∧ seq < 2 ^ 64 ∧ s.dev.session (transport f) sid = some x ∧ x.takes seq = true ∧
    g < 25 ∧ ((s.dev.linkHolds (0x1400 + g) 4).isNone = true ∧ (s.dev.linkHit (0x1400 + g) 4).isNone = true) ∧
    s.dev.readAbort (transport f) (0x1400 + g) 4 = 0) true 7 9 6 24 5 (aSession .field) ⟨[], opened .field⟩ ∧
  (fun (f : Bool) (_peer sid seq g _t : Nat) (x : Session) (s : State) => s.dev.portsUp = true ∧ s.dev.authSlot (transport f) ≠ 0xFF ∧
    s.dev.boot.ready = true ∧ sid ≠ 0 ∧ sid < 65536 ∧ seq < 2 ^ 64 ∧ s.dev.session (transport f) sid = some x ∧ x.takes seq = true ∧
    g < 25 ∧ ((s.dev.linkHolds (0x1400 + g) 4).isNone = true ∧ (s.dev.linkHit (0x1400 + g) 4).isNone = true) ∧
    s.dev.readAbort (transport f) (0x1400 + g) 4 = 0) true 7 9 6 24 5 (aSession .field) ⟨[], opened .field⟩ ∧
  (fun (f : Bool) (_peer sid seq g v _t : Nat) (x : Session) (s : State) => s.dev.portsUp = true ∧ s.dev.authSlot (transport f) ≠ 0xFF ∧
    s.dev.boot.ready = true ∧ sid ≠ 0 ∧ sid < 65536 ∧ seq < 2 ^ 64 ∧ s.dev.session (transport f) sid = some x ∧ x.takes seq = true ∧
    g < 25 ∧ v < 65536 ∧ s.dev.hears (0x1400 + g) 4 ⟨dapPath (transport f), Ty.u16.code, 2, v⟩ = true)
    false 7 9 6 24 5 5 (aSession .oob) ⟨[], opened .oob⟩ ∧
  (fun (f : Bool) (_peer sid seq g v _t : Nat) (x : Session) (s : State) => s.dev.portsUp = true ∧ s.dev.authSlot (transport f) ≠ 0xFF ∧
    s.dev.boot.ready = true ∧ sid ≠ 0 ∧ sid < 65536 ∧ seq < 2 ^ 64 ∧ s.dev.session (transport f) sid = some x ∧ x.takes seq = true ∧
    g < 25 ∧ v < 65536 ∧ s.dev.hears (0x1400 + g) 4 ⟨dapPath (transport f), Ty.u16.code, 2, v⟩ = true)
    false 7 9 6 24 5 5 (aSession .oob) ⟨[], opened .oob⟩ ∧
  (fun (f : Bool) (_peer sid seq g v _t : Nat) (x : Session) (s : State) => s.dev.portsUp = true ∧ s.dev.authSlot (transport f) ≠ 0xFF ∧
    s.dev.boot.ready = true ∧ sid ≠ 0 ∧ sid < 65536 ∧ seq < 2 ^ 64 ∧ s.dev.session (transport f) sid = some x ∧ x.takes seq = true ∧
    g < 25 ∧ v < 65536 ∧ s.dev.hears (0x1400 + g) 3 ⟨dapPath (transport f), Ty.u16.code, 2, v⟩ = true)
    false 7 9 6 24 5 5 (aSession .oob) ⟨[], (opened .oob).wr 0x1418 1 15⟩ ∧
  (fun (f : Bool) (_peer sid seq _q _t : Nat) (x : Session) (s : State) => s.dev.portsUp = true ∧ s.dev.authSlot (transport f) ≠ 0xFF ∧
    s.dev.boot.ready = true ∧ sid ≠ 0 ∧ sid < 65536 ∧ seq < 2 ^ 64 ∧ s.dev.session (transport f) sid = some x ∧ x.takes seq = true)
    true 7 9 6 24 5 (aSession .field) ⟨[], { opened .field with dap := { (opened .field).dap with reasm := some ([0], 1) } }⟩ ∧
  (fun (f : Bool) (_peer sid seq id _t : Nat) (x : Session) (s : State) => s.dev.portsUp = true ∧ s.dev.authSlot (transport f) ≠ 0xFF ∧
    s.dev.boot.ready = true ∧ sid ≠ 0 ∧ sid < 65536 ∧ seq < 2 ^ 64 ∧ s.dev.session (transport f) sid = some x ∧ x.takes seq = true ∧
    id < 65536 ∧ s.dev.hears 0x1500 2 ⟨dapPath (transport f), Ty.u16.code, 2, id⟩ = true ∧
    s.dev.dap.sessions.any (fun y => y.id = id) = true) true 7 9 6 9 5 (aSession .field) ⟨[], opened .field⟩ := by
  refine ⟨?_, ?_, ?_, ?_, ?_, ?_, ?_, ?_, ?_, ?_⟩ <;> decide +kernel

/-- A state and operands that meet the hypotheses of each clause of SessionsAndTheirPortsFollowEvents. -/
theorem witness_sessions_and_their_ports_follow_events :
  (fun (f : Bool) (_peer seq nonce _t : Nat) (s : State) => s.dev.portsUp = true ∧ s.dev.authSlot (transport f) ≠ 0xFF ∧
    s.dev.boot.ready = true ∧ (s.dev.authRoot (transport f)).isSome = true ∧ s.dev.baseHigh (transport f) < seq ∧ seq < 2 ^ 64 ∧
    nonce < 2 ^ 96 ∧ (s.dev.sessionsOf (transport f)).length < (if f then 4 else 8) ∧ s.dev.rd 0x3000 6 ≠ 2 ∧
    (s.dev.entryFor 4 3).isSome = true ∧ (s.dev.accessed (transport f)).writeAbort (transport f) 0x1500 1 7 12 nonce = 0)
    true 7 6 5 9 ⟨[], dapUp⟩ ∧
  (fun (f : Bool) (sid seq : Nat) (s : State) =>
    s.dev.dap.waits.any (fun w => w.2.role = transport f && w.2.sid = sid && w.2.seq = seq) = true)
    true 9 5 ⟨[], { opened .field with dap := { (opened .field).dap with waits := [(okey 0x1418 3, ⟨.field, 9, 5, 3, 5, []⟩)] } }⟩ ∧
  (fun (id e : Nat) (x : Session) (s : State) => s.dev.dap.sessions = [x] ∧ x.id = id ∧ x.hold = [(e, none)])
    9 80 { aSession .oob with hold := [(80, none)] } ⟨[], { dapUp with dap := { dapUp.dap with sessions := [{ aSession .oob with hold := [(80, none)] }] } }⟩ ∧
  (fun (id e m n : Nat) (x : Session) (s : State) => s.dev.dap.sessions = [x] ∧ x.id = id ∧ x.hold = [(e, some (m, n))])
    9 80 5 3 { aSession .oob with hold := [(80, some (5, 3))] } ⟨[], { dapUp with dap := { dapUp.dap with sessions := [{ aSession .oob with hold := [(80, some (5, 3))] }] } }⟩ ∧
  (fun (kind dst _port _peer _t : Nat) (_b : List Byte) (s : State) => s.dev.portsUp = true ∧ dst = s.dev.rd 0x1510 1 ∧ kind < 2)
    1 0xA9FE0001 5 7 9 [8] ⟨[], dapUp⟩ ∧
  (fun (s : State) => s.dev.portsUp = true) ⟨[], dapUp⟩ ∧
  (fun (ident _t : Nat) (b : List Byte) (s : State) => s.dev.portsUp = true ∧ s.dev.rd 0x1520 5 ≠ 2 ∧ ident = 0x300 + s.dev.rd 0x1520 1 ∧
    b.length ≤ 63) 0x301 9 [1, 2] ⟨[], dapUp⟩ ∧
  (fun (s : State) => s.dev.portsUp = true) ⟨[], dapUp⟩ ∧
  (fun (s : State) => s.dev.portsUp = true) ⟨[], dapUp⟩ ∧
  (fun (s : State) => s.dev.portsUp = true) ⟨[], dapUp.wr 0x1520 5 2⟩ := by
  refine ⟨?_, ?_, ?_, ?_, ?_, ?_, ?_, ?_, ?_, ?_⟩ <;> decide +kernel

/-- A command of a lane stands apart, and a state with open sessions. -/
theorem witness_access_ports_stand_apart :
    apart (.laneLockLost 5) = true ∧ (Instr.laneLockLost 5).wf = true ∧ (opened .oob).bareSessions.length = 1 := by decide +kernel

end Sys2Proof.Machine
end

namespace Sys2Proof.Machine

/-! ## Commands complete (R12) -/

/-- A command of a CCLK cycle acts under its guard, with the clock moved on first. -/
theorem actAt_eq_actIf (p : Bool) (t : Nat) (f : Dev → Dev) (s : State) :
    actAt p t f s = actIf p (fun d => f (d.at t)) s := rfl

theorem actIf_true (f : Dev → Dev) (s : State) : actIf true f s = .next { s with dev := f s.dev } := rfl

theorem actIf_false (f : Dev → Dev) (s : State) : actIf false f s = .fault .noInstance := rfl

/-- A read-back is guarded by the channel of its queue, which the part has exactly where it has the queue. -/
theorem readback_wf (x e : Nat) : decide (x / 8 < 32768) = (Instr.readback x e).wf := by
  simp only [Instr.wf, decide_eq_decide]; omega

/-- Every arm of `exec` is guarded by the well-formedness of its command and acts on the block alone (R12; log 150). -/
theorem exec_eq_actIf (c : Instr) (s : State) : ∃ f : Dev → Dev, exec c s = actIf c.wf f s := by
  cases c
  case readback x e => rw [← readback_wf]; exact ⟨_, rfl⟩
  case dapMessage | udpDatagram | canSegment | scheduledAction | epochBoundary | tamperEvent | injFire | injectionOccurrence |
      vddIoReturn =>
    exact ⟨_, actAt_eq_actIf true _ _ s⟩
  all_goals exact ⟨_, rfl⟩

/-- A well-formed command answers a next state and leaves the queue alone. -/
theorem exec_of_wf {c : Instr} (hc : c.wf = true) (s : State) : ∃ d, exec c s = .next { s with dev := d } := by
  obtain ⟨f, hf⟩ := exec_eq_actIf c s
  exact ⟨f s.dev, by rw [hf, hc, actIf_true]⟩

/-- An ill-formed command is answered with the model's own fault (log 150). -/
theorem exec_of_not_wf {c : Instr} (hc : c.wf = false) (s : State) : exec c s = .fault .noInstance := by
  obtain ⟨f, hf⟩ := exec_eq_actIf c s
  rw [hf, hc, actIf_false]

/-- Settles O2: every arm of `exec` is an `actIf` over the command's well-formedness. -/
theorem commandsCompleteUnlessTheyNameNoInstance : Obligations.CommandsCompleteUnlessTheyNameNoInstance := by
  unfold Obligations.CommandsCompleteUnlessTheyNameNoInstance
  refine fun c s => ⟨fun hc => ?_, fun hc => exec_of_not_wf hc s⟩
  obtain ⟨d, hd⟩ := exec_of_wf hc s
  exact ⟨_, hd, rfl⟩

/-- A step from a sound state completes, takes one command where one waits, and leaves a sound state. -/
theorem step_of_sound {s : State} (hs : s.sound) : ∃ t, step s = .next t ∧ t.pending = s.pending.drop 1 ∧ t.sound := by
  obtain ⟨pending, dev⟩ := s
  cases pending with
  | nil => exact ⟨_, rfl, rfl, hs⟩
  | cons c rest =>
    obtain ⟨d, hd⟩ := exec_of_wf (hs c (by simp)) ⟨rest, dev⟩
    exact ⟨_, hd, rfl, fun x hx => hs x (List.mem_cons_of_mem c hx)⟩

theorem State.run_succ {s t u : State} {k : Nat} (hr : s.run k = some t) (hu : step t = .next u) : s.run (k + 1) = some u := by
  simp only [State.run, hr, hu]

/-- Settles O3, by induction on the number of steps: each takes one command and keeps the rest well formed. -/
theorem soundQueuesRunToTheirEnd : Obligations.SoundQueuesRunToTheirEnd := by
  unfold Obligations.SoundQueuesRunToTheirEnd
  intro s hs k
  induction k with
  | zero => exact ⟨s, rfl, rfl, hs⟩
  | succ k ih =>
    obtain ⟨t, hrun, hpending, hsound⟩ := ih
    obtain ⟨u, hstep, hdrop, husound⟩ := step_of_sound hsound
    exact ⟨u, State.run_succ hrun hstep, by rw [hdrop, hpending, List.drop_drop], husound⟩

end Sys2Proof.Machine

namespace Sys2Proof.Machine

/-! ## The rows of ports, lanes and event groups, and the registers after reset (R39, R42) -/

theorem insts_linePort {n : Nat} (hn : n < 256) : insts (0x2000 + n) = [(.linePort, n), (.portTs, n)] := by
  have h1 : ¬ 0x2000 + n < 0x1600 := by omega
  have h2 : ¬ 0x2000 + n < 0x2000 := by omega
  have h3 : 0x2000 + n < 0x4000 := by omega
  have h4 : 0x2000 + n < 0x2100 := by omega
  simp only [insts, instsPorts, h1, h2, h3, h4, if_true, if_false, Nat.add_sub_cancel_left]

theorem insts_sysPort {n : Nat} (hn : n < 256) : insts (0x2100 + n) = [(.sysPort, n), (.portTs, 256 + n)] := by
  have h1 : ¬ 0x2100 + n < 0x1600 := by omega
  have h2 : ¬ 0x2100 + n < 0x2000 := by omega
  have h3 : 0x2100 + n < 0x4000 := by omega
  have h4 : ¬ 0x2100 + n < 0x2100 := by omega
  have h5 : 0x2100 + n < 0x2200 := by omega
  have h6 : 0x2100 + n - 0x2000 = 256 + n := by omega
  simp only [insts, instsPorts, h1, h2, h3, h4, h5, h6, if_true, if_false, Nat.add_sub_cancel_left]

/-- Every lane has its own rows first; a line lane has those of its carrier after them. -/
theorem insts_lane {l : Nat} (hl : l < 512) : ∃ rest, insts (0x2200 + l) = (.lane, l) :: rest := by
  have h1 : ¬ 0x2200 + l < 0x1600 := by omega
  have h2 : ¬ 0x2200 + l < 0x2000 := by omega
  have h3 : 0x2200 + l < 0x4000 := by omega
  have h4 : ¬ 0x2200 + l < 0x2100 := by omega
  have h5 : ¬ 0x2200 + l < 0x2200 := by omega
  have h6 : 0x2200 + l < 0x2400 := by omega
  by_cases h7 : 0x2200 + l < 0x2300 <;>
    simp only [insts, instsPorts, h1, h2, h3, h4, h5, h6, h7, if_true, if_false, Nat.add_sub_cancel_left] <;>
    exact ⟨_, rfl⟩

theorem insts_eventGroup {g : Nat} (hg : g < 25) : insts (0x1400 + g) = [(.eventGroup, g)] := by
  have h1 : 0x1400 + g < 0x1600 := by omega
  have h2 : ¬ 0x1400 + g < 0x1000 := by omega
  have h3 : ¬ 0x1400 + g < 0x1100 := by omega
  have h4 : ¬ 0x1400 + g < 0x1200 := by omega
  have h5 : ¬ 0x1400 + g < 0x1300 := by omega
  have h6 : ¬ 0x1400 + g < 0x1400 := by omega
  have h7 : 0x1400 + g < 0x1500 := by omega
  have h8 : within 0x1400 25 (0x1400 + g) = true := by
    simp only [within, Bool.and_eq_true, decide_eq_true_eq]; omega
  simp only [insts, instsKeystone, h1, h2, h3, h4, h5, h6, h7, h8, if_true, if_false, Nat.add_sub_cancel_left]

/-- The object of the first kind at an index that has a row for the subindex. -/
theorem objAt_cons {i j n : Nat} {c : Cls} {r : Row} {rest : List (Cls × Nat)} (hi : insts i = (c, n) :: rest)
    (hr : rowIn c.rows j = some r) (hp : presentAt c n j = true) : objAt i j = some (c, n, r) := by
  simp only [objAt, hi, objIn, hr, hp, if_true]

theorem objAt_linePort {n j : Nat} {r : Row} (hn : n < 256) (hr : rowIn rowsLinePort j = some r) :
    objAt (0x2000 + n) j = some (.linePort, n, r) := objAt_cons (insts_linePort hn) hr rfl

theorem objAt_sysPort {n j : Nat} {r : Row} (hn : n < 256) (hr : rowIn rowsSysPort j = some r) :
    objAt (0x2100 + n) j = some (.sysPort, n, r) := objAt_cons (insts_sysPort hn) hr rfl

theorem objAt_lane {l j : Nat} {r : Row} (hl : l < 512) (hr : rowIn rowsLane j = some r) :
    objAt (0x2200 + l) j = some (.lane, l, r) := by
  obtain ⟨rest, h⟩ := insts_lane hl
  exact objAt_cons h hr rfl

theorem objAt_eventGroup {g j : Nat} {r : Row} (hg : g < 25) (hr : rowIn rowsEventGroup j = some r) :
    objAt (0x1400 + g) j = some (.eventGroup, g, r) := objAt_cons (insts_eventGroup hg) hr rfl

theorem dflt_okey {i j : Nat} (hj : j < 256) : dflt (okey i j) = dfltOf i j := by
  have h1 : okey i j / 256 = i := by simp only [okey]; omega
  have h2 : okey i j % 256 = j := by simp only [okey]; omega
  rw [dflt, h1, h2]

theorem okey_inj {i j i' j' : Nat} (hj : j < 256) (hj' : j' < 256) : okey i j = okey i' j' ↔ (i, j) = (i', j') := by
  simp only [okey, Prod.mk.injEq]; omega

/-- PORT_MODE of every pair is OFF by default (R89). -/
theorem dflt_portMode {n : Nat} (hn : n < 256) : dflt (okey (0x2000 + n) 1) = pmOff := by
  rw [dflt_okey (by decide), dfltOf, objAt_linePort (j := 1) hn rfl]; rfl

/-- LANE_STATE of every lane is OFF by default (R98). -/
theorem dflt_laneState {l : Nat} (hl : l < 512) : dflt (okey (0x2200 + l) 1) = lnOff := by
  rw [dflt_okey (by decide), dfltOf, objAt_lane (j := 1) hl rfl]; rfl

/-- STATUS of every event group is 0 by default (R464). -/
theorem dflt_eventStatus {g : Nat} (hg : g < 25) : dflt (okey (0x1400 + g) 1) = 0 := by
  rw [dflt_okey (by decide), dfltOf, objAt_eventGroup (j := 1) hg rfl]; rfl

/-- The register table after reset lists three registers; every other reads its default (log 7, log 11). -/
theorem rd_reset {i j : Nat} (hj : j < 256) (hslot : (i, j) ≠ (0x304F, 2)) (hseal : (i, j) ≠ (0x5003, 0xC2)) (hsticky : (i, j) ≠ (0x7800, 1)) :
    State.reset.dev.rd i j = dflt (okey i j) := by
  have miss : ∀ {i' j'}, j' < 256 → (i, j) ≠ (i', j') → okey i' j' ≠ okey i j := fun hj' hne he =>
    hne ((okey_inj hj hj').1 he.symm)
  simp only [Dev.rd, State.reset, Dev.reset, Tbl.get, Tbl.find, miss (by decide) hslot, miss (by decide) hseal,
    miss (by decide) hsticky, if_false, Option.getD_none]

/-- Settles O6: the register table after reset lists three registers, and the rest reads as the object tables say. -/
theorem resetLeavesTheBlockAtItsDefaults : Obligations.ResetLeavesTheBlockAtItsDefaults := by
  unfold Obligations.ResetLeavesTheBlockAtItsDefaults
  refine ⟨rfl, by decide +kernel, fun i j hj => rd_reset hj, fun n hn => ?_, fun l hl => ?_, fun g hg => ?_, by decide +kernel⟩
  · rw [rd_reset (by decide) (by simp) (by simp) (by simp; omega), dflt_portMode hn]
  · rw [rd_reset (by decide) (by simp) (by simp) (by simp; omega), dflt_laneState hl]
  · rw [rd_reset (by decide) (by simp) (by simp) (by simp; omega), dflt_eventStatus hg]

end Sys2Proof.Machine

namespace Sys2Proof.Machine

/-! ## What events touch

Raising an event, counting a performance source and answering an access come down to writes of registers and to fields that no other
block looks at. `Dev.Touches p a b` records the writes in turn, so that a fact that one write keeps is kept by all of them. -/

/-- `b` comes from `a` by writes of registers on which `p` holds, and by what is answered, timed, put out, sent or set warming. POWER_STATE of
domain 136 is written only while it reads RETAIN (R405). -/
inductive Dev.Touches (p : Nat → Nat → Bool) (a : Dev) : Dev → Prop where
  | refl : Touches p a a
  | wr {b : Dev} (i j v : Nat) (h : Touches p a b) (hp : p i j = true) (hj : j < 256)
      (hdom : i = 0x1188 → j = 2 → b.rd 0x1188 2 = psRetain) : Touches p a (b.wr i j v)
  | out {b c : Dev} (h : Touches p a b)
      (hc : c = { b with answer := c.answer, now := c.now, pulses := c.pulses, bar0 := c.bar0, emits := c.emits, msix := c.msix,
                         dap := c.dap, power := { b.power with warm := c.power.warm } }) : Touches p a c

theorem Tbl.filter_ins {α : Type} (q : Nat × α → Bool) (k : Nat) (v : α) (t : Tbl α) (h : q (k, v) = false) :
    (Tbl.ins k v t).filter q = t.filter q := by
  induction t with
  | nil => simp [Tbl.ins, h]
  | cons e t ih => by_cases hl : k < e.1 <;> simp [Tbl.ins, hl, h, List.filter_cons, ih]

theorem Tbl.filter_erase {α : Type} (q : Nat × α → Bool) (k : Nat) (t : Tbl α) (h : ∀ v, q (k, v) = false) :
    (Tbl.erase t k).filter q = t.filter q := by
  rw [Tbl.erase, List.filter_filter]
  refine List.filter_congr fun e _ => ?_
  by_cases hk : e.1 = k
  · obtain ⟨k', v⟩ := e; subst hk; simp [h]
  · simp [hk]

/-- A write is not seen among entries of other keys, nor does it change their order. -/
theorem Tbl.filter_set {α : Type} [DecidableEq α] (d : Nat → α) (q : Nat × α → Bool) (k : Nat) (x : α) (t : Tbl α)
    (h : ∀ v, q (k, v) = false) : (Tbl.set d t k x).filter q = t.filter q := by
  unfold Tbl.set
  split
  · exact Tbl.filter_erase q k t h
  · rw [Tbl.filter_ins q k x _ (h x), Tbl.filter_erase q k t h]

namespace Dev.Touches

variable {p q : Nat → Nat → Bool} {a b c : Dev}

theorem trans (h : Touches p a b) (k : Touches p b c) : Touches p a c := by
  induction k with
  | refl => exact h
  | wr i j v _ hp hj hdom ih => exact ih.wr i j v hp hj hdom
  | out _ hc ih => exact ih.out hc

theorem mono (hpq : ∀ i j, p i j = true → q i j = true) (h : Touches p a b) : Touches q a b := by
  induction h with
  | refl => exact refl
  | wr i j v _ hp hj hdom ih => exact ih.wr i j v (hpq i j hp) hj hdom
  | out _ hc ih => exact ih.out hc

/-- One write of a register that is not POWER_STATE of domain 136. -/
theorem write (a : Dev) (i j v : Nat) (hp : p i j = true) (hj : j < 256) (hdom : j = 2 → i ≠ 0x1188) : Touches p a (a.wr i j v) :=
  refl.wr i j v hp hj fun hi hj2 => absurd hi (hdom hj2)

theorem emit (a : Dev) (e : Emit) : Touches p a (a.emit e) := refl.out rfl

theorem ite {P : Prop} [Decidable P] (h : Touches p a b) (k : Touches p a c) : Touches p a (if P then b else c) := by
  split <;> assumption

theorem when {x : Bool} {f : Dev → Dev} (h : Touches p a (f a)) : Touches p a (Machine.when x f a) := by
  cases x
  · exact refl
  · exact h

theorem foldl {α : Type} (f : Dev → α → Dev) (l : List α) (hf : ∀ x ∈ l, ∀ d, Touches p d (f d x)) (a : Dev) :
    Touches p a (l.foldl f a) := by
  induction l generalizing a with
  | nil => exact refl
  | cons x l ih => exact (hf x (by simp) a).trans (ih (fun y hy => hf y (by simp [hy])) _)

/-- Entries of registers outside `p` stand in the table as they did, in the order in which they did. -/
theorem filter_dict (h : Touches p a b) (q : Nat × Nat → Bool) (hq : ∀ i j v, p i j = true → j < 256 → q (okey i j, v) = false) :
    b.dict.filter q = a.dict.filter q := by
  induction h with
  | refl => rfl
  | wr i j v _ hp hj _ ih => exact (Tbl.filter_set dflt q _ v _ fun v' => hq i j v' hp hj).trans ih
  | out _ hc ih => rw [hc]; exact ih

/-- A register outside `p` reads as it did. -/
theorem rd (h : Touches p a b) {i j : Nat} (hj : j < 256) (hp : p i j = false) : b.rd i j = a.rd i j := by
  induction h with
  | refl => rfl
  | wr i' j' v _ hp' hj' _ ih =>
    refine (Dev.rd_wr_ne _ v fun hk => ?_).trans ih
    obtain ⟨rfl, rfl⟩ : i = i' ∧ j = j' := by omega
    rw [hp] at hp'; cases hp'
  | out _ hc ih => rw [hc]; exact ih

/-- The fields apart from the registers and from what is answered, timed, put out, sent or set warming stay. -/
theorem same (h : Touches p a b) :
    b = { a with dict := b.dict, answer := b.answer, now := b.now, pulses := b.pulses, bar0 := b.bar0, emits := b.emits,
                 msix := b.msix, dap := b.dap, power := { a.power with warm := b.power.warm } } := by
  induction h with
  | refl => rfl
  | wr i j v _ _ _ _ ih => rw [Dev.wr, ih]
  | out _ hc ih => rw [hc, ih]

/-- Domain 136 stays ON where it is. -/
theorem isOn_cluster (h : Touches p a b) (ha : a.isOn 136 = true) : b.isOn 136 = true := by
  induction h with
  | refl => exact ha
  | @wr b i j v _ _ hj hdom ih =>
    have hb : b.rd 0x1188 2 = psOn := of_decide_eq_true ih
    have hne : 0x1188 * 256 + 2 ≠ i * 256 + j := fun hk => by
      have := hdom (by omega) (by omega)
      rw [hb] at this; cases this
    simpa [Dev.isOn, Dev.pstate, Dev.rd_wr_ne _ _ hne] using hb
  | out _ hc ih => rw [hc]; exact ih

/-- What touches only registers of `p` and those of events keeps everything else (Dev.keeps). -/
theorem keeps (h : Touches (fun i j => p i j || eventReg i j) a b) : a.keeps p b := by
  refine ⟨fun i j hj hp he => h.rd hj (by simp [hp, he]), ?_⟩
  rw [h.same]

end Dev.Touches

/-- STATUS and RAISED of the group of one of the 400 events are registers of events (R464). -/
theorem eventReg_group {e j : Nat} (he : e < 400) (hj : j = 1 ∨ j = 5) : eventReg (0x1400 + e / 16) j = true := by
  simp only [eventReg, within, Bool.or_eq_true, Bool.and_eq_true, decide_eq_true_eq]; omega

/-! ## Events and counters touch the registers of events -/

section Events

variable {p : Nat → Nat → Bool} (hp : ∀ i j, eventReg i j = true → p i j = true)

theorem Dev.touches_sendMsix (p : Nat → Nat → Bool) (v : Nat) (a : Dev) : Dev.Touches p a (a.sendMsix v) := by
  unfold Dev.sendMsix; simp only
  exact .ite .refl (.ite (.out .refl rfl) (.emit a _))

theorem Dev.touches_canNext (p : Nat → Nat → Bool) (a : Dev) : Dev.Touches p a a.canNext := by
  unfold Dev.canNext
  split
  · exact .refl
  · exact .ite (.out .refl rfl) .refl

theorem Dev.touches_sendDap (p : Nat → Nat → Bool) (r : Role) (peer : Nat) (m : Bytes) (a : Dev) :
    Dev.Touches p a (a.sendDap r peer m) := by
  unfold Dev.sendDap; simp only
  exact .ite (.ite (.trans (.out .refl rfl) (Dev.touches_canNext p _)) (.out .refl rfl)) (.emit a _)

theorem Dev.touches_holdOn (p : Nat → Nat → Bool) (k e : Nat) (m : Option (Nat × Nat)) (a : Dev) : Dev.Touches p a (a.holdOn k e m) := by
  unfold Dev.holdOn
  split
  · exact .refl
  · exact .out .refl rfl

include hp

theorem Dev.touches_warmUp (a : Dev) : Dev.Touches p a (a.warmUp 136) := by
  unfold Dev.warmUp
  split
  · next hr =>
    have hreq : Dev.Touches p a (a.wr 0x1188 1 2) := .write a _ _ _ (hp _ _ (by decide)) (by decide) (by simp)
    refine .out (hreq.wr 0x1188 2 psToOn (hp _ _ (by decide)) (by decide) fun _ _ => ?_) rfl
    rw [Dev.rd_wr_ne _ _ (by decide)]; exact hr
  · exact .refl

theorem Dev.touches_deliver (g : Nat) (a : Dev) : Dev.Touches p a (a.deliver g) := by
  unfold Dev.deliver; simp only
  have h : Dev.Touches p a (if bit 6 (a.rd (0x1400 + g) 4) then a.sendMsix (fld 5 0 (a.rd (0x1400 + g) 4)) else a) :=
    .ite (Dev.touches_sendMsix p _ a) .refl
  exact .ite (h.trans ((Dev.Touches.emit _ _).trans (Dev.touches_warmUp hp _))) h

theorem Dev.touches_notifyOn (k e t : Nat) (a : Dev) : Dev.Touches p a (a.notifyOn k e t) := by
  unfold Dev.notifyOn
  split
  · exact .refl
  · exact .trans (.trans (.out .refl rfl) (Dev.touches_sendDap p _ _ _ _)) (.write _ 0x1419 4 _ (hp _ _ (by decide)) (by decide) (by simp))

theorem Dev.touches_notifyRaise (e t : Nat) (a : Dev) (k : Nat) : Dev.Touches p a (a.notifyRaise e t k) := by
  unfold Dev.notifyRaise
  split
  · exact .refl
  · split
    · exact a.touches_holdOn p _ _ _
    · exact (Dev.touches_notifyOn hp _ _ _ a).trans (Dev.touches_holdOn p _ _ _ _)

/-- Event `e` raised touches STATUS and RAISED of its group, and what its delivery may. -/
theorem Dev.touches_raise0 (e : Nat) (h1 : p (0x1400 + e / 16) 1 = true) (h5 : p (0x1400 + e / 16) 5 = true) (a : Dev) :
    Dev.Touches p a (a.raise0 e) := by
  unfold Dev.raise0; simp only [Dev.count_eq]
  have h := (Dev.Touches.write a (0x1400 + e / 16) 1 (setBit (e % 16) (a.rd (0x1400 + e / 16) 1)) h1 (by decide) (by simp)).trans
    (.write _ (0x1400 + e / 16) 5
      (satAdd 64 ((a.wr (0x1400 + e / 16) 1 (setBit (e % 16) (a.rd (0x1400 + e / 16) 1))).rd (0x1400 + e / 16) 5) 1) h5 (by decide) (by simp))
  split
  · exact h
  · refine h.trans (Dev.Touches.trans ?_ (.foldl _ _ (fun k _ d => Dev.touches_notifyRaise hp _ _ d k) _))
    exact .ite .refl (Dev.touches_deliver hp _ _)

theorem Dev.touches_perfAdd (sat : Dev → Dev) (hs : ∀ d, Dev.Touches p d (sat d)) (b j k : Nat) (hb : b < 5) (hj : j < 64) (a : Dev) :
    Dev.Touches p a (a.perfAdd sat b j k) := by
  have hg : ∀ x, x = 3 ∨ (0x90 ≤ x ∧ x < 0xD0) → p (0x8100 + b) x = true := by
    intro x hx
    apply hp
    simp only [eventReg, within, Bool.or_eq_true, Bool.and_eq_true, decide_eq_true_eq]; omega
  have counted : ∀ (d : Dev) (v : Nat), Dev.Touches p d (d.wr (0x8100 + b) (0x90 + j) v) := fun d v =>
    .write d _ _ v (hg _ (by omega)) (by omega) (by omega)
  have full : ∀ d : Dev, Dev.Touches p d (sat (d.wrBit (0x8100 + b) 3 j true)) := fun d =>
    (Dev.Touches.write d _ 3 _ (hg 3 (.inl rfl)) (by decide) (by simp)).trans (hs _)
  unfold Dev.perfAdd; simp only
  exact .ite (.ite (counted a _) ((counted a _).trans (full _))) (.ite (counted a _) ((counted a _).trans (full _)))

theorem Dev.touches_perfWith (sat : Dev → Dev) (hs : ∀ d, Dev.Touches p d (sat d)) (b ev inst k : Nat) (hb : b < 5) (a : Dev) :
    Dev.Touches p a (a.perfWith sat b ev inst k) := by
  unfold Dev.perfWith
  refine .ite .refl (.foldl _ _ (fun j hj d => ?_) a)
  exact .ite (Dev.touches_perfAdd hp sat hs b j k hb (by simpa using hj) d) .refl

theorem Dev.touches_raise110 (a : Dev) : Dev.Touches p a a.raise110 := by
  have h : ∀ d : Dev, Dev.Touches p d (d.raise0 110) := Dev.touches_raise0 hp 110 (hp _ _ (by decide)) (hp _ _ (by decide))
  exact (h a).trans (Dev.touches_perfWith hp _ h 4 _ _ _ (by decide) _)

theorem Dev.touches_perf (b ev inst k : Nat) (hb : b < 5) (a : Dev) : Dev.Touches p a (a.perf b ev inst k) :=
  Dev.touches_perfWith hp _ (Dev.touches_raise110 hp) b ev inst k hb a

theorem Dev.touches_perfClock (n b : Nat) (hb : b < 5) (a : Dev) : Dev.Touches p a (a.perfClock n b) := by
  unfold Dev.perfClock
  refine .ite .refl (.foldl _ _ (fun j hj d => ?_) a)
  exact .ite (Dev.touches_perfAdd hp _ (Dev.touches_raise110 hp) b j _ hb (by simpa using hj) d) .refl

/-- A moment that comes touches what its clocks may count. -/
theorem Dev.touches_at (t : Nat) (a : Dev) : Dev.Touches p a (a.at t) :=
  .out (.foldl _ _ (fun b hb d => Dev.touches_perfClock hp _ b (by simpa using hb) d) a) rfl

theorem Dev.touches_hear (e : Nat) (h1 : p (0x1400 + e / 16) 1 = true) (h5 : p (0x1400 + e / 16) 5 = true) (a : Dev) :
    Dev.Touches p a (a.hear e) :=
  (Dev.touches_raise0 hp e h1 h5 a).trans (Dev.touches_perf hp _ _ _ _ (by decide) _)

theorem Dev.touches_setOverflow (b : Nat) (a : Dev) : Dev.Touches p a (a.setOverflow b) := by
  have he : (if b < 4 then quadEvent b 7 else 13) < 400 := by
    split
    · simp only [quadEvent]; omega
    · decide
  unfold Dev.setOverflow
  exact (Dev.Touches.write a 0x1200 5 _ (hp _ _ (by decide)) (by decide) (by simp)).trans
    (Dev.touches_hear hp _ (hp _ _ (eventReg_group he (.inl rfl))) (hp _ _ (eventReg_group he (.inr rfl))) _)

/-- Raising event `e`, whatever its number, touches STATUS and RAISED of its group, and what any event may. -/
theorem Dev.touches_raise (e : Nat) (h1 : p (0x1400 + e / 16) 1 = true) (h5 : p (0x1400 + e / 16) 5 = true) (a : Dev) :
    Dev.Touches p a (a.raise e) := by
  have hear : ∀ d, Dev.Touches p d (d.hear e) := Dev.touches_hear hp e h1 h5
  have cross : ∀ (d : Dev) (n t : Nat), Dev.Touches p d (d.setCrossing e n t) := fun _ _ _ => .out .refl rfl
  have counted : Dev.Touches p a (a.crossCount e) := by
    unfold Dev.crossCount
    exact .ite ((cross _ _ _).trans (hear _)) .refl
  unfold Dev.raise
  split
  · exact hear a
  · refine counted.trans ?_
    exact .ite ((cross _ _ _).trans (hear _)) (.ite (.trans (.ite (cross _ _ _) (cross _ _ _)) (hear _))
      (.ite (cross _ _ _) (Dev.touches_setOverflow hp _ _)))

/-- A condition of a cause block touches CAUSE of the block, and what its event may. -/
theorem Dev.touches_cause (b : CauseBlock) (i : Nat) (hc : p (causeAt b).1 (causeAt b).2.1 = true) (hj : (causeAt b).2.1 < 256)
    (h2 : (causeAt b).2.1 ≠ 2) (h1 : p (0x1400 + causeEvent b i / 16) 1 = true) (h5 : p (0x1400 + causeEvent b i / 16) 5 = true)
    (a : Dev) : Dev.Touches p a (a.cause b i) := by
  have h : ∀ v, Dev.Touches p a (a.wr (causeAt b).1 (causeAt b).2.1 v) := fun v => .write a _ _ v hc hj fun hx => absurd hx h2
  unfold Dev.cause
  exact .ite ((h _).trans (Dev.touches_raise hp _ h1 h5 _)) (h _)

end Events

/-- Answering touches LAST_ABORT alone among the registers, and that where it refuses. -/
theorem Dev.touches_respond {p : Nat → Nat → Bool} {ab : Nat} (h : ab ≠ 0 → p 0x1530 2 = true) (path : Path) (i j ty len v : Nat)
    (a : Dev) : Dev.Touches p a (a.respond path i j ab ty len v) := by
  have ha : ∀ d : Dev, Dev.Touches p d (d.lastAbort i j ab) := fun d => by
    unfold Dev.lastAbort
    split
    · exact .refl
    · next hab => exact .write d _ _ _ (h hab) (by decide) (by decide)
  unfold Dev.respond; simp only
  exact .ite (.out (.trans (.out .refl rfl) (ha _)) rfl) (.trans (.out .refl rfl) (ha _))

/-! ## A heard write of a port object is heard as well at a later moment -/

/-- Object `i.j` is one of the line or system port of pair `n`. -/
def IsPortObject (n i j : Nat) : Prop := ∃ c row, (c = Cls.linePort ∨ c = .sysPort) ∧ objAt i j = some (c, n, row)

namespace IsPortObject

variable {n i j : Nat} (ho : IsPortObject n i j)
include ho

/-- A port's objects cross the link of their quadrant (R10). -/
theorem quadAt : quadAt i j = some (n / 64) := by
  obtain ⟨c, row, rfl | rfl, ho⟩ := ho <;> simp only [Machine.quadAt, ho, quadrantOf]

/-- A port's objects lie in no domain (log 10), so that a write of one wakes none. -/
theorem wakesFor (d : Dev) : d.wakesFor i j = none := by
  obtain ⟨c, row, rfl | rfl, ho⟩ := ho <;> simp only [Dev.wakesFor, ho, domainIn, Option.filter_none]

end IsPortObject

/-- Counting an access touches what an event may. -/
theorem Dev.touches_accessed (r : Role) (a : Dev) : Dev.Touches eventReg a (a.accessed r) :=
  Dev.touches_perf (fun _ _ h => h) _ _ _ _ (by decide) a

/-- Entry `e` of the register table enables a region that contains index `i` (R47). -/
def Dev.enablesRegion (d : Dev) (i : Nat) (e : Nat × Nat) : Bool :=
  e.1 % 256 = 4 && within 0x1301 255 (e.1 / 256) && e.2 = 1 && d.rd (e.1 / 256) 1 ≤ i && i ≤ d.rd (e.1 / 256) 2

theorem Dev.within_of_enablesRegion {d : Dev} {i : Nat} {e : Nat × Nat} (he : d.enablesRegion i e = true) :
    within 0x1301 255 (e.1 / 256) = true := by
  simp only [Dev.enablesRegion, Bool.and_eq_true] at he
  obtain ⟨⟨⟨⟨_, hw⟩, _⟩, _⟩, _⟩ := he
  exact hw

theorem within_map_of_region {r : Nat} (hr : within 0x1301 255 r = true) : within 0x1300 256 r = true := by
  simp only [within, Bool.and_eq_true, decide_eq_true_eq] at hr ⊢; omega

/-- ACCESS of the first enabled region that contains the index, else DEFAULT_ACCESS. -/
theorem Dev.accessWord_eq (d : Dev) (i : Nat) :
    d.accessWord i = ((d.dict.find? (d.enablesRegion i)).map (fun e => d.rd (e.1 / 256) 3)).getD (d.rd 0x1300 3) := by
  unfold Dev.accessWord
  change (match d.dict.find? (d.enablesRegion i) with | some e => _ | none => _) = _
  cases d.dict.find? (d.enablesRegion i) <;> rfl

namespace Dev.Touches

variable {a b : Dev} (h : Touches eventReg a b)
include h

theorem roleOf (path : Path) : b.roleOf path = a.roleOf path := by rw [h.same]; rfl

theorem engineRuns : b.engineRuns = a.engineRuns := by rw [h.same]; rfl

/-- A domain other than 136 is as much ON as it was. -/
theorem isOn_ne (k : Nat) (hk : eventReg (0x1100 + k) 2 = false) : b.isOn k = a.isOn k := by
  unfold Dev.isOn Dev.pstate
  rw [h.rd (by decide) hk]

/-- An access that reaches the dictionary does so after an event: the domain of the control cluster stays ON. -/
theorem reaches (path : Path) (ha : a.reaches path = true) : b.reaches path = true := by
  have hboot : b.boot = a.boot := by rw [h.same]
  cases path with
  | cluster =>
    simp only [Dev.reaches, Dev.clusterUp, Bool.and_eq_true] at ha ⊢
    obtain ⟨⟨⟨he, hr⟩, hon⟩, hpll⟩ := ha
    rw [h.engineRuns, hboot, h.rd (by decide) (by decide)]
    exact ⟨⟨⟨he, hr⟩, h.isOn_cluster hon⟩, hpll⟩
  | host => simpa only [Dev.reaches, Dev.endpointUp, h.engineRuns, hboot, h.isOn_ne 139 (by decide)] using ha
  | oob => simpa only [Dev.reaches, Dev.portsUp, h.engineRuns, hboot, h.isOn_ne 140 (by decide)] using ha
  | field => simpa only [Dev.reaches, Dev.portsUp, h.engineRuns, hboot, h.isOn_ne 140 (by decide)] using ha

/-- The protection map is no register of events. -/
theorem rd_region {r j : Nat} (hj : j < 256) (hr : within 0x1300 256 r = true) : b.rd r j = a.rd r j := by
  refine h.rd hj ?_
  simp only [within, Bool.and_eq_true, decide_eq_true_eq] at hr
  simp only [eventReg, within, Bool.or_eq_false_iff, Bool.and_eq_false_iff, decide_eq_false_iff_not]
  omega

/-- The enabled regions keep their bounds and their order, so that the same one governs an index. -/
theorem find_enablesRegion (i : Nat) : b.dict.find? (b.enablesRegion i) = a.dict.find? (a.enablesRegion i) := by
  have hq : b.enablesRegion i = a.enablesRegion i := by
    funext e
    by_cases hw : within 0x1301 255 (e.1 / 256) = true
    · simp only [Dev.enablesRegion, h.rd_region (j := 1) (by decide) (within_map_of_region hw),
        h.rd_region (j := 2) (by decide) (within_map_of_region hw)]
    · simp only [Dev.enablesRegion, hw, Bool.and_false, Bool.false_and]
  rw [hq, ← List.head?_filter, ← List.head?_filter, h.filter_dict]
  intro i' j' v he hj'
  have h1 : okey i' j' / 256 = i' := by simp only [okey]; omega
  have hw : within 0x1301 255 i' = false := by
    simp only [eventReg, within, Bool.or_eq_true, Bool.and_eq_true, decide_eq_true_eq] at he
    simp only [within, Bool.and_eq_false_iff, decide_eq_false_iff_not]
    omega
  simp only [Dev.enablesRegion, h1, hw, Bool.and_false, Bool.false_and]

theorem accessWord (i : Nat) : b.accessWord i = a.accessWord i := by
  rw [Dev.accessWord_eq, Dev.accessWord_eq, h.find_enablesRegion]
  cases hf : a.dict.find? (a.enablesRegion i) with
  | none => exact h.rd_region (by decide) (by decide)
  | some e => exact h.rd_region (by decide) (within_map_of_region (Dev.within_of_enablesRegion (List.find?_some hf)))

theorem hasRight (f : Nat) (r : Role) (i : Nat) : b.hasRight f r i = a.hasRight f r i := by
  unfold Dev.hasRight; rw [h.accessWord]

/-- The checks from NO_OBJECT to RANGE do not see events, at an object of a port. -/
theorem writeAbort {n i j : Nat} (ho : IsPortObject n i j) (r : Role) (ty len v : Nat) :
    b.writeAbort r i j ty len v = a.writeAbort r i j ty len v := by
  obtain ⟨c, row, hc, ho⟩ := ho
  have hboot : b.boot = a.boot := by rw [h.same]
  have hextra : b.roleExtra r c n i j v = a.roleExtra r c n i j v := by rcases hc with rfl | rfl <;> rfl
  have hdom : domainIn c n j = none := by rcases hc with rfl | rfl <;> rfl
  simp only [Dev.writeAbort, ho, Dev.mayWrite, h.hasRight, hextra, hdom, hboot]

theorem absorbedAt (i : Nat) : b.absorbedAt i = a.absorbedAt i := by
  have hw : ∀ m, m < 256 → b.width m = a.width m := fun m hm => by
    refine h.rd (by decide) ?_
    simp only [eventReg, within, Bool.or_eq_false_iff, Bool.and_eq_false_iff, decide_eq_false_iff_not]
    omega
  have hle : ∀ w, i % 256 / w * w < 256 := fun w => (Nat.div_mul_le_self _ w).trans_lt (Nat.mod_lt i (by decide))
  simp only [Dev.absorbedAt, Dev.absorbed, hw _ (hle _)]

theorem isPending (i j : Nat) : b.isPending i j = a.isPending i j := by rw [h.same]; rfl

/-- The state of a die-to-die link, and what is armed for it, are no event's. -/
theorem linkState {q : Nat} (hq : q < 4) : b.rd (0x141C + q) 1 = a.rd (0x141C + q) 1 := by
  refine h.rd (by decide) ?_
  simp only [eventReg, within, Bool.or_eq_false_iff, Bool.and_eq_false_iff, decide_eq_false_iff_not]
  omega

theorem linkHolds {n i j : Nat} (hn : n < 256) (ho : IsPortObject n i j) : b.linkHolds i j = a.linkHolds i j := by
  rw [Dev.linkHolds, Dev.linkHolds, ho.quadAt, Option.filter_some, Option.filter_some, h.linkState (by omega)]

theorem linkHit {n i j : Nat} (hn : n < 256) (ho : IsPortObject n i j) : b.linkHit i j = a.linkHit i j := by
  have hin : b.inject = a.inject := by rw [h.same]
  rw [Dev.linkHit, Dev.linkHit, ho.quadAt, Option.bind_some, Option.bind_some, Dev.linkErr, Dev.linkErr, Dev.armed, Dev.armed,
    h.linkState (by omega), hin]

/-- A write of an object of a port that is heard is heard as well after events. -/
theorem hears {n i j : Nat} (hn : n < 256) (ho : IsPortObject n i j) {w : Wr} (ha : a.hears i j w = true) : b.hears i j w = true := by
  obtain ⟨hreach, hholds, hhit, habort, habs, hpend, -⟩ := a.hears_parts i j w ha
  have hx : Touches eventReg a (a.accessed (a.roleOf w.path)) := touches_accessed _ a
  have hy : Touches eventReg a (b.accessed (a.roleOf w.path)) := h.trans (touches_accessed _ b)
  simp only [Dev.hears, h.roleOf, h.reaches _ hreach, h.linkHolds hn ho, hholds, h.linkHit hn ho, hhit, hy.writeAbort ho,
    (hx.writeAbort ho _ _ _ _).symm.trans habort, hy.absorbedAt, (hx.absorbedAt i).symm.trans habs, hy.isPending,
    (hx.isPending i j).symm.trans hpend, ho.wakesFor, Option.isNone_none, decide_true, Bool.not_false, Bool.and_true]

end Dev.Touches

end Sys2Proof.Machine

namespace Sys2Proof.Machine

/-! ## What a write of a port object does -/

theorem isPortObject_linePort {n j : Nat} {r : Row} (hn : n < 256) (hr : rowIn rowsLinePort j = some r) : IsPortObject n (0x2000 + n) j :=
  ⟨_, r, .inl rfl, objAt_linePort hn hr⟩

theorem isPortObject_sysPort {n j : Nat} {r : Row} (hn : n < 256) (hr : rowIn rowsSysPort j = some r) : IsPortObject n (0x2100 + n) j :=
  ⟨_, r, .inr rfl, objAt_sysPort hn hr⟩

/-- The objects of pair `n`, PORT_WIDTH apart, that are written only while PORT_MODE is OFF (R91). -/
def whileOffObjects (n : Nat) : List (Nat × Nat) :=
  [(0x2000 + n, 5), (0x2000 + n, 0x10), (0x2000 + n, 0x11), (0x2000 + n, 0x14), (0x2100 + n, 0x10), (0x2100 + n, 0x11), (0x2100 + n, 0x14),
   (0x2100 + n, 0x18)]

theorem bounds_of_mem_whileOffObjects {n i j : Nat} (h : (i, j) ∈ whileOffObjects n) : j < 256 ∧ i ≠ 0x1188 := by
  simp only [whileOffObjects, List.mem_cons, Prod.mk.injEq, List.not_mem_nil, or_false] at h
  omega

/-- Each of them is an object of the pair's ports, and its owner's effect looks at PORT_MODE alone. -/
theorem effectOf_whileOff {n i j t : Nat} (hn : n < 256) (hij : (i, j) ∈ whileOffObjects n) :
    IsPortObject n i j ∧ effectOf t i j = effWhileOff n i j := by
  have line : ∀ j r, rowIn rowsLinePort j = some r →
      IsPortObject n (0x2000 + n) j ∧ effectOf t (0x2000 + n) j = effPorts .linePort n (0x2000 + n) j := fun j r hr =>
    ⟨isPortObject_linePort hn hr, by rw [effectOf, objAt_linePort hn hr]⟩
  have sys : ∀ j r, rowIn rowsSysPort j = some r →
      IsPortObject n (0x2100 + n) j ∧ effectOf t (0x2100 + n) j = effPorts .sysPort n (0x2100 + n) j := fun j r hr =>
    ⟨isPortObject_sysPort hn hr, by rw [effectOf, objAt_sysPort hn hr]⟩
  simp only [whileOffObjects, List.mem_cons, Prod.mk.injEq, List.not_mem_nil, or_false] at hij
  rcases hij with ⟨rfl, rfl⟩ | ⟨rfl, rfl⟩ | ⟨rfl, rfl⟩ | ⟨rfl, rfl⟩ | ⟨rfl, rfl⟩ | ⟨rfl, rfl⟩ | ⟨rfl, rfl⟩ | ⟨rfl, rfl⟩
  · exact line 5 _ rfl
  · exact line 0x10 _ rfl
  · exact line 0x11 _ rfl
  · exact line 0x14 _ rfl
  · exact sys 0x10 _ rfl
  · exact sys 0x11 _ rfl
  · exact sys 0x14 _ rfl
  · exact sys 0x18 _ rfl

theorem isPortObject_portWidth {n : Nat} (hn : n < 256) : IsPortObject n (0x2000 + n) 2 := isPortObject_linePort hn (j := 2) rfl

theorem effectOf_portWidth {n t : Nat} (hn : n < 256) : effectOf t (0x2000 + n) 2 = effPortWidth n := by
  rw [effectOf, objAt_linePort (j := 2) hn rfl]; rfl

/-- PORT_MODE is no register of events. -/
theorem Dev.Touches.mode {a b : Dev} (h : Dev.Touches eventReg a b) {n : Nat} (hn : n < 0x1000) : b.mode n = a.mode n := by
  refine h.rd (by decide) ?_
  simp only [eventReg, within, Bool.or_eq_false_iff, Bool.and_eq_false_iff, decide_eq_false_iff_not]
  omega

/-- The block as the owner of a port object meets a write made in CCLK cycle `t`, and the answer it leaves with. -/
theorem exec_dictionaryWrite_heard {n i j t : Nat} {w : Wr} {s : State} (hn : n < 256) (ho : IsPortObject n i j)
    (hh : s.dev.hears i j w = true) :
    ∃ r x, Dev.Touches eventReg s.dev x ∧ exec (.dictionaryWrite i j t w) s =
      .next { s with dev := (effectOf t i j r w.value x).2.respond w.path i j (effectOf t i j r w.value x).1 0 0 0 } := by
  have hat : Dev.Touches eventReg s.dev (s.dev.at t) := Dev.touches_at (fun _ _ h => h) t s.dev
  refine ⟨(s.dev.at t).roleOf w.path, (s.dev.at t).atOwner w, hat.trans (Dev.touches_accessed _ _), ?_⟩
  rw [← Dev.write_hears _ i j w _ (hat.hears hn ho hh)]
  rfl

/-- A refused access is answered with its code and keeps everything but LAST_ABORT. -/
theorem Dev.Touches.keeps_refused {a x : Dev} (h : Dev.Touches eventReg a x) (p : Path) (i j ab : Nat) :
    (x.respond p i j ab 0 0 0).answer.abort = ab ∧ a.keeps (only 0x1530 2) (x.respond p i j ab 0 0 0) := by
  have hx : Dev.Touches (fun i j => only 0x1530 2 i j || eventReg i j) a x := h.mono fun _ _ he => by simp only [he, Bool.or_true]
  exact ⟨by rw [Dev.respond_answer], (hx.trans (Dev.touches_respond (fun _ => rfl) _ _ _ _ _ _ _)).keeps⟩

/-- A stored value is answered with 0, reads as written and keeps every other register. -/
theorem Dev.Touches.keeps_stored {a x : Dev} (h : Dev.Touches eventReg a x) (p : Path) (i j v : Nat) (hj : j < 256) (h136 : i ≠ 0x1188) :
    ((x.wr i j v).respond p i j 0 0 0 0).answer.abort = 0 ∧ ((x.wr i j v).respond p i j 0 0 0 0).rd i j = v ∧
    a.keeps (only i j) ((x.wr i j v).respond p i j 0 0 0 0) := by
  have hx : Dev.Touches (fun i' j' => only i j i' j' || eventReg i' j') a x := h.mono fun _ _ he => by simp only [he, Bool.or_true]
  have hw := hx.wr i j v (by simp [only]) hj fun hi => absurd hi h136
  exact ⟨by rw [Dev.respond_answer], by rw [Dev.rd_respond_zero, Dev.rd_wr_self],
    (hw.trans (Dev.touches_respond (fun h0 => absurd rfl h0) _ _ _ _ _ _ _)).keeps⟩

/-! ## PORT_STATE followed -/

theorem Dev.touches_syncPairLf (p : Nat → Nat → Bool) (n : Nat) (a : Dev) : Dev.Touches p a (a.syncPairLf n) := by
  have side : ∀ (s : Nat) (d : Dev), Dev.Touches p d (d.syncLf s) := fun s d => by
    unfold Dev.syncLf
    exact .ite .refl (.emit d _)
  exact (side n a).trans (side (256 + n) _)

/-- What following PORT_STATE of the pairs `ns` touches beside `f`: the causes of pairs and carriers, with their events (R90). -/
theorem touches_tracking {p : Nat → Nat → Bool} (hp : ∀ i j, eventReg i j = true → p i j = true) (ns : List Nat)
    (hc : ∀ i, p i 0x12 = true) (h1 : ∀ n ∈ ns, p (0x1400 + pairEvent n / 16) 1 = true)
    (h5 : ∀ n ∈ ns, p (0x1400 + pairEvent n / 16) 5 = true) (f : Dev → Dev) (d : Dev) :
    Dev.Touches p (f d) (tracking ns f d) := by
  unfold tracking; simp only
  refine .foldl _ _ (fun n hn x => ?_) (f d)
  refine .trans (.ite .refl ?_) (Dev.touches_syncPairLf p n _)
  exact .trans (b := x.wrBit _ _ 0 true) (by split <;> exact .write _ _ _ _ (hc _) (by simp [causeAt]) (by simp [causeAt]))
     (Dev.touches_raise hp _ (h1 n hn) (h5 n hn) _)

/-- A value that passes the checks lies in the range of its row (R39, R79). -/
theorem Dev.has_of_writeAbort {d : Dev} {r : Role} {i j ty len v n : Nat} {c : Cls} {row : Row} (ho : objAt i j = some (c, n, row))
    (h : d.writeAbort r i j ty len v = 0) : row.range.has v = true := by
  by_contra hr
  have hbad : (row.ty = .bool && 1 < v || !row.range.has v) = true := by simp [Bool.eq_false_iff.2 hr]
  unfold Dev.writeAbort at h
  simp only [ho, hbad, if_true] at h
  revert h
  split_ifs <;> decide

theorem Dev.portWidth_le_of_hears {n : Nat} {w : Wr} {d : Dev} (hn : n < 256) (hh : d.hears (0x2000 + n) 2 w = true) :
    0 < w.value ∧ w.value ≤ 16 := by
  obtain ⟨-, -, -, habort, -⟩ := d.hears_parts _ _ _ hh
  have hr := Dev.has_of_writeAbort (objAt_linePort (j := 2) hn rfl) habort
  simp only [Range.has, List.contains_eq_mem, List.mem_cons, List.not_mem_nil, or_false, decide_eq_true_eq] at hr
  omega

/-- The registers of events, and every register of another subindex than `k`. -/
def offSub (k i j : Nat) : Bool := eventReg i j || j != k

theorem eventReg_offSub (k i j : Nat) (h : eventReg i j = true) : offSub k i j = true := by simp [offSub, h]

theorem offSub_ne {k i j : Nat} (h : j ≠ k) : offSub k i j = true := by simp [offSub, h]

theorem eventReg_linePort {n : Nat} (hn : n < 0x1000) (j : Nat) : eventReg (0x2000 + n) j = false := by
  simp only [eventReg, within, Bool.or_eq_false_iff, Bool.and_eq_false_iff, decide_eq_false_iff_not]
  omega

theorem offSub_linePort {n : Nat} (hn : n < 256) (k : Nat) : offSub k (0x2000 + n) k = false := by
  simp [offSub, eventReg_linePort (show n < 0x1000 by omega)]

/-- A pair absorbed leaves the line port of another alone (R92). -/
theorem Dev.rd_absorb {n m j : Nat} (hj : j < 256) (hm : n < m) (d : Dev) :
    (d.absorb m).rd (0x2000 + n) j = d.rd (0x2000 + n) j := by
  have hdict : (d.absorb m).dict = (d.defaults fun i j => i = 0x2000 + m || i = 0x2100 + m || i = 0x2400 + m ||
      (i = 0x2500 + m && j != 0x19)).dict := rfl
  refine (Dev.rd_of_dict hdict _ _).trans ((Dev.rd_defaults d _ _ _ hj).trans (if_neg ?_))
  simp only [Bool.or_eq_true, Bool.and_eq_true, decide_eq_true_eq]
  omega

theorem Dev.rd_foldl_absorb {n j : Nat} (hj : j < 256) (l : List Nat) (hl : ∀ m ∈ l, n < m) (d : Dev) :
    (l.foldl (fun y k => y.absorb k) d).rd (0x2000 + n) j = d.rd (0x2000 + n) j := by
  induction l generalizing d with
  | nil => rfl
  | cons m l ih => exact (ih (fun k hk => hl k (by simp [hk])) _).trans (Dev.rd_absorb hj (hl m (by simp)) d)

/-- PORT_WIDTH written while every pair it takes is OFF reads as written (R14, R92). -/
theorem effPortWidth_stores {n v : Nat} (hn : n < 256) (hv : n % v = 0) (h0 : 0 < v) (r : Role) (x : Dev)
    (hoff : ∀ k, k < v → x.mode (n + k) = pmOff) :
    (effPortWidth n r v x).1 = 0 ∧ (effPortWidth n r v x).2.rd (0x2000 + n) 2 = v := by
  have hmode : x.mode n = pmOff := hoff 0 h0
  have hothers : ((List.range (v - 1)).map (fun k => n + 1 + k)).any (fun k => x.mode k != pmOff) = false := by
    simp only [List.any_eq_false, List.mem_map, List.mem_range]
    rintro m ⟨k, hk, rfl⟩
    rw [show n + 1 + k = n + (1 + k) by omega, hoff _ (by omega)]
    decide
  unfold effPortWidth
  simp only [hv, hmode, hothers, bne_self_eq_false, Bool.false_eq_true, if_false, true_and]
  have htrack : ∀ ns f, Dev.Touches (offSub 2) (f x) (tracking ns f x) := fun ns f =>
    touches_tracking (eventReg_offSub 2) ns (fun _ => offSub_ne (by decide)) (fun _ _ => offSub_ne (by decide))
      (fun _ _ => offSub_ne (by decide)) f x
  rw [(htrack _ _).rd (by decide) (offSub_linePort hn 2), Dev.rd_foldl_absorb (by decide) _ (by simp; omega), Dev.rd_wr_self]

/-! ## PORT_MODE -/

/-- SHORT made to follow touches no subindex 1 but those of events (R349). -/
theorem Dev.touches_evalShort {s : Nat} (hs : s < 64) (a : Dev) : Dev.Touches (offSub 1) a (a.evalShort s) := by
  have hev : eventReg (0x1400 + causeEvent (.calendar s) 1 / 16) 1 = true := by
    refine eventReg_group ?_ (.inl rfl)
    simp only [causeEvent, quadEvent]; omega
  unfold Dev.evalShort
  exact (Dev.Touches.write a _ 6 _ (offSub_ne (by decide)) (by decide) (by simp)).trans
    (.when (Dev.touches_cause (eventReg_offSub 1) _ 1 (offSub_ne (by simp [causeAt])) (by simp [causeAt]) (by simp [causeAt])
      (eventReg_offSub 1 _ _ hev) (offSub_ne (by decide)) _))

theorem Dev.touches_setSideState (s v : Nat) (a : Dev) : Dev.Touches (offSub 1) a (a.setSideState s v) := by
  unfold Dev.setSideState
  exact .ite (.write _ _ _ _ (offSub_ne (by decide)) (by decide) (by simp)) (.write _ _ _ _ (offSub_ne (by decide)) (by decide) (by simp))

/-- PORT_MODE written OFF reads OFF: nothing that ends with the pair sets it again (R94). -/
theorem Dev.mode_portOff {n : Nat} (hn : n < 256) (d : Dev) : (d.portOff n).mode n = pmOff := by
  unfold Dev.portOff
  split
  · next hoff => exact hoff
  · have hev : eventReg (0x1400 + pairEvent n / 16) 1 = true := by
      refine eventReg_group ?_ (.inl rfl)
      simp only [pairEvent]; omega
    have htrack : ∀ f, Dev.Touches (offSub 1) (f d) (tracking [n] f d) := fun f =>
      touches_tracking (eventReg_offSub 1) [n] (fun _ => offSub_ne (by decide))
        (by simpa using eventReg_offSub 1 _ _ hev) (fun _ _ => offSub_ne (by decide)) f d
    have he : eSliceOf n < 64 := by simp only [eSliceOf]; omega
    have hd : dSliceOf n < 64 := by simp only [dSliceOf]; omega
    have hend : ∀ y : Dev, Dev.Touches (offSub 1) y ((((y.setSideState n stDown).setSideState (256 + n) stDown).evalShort (eSliceOf n)).evalShort
        (dSliceOf n)) := fun y =>
      (Dev.touches_setSideState _ _ _).trans ((Dev.touches_setSideState _ _ _).trans
        ((Dev.touches_evalShort he _).trans (Dev.touches_evalShort hd _)))
    unfold Dev.mode
    rw [(htrack _).rd (by decide) (offSub_linePort hn 1)]
    refine ((hend _).rd (by decide) (offSub_linePort hn 1)).trans ?_
    rw [Dev.rd_wr_self]

/-! ## Writes of port objects, completed -/

/-- An effect that only refuses: its answer is its abort code, and it keeps everything but LAST_ABORT. -/
theorem completes_of_refused {n i j t ab : Nat} {w : Wr} {s : State} (hn : n < 256) (ho : IsPortObject n i j)
    (hh : s.dev.hears i j w = true)
    (heff : ∀ r x, Dev.Touches eventReg s.dev x → effectOf t i j r w.value x = (ab, x)) :
    Completes (.dictionaryWrite i j t w) s fun d => d.answer.abort = ab ∧ s.dev.keeps (only 0x1530 2) d := by
  obtain ⟨r, x, hx, he⟩ := exec_dictionaryWrite_heard (t := t) hn ho hh
  refine ⟨_, he, rfl, ?_⟩
  rw [heff r x hx]
  exact hx.keeps_refused _ _ _ _

/-- R91: an object of the pair is refused with STATE while PORT_MODE is not OFF. -/
theorem effWhileOff_state {n i j v : Nat} {r : Role} {x : Dev} (hm : x.mode n ≠ pmOff) : effWhileOff n i j r v x = (abState, x) :=
  if_pos (by simpa using hm)

theorem effWhileOff_stores {n i j v : Nat} {r : Role} {x : Dev} (hm : x.mode n = pmOff) : effWhileOff n i j r v x = (0, x.wr i j v) :=
  if_neg (by simp [hm])

/-- R92, R79: a width that does not divide the anchor is refused with RANGE. -/
theorem effPortWidth_range {n v : Nat} {r : Role} {x : Dev} (hv : n % v ≠ 0) : effPortWidth n r v x = (abRange, x) :=
  if_pos (by simpa using hv)

theorem effPortWidth_state {n v : Nat} {r : Role} {x : Dev} (hv : n % v = 0) (hm : x.mode n ≠ pmOff) :
    effPortWidth n r v x = (abState, x) := by
  simp [effPortWidth, hv, hm]

/-- R94: a mode that is neither OFF nor the pair's own is refused with STATE while the pair is formed, where its width allows it. -/
theorem effPortMode_state {n v : Nat} {r : Role} {x : Dev} (hm : x.mode n ≠ pmOff) (hv : v ≠ pmOff) (hvm : v ≠ x.mode n)
    (hw : widthOk n (x.width n) v = true) : effPortMode n r v x = (abState, x) := by
  simp [effPortMode, hm, hv, hvm.symm, hw]

theorem effPortMode_off {n : Nat} {r : Role} {x : Dev} : effPortMode n r pmOff x = (0, x.portOff n) := rfl

/-- A write of PORT_MODE that its owner meets. -/
theorem exec_portMode_heard {n : Nat} {w : Wr} {s : State} (hn : n < 256) (hh : s.dev.hears (0x2000 + n) 1 w = true) :
    ∃ r x, Dev.Touches eventReg s.dev x ∧ exec (.portMode n w) s =
      .next { s with dev := (effPortMode n r w.value x).2.respond w.path (0x2000 + n) 1 (effPortMode n r w.value x).1 0 0 0 } := by
  refine ⟨s.dev.roleOf w.path, s.dev.atOwner w, Dev.touches_accessed _ _, ?_⟩
  have he : exec (.portMode n w) s = actIf (n < 256) (Dev.write (effPortMode n) (0x2000 + n) 1 w) s := rfl
  rw [he, decide_eq_true hn, actIf_true, Dev.write_hears _ _ _ _ _ hh]

/-- Settles O11: each write comes to its owner's effect on a block that differs from the state's by events alone, which touch no register of a
port; PORT_WIDTH and PORT_MODE follow PORT_STATE, which touches causes and events. -/
theorem portModeChangesGoThroughOff : Obligations.PortModeChangesGoThroughOff := by
  unfold Obligations.PortModeChangesGoThroughOff
  refine ⟨?formed, ?stored, ?width, ?misplaced, ?otherMode, ?off⟩
  case formed =>
    intro n i j t w s hn hij hh hv hm
    rcases List.mem_cons.1 hij with hij | hij
    · obtain ⟨rfl, rfl⟩ := Prod.mk.inj hij
      refine completes_of_refused hn (isPortObject_portWidth hn) hh fun r x hx => ?_
      rw [effectOf_portWidth hn]
      exact effPortWidth_state (hv rfl) (by rwa [hx.mode (by omega)])
    · obtain ⟨ho, heff⟩ := effectOf_whileOff (t := t) hn hij
      refine completes_of_refused hn ho hh fun r x hx => ?_
      rw [heff, effWhileOff_state (by rwa [hx.mode (by omega)])]
  case stored =>
    intro n i j t w s hn hij hh hm
    obtain ⟨ho, heff⟩ := effectOf_whileOff (t := t) hn hij
    obtain ⟨r, x, hx, he⟩ := exec_dictionaryWrite_heard (t := t) hn ho hh
    refine ⟨_, he, rfl, ?_⟩
    rw [heff, effWhileOff_stores (by rwa [hx.mode (by omega)])]
    obtain ⟨hj, hi⟩ := bounds_of_mem_whileOffObjects hij
    exact hx.keeps_stored _ _ _ _ hj hi
  case width =>
    intro n t w s hn hh hv hoff
    have hle := Dev.portWidth_le_of_hears hn hh
    obtain ⟨r, x, hx, he⟩ := exec_dictionaryWrite_heard (t := t) hn (isPortObject_portWidth hn) hh
    obtain ⟨habort, hrd⟩ := effPortWidth_stores hn hv hle.1 r x fun k hk => by rw [hx.mode (by omega), hoff k hk]
    rw [effectOf_portWidth hn] at he
    refine ⟨_, he, rfl, by rw [Dev.respond_answer, habort], ?_⟩
    rw [habort, Dev.rd_respond_zero, hrd]
  case misplaced =>
    intro n t w s hn hh hv
    refine completes_of_refused hn (isPortObject_portWidth hn) hh fun r x hx => ?_
    rw [effectOf_portWidth hn, effPortWidth_range hv]
  case otherMode =>
    intro n w s hn hh hm hv hvm hw
    obtain ⟨r, x, hx, he⟩ := exec_portMode_heard hn hh
    have hmode : x.mode n = s.dev.mode n := hx.mode (by omega)
    have hwidth : x.width n = s.dev.width n := hx.rd (by decide) (eventReg_linePort (by omega) 2)
    rw [effPortMode_state (by rwa [hmode]) hv (by rwa [hmode]) (by rwa [hwidth])] at he
    obtain ⟨habort, hkeeps⟩ := hx.keeps_refused w.path (0x2000 + n) 1 abState
    refine ⟨_, he, rfl, habort, ?_, hkeeps⟩
    exact (Dev.rd_respond _ _ _ _ _ _ _ _ _ (by omega) _).trans hmode
  case off =>
    intro n w s hn hh hm
    obtain ⟨r, x, hx, he⟩ := exec_portMode_heard hn hh
    refine ⟨_, he, rfl, by rw [Dev.respond_answer]; rfl, ?_⟩
    exact (Dev.rd_respond_zero _ _ _ _ _ _ _ _ _).trans (Dev.mode_portOff hn x)

end Sys2Proof.Machine

namespace Sys2Proof.Machine

/-! ## A full D-slice makes room before it takes a frame -/

/-- A frame of 60 bytes, all of them 0. -/
def zeroFrame : List Byte := List.replicate 60 0

/-- That frame in the part: from the line port of pair 5 for channel 2. -/
def frameInPart (prot : Bool) : Frame :=
  ⟨1, true, 5, 2, 0, zeroFrame, .good, prot, false, false, 0, 0, .none, false, false, none⟩

/-- It awaits its verdict under SA 9, on a channel that does not validate. -/
def frameHeld : Held := ⟨frameInPart true, 2, 9, 0, [], 1, false, false, [], zeroFrame, [], 0, 60, false⟩

/-- Pair 5 in PASS mode, its line side UP: channel 2 is its default toward the system, whose queue 16 holds a frame, and its D-slice is full. -/
def fullSlice : Dev :=
  let d := (((Dev.reset.wr 0x2005 1 pmPass).wr 0x2005 0x20 stUp).wr 0x2405 0x11 2).wr 0x5000 0xDF 100
  { (d.setChan 2 (5 * 2 ^ 64 + 2 ^ 72 + 2 ^ 73)).setQ 16 { Queue.init with sram := [frameInPart false] } with
    dFlight := [(dSliceOf 5, List.replicate 128 frameHeld)] }

/-- The frame's arrival forms the oldest verdict of the slice (R147; log 168). -/
theorem ingressFrame_fullSlice :
    (((fullSlice.at 100).ingressFrame 5 zeroFrame true 100 []).inD (dSliceOf 5)).length = 127 := by decide +kernel

theorem inD_fullSlice : (fullSlice.inD (dSliceOf 5)).length = 128 := by decide +kernel

theorem Dev.keeps.inD {p : Nat → Nat → Bool} {a b c : Dev} (h : a.keeps p c) (hc : c.dFlight = b.dFlight) (s : Nat) : b.inD s = a.inD s := by
  obtain ⟨-, hsame⟩ := h
  have hd : c.dFlight = a.dFlight := by rw [hsame]
  rw [Dev.inD, Dev.inD, ← hc, hd]

/-- Refutes O17: its clause on PASS mode asks for no room in the D-slice of the pair. In a slice that holds 128 frames the arrival forms the
oldest verdict first, so that the frames that await theirs are not what they were. -/
theorem not_framesQueueBehindThoseOfTheirChannel : ¬ Obligations.FramesQueueBehindThoseOfTheirChannel := by
  unfold Obligations.FramesQueueBehindThoseOfTheirChannel
  rintro ⟨-, hpass, -⟩
  obtain ⟨u, hexec, -, -, hkeeps⟩ := hpass 5 2 0 100 zeroFrame ⟨[], fullSlice⟩ (by decide) (by decide +kernel) (by decide +kernel)
    (by decide +kernel) (by decide +kernel) (by decide) (by decide +kernel) (by decide +kernel) (by decide +kernel) (by decide +kernel)
    (by decide +kernel) (by decide +kernel) (by decide +kernel) (by decide +kernel) (by decide +kernel) (by decide +kernel) rfl rfl
  have hu : u = ⟨[], (fullSlice.at 100).ingressFrame 5 zeroFrame true 100 []⟩ := (Host.Outcome.next.inj hexec).symm
  have hlen := congrArg List.length (hkeeps.inD (b := u.dev) rfl (dSliceOf 5))
  rw [hu, ingressFrame_fullSlice, inD_fullSlice] at hlen
  exact absurd hlen (by decide)

end Sys2Proof.Machine

namespace Sys2Proof.Machine

/-! ## What every operation of the block keeps

`Dev.Kept o a b` is the one relation that every operation of the model stands in to the block it acts on: each of the nine sparse tables that
stood in its canonical form still does (R35, R39), and, where `o` holds, what the access ports hold is as it was: BAR0, MSI-X Enable, and the
sessions it holds open but for what NOTIFY counts in them (R54, R61, R63, R467). One lemma follows for each operation of the model, in the order of
the definitions; each says by which operations that one acts in turn. -/

structure Dev.Kept (o : Bool) (a b : Dev) : Prop where
  dict : Tbl.wf dflt a.dict = true → Tbl.wf dflt b.dict = true
  slots : Tbl.wf (fun _ => Ent.init) a.slots = true → Tbl.wf (fun _ => Ent.init) b.slots = true
  chans : Tbl.wf chanDflt a.chans = true → Tbl.wf chanDflt b.chans = true
  queues : Tbl.wf (fun _ => Queue.init) a.queues = true → Tbl.wf (fun _ => Queue.init) b.queues = true
  counters : Tbl.wf (fun _ => 0) a.counters = true → Tbl.wf (fun _ => 0) b.counters = true
  sas : Tbl.wf (fun _ => Sa.init) a.keys.sas = true → Tbl.wf (fun _ => Sa.init) b.keys.sas = true
  carriers : Tbl.wf (fun _ => Carrier.init) a.carriers = true → Tbl.wf (fun _ => Carrier.init) b.carriers = true
  lanes : Tbl.wf (fun _ => Lane.init) a.lanes = true → Tbl.wf (fun _ => Lane.init) b.lanes = true
  sides : Tbl.wf (fun _ => Side.init) a.sides = true → Tbl.wf (fun _ => Side.init) b.sides = true
  ports : o = true → b.bar0 = a.bar0 ∧ b.msix.enable = a.msix.enable ∧ b.bareSessions = a.bareSessions

namespace Dev.Kept

variable {o : Bool} {a d c : Dev}

theorem refl (o : Bool) (a : Dev) : Kept o a a := ⟨id, id, id, id, id, id, id, id, id, fun _ => ⟨rfl, rfl, rfl⟩⟩

/-- The canonical form of the nine tables is kept. -/
theorem canonical (h : Kept o a d) (ha : a.canonical = true) : d.canonical = true := by
  simp only [Dev.canonical, Bool.and_eq_true] at ha ⊢
  obtain ⟨⟨⟨⟨⟨⟨⟨⟨h1, h2⟩, h3⟩, h4⟩, h5⟩, h6⟩, h7⟩, h8⟩, h9⟩ := ha
  exact ⟨⟨⟨⟨⟨⟨⟨⟨h.dict h1, h.slots h2⟩, h.chans h3⟩, h.queues h4⟩, h.counters h5⟩, h.sas h6⟩, h.carriers h7⟩, h.lanes h8⟩, h.sides h9⟩

/-- Parts that are neither one of the nine tables nor of an access port may change. -/
theorem same (h : Kept o a d)
    (hc : c = { c with dict := d.dict, slots := d.slots, chans := d.chans, queues := d.queues, counters := d.counters,
                       keys := { c.keys with sas := d.keys.sas }, carriers := d.carriers, lanes := d.lanes, sides := d.sides,
                       bar0 := d.bar0, msix := { c.msix with enable := d.msix.enable },
                       dap := { c.dap with sessions := d.dap.sessions } }) : Kept o a c := by
  rw [hc]
  exact ⟨h.dict, h.slots, h.chans, h.queues, h.counters, h.sas, h.carriers, h.lanes, h.sides, h.ports⟩

/-- The canonical form says nothing of the access ports. -/
theorem sameTables (h : Kept o a d)
    (hc : c = { c with dict := d.dict, slots := d.slots, chans := d.chans, queues := d.queues, counters := d.counters,
                       keys := { c.keys with sas := d.keys.sas }, carriers := d.carriers, lanes := d.lanes, sides := d.sides }) :
    Kept false a c := by
  rw [hc]
  exact ⟨h.dict, h.slots, h.chans, h.queues, h.counters, h.sas, h.carriers, h.lanes, h.sides, nofun⟩

/-- The sessions may change in what NOTIFY counts in them. -/
theorem sameSessions {l : List Session} (h : Kept o a d) (hl : l.map Session.bare = d.dap.sessions.map Session.bare) :
    Kept o a { d with dap := { d.dap with sessions := l } } :=
  { h with ports := fun ho => ⟨(h.ports ho).1, (h.ports ho).2.1, Eq.trans hl (h.ports ho).2.2⟩ }

theorem ite {p : Prop} [Decidable p] (h : Kept o a d) (k : Kept o a c) : Kept o a (if p then d else c) := by split <;> assumption

theorem pair {α : Type} {x : α} (h : Kept o a d) : Kept o a (x, d).2 := h

theorem triple {α β : Type} {x : α} {y : β} (h : Kept o a d) : Kept o a (x, y, d).2.2 := h

theorem ite_snd {α : Type} {p : Prop} [Decidable p] {x y : α × Dev} (h : Kept o a x.2) (k : Kept o a y.2) :
    Kept o a (if p then x else y).2 := by split <;> assumption

theorem ite_snd_snd {α β : Type} {p : Prop} [Decidable p] {x y : α × β × Dev} (h : Kept o a x.2.2) (k : Kept o a y.2.2) :
    Kept o a (if p then x else y).2.2 := by split <;> assumption

theorem ite_fst {α : Type} {p : Prop} [Decidable p] {x y : Dev × α} (h : Kept o a x.1) (k : Kept o a y.1) :
    Kept o a (if p then x else y).1 := by split <;> assumption

theorem foldl {α : Type} {f : Dev → α → Dev} {l : List α} (h : Kept o a d) (hf : ∀ y x, Kept o a y → Kept o a (f y x)) :
    Kept o a (l.foldl f d) := by
  induction l generalizing d with
  | nil => exact h
  | cons x l ih => exact ih (hf d x h)

theorem foldl_snd {α β : Type} {f : β × Dev → α → β × Dev} {l : List α} {b : β} (h : Kept o a d)
    (hf : ∀ y x, Kept o a y.2 → Kept o a (f y x).2) : Kept o a (l.foldl f (b, d)).2 := by
  induction l generalizing b d with
  | nil => exact h
  | cons z l ih => exact ih (hf (b, d) z h)

end Dev.Kept

/-- An effect that keeps. -/
def Eff.Keeps (o : Bool) (e : Eff) : Prop := ∀ r v a d, Dev.Kept o a d → Dev.Kept o a (e r v d).2

theorem Eff.Keeps.ite {o : Bool} {p : Prop} [Decidable p] {e f : Eff} (h : e.Keeps o) (k : f.Keeps o) : Eff.Keeps o (if p then e else f) := by
  split <;> assumption

end Sys2Proof.Machine

namespace Sys2Proof.Machine

namespace Dev.Kept

variable {o : Bool} {a d c : Dev}

protected theorem wr {i j v : ℕ} (h : Kept o a d) : Kept o a (d.wr i j v) :=
  { h with dict := fun w => Tbl.wf_set _ _ _ _ (h.dict w) }

protected theorem count {w i j k : ℕ} (h : Kept o a d) : Kept o a (d.count w i j k) := by
  unfold Dev.count
  exact h.wr

protected theorem wrBit {i j b : ℕ} {v : Bool} (h : Kept o a d) : Kept o a (d.wrBit i j b v) := by
  unfold Dev.wrBit
  exact h.wr

protected theorem perfAdd {sat : Dev → Dev} {b j k : ℕ} (h : Kept o a d) (hsat : ∀ y, Kept o a y → Kept o a (sat y)) : Kept o a
    (d.perfAdd sat b j k) := by
  unfold Dev.perfAdd
  exact (h.wr.ite (hsat _ h.wr.wrBit)).ite (h.wr.ite (hsat _ h.wr.wrBit))

protected theorem perfWith {sat : Dev → Dev} {b ev inst k : ℕ} (h : Kept o a d) (hsat : ∀ y, Kept o a y → Kept o a (sat y)) : Kept o a
    (d.perfWith sat b ev inst k) := by
  unfold Dev.perfWith
  exact h.ite (h.foldl (fun _ _ hx => ((hx.perfAdd (fun _ hy => hsat _ hy)).ite hx)))

protected theorem emit {e : Emit} (h : Kept o a d) : Kept o a (d.emit e) := by
  unfold Dev.emit
  exact h.same rfl

protected theorem sendMsix {v : ℕ} (h : Kept o a d) : Kept o a (d.sendMsix v) := by
  unfold Dev.sendMsix
  exact h.ite ((h.same rfl).ite h.emit)

protected theorem warmUp {k : ℕ} (h : Kept o a d) : Kept o a (d.warmUp k) := by
  unfold Dev.warmUp
  exact (h.wr.wr.same rfl).ite h

protected theorem deliver {g : ℕ} (h : Kept o a d) : Kept o a (d.deliver g) := by
  unfold Dev.deliver
  exact (((h.sendMsix.ite h).emit).warmUp).ite (h.sendMsix.ite h)

protected theorem holdOn {k e : ℕ} {m : Option (ℕ × ℕ)} (h : Kept o a d) : Kept o a (d.holdOn k e m) := by
  unfold Dev.holdOn
  split
  · exact h
  · next x hx => exact h.sameSessions (map_setNth _ _ _ _ _ hx rfl)

protected theorem canNext (h : Kept o a d) : Kept o a d.canNext := by
  unfold Dev.canNext
  split
  exacts [h, ((h.same rfl).emit).ite h]

protected theorem sendDap {r : Role} {peer : ℕ} {m : Bytes} (h : Kept o a d) : Kept o a (d.sendDap r peer m) := by
  unfold Dev.sendDap
  exact (((h.same rfl).canNext).ite (h.same rfl)).ite h.emit

protected theorem notifyOn {k e t : ℕ} (h : Kept o a d) : Kept o a (d.notifyOn k e t) := by
  unfold Dev.notifyOn
  split
  · exact h
  · next x hx =>
    have hs := h.sameSessions (l := setNth { x with notes := x.notes + 1 } d.dap.sessions k) (map_setNth _ _ _ _ _ hx rfl)
    exact hs.sendDap.count

protected theorem notifyRaise {e t k : ℕ} (h : Kept o a d) : Kept o a (d.notifyRaise e t k) := by
  unfold Dev.notifyRaise
  split
  exacts [h, by split; exacts [h.holdOn, h.notifyOn.holdOn]]

protected theorem raise0 {e : ℕ} (h : Kept o a d) : Kept o a (d.raise0 e) := by
  unfold Dev.raise0
  exact h.wr.count.ite ((h.wr.count.ite h.wr.count.deliver).foldl (fun _ _ hx => hx.notifyRaise))

protected theorem raise110 (h : Kept o a d) : Kept o a d.raise110 := by
  unfold Dev.raise110
  exact h.raise0.perfWith (fun _ hy => hy.raise0)

protected theorem perf {b ev inst k : ℕ} (h : Kept o a d) : Kept o a (d.perf b ev inst k) := by
  unfold Dev.perf
  exact h.perfWith (fun _ hy => hy.raise110)

protected theorem hear {e : ℕ} (h : Kept o a d) : Kept o a (d.hear e) := by
  unfold Dev.hear
  exact h.raise0.perf

protected theorem setCrossing {k n t : ℕ} (h : Kept o a d) : Kept o a (d.setCrossing k n t) := by
  unfold Dev.setCrossing
  exact h.same rfl

protected theorem crossCount {k : ℕ} (h : Kept o a d) : Kept o a (d.crossCount k) := by
  unfold Dev.crossCount
  exact h.setCrossing.hear.ite h

protected theorem setOverflow {b : ℕ} (h : Kept o a d) : Kept o a (d.setOverflow b) := by
  unfold Dev.setOverflow
  exact h.wrBit.hear

protected theorem raise {e : ℕ} (h : Kept o a d) : Kept o a (d.raise e) := by
  unfold Dev.raise
  split
  · exact h.hear
  · exact h.crossCount.setCrossing.hear.ite (((h.crossCount.setCrossing.ite h.crossCount.setCrossing).hear).ite
      (h.crossCount.setCrossing.ite h.crossCount.setOverflow))

protected theorem injCount (h : Kept o a d) : Kept o a d.injCount := by
  unfold Dev.injCount
  exact h.count.count.raise.ite h.count.count

protected theorem struck (h : Kept o a d) : Kept o a d.struck := by
  unfold Dev.struck
  split
  exacts [h, ((h.injCount.same rfl).wr).ite (h.injCount.same rfl)]

protected theorem restoreCredits {cs : List ℕ} (h : Kept o a d) : Kept o a (d.restoreCredits cs) := by
  unfold Dev.restoreCredits
  exact h.same rfl

protected theorem crossReset {b : ℕ} (h : Kept o a d) : Kept o a (d.crossReset b) := by
  unfold Dev.crossReset
  exact ((h.same rfl).setOverflow).ite h

protected theorem crcFails {q n r : ℕ} (h : Kept o a d) : Kept o a (d.crcFails q n r) := by
  unfold Dev.crcFails
  exact h.count.count

protected theorem linkReset {q : ℕ} (h : Kept o a d) : Kept o a (d.linkReset q) := by
  unfold Dev.linkReset
  exact h.ite h.crcFails.wr.count.raise.crossReset.restoreCredits

protected theorem linkAttempt {q : ℕ} (h : Kept o a d) : Kept o a (d.linkAttempt q) := by
  unfold Dev.linkAttempt
  split
  exacts [(h.linkReset.ite h.crcFails).struck, h]

protected theorem linkMeets {i j : ℕ} (h : Kept o a d) : Kept o a (d.linkMeets i j) := by
  unfold Dev.linkMeets
  split
  exacts [h.linkAttempt, h]

protected theorem accessed {r : Role} (h : Kept o a d) : Kept o a (d.accessed r) := by
  unfold Dev.accessed
  exact h.perf

protected theorem lastAbort {i j a' : ℕ} (h : Kept o a d) : Kept o a (d.lastAbort i j a') := by
  unfold Dev.lastAbort
  exact h.ite h.wr

protected theorem respond {p : Path} {i j a' ty len v : ℕ} (h : Kept false a d) : Kept false a (d.respond p i j a' ty len v) := by
  unfold Dev.respond
  exact (((h.sameTables rfl).lastAbort).sameTables rfl).ite ((h.sameTables rfl).lastAbort)

protected theorem askOn {k : ℕ} (h : Kept o a d) : Kept o a (d.askOn k) := by
  unfold Dev.askOn
  exact h.wr.ite h.warmUp

protected theorem wake {k : ℕ} (h : Kept o a d) : Kept o a (d.wake k) := by
  unfold Dev.wake
  exact (h.askOn.wr.ite h.warmUp).ite h

protected theorem doWrite {eff : Eff} {p : Path} {i j ty len v : ℕ} (h : Kept false a d) (heff : Eff.Keeps false eff) : Kept false a
    (d.doWrite eff p i j ty len v) := by
  unfold Dev.doWrite
  exact h.accessed.respond.ite (h.accessed.respond.ite (h.accessed.respond.ite (by dsimp only; split; exacts
    [(h.accessed.wake.respond.same rfl), ((heff _ _ _ _ h.accessed).respond)])))

protected theorem write {eff : Eff} {i j : ℕ} {w : Wr} (h : Kept false a d) (heff : Eff.Keeps false eff) : Kept false a (d.write eff i j
    w) := by
  unfold Dev.write
  exact h.ite (by split; exacts [(h.linkMeets.same rfl), (h.linkMeets.doWrite heff)])

protected theorem effReclaim : Eff.Keeps o effReclaim := by
  unfold effReclaim
  intro _ _ _ _ h
  exact Kept.ite_snd h (Kept.ite_snd h (Kept.ite_snd h ((h.same rfl).wr)))

protected theorem startPend {i j : ℕ} {p : Path} (h : Kept o a d) : Kept o a (d.startPend i j p) := by
  unfold Dev.startPend
  exact h.same rfl

protected theorem setCal {s : ℕ} {c : Cal} (h : Kept o a d) : Kept o a (d.setCal s c) := by
  unfold Dev.setCal
  exact (h.same rfl).wr

protected theorem waitEnds {s r : ℕ} (h : Kept o a d) : Kept o a (d.waitEnds s r) := by
  unfold Dev.waitEnds
  exact h.setCal.wr

protected theorem settleAsks {s : ℕ} (h : Kept o a d) : Kept o a (d.settleAsks s) := by
  unfold Dev.settleAsks
  exact h.setCal.foldl (fun _ _ hx => hx.waitEnds)

protected theorem setBg {k : ℕ} {l : List BgFrame} (h : Kept o a d) : Kept o a (d.setBg k l) := by
  unfold Dev.setBg
  exact h.same rfl

protected theorem effUnfence {s : ℕ} : Eff.Keeps o (effUnfence s) := by
  unfold effUnfence
  intro _ _ _ _ h
  exact Kept.ite_snd h h.setBg.settleAsks.startPend

protected theorem recoverRound (h : Kept false a d) : Kept false a d.recoverRound := by
  unfold Dev.recoverRound
  exact h.ite (by dsimp only; split; exacts [(h.write Kept.effReclaim), (by split; exacts [(h.write Kept.effUnfence), h])])

protected theorem when {p : Bool} {f : Dev → Dev} (h : Kept o a d) (hf : ∀ y, Kept o a y → Kept o a (f y)) : Kept o a (when p f d) := by
  unfold when
  exact (hf _ h).ite h

protected theorem winLoc {n : ℕ} {l : Option ℕ} (h : Kept o a d) : Kept o a (d.winLoc n l) := by
  unfold Dev.winLoc
  exact h.wr

protected theorem cause {b : CauseBlock} {i : ℕ} (h : Kept o a d) : Kept o a (d.cause b i) := by
  unfold Dev.cause
  exact h.wr.raise.ite h.wr

protected theorem look {k key : ℕ} (h : Kept o a d) : Kept o a (d.look k key).2 := by
  unfold Dev.look
  exact h.when (fun _ hy => hy.count.cause)

protected theorem readSlots {sks : List ℕ} (h : Kept o a d) : Kept o a (d.readSlots sks) := by
  unfold Dev.readSlots
  exact h.struck.ite h

protected theorem softMet {k : ℕ} {locs : List ℕ} (h : Kept o a d) : Kept o a (d.softMet k locs) := by
  unfold Dev.softMet
  exact h.when (fun _ hy => hy.cause)

protected theorem lookAt {k : ℕ} {locs : List ℕ} (h : Kept o a d) : Kept o a (d.lookAt k locs) := by
  unfold Dev.lookAt
  exact h.softMet.readSlots

protected theorem condition {b : ℕ} (h : Kept o a d) : Kept o a (d.condition b) := by
  unfold Dev.condition
  exact h.ite h.wrBit.raise

protected theorem eccMet {k loc : ℕ} (h : Kept o a d) : Kept o a (d.eccMet k loc) := by
  unfold Dev.eccMet
  exact h.wr.cause.condition

protected theorem search {k key : ℕ} (h : Kept o a d) : Kept o a (d.search k key).2.2 := by
  unfold Dev.search
  dsimp only
  split
  exacts [h.lookAt.look.eccMet, h.lookAt.look]

protected theorem winDone {n r : ℕ} (h : Kept o a d) : Kept o a (d.winDone n r) := by
  unfold Dev.winDone
  exact h.wr

protected theorem storeEnt {k loc : ℕ} {x : Ent} (h : Kept o a d) : Kept o a (d.storeEnt k loc x) :=
  { h with slots := fun w => Tbl.wf_set _ _ _ _ (h.slots w) }

protected theorem occupy {k : ℕ} {up down : Bool} (h : Kept o a d) : Kept o a (d.occupy k up down) := by
  unfold Dev.occupy
  exact (h.ite h.wr).when (fun _ hy => hy.cause)

protected theorem stashUse {k : ℕ} {up down : Bool} (h : Kept o a d) : Kept o a (d.stashUse k up down) := by
  unfold Dev.stashUse
  exact (h.ite h.wr).when (fun _ hy => hy.cause)

protected theorem pendCount {q : ℕ} {up down : Bool} (h : Kept o a d) : Kept o a (d.pendCount q up down) := by
  unfold Dev.pendCount
  exact h.ite h.wr

protected theorem setTab {k : ℕ} {x : Tab} (h : Kept o a d) : Kept o a (d.setTab k x) := by
  unfold Dev.setTab
  exact h.same rfl

protected theorem dirty {k b : ℕ} (h : Kept o a d) : Kept o a (d.dirty k b) := by
  unfold Dev.dirty
  exact h.ite h.setTab

protected theorem putEnt {k loc : ℕ} {x : Ent} (h : Kept o a d) : Kept o a (d.putEnt k loc x) := by
  unfold Dev.putEnt
  exact ((h.storeEnt.occupy.when (fun _ hy => hy.stashUse)).pendCount).foldl (fun _ _ hx => hx.dirty)

protected theorem opLook {n : ℕ} {entry hit : Bool} (h : Kept o a d) : Kept o a (d.opLook n entry hit) := by
  unfold Dev.opLook
  dsimp only
  split
  · exact h.search.winDone
  · exact ((h.search.winLoc.wr.when (fun _ hy => hy.wr)).when (fun _ hy => hy.storeEnt.ite hy.putEnt)).winDone

protected theorem tcamSearch {k key : ℕ} (h : Kept o a d) : Kept o a (d.tcamSearch k key).2.2 := by
  unfold Dev.tcamSearch
  dsimp only
  split
  exacts [h.lookAt.eccMet, h.lookAt]

protected theorem opTcamLook {n : ℕ} (h : Kept o a d) : Kept o a (d.opTcamLook n) := by
  unfold Dev.opTcamLook
  dsimp only
  split
  exacts [h.tcamSearch.winDone, h.tcamSearch.wr.wr.winDone]

protected theorem moveEnt {k s t : ℕ} {x : Ent} (h : Kept o a d) : Kept o a (d.moveEnt k s t x) := by
  unfold Dev.moveEnt
  exact h.storeEnt.storeEnt.stashUse.count.foldl (fun _ _ hx => hx.dirty)

protected theorem moveOver {k s : ℕ} (h : Kept o a d) : Kept o a (d.moveOver k s) := by
  unfold Dev.moveOver
  split
  exacts [h, h.moveEnt]

protected theorem placeFor {k : ℕ} {e : Ent} (h : Kept o a d) : Kept o a (d.placeFor k e).2.2 := by
  unfold Dev.placeFor
  dsimp only
  split
  · exact h
  · refine .ite_snd_snd (h.foldl fun _ _ hx => hx.moveOver) ?_
    split
    exacts [h, .triple h.count.cause]

protected theorem insertEnt {k : ℕ} {x : Ent} (h : Kept o a d) : Kept o a (d.insertEnt k x).2.2 := by
  have hp := h.placeFor (k := k) (e := d.inEpoch k x)
  unfold Dev.insertEnt
  dsimp only
  split
  · next e => rw [e] at hp; exact hp.putEnt
  · next e => rw [e] at hp; exact hp

protected theorem opInsert {n : ℕ} (h : Kept o a d) : Kept o a (d.opInsert n) := by
  unfold Dev.opInsert
  dsimp only
  refine h.winDone.ite ?_
  split
  · exact h.winLoc.winDone
  · have hi := h.insertEnt (k := n / 4) (x := ⟨d.winKey n, 0, d.rd (0x4040 + n) 0xC, insertCtl (d.rd (0x4040 + n) 0xD)⟩)
    split
    · next e => rw [e] at hi; exact hi.winDone
    · next e => rw [e] at hi; exact hi.winLoc.wr.winDone

protected theorem resumeMigration {k : ℕ} (h : Kept o a d) : Kept o a (d.resumeMigration k) := by
  unfold Dev.resumeMigration
  exact h.wr.setTab.ite h

protected theorem dropEnt {k loc : ℕ} (h : Kept o a d) : Kept o a (d.dropEnt k loc) := by
  unfold Dev.dropEnt
  exact h.putEnt

protected theorem removeEnt {k loc : ℕ} (h : Kept o a d) : Kept o a (d.removeEnt k loc) := by
  unfold Dev.removeEnt
  exact h.dropEnt.resumeMigration

protected theorem eccClear {sk : ℕ} (h : Kept o a d) : Kept o a (d.eccClear sk) := by
  unfold Dev.eccClear
  exact h.same rfl

protected theorem opUpdate {n : ℕ} (h : Kept o a d) : Kept o a (d.opUpdate n) := by
  unfold Dev.opUpdate
  exact h.winDone.ite (by split; exacts [h.winDone, ((((h.putEnt.ite h.removeEnt).eccClear).winLoc).winDone)])

protected theorem opTcamWrite {n : ℕ} {del : Bool} (h : Kept o a d) : Kept o a (d.opTcamWrite n del) := by
  unfold Dev.opTcamWrite
  exact h.winDone.ite (h.winDone.ite (h.dropEnt.eccClear.winDone.ite (h.winDone.ite h.putEnt.eccClear.winDone)))

protected theorem setChan {c v : ℕ} (h : Kept o a d) : Kept o a (d.setChan c v) :=
  { h with chans := fun w => Tbl.wf_set _ _ _ _ (h.chans w) }

protected theorem seqAll_map {α : Type} {f : α → Dev → Dev} {l : List α} (h : Kept o a d) (hf : ∀ x y, Kept o a y → Kept o a (f x y)) :
    Kept o a (seqAll (l.map f) d) := by
  induction l generalizing d with
  | nil => exact h
  | cons x l ih => exact ih (hf x d h)

protected theorem zeroCounters {kind e : ℕ} (h : Kept o a d) : Kept o a (d.zeroCounters kind e) :=
  { h with counters := fun w => Tbl.wf_filter _ _ _ (h.counters w) }

protected theorem setSa {s : ℕ} {x : Sa} (h : Kept o a d) : Kept o a (d.setSa s x) :=
  { h with sas := fun w => Tbl.wf_set _ _ _ _ (h.sas w) }

protected theorem setNotes {q : ℕ} {l : List ℕ} (h : Kept o a d) : Kept o a (d.setNotes q l) := by
  unfold Dev.setNotes
  exact (h.same rfl).wr

protected theorem note {q k i a' c : ℕ} (h : Kept o a d) : Kept o a (d.note q k i a' c) := by
  unfold Dev.note
  exact h.count.raise.ite (h.setNotes.when (fun _ hy => hy.raise))

protected theorem changeover {c a' : ℕ} (h : Kept o a d) : Kept o a (d.changeover c a') := by
  unfold Dev.changeover
  exact ((h.setChan.setSa.when (fun _ hy => hy.setSa)).note).same rfl

protected theorem writeRecord {c v : ℕ} {setAn : Bool} (h : Kept o a d) : Kept o a (d.writeRecord c v setAn).2 := by
  unfold Dev.writeRecord
  extract_lets old new moved full kept d1 d2 k d3 d4
  have h4 : Kept o a d4 := h.setChan.dirty.eccClear.occupy.when fun _ hy => hy.zeroCounters.seqAll_map fun _ _ hx => hx.zeroCounters
  exact .ite_snd h (.ite_snd h (.ite_snd h (.ite_snd (.ite_snd h4.changeover h) h4)))

protected theorem opRecord {n : ℕ} (h : Kept o a d) : Kept o a (d.opRecord n) := by
  unfold Dev.opRecord
  exact h.winDone.ite h.writeRecord.winDone

protected theorem opDelete {n : ℕ} (h : Kept o a d) : Kept o a (d.opDelete n) := by
  unfold Dev.opDelete
  dsimp only
  split
  exacts [h.winDone, h.removeEnt.eccClear.winLoc.winDone]

protected theorem putWords {i j cnt v : ℕ} (h : Kept o a d) : Kept o a (d.putWords i j cnt v) := by
  unfold Dev.putWords
  exact h.foldl (fun _ _ hx => hx.wr)

protected theorem opRead {n : ℕ} (h : Kept o a d) : Kept o a (d.opRead n) := by
  unfold Dev.opRead
  exact h.winDone.ite ((h.putWords.winDone.ite ((h.wr.wr.putWords.putWords.ite h.wr.wr.putWords.winLoc).winDone)).when (fun _ hy =>
    hy.condition))

protected theorem effTableCmd {n : ℕ} {hit : Bool} : Eff.Keeps o (effTableCmd n hit) := by
  intro r v _ d0 h
  unfold effTableCmd
  extract_lets t d locked
  have hd : Kept o _ d := h.winLoc.when fun _ hy => hy.wr
  refine .pair ?_
  split
  · exact hd.opLook.ite (hd.opTcamLook.ite hd.winDone)
  · exact hd.winDone.ite (hd.winDone.ite hd.opInsert)
  · exact hd.winDone.ite (hd.opUpdate.ite (hd.opTcamWrite.ite hd.opRecord))
  · exact hd.winDone.ite (hd.winDone.ite (hd.opDelete.ite hd.opTcamWrite))
  · exact hd.opRead
  · exact hd.opLook.ite hd.winDone
  · exact hd.winDone

protected theorem mkaWindow {k i v : ℕ} (h : Kept o a d) : Kept o a (d.mkaWindow k i v) := by
  unfold Dev.mkaWindow
  exact Kept.effTableCmd _ _ _ _ h.wr

protected theorem mkaDropRule (h : Kept o a d) : Kept o a d.mkaDropRule := by
  unfold Dev.mkaDropRule
  split
  exacts [h, (h.same rfl).mkaWindow]

protected theorem setMkaOf {b : ℕ} {x : Option Mka} (h : Kept o a d) : Kept o a (d.setMkaOf b x) := by
  unfold Dev.setMkaOf
  exact h.same rfl

protected theorem mkaTake (h : Kept o a d) : Kept o a d.mkaTake := by
  unfold Dev.mkaTake
  split
  · exact h
  · exact by dsimp only; split; exacts [(h.same rfl), (by split; exacts [(h.same rfl), (((h.same rfl).setMkaOf).ite (h.same rfl))])]

protected theorem countFrame (h : Kept o a d) : Kept o a d.countFrame := by
  unfold Dev.countFrame
  exact h.same rfl

protected theorem mkaSend {n : ℕ} {b : Bytes} (h : Kept o a d) : Kept o a (d.mkaSend n b) := by
  unfold Dev.mkaSend
  exact h.ite h.countFrame.setBg

protected theorem mkaShow {b peers server : ℕ} (h : Kept o a d) : Kept o a (d.mkaShow b peers server) := by
  unfold Dev.mkaShow
  exact h.wr.wr

protected theorem setMka {b v : ℕ} (h : Kept o a d) : Kept o a (d.setMka b v) := by
  unfold Dev.setMka
  exact h.ite h.wr.raise

protected theorem mkaFails {b : ℕ} (h : Kept o a d) : Kept o a (d.mkaFails b) := by
  unfold Dev.mkaFails
  exact h.setMkaOf.setMka.mkaShow

protected theorem mkaEnded {b res : ℕ} {out : Bytes} (h : Kept o a d) : Kept o a (d.mkaEnded b res out) := by
  unfold Dev.mkaEnded
  split
  · exact h
  · exact h.setMkaOf.ite (by split; exacts [h.setMkaOf, h.mkaSend.setMkaOf, h.setMkaOf, h.setMkaOf, h.setMkaOf, h.setMkaOf, h.mkaFails,
      h.mkaFails, h.setMkaOf])

protected theorem mkaReap (h : Kept o a d) : Kept o a d.mkaReap := by
  unfold Dev.mkaReap
  split
  exacts [h, (h.same rfl).mkaEnded]

protected theorem threshold {s : ℕ} {holds : Bool} (h : Kept o a d) : Kept o a (d.threshold s holds) := by
  unfold Dev.threshold
  exact ((h.setSa.note.same rfl).ite h.setSa.note).ite h

protected theorem saOp {win code s v0 v1 v2 v3 v4 : ℕ} (h : Kept o a d) : Kept o a (d.saOp win code s v0 v1 v2 v3 v4).2 := by
  unfold Dev.saOp
  dsimp only
  split
  · exact h.foldl (fun _ _ hx => hx.wr)
  · exact Kept.ite_snd h (Kept.ite_snd h (Kept.ite_snd h h.setSa))
  · exact Kept.ite_snd h h.setSa
  · exact Kept.ite_snd (Kept.ite_snd (h.setSa.when (fun _ hy => hy.threshold)) h) (Kept.ite_snd h.setSa h)
  · exact Kept.ite_snd h.eccClear.setSa h

protected theorem mkaLows {x : Mka} (h : Kept o a d) : Kept o a (d.mkaLows x) := by
  unfold Dev.mkaLows
  exact h.foldl (fun _ _ hx => (by split; exacts [(hx.saOp.ite hx), hx]))

protected theorem mkaBind {b : ℕ} {p : MkaPeer} (h : Kept o a d) : Kept o a (d.mkaBind b p) := by
  unfold Dev.mkaBind
  extract_lets n k key
  split
  · exact h
  · extract_lets r d1
    have h1 : Kept o a d1 := h.writeRecord.ite h
    split
    · exact h1
    · extract_lets e
      exact h1.ite h1.putEnt.eccClear

protected theorem mkaIdle {b : ℕ} {x0 : Mka} (h : Kept o a d) : Kept o a (d.mkaIdle b x0) := by
  unfold Dev.mkaIdle
  extract_lets x1 x2 d2 tx moves d1
  have h2 : Kept o a d2 := Kept.mkaLows (h.foldl fun _ _ hx => hx.mkaBind)
  have h1 : Kept o a d1 := h2.writeRecord.ite h2
  exact h1.setMkaOf.setMka.mkaShow

protected theorem setPl {p : ℕ} {x : Planisher} (h : Kept o a d) : Kept o a (d.setPl p x) := by
  unfold Dev.setPl
  exact (((h.same rfl).wr).wr).wr

protected theorem enqueueJob {p : ℕ} {j : Job} (h : Kept o a d) : Kept o a (d.enqueueJob p j) := by
  unfold Dev.enqueueJob
  exact h.setPl

protected theorem mkaJob {p code slot target ctxA ctxB param : ℕ} {data : Bytes} {r : Dev} (h : Kept o a d)
    (e : d.mkaJob p code slot target ctxA ctxB param data = some r) : Kept o a r := by
  unfold Dev.mkaJob at e
  split at e
  · cases e
  · obtain ⟨own, -, rfl⟩ := Option.map_eq_some_iff.1 e
    exact (h.wake.ite h).enqueueJob

protected theorem saLoads {s : ℕ} (h : Kept o a d) : Kept o a (d.saLoads s) := by
  unfold Dev.saLoads
  exact h.setSa.zeroCounters

protected theorem mkaHash {b : ℕ} {x : Mka} {c : ℕ} {r : Dev} (h : Kept o a d) (e : d.mkaHash b x c = some r) : Kept o a r := by
  unfold Dev.mkaHash at e
  extract_lets s suite rx sci v0 st d1 d2 at e
  split at e
  · cases e
  · obtain ⟨y, hy, rfl⟩ := Option.map_eq_some_iff.1 e
    have h1 : Kept o a d1 := h.saOp.ite h
    exact (h1.saOp.mkaJob hy).saLoads

protected theorem mkaBegin {b : ℕ} {x : Mka} {t : MkaTask} {r : Option Bytes × Dev} (h : Kept o a d) (e : d.mkaBegin b x t = some r) :
    Kept o a r.2 := by
  have ran : ∀ {m : Bytes} {y : Option Dev}, (∀ z, y = some z → Kept o a z) → (y.map fun z => (some m, z)) = some r → Kept o a r.2 := by
    intro m y hy hr
    obtain ⟨z, hz, rfl⟩ := Option.map_eq_some_iff.1 hr
    exact hy z hz
  have stays : (some (none, d) : Option (Option Bytes × Dev)) = some r → Kept o a r.2 := by rintro ⟨⟩; exact h
  have job : ∀ {code slot target ctxA ctxB param : ℕ} {data : Bytes} z, d.mkaJob 4 code slot target ctxA ctxB param data = some z →
      Kept o a z := fun z hz => h.mkaJob hz
  unfold Dev.mkaBegin at e
  cases t with
  | keys | hello | random => exact ran job e
  | check f =>
    dsimp only at e
    split at e
    exacts [stays e, ran job e]
  | unwrap =>
    dsimp only at e
    split at e
    exacts [ran job e, stays e]
  | hash c =>
    dsimp only at e
    split at e
    exacts [ran (fun z hz => h.mkaHash hz) e, stays e]

protected theorem mkaTask {b : ℕ} {x : Mka} (h : Kept o a d) : Kept o a (d.mkaTask b x) := by
  unfold Dev.mkaTask
  split
  · exact h.mkaIdle.ite h
  · split
    · exact h.setMkaOf
    · next e => exact (h.mkaBegin e).setMkaOf
    · next e => exact (h.mkaBegin e).setMkaOf

protected theorem mkaInstall {k i key mask res : ℕ} (h : Kept o a d) : Kept o a (d.mkaInstall k i key mask res) := by
  unfold Dev.mkaInstall
  exact h.putWords.putWords.wr.wr.mkaWindow

protected theorem mkaAddRule {b : ℕ} {x : Mka} (h : Kept o a d) : Kept o a (d.mkaAddRule b x) := by
  unfold Dev.mkaAddRule
  dsimp only
  split
  exacts [h, h.mkaInstall.setMkaOf]

protected theorem mkaStep {b : ℕ} (h : Kept o a d) : Kept o a (d.mkaStep b) := by
  unfold Dev.mkaStep
  dsimp only
  split
  exacts [h, (h.mkaAddRule.ite h).ite ((h.mkaAddRule.ite h).mkaTask)]

protected theorem mkaRound (h : Kept o a d) : Kept o a d.mkaRound := by
  unfold Dev.mkaRound
  exact h.ite (h.mkaReap.mkaTake.mkaDropRule.foldl (fun _ _ hx => hx.mkaStep))

protected theorem setRing {r : ℕ} {x : Ring} (h : Kept o a d) : Kept o a (d.setRing r x) := by
  unfold Dev.setRing
  exact h.same rfl

protected theorem advanceRing {r : ℕ} (h : Kept o a d) : Kept o a (d.advanceRing r) := by
  unfold Dev.advanceRing
  exact (((h.setRing.when (fun _ hy => hy.emit)).perf).ite (((h.setRing.when (fun _ hy => hy.emit)).perf).ite (h.setRing.when (fun _ hy
    => hy.emit)))).when (fun _ hy => hy.sendMsix)

protected theorem dmaEnd {t : ℕ} {g : DmaDesc} {res refused : ℕ} (h : Kept o a d) : Kept o a (d.dmaEnd t g res refused) := by
  unfold Dev.dmaEnd
  exact h.emit.advanceRing.ite (h.emit.advanceRing.raise.cause.ite h.emit.advanceRing.raise)

protected theorem dmaSlot {k loc : ℕ} {b : Bytes} {x : ℕ × Dev} (h : Kept o a x.2) : Kept o a (Dev.dmaSlot k loc b x).2 := by
  unfold Dev.dmaSlot
  exact h.putEnt.eccClear

protected theorem plumbWrite {k b v : ℕ} (h : Kept o a d) : Kept o a (d.plumbWrite k b v) := by
  unfold Dev.plumbWrite
  exact h.setTab.dirty

theorem refused {n : ℕ} (r : ℕ × Dev) (h : Kept o a r.2) :
    Kept o a (let y := r; if y.1 = 0 then (n, y.2) else (n + 1, y.2)).2 := .ite_snd h h

protected theorem dmaUnit {op k u : ℕ} {setAn : Bool} {b : Bytes} {x : ℕ × Dev} (h : Kept o a x.2) :
    Kept o a (Dev.dmaUnit op k u setAn b x).2 := by
  unfold Dev.dmaUnit
  split
  · exact Kept.foldl_snd (b := x.1) h fun _ _ hx => hx.dmaSlot
  · exact h.dmaSlot
  · exact .ite_snd h.putEnt.eccClear h
  · exact .refused _ h.writeRecord
  · exact h.plumbWrite

protected theorem dmaNext {j : DmaJob} (h : Kept o a d) : Kept o a (d.dmaNext j).2 := by
  unfold Dev.dmaNext
  exact .ite_snd h.emit h.dmaUnit

protected theorem dmaServe (h : Kept o a d) : Kept o a d.dmaServe := by
  unfold Dev.dmaServe
  extract_lets held d0
  have h0 : Kept o a d0 := h.foldl fun _ _ hx => hx.wake
  split
  · exact h0
  · next t j rest _ =>
    clear_value d0
    extract_lets d1 x
    have h1 : Kept o a d1 := h0.same rfl
    split
    · exact h1.dmaEnd
    · have hx : Kept o a x.2 := h1.dmaNext
      clear_value x
      exact hx.dmaEnd.ite (hx.same rfl)

protected theorem setLane {l : ℕ} {x : Lane} (h : Kept o a d) : Kept o a (d.setLane l x) :=
  { h with lanes := fun w => Tbl.wf_set _ _ _ _ (h.lanes w) }

protected theorem prbsSend {l : ℕ} (h : Kept o a d) : Kept o a (d.prbsSend l) := by
  unfold Dev.prbsSend
  exact h.ite h.setLane.emit

protected theorem prbsRound (h : Kept o a d) : Kept o a d.prbsRound := by
  unfold Dev.prbsRound
  exact h.foldl (fun _ _ hx => hx.prbsSend)

protected theorem round (h : Kept false a d) : Kept false a d.round := by
  unfold Dev.round
  exact ((((((h.foldl (fun _ _ hx => hx.hear)).same rfl).canNext).prbsRound).dmaServe).mkaRound).recoverRound

protected theorem store {i j : ℕ} : Eff.Keeps o (store i j) := by
  unfold store
  intro _ _ _ _ h
  exact h.wr

protected theorem syncLf {s : ℕ} (h : Kept o a d) : Kept o a (d.syncLf s) := by
  unfold Dev.syncLf
  exact h.ite h.emit

protected theorem syncPairLf {n : ℕ} (h : Kept o a d) : Kept o a (d.syncPairLf n) := by
  unfold Dev.syncPairLf
  exact h.syncLf.syncLf

protected theorem tracking {ns : List ℕ} {f : Dev → Dev} (h : Kept o a d) (hf : ∀ y, Kept o a y → Kept o a (f y)) :
    Kept o a (tracking ns f d) := by
  unfold tracking
  refine (hf d h).foldl fun y n hy => (hy.ite ?_).syncPairLf
  exact hy.wrBit.raise

protected theorem setCtr {kind e v x : ℕ} (h : Kept o a d) : Kept o a (d.setCtr kind e v x) :=
  { h with counters := fun w => Tbl.wf_set _ _ _ _ (h.counters w) }

protected theorem cntBy {kind e v k : ℕ} (h : Kept o a d) : Kept o a (d.cntBy kind e v k) := by
  unfold Dev.cntBy
  exact h.setCtr

protected theorem cnt {kind e v : ℕ} (h : Kept o a d) : Kept o a (d.cnt kind e v) := by
  unfold Dev.cnt
  exact h.cntBy

protected theorem advanceWindow {s pn w : ℕ} {verified : Bool} (h : Kept o a d) : Kept o a (d.advanceWindow s pn w verified) := by
  unfold Dev.advanceWindow
  exact (((h.ite h.setSa.threshold).setSa).note).ite (h.ite h.setSa.threshold)

protected theorem retire {s : ℕ} (h : Kept o a d) : Kept o a (d.retire s) := by
  unfold Dev.retire
  exact h.setSa.note

protected theorem activateRx {c s : ℕ} (h : Kept o a d) : Kept o a (d.activateRx c s) := by
  unfold Dev.activateRx
  exact h.ite (h.setSa.note.foldl (fun _ _ hx => ((hx.setSa.retire.ite hx.setSa).ite hx)))

protected theorem advanceFor {h' : Held} {verified : Bool} (h : Kept o a d) : Kept o a (d.advanceFor h' verified) := by
  unfold Dev.advanceFor
  exact h.ite ((h.when (fun _ hy => hy.activateRx)).advanceWindow)

protected theorem verdictOf {v : Held} (h : Kept o a d) : Kept o a (d.verdictOf v).2 := by
  unfold Dev.verdictOf
  extract_lets n hit ok w d1
  have h1 : Kept o a d1 := h.when fun _ hy => hy.struck
  refine .ite_snd (.pair h.cnt) (.ite_snd (.pair h) (.ite_snd (.pair h.cnt.advanceFor) (.ite_snd ?_ (.ite_snd ?_ ?_))))
  · exact .ite_snd (.pair h1.cnt) (.pair h1.cnt.cause)
  · exact .ite_snd (.pair h1.cnt) (.pair h1.cnt.advanceFor)
  · exact .pair h1.cnt.cntBy.advanceFor

protected theorem setQ {x : ℕ} {k : Queue} (h : Kept o a d) : Kept o a (d.setQ x k) :=
  { h with queues := fun w => Tbl.wf_set _ _ _ _ (h.queues w) }

protected theorem noteFlight {k : ℕ} (h : Kept o a d) : Kept o a (d.noteFlight k) := by
  unfold Dev.noteFlight
  exact h.wr

protected theorem setInE {s : ℕ} {l : List Drawn} (h : Kept o a d) : Kept o a (d.setInE s l) := by
  unfold Dev.setInE
  exact (h.same rfl).noteFlight

protected theorem setStaged {s : ℕ} {l : List Staged} (h : Kept o a d) : Kept o a (d.setStaged s l) := by
  unfold Dev.setStaged
  exact (h.same rfl).noteFlight

protected theorem onFrame {f : Frame} {g : Frame → Frame} (h : Kept o a d) : Kept o a (d.onFrame f g) := by
  unfold Dev.onFrame
  exact h.setStaged.setInE.setQ

protected theorem setNode {c : ℕ} {x : Node} (h : Kept o a d) : Kept o a (d.setNode c x) := by
  unfold Dev.setNode
  exact h.same rfl

protected theorem settleDeficits {c : ℕ} (h : Kept o a d) : Kept o a (d.settleDeficits c) := by
  unfold Dev.settleDeficits
  exact (h.foldl (fun _ _ hx => hx.setQ)).when (fun _ hy => hy.setNode)

protected theorem dropCauses {n : ℕ} {line : Bool} {reason : ℕ} (h : Kept o a d) : Kept o a (d.dropCauses n line reason) := by
  unfold Dev.dropCauses
  exact (Kept.cause (by split; exacts [h.cause, h])).ite (((Kept.cause (by split; exacts [h.cause, h])).condition).ite ((Kept.cause (by
    split; exacts [h.cause, h])).ite (by split; exacts [h.cause, h])))

protected theorem law {kind e v : ℕ} (h : Kept o a d) : Kept o a (d.law kind e v) := by
  unfold Dev.law
  exact h.cnt.when (fun _ hy => hy.condition)

protected theorem leaveFlight {n : ℕ} {line : Bool} (h : Kept o a d) : Kept o a (d.leaveFlight n line) := by
  unfold Dev.leaveFlight
  exact h.setCtr

protected theorem dropped {n : ℕ} {line : Bool} {reason : ℕ} (h : Kept o a d) : Kept o a (d.dropped n line reason) := by
  unfold Dev.dropped
  exact h.leaveFlight.law.cnt.dropCauses

protected theorem drop {reason : ℕ} {f : Frame} (h : Kept o a d) : Kept o a (d.drop reason f) := by
  unfold Dev.drop
  exact h.dropCauses.ite h.dropped

protected theorem overSdu {f : Frame} (h : Kept o a d) : Kept o a (d.overSdu f) := by
  unfold Dev.overSdu
  exact h.drop.when (fun _ hy => hy.cnt)

protected theorem giveCells {q p c : ℕ} (h : Kept o a d) : Kept o a (d.giveCells q p c) := by
  unfold Dev.giveCells
  exact h.wr.wr

protected theorem dequeue {x : ℕ} (h : Kept o a d) : Kept o a (d.dequeue x).2 := by
  unfold Dev.dequeue
  dsimp only
  split
  exacts [h, h.giveCells.setQ.cnt.perf]

protected theorem purgeHead {s x n : ℕ} (h : Kept o a d) : Kept o a (d.purgeHead s x n) := by
  induction n generalizing d with
  | zero => exact h
  | succ n ih =>
    unfold Dev.purgeHead
    split
    · exact h
    · exact (ih (h.dequeue.overSdu.ite h.dequeue.drop).settleDeficits).ite h

protected theorem stamp {s : ℕ} {b : Bytes} {ptp : Bool} {tm : ℕ} {sent : Bool} (h : Kept o a d) : Kept o a (d.stamp s b ptp tm sent) :=
    by
  unfold Dev.stamp
  exact ((h.count.ite ((h.count.same rfl).raise)).ite ((h.same rfl).wr)).ite h

protected theorem launch {t : ℕ} {f : Frame} (h : Kept o a d) : Kept o a (d.launch t f).2 := by
  unfold Dev.launch
  exact (h.stamp.when (fun _ hy => hy.cnt)).when (fun _ hy => hy.cnt)

protected theorem leave {s t : ℕ} (h : Kept o a d) : Kept o a (d.leave s t) := by
  unfold Dev.leave
  split
  exacts [h, h.ite h.launch.setStaged]

protected theorem intoStaging {t : ℕ} {x : Staged} (h : Kept o a d) : Kept o a (d.intoStaging t x) := by
  unfold Dev.intoStaging
  exact h.setStaged.leave

protected theorem refill {s t : ℕ} (h : Kept o a d) : Kept o a (d.refill s t) := by
  unfold Dev.refill
  split
  exacts [h, h.ite h.setInE.intoStaging]

protected theorem sendFrom {s t : ℕ} {f : Frame} (h : Kept o a d) : Kept o a (d.sendFrom s t f) := by
  unfold Dev.sendFrom
  exact h.setInE.refill

protected theorem goThrough {t : ℕ} {f : Frame} (h : Kept o a d) : Kept o a (d.goThrough t f) := by
  unfold Dev.goThrough
  exact h.cnt.perf.sendFrom

protected theorem throughHeld {t : ℕ} {f : Frame} (h : Kept o a d) : Kept o a (d.throughHeld t f) := by
  unfold Dev.throughHeld
  exact (Kept.ite (by dsimp only; split; exacts [h.purgeHead.dequeue.goThrough, h.purgeHead]) h.purgeHead).ite h

protected theorem syncStacks (h : Kept o a d) : Kept o a d.syncStacks := by
  unfold Dev.syncStacks
  exact h.wr.wr.when (fun _ hy => hy.raise)

protected theorem pagesBy {s up down : ℕ} (h : Kept o a d) : Kept o a (d.pagesBy s up down) := by
  unfold Dev.pagesBy
  exact h.wr.syncStacks

protected theorem freePages {l : List Page} (h : Kept o a d) : Kept o a (d.freePages l) := by
  unfold Dev.freePages
  exact h.foldl (fun _ _ hx => hx.pagesBy)

protected theorem dropSpilled {x : ℕ} {l : List (Frame × Bool)} (h : Kept o a d) : Kept o a (d.dropSpilled x l) := by
  unfold Dev.dropSpilled
  exact h.giveCells.setQ.freePages.setQ.settleDeficits.ite h.giveCells.setQ

protected theorem withdraw {reason : ℕ} {f : Frame} (h : Kept o a d) : Kept o a (d.withdraw reason f) := by
  unfold Dev.withdraw
  exact h.giveCells.setQ.drop.settleDeficits.ite (h.dropSpilled.drop.ite h.dropCauses)

protected theorem judgeFrame {t : ℕ} {h' : Held} (h : Kept o a d) : Kept o a (d.judgeFrame t h') := by
  unfold Dev.judgeFrame
  dsimp only
  split
  · exact h.verdictOf.onFrame.when (fun _ hy => hy.throughHeld)
  · exact h.verdictOf.withdraw.ite (Kept.onFrame (by split; exacts [h.verdictOf.cause, h.verdictOf]))

protected theorem setInD {s : ℕ} {l : List Held} (h : Kept o a d) : Kept o a (d.setInD s l) := by
  unfold Dev.setInD
  exact (h.same rfl).noteFlight

protected theorem recordMet {c : ℕ} (h : Kept o a d) : Kept o a (d.recordMet c) := by
  unfold Dev.recordMet
  exact h.lookAt

protected theorem dropBadRecord {c : ℕ} {f : Frame} (h : Kept o a d) : Kept o a (d.dropBadRecord c f) := by
  unfold Dev.dropBadRecord
  exact h.recordMet.eccMet.drop

protected theorem dropBadSa {f : Frame} (h : Kept o a d) : Kept o a (d.dropBadSa f) := by
  unfold Dev.dropBadSa
  exact h.raise.drop

protected theorem trigger {g : Trigger} (h : Kept o a d) : Kept o a (d.trigger g) := by
  unfold Dev.trigger
  exact h.same rfl

protected theorem assignPn {c s : ℕ} (h : Kept o a d) : Kept o a (d.assignPn c s).2 := by
  unfold Dev.assignPn
  exact (((h.setSa.threshold.setSa.note.same rfl).cause).ite h.setSa.threshold).when (fun _ hy => hy.trigger)

protected theorem saBind {spent : Bool} {f : Frame} (h : Kept o a d) : Kept o a (d.saBind spent f).2 := by
  unfold Dev.saBind
  exact Kept.ite_snd (h.when (fun _ hy => hy.cnt.cause)) (Kept.ite_snd h.perf.dropBadRecord (Kept.ite_snd h.perf.recordMet.drop
    (Kept.ite_snd h.perf.recordMet.readSlots.dropBadSa (Kept.ite_snd h.perf.recordMet.readSlots.drop (Kept.ite_snd
    h.perf.recordMet.readSlots.drop (h.perf.recordMet.readSlots.assignPn.when (fun _ hy => hy.cnt.cause)))))))

protected theorem forwarded {n : ℕ} {line : Bool} {octets : ℕ} (h : Kept o a d) : Kept o a (d.forwarded n line octets) := by
  unfold Dev.forwarded
  exact h.leaveFlight.law.cntBy

protected theorem encode {s : ℕ} {f : Frame} (h : Kept o a d) : Kept o a (d.encode s f) := by
  unfold Dev.encode
  exact h.setBg.ite h.emit

protected theorem countOut {f : Frame} (h : Kept o a d) : Kept o a (d.countOut f) := by
  unfold Dev.countOut
  split
  exacts [h.cnt.cnt.cntBy, h]

protected theorem land {f : Frame} (h : Kept o a d) : Kept o a (d.land f) := by
  unfold Dev.land
  exact (((((h.cnt.ite h.forwarded).when (fun _ hy => hy.cnt.cnt.cause)).when (fun _ hy => hy.cnt)).countOut).encode).perf

protected theorem emitFrame {t : ℕ} {f : Frame} (h : Kept o a d) : Kept o a (d.emitFrame t f) := by
  unfold Dev.emitFrame
  exact h.launch.land

protected theorem sendBg {t : ℕ} {f : Frame} (h : Kept o a d) : Kept o a (d.sendBg t f) := by
  unfold Dev.sendBg
  dsimp only
  split
  exacts [h.saBind, h.saBind.emitFrame]

protected theorem setStagedBg {s : ℕ} {l : List Frame} (h : Kept o a d) : Kept o a (d.setStagedBg s l) := by
  unfold Dev.setStagedBg
  exact h.same rfl

protected theorem flushBg {s t : ℕ} (h : Kept o a d) : Kept o a (d.flushBg s t) := by
  unfold Dev.flushBg
  exact (h.setStagedBg.foldl (fun _ _ hx => hx.sendBg)).ite h

protected theorem between {s t : ℕ} (h : Kept o a d) : Kept o a (d.between s t) := by
  unfold Dev.between
  exact h.flushBg.refill.leave

protected theorem setSched {s : ℕ} {x : Sched} (h : Kept o a d) : Kept o a (d.setSched s x) := by
  unfold Dev.setSched
  exact h.same rfl

protected theorem charge {s t : ℕ} {f : Frame} (h : Kept o a d) : Kept o a (d.charge s t f) := by
  unfold Dev.charge
  exact h.setSched.setNode.setQ.settleDeficits

protected theorem endHead {s t : ℕ} (h : Kept o a d) : Kept o a (d.endHead s t) := by
  unfold Dev.endHead
  split
  exacts [h, ((((h.when (fun _ hy => hy.struck.cause)).setStaged).charge).land).between]

protected theorem cutHead {s : ℕ} (h : Kept o a d) : Kept o a (d.cutHead s) := by
  unfold Dev.cutHead
  split
  exacts [h, h.setStaged]

protected theorem frameEnd {s t : ℕ} (h : Kept o a d) : Kept o a (d.frameEnd s t) := by
  unfold Dev.frameEnd
  split
  exacts [h, h.ite (h.endHead.ite (h.cutHead.cause.endHead.ite h))]

protected theorem dropWaiting {s reason : ℕ} (h : Kept o a d) : Kept o a (d.dropWaiting s reason) := by
  unfold Dev.dropWaiting
  exact (h.setStaged.setInE.setStagedBg.foldl (fun _ _ hx => hx.drop)).foldl (fun _ _ hx => hx.settleDeficits)

protected theorem finish {s t : ℕ} (h : Kept o a d) : Kept o a (d.finish s t) := by
  unfold Dev.finish
  exact h.setStaged.leave.endHead

protected theorem bindDrawn {t : ℕ} {e : Drawn} (h : Kept o a d) : Kept o a (d.bindDrawn t e) := by
  unfold Dev.bindDrawn
  dsimp only
  split
  exacts [h.saBind.settleDeficits, h.saBind.intoStaging]

protected theorem runOut {s t : ℕ} (h : Kept o a d) : Kept o a (d.runOut s t) := by
  unfold Dev.runOut
  exact h.frameEnd.ite ((h.dropWaiting.ite h.dropWaiting.finish).ite (((((h.foldl (fun _ _ hx => hx.finish)).foldl (fun _ _ hx =>
    ((hx.setInE.bindDrawn.ite hx).finish))).flushBg).foldl (fun _ _ hx => hx.drop)).setStagedBg))

protected theorem runOutPair {n t : ℕ} (h : Kept o a d) : Kept o a (d.runOutPair n t) := by
  unfold Dev.runOutPair
  exact ((h.setInD.foldl (fun _ _ hx => hx.judgeFrame)).runOut).runOut

protected theorem emptyQueue {x reason : ℕ} (h : Kept o a d) : Kept o a (d.emptyQueue x reason) := by
  unfold Dev.emptyQueue
  exact (h.giveCells.freePages.setQ.foldl (fun _ _ hx => hx.drop)).settleDeficits

protected theorem emptySide {s reason : ℕ} (h : Kept o a d) : Kept o a (d.emptySide s reason) := by
  unfold Dev.emptySide
  exact h.foldl (fun _ _ hx => hx.emptyQueue)

protected theorem setLaneState {l v : ℕ} (h : Kept o a d) : Kept o a (d.setLaneState l v) := by
  unfold Dev.setLaneState
  exact h.wr

protected theorem restartLane {l state : ℕ} (h : Kept o a d) : Kept o a (d.restartLane l state) := by
  unfold Dev.restartLane
  exact h.setLane.setLaneState.wr.ite h.setLane.setLaneState

protected theorem setSide {s : ℕ} {x : Side} (h : Kept o a d) : Kept o a (d.setSide s x) :=
  { h with sides := fun w => Tbl.wf_set _ _ _ _ (h.sides w) }

protected theorem syncOof {n : ℕ} (h : Kept o a d) : Kept o a (d.syncOof n) := by
  unfold Dev.syncOof
  exact h.wrBit.ite h

protected theorem unalign {s : ℕ} (h : Kept o a d) : Kept o a (d.unalign s) := by
  unfold Dev.unalign
  exact h.setSide.wr.wr.syncOof

protected theorem releaseSide {s : ℕ} (h : Kept o a d) : Kept o a (d.releaseSide s) := by
  unfold Dev.releaseSide
  exact ((h.foldl (fun _ _ hx => hx.setLane.restartLane.wr)).unalign).setSide

protected theorem defaults {p : ℕ → ℕ → Bool} (h : Kept o a d) : Kept o a (d.defaults p) :=
  { h with dict := fun w => Tbl.wf_filter _ _ _ (h.dict w) }

protected theorem dapReply {k : DapAsk} {flags : ℕ} {body : Bytes} (h : Kept o a d) : Kept o a (d.dapReply k flags body) := by
  unfold Dev.dapReply
  split
  exacts [h, h.sendDap]

protected theorem endPend {i j a' : ℕ} (h : Kept false a d) : Kept false a (d.endPend i j a') := by
  unfold Dev.endPend
  exact ((h.same rfl).foldl (fun _ _ hx => hx.dapReply)).foldl (fun _ _ hx => hx.respond)

protected theorem bondEnd {s : ℕ} (h : Kept false a d) : Kept false a (d.bondEnd s) := by
  unfold Dev.bondEnd
  exact (((h.same rfl).endPend).endPend).defaults

protected theorem setCarrier {n : ℕ} {x : Carrier} (h : Kept o a d) : Kept o a (d.setCarrier n x) :=
  { h with carriers := fun w => Tbl.wf_set _ _ _ _ (h.carriers w) }

protected theorem mkaTold {j : Job} {res : ℕ} (h : Kept o a d) : Kept o a (d.mkaTold j res) := by
  unfold Dev.mkaTold
  split
  exacts [h, h.same rfl]

protected theorem endJob {p : ℕ} {j : Job} {res : ℕ} (h : Kept o a d) : Kept o a (d.endJob p j res) := by
  unfold Dev.endJob
  exact (((((Kept.when (by split; exacts [h.wr.wr, h]) (fun _ hy => by split; exacts [hy.wr, hy])).when (fun _ hy =>
    hy.setSa)).mkaTold).count).raise).ite (((((Kept.when (by split; exacts [h.wr.wr, h]) (fun _ hy => by split; exacts [hy.wr, hy])).when
    (fun _ hy => hy.setSa)).mkaTold).count).raise)

protected theorem endJobs {p res : ℕ} {f : Job → Bool} (h : Kept o a d) : Kept o a (d.endJobs p res f) := by
  unfold Dev.endJobs
  exact h.setPl.foldl (fun _ _ hx => hx.endJob)

protected theorem endClients {n : ℕ} (h : Kept o a d) : Kept o a (d.endClients n) := by
  unfold Dev.endClients
  exact ((h.foldl (fun _ _ hx => hx.dropped)).when (fun _ hy => hy.forwarded.cnt)).foldl (fun _ _ hx => hx.dropped)

protected theorem setCarrierState {n v : ℕ} (h : Kept o a d) : Kept o a (d.setCarrierState n v) := by
  unfold Dev.setCarrierState
  exact h.ite h.wr.cause

protected theorem carrierOff {n : ℕ} (h : Kept o a d) : Kept o a (d.carrierOff n) := by
  unfold Dev.carrierOff
  exact h.endClients.endJobs.setCarrier.setCarrierState.defaults

protected theorem setQueue {l : List SchedEntry} (h : Kept o a d) : Kept o a (d.setQueue l) := by
  unfold Dev.setQueue
  exact ((((h.same rfl).wr).wr).wr).when (fun _ hy => hy.raise)

protected theorem unschedule {p : Owner → Bool} (h : Kept o a d) : Kept o a (d.unschedule p) := by
  unfold Dev.unschedule
  exact (h.setQueue.ite h).same rfl

protected theorem setGate {s : ℕ} {g : Gate} (h : Kept o a d) : Kept o a (d.setGate s g) := by
  unfold Dev.setGate
  exact h.same rfl

protected theorem unschedulePair {n : ℕ} (h : Kept o a d) : Kept o a (d.unschedulePair n) := by
  unfold Dev.unschedulePair
  exact h.unschedule.foldl (fun _ _ hx => hx.setGate.wr)

protected theorem evalShort {s : ℕ} (h : Kept o a d) : Kept o a (d.evalShort s) := by
  unfold Dev.evalShort
  exact h.wr.when (fun _ hy => hy.cause)

protected theorem setSideState {s v : ℕ} (h : Kept o a d) : Kept o a (d.setSideState s v) := by
  unfold Dev.setSideState
  exact h.wr.ite h.wr

protected theorem portOff {n : ℕ} (h : Kept false a d) : Kept false a (d.portOff n) := by
  unfold Dev.portOff
  refine h.ite (h.tracking fun y0 h0 => ?_)
  extract_lets x p y y1 y2 y3 y4
  have hx : Kept false a x := h0.emptySide.emptySide.runOutPair
  clear_value x
  have hy : Kept false a y := hx.same rfl
  have h1 : Kept false a y1 := hy.releaseSide.releaseSide
  have h2 : Kept false a y2 := h1.bondEnd.bondEnd.ite h1
  have h3 : Kept false a y3 := h2.when fun _ hz => hz.carrierOff
  have h4 : Kept false a y4 := h3.unschedulePair.wr.wr
  exact h4.setSideState.setSideState.evalShort.evalShort

protected theorem bondForm {s : ℕ} (h : Kept o a d) : Kept o a (d.bondForm s) := by
  unfold Dev.bondForm
  exact ((((h.wr.foldl (fun _ _ hx => hx.wr)).wr).wr).wr).wr

protected theorem evalSide {s : ℕ} (h : Kept o a d) : Kept o a (d.evalSide s) := by
  unfold Dev.evalSide
  exact h.tracking (fun _ hy => ((hy.setSideState.when (fun _ hy => hy.count)).when (fun _ hy => hy.setSide)))

protected theorem startSide {s : ℕ} (h : Kept o a d) : Kept o a (d.startSide s) := by
  unfold Dev.startSide
  exact (((h.foldl (fun _ _ hx => hx.setLane.restartLane)).setSide).unalign).evalSide

protected theorem startPair {n : ℕ} (h : Kept o a d) : Kept o a (d.startPair n) := by
  unfold Dev.startPair
  exact ((h.same rfl).startSide).startSide

protected theorem formPair {n m : ℕ} (h : Kept o a d) : Kept o a (d.formPair n m) := by
  unfold Dev.formPair
  exact (((((((((h.foldl (fun _ _ hx => hx.wake)).wr).bondForm).bondForm).ite ((h.foldl (fun _ _ hx => hx.wake)).wr)).when (fun _ hy =>
    hy.setCarrierState)).startPair).ite (((((((h.foldl (fun _ _ hx => hx.wake)).wr).bondForm).bondForm).ite ((h.foldl (fun _ _ hx =>
    hx.wake)).wr)).when (fun _ hy => hy.setCarrierState)).same rfl)).evalShort).evalShort

protected theorem effPortMode {n : ℕ} : Eff.Keeps false (effPortMode n) := by
  unfold effPortMode
  intro _ _ _ _ h
  exact Kept.ite_snd h.portOff (Kept.ite_snd h (Kept.ite_snd h (Kept.ite_snd h h.formPair)))

protected theorem absorb {n : ℕ} (h : Kept o a d) : Kept o a (d.absorb n) := by
  unfold Dev.absorb
  exact h.defaults.same rfl

protected theorem effPortWidth {n : ℕ} : Eff.Keeps o (effPortWidth n) := by
  intro _ _ _ _ h
  unfold effPortWidth
  refine .ite_snd h (.ite_snd h (.ite_snd h (.pair (h.tracking fun y hy => ?_))))
  exact hy.wr.foldl fun _ _ hx => hx.absorb

protected theorem effPortCompat {n : ℕ} : Eff.Keeps o (effPortCompat n) := by
  unfold effPortCompat
  intro _ _ _ _ h
  exact Kept.ite_snd h (Kept.ite_snd h h.wr)

protected theorem idleSide {s : ℕ} (h : Kept o a d) : Kept o a (d.idleSide s) := by
  unfold Dev.idleSide
  exact (((((h.same rfl).foldl (fun _ _ hx => hx.restartLane)).when (fun _ hy => hy.wr.setCarrier)).setSide).unalign).evalSide

protected theorem burstSide {s : ℕ} (h : Kept o a d) : Kept o a (d.burstSide s) := by
  unfold Dev.burstSide
  exact ((h.same rfl).foldl (fun _ _ hx => hx.restartLane.emit)).evalSide

protected theorem exitIdle {s : ℕ} (h : Kept o a d) : Kept o a (d.exitIdle s) := by
  unfold Dev.exitIdle
  exact ((h.foldl (fun _ _ hx => hx.wake)).burstSide).ite ((h.foldl (fun _ _ hx => hx.wake)).same rfl)

protected theorem effPortPower {s : ℕ} : Eff.Keeps o (effPortPower s) := by
  unfold effPortPower
  intro _ _ _ _ h
  exact Kept.ite_snd h.wr (h.wr.idleSide.ite h.wr.exitIdle)

protected theorem effWhileOff {n i j : ℕ} : Eff.Keeps o (effWhileOff n i j) := by
  unfold effWhileOff
  intro _ _ _ _ h
  exact Kept.ite_snd h h.wr

protected theorem effDefaultCh {n : ℕ} {rx : Bool} : Eff.Keeps o (effDefaultCh n rx) := by
  unfold effDefaultCh
  intro _ _ _ _ h
  exact Kept.ite_snd h h.wr

protected theorem unless' {p : Bool} {x : ℕ} {k : ℕ × Dev} (h : Kept o a d) (hk : Kept o a k.2) : Kept o a (unless' p x d k).2 :=
  .ite_snd h hk

protected theorem causeClear {b : CauseBlock} {m again : ℕ} (h : Kept o a d) : Kept o a (d.causeClear b m again) := by
  unfold Dev.causeClear
  exact h.wr.foldl fun _ _ hx => hx.raise

protected theorem effCauseClear {b : CauseBlock} {again : ℕ} : Eff.Keeps o (effCauseClear b again) :=
  fun _ _ _ _ h => h.unless' h.causeClear

protected theorem causeEnable {b : CauseBlock} {v : ℕ} (h : Kept o a d) : Kept o a (d.causeEnable b v) := by
  unfold Dev.causeEnable
  exact h.wr.foldl fun _ _ hx => hx.raise

protected theorem effCauseEnable {b : CauseBlock} : Eff.Keeps o (effCauseEnable b) :=
  fun _ _ _ _ h => h.unless' h.causeEnable

protected theorem effMapping {n : ℕ} : Eff.Keeps o (effMapping n) := by
  unfold effMapping
  intro _ _ _ _ h
  exact Kept.ite_snd h (Kept.effWhileOff _ _ _ _ h)

protected theorem effKdfSlot {n : ℕ} : Eff.Keeps o (effKdfSlot n) := by
  unfold effKdfSlot
  intro _ _ _ _ h
  exact Kept.ite_snd h (Kept.ite_snd h h.wr)

protected theorem submitDerive {n e : ℕ} {tx : Bool} {r : Dev} (h : Kept o a d) (hr : d.submitDerive n e tx = some r) : Kept o a r := by
  unfold Dev.submitDerive at hr
  dsimp only at hr
  split at hr
  · cases hr; exact h
  · split at hr
    · cases hr
    · split at hr
      · cases hr
      · cases hr; exact h.enqueueJob

/-- A derivation that cannot be submitted leaves the block as it is. -/
protected theorem submitDerive_getD {n e : ℕ} {tx : Bool} (h : Kept o a d) : Kept o a ((d.submitDerive n e tx).getD d) := by
  cases hr : d.submitDerive n e tx with
  | none => exact h
  | some r => exact h.submitDerive hr

protected theorem autoLoad {n : ℕ} (h : Kept o a d) : Kept o a (d.autoLoad n) := by
  unfold Dev.autoLoad
  exact (h.foldl fun _ _ hx => hx.ite hx.submitDerive_getD).ite h

protected theorem effAutoLoad {n : ℕ} : Eff.Keeps o (effAutoLoad n) := by
  unfold effAutoLoad
  intro _ _ _ _ h
  exact h.wr.autoLoad

protected theorem effSwitchAtFc {n : ℕ} : Eff.Keeps o (effSwitchAtFc n) := by
  unfold effSwitchAtFc
  intro _ _ _ _ h
  exact Kept.ite_snd h h.wr

protected theorem submitAll {n : ℕ} {l : List (ℕ × Bool)} {r : Dev} (h : Kept o a d) (hr : d.submitAll n l = some r) : Kept o a r := by
  induction l generalizing d with
  | nil => cases hr; exact h
  | cons x l ih =>
    unfold Dev.submitAll at hr
    split at hr
    · cases hr
    · next e => exact ih (h.submitDerive e) hr

protected theorem effLoadNext {n : ℕ} : Eff.Keeps o (effLoadNext n) := by
  intro _ _ _ _ h
  unfold effLoadNext
  refine .ite_snd h (.ite_snd h ?_)
  split
  · exact h
  · next e => exact h.submitAll e

protected theorem requestSwitch {n : ℕ} (h : Kept o a d) : Kept o a (d.requestSwitch n) := by
  unfold Dev.requestSwitch
  exact h.setCarrier.ite h.setCarrier.cause

protected theorem effSwitchNow {n : ℕ} : Eff.Keeps o (effSwitchNow n) := by
  unfold effSwitchNow
  intro _ _ _ _ h
  exact Kept.ite_snd h.requestSwitch h

protected theorem schedule {o' : Owner} {target : ℕ} (h : Kept o a d) : Kept o a (d.schedule o' target).2 := by
  unfold Dev.schedule
  exact Kept.ite_snd h (Kept.ite_snd h ((h.same rfl).setQueue))

protected theorem effSwitchAtTime {n : ℕ} : Eff.Keeps o (effSwitchAtTime n) := by
  unfold effSwitchAtTime
  intro _ _ _ _ h
  exact Kept.ite_snd h.unschedule.wr (Kept.ite_snd h (h.schedule.wr.ite h))

protected theorem effEpochHighClear {n : ℕ} : Eff.Keeps o (effEpochHighClear n) := by
  unfold effEpochHighClear
  intro _ _ _ _ h
  exact Kept.ite_snd h h.wr

protected theorem effTsPop {side : ℕ} : Eff.Keeps o (effTsPop side) := by
  unfold effTsPop
  intro _ _ _ _ h
  dsimp only
  split
  exacts [h.wr, ((h.same rfl).wr).wr]

protected theorem effLaneRate {l : ℕ} : Eff.Keeps o (effLaneRate l) := by
  unfold effLaneRate
  intro _ _ _ _ h
  exact Kept.ite_snd h (Kept.ite_snd h h.wr)

protected theorem prbsState {l : ℕ} (h : Kept o a d) : Kept o a (d.prbsState l) := by
  unfold Dev.prbsState
  exact h.setLaneState

protected theorem prbsFresh {l j v : ℕ} (h : Kept o a d) : Kept o a (d.prbsFresh l j v) := by
  unfold Dev.prbsFresh
  exact h.setLane.ite h.setLane.wr

protected theorem effPrbs {l j : ℕ} : Eff.Keeps o (effPrbs l j) := by
  unfold effPrbs
  intro _ _ _ _ h
  exact Kept.ite_snd h (Kept.ite_snd h h.wr.prbsFresh.prbsState)

protected theorem effPrbsClear {l : ℕ} : Eff.Keeps o (effPrbsClear l) := by
  unfold effPrbsClear
  intro _ _ _ _ h
  exact h.wr.wr.wr

protected theorem effPrbsInsert {l : ℕ} : Eff.Keeps o (effPrbsInsert l) := by
  unfold effPrbsInsert
  intro _ _ _ _ h
  exact Kept.ite_snd h h.setLane

protected theorem effLoopback {n : ℕ} : Eff.Keeps o (effLoopback n) := by
  unfold effLoopback
  intro _ _ _ _ h
  exact Kept.ite_snd h (Kept.ite_snd h h.wr.syncPairLf)

protected theorem effPorts {c : Cls} {n i j : ℕ} : Eff.Keeps false (effPorts c n i j) := by
  unfold effPorts
  split
  · exact .ite Kept.effPortMode (.ite Kept.effPortWidth (.ite Kept.effPortCompat (.ite Kept.effPortPower (.ite Kept.store
      Kept.effWhileOff))))
  · exact .ite Kept.effPortPower Kept.effWhileOff
  · exact .ite Kept.effWhileOff (.ite Kept.effDefaultCh (.ite Kept.effDefaultCh (.ite Kept.effCauseClear Kept.effCauseEnable)))
  · exact .ite Kept.effMapping (.ite Kept.effKdfSlot (.ite Kept.effWhileOff (.ite Kept.effAutoLoad (.ite Kept.effSwitchAtFc (.ite
      Kept.effCauseClear (.ite Kept.effCauseEnable (.ite Kept.effLoadNext (.ite Kept.effSwitchNow (.ite Kept.effSwitchAtTime (.ite
      Kept.effEpochHighClear Kept.store))))))))))
  · exact .ite Kept.effTsPop Kept.store
  · exact .ite Kept.effLaneRate (.ite Kept.effPrbs (.ite Kept.effPrbsClear (.ite Kept.effPrbsInsert Kept.store)))
  · exact Kept.effLoopback
  · exact Kept.store

protected theorem raiseUnsaid {e : ℕ} (h : Kept false a d) : Kept false a (d.raiseUnsaid e) := by
  unfold Dev.raiseUnsaid
  exact (Kept.raise (h.sameTables rfl)).sameTables rfl

protected theorem setVault {v : ℕ} (h : Kept o a d) : Kept o a (d.setVault v) := by
  unfold Dev.setVault
  exact h.wr

protected theorem setFollower {q : ℕ} {x : Follower} (h : Kept o a d) : Kept o a (d.setFollower q x) := by
  unfold Dev.setFollower
  exact h.same rfl

protected theorem setPolicer {x : ℕ} {p : Policer} (h : Kept o a d) : Kept o a (d.setPolicer x p) := by
  unfold Dev.setPolicer
  exact h.same rfl

protected theorem fullLevels {q : ℕ} (h : Kept o a d) : Kept o a (d.fullLevels q) := by
  unfold Dev.fullLevels
  exact ((h.foldl (fun _ _ hx => hx.setNode)).foldl (fun _ _ hx => hx.setPolicer)).foldl (fun _ _ hx => hx.setSched)

protected theorem enterOn {k : ℕ} (h : Kept o a d) : Kept o a (d.enterOn k) := by
  unfold Dev.enterOn
  exact h.wr.ite (h.fullLevels.setFollower.ite h)

protected theorem setPower {k v : ℕ} (h : Kept o a d) : Kept o a (d.setPower k v) := by
  unfold Dev.setPower
  exact h.wr

protected theorem zeroWake {k : ℕ} (h : Kept o a d) : Kept o a (d.zeroWake k) := by
  unfold Dev.zeroWake
  exact (h.setPower.enterOn.count.wr.same rfl).ite h

protected theorem syncCached {s : ℕ} (h : Kept o a d) : Kept o a (d.syncCached s) := by
  unfold Dev.syncCached
  exact h.wr

protected theorem clearCache {p : ℕ} (h : Kept o a d) : Kept o a (d.clearCache p) := by
  unfold Dev.clearCache
  exact h.setPl.foldl (fun _ _ hx => hx.syncCached)

protected theorem zeroSlots (h : Kept o a d) : Kept o a d.zeroSlots := by
  unfold Dev.zeroSlots
  exact ((h.same rfl).foldl (fun _ _ hx => hx.wr)).clearCache

protected theorem zeroise {c : ℕ} (h : Kept false a d) : Kept false a (d.zeroise c) := by
  unfold Dev.zeroise
  refine h.ite ?_
  have h' : Kept false a { d with keys := { d.keys with clearing := false } } := h.same rfl
  extract_lets k d0 d1 d2 d3
  have h0 : Kept false a d0 := h'.endPend.ite h
  have h1 : Kept false a d1 := h0.setVault.wr.wr.raiseUnsaid
  have h2 : Kept false a d2 := h1.foldl fun _ _ hx => hx.endJobs
  have h3 : Kept false a d3 := h2.zeroSlots.foldl fun _ _ hx => hx.zeroWake
  clear_value d3
  exact h3.same rfl

protected theorem effZeroise : Eff.Keeps false effZeroise := by
  unfold effZeroise
  intro _ _ _ _ h
  exact Kept.ite_snd h h.zeroise

protected theorem effZeroiseClear : Eff.Keeps o effZeroiseClear := by
  unfold effZeroiseClear
  intro _ _ _ _ h
  exact Kept.ite_snd h (Kept.ite_snd h ((h.same rfl).startPend))

protected theorem draw (h : Kept o a d) : Kept o a d.draw.2 := by
  unfold Dev.draw
  exact h.same rfl

protected theorem effReseed {ok : Bool} : Eff.Keeps o (effReseed ok) := by
  unfold effReseed
  intro _ _ _ _ h
  exact (h.same rfl).wr

protected theorem effReseedFree : Eff.Keeps o effReseedFree := by
  unfold effReseedFree
  intro _ _ _ _ h
  exact Kept.effReseed _ _ _ _ h.draw

protected theorem effUsage {s : ℕ} : Eff.Keeps o (effUsage s) := by
  unfold effUsage
  intro _ _ _ _ h
  exact Kept.ite_snd h (Kept.ite_snd h h.wr)

protected theorem setSlotKey {s : ℕ} {k : Option ℕ} (h : Kept o a d) : Kept o a (d.setSlotKey s k) := by
  unfold Dev.setSlotKey
  exact h.same rfl

protected theorem dropKeys {n : ℕ} (h : Kept o a d) : Kept o a (d.dropKeys n) := by
  unfold Dev.dropKeys
  exact h.endJobs.setCarrier.wr.wr.wr

protected theorem unkeySlot {slot : ℕ} (h : Kept o a d) : Kept o a (d.unkeySlot slot) := by
  unfold Dev.unkeySlot
  exact h.foldl (fun _ _ hx => hx.dropKeys.setCarrierState.ite hx)

protected theorem uncache {p s : ℕ} (h : Kept o a d) : Kept o a (d.uncache p s) := by
  unfold Dev.uncache
  exact h.setPl.syncCached

protected theorem effErase {s : ℕ} : Eff.Keeps o (effErase s) := by
  intro _ _ _ d h
  unfold effErase
  refine .ite_snd h (.ite_snd h ?_)
  extract_lets d1
  have h1 : Kept o _ d1 := h.setSlotKey.wr
  refine .pair (Kept.unkeySlot (h1.foldl fun _ _ hx => hx.uncache))

protected theorem effReserve {p j : ℕ} : Eff.Keeps o (effReserve p j) := by
  unfold effReserve
  intro _ _ _ _ h
  exact Kept.ite_snd h (Kept.ite_snd h h.wr)

protected theorem effSubmit {w core : ℕ} : Eff.Keeps o (effSubmit w core) := by
  unfold effSubmit
  intro _ _ _ _ h
  exact Kept.ite_snd h (Kept.ite_snd h (Kept.ite_snd h (Kept.ite_snd h (by dsimp only; split; exacts [h, (((((h.wake.ite h).when (fun _
    hy => hy.saLoads)).enqueueJob).wr).wr)]))))

protected theorem effCancel {w : ℕ} : Eff.Keeps o (effCancel w) := by
  unfold effCancel
  intro _ _ _ _ h
  dsimp only
  split
  exacts [h, Kept.ite_snd h.endJobs (Kept.ite_snd h (Kept.ite_snd h.endJobs h.setPl))]

protected theorem effJobField {w j : ℕ} : Eff.Keeps o (effJobField w j) := by
  unfold effJobField
  intro _ _ _ _ h
  exact Kept.ite_snd h h.wr

protected theorem effNotePop {q : ℕ} : Eff.Keeps o (effNotePop q) := by
  unfold effNotePop
  intro _ _ _ _ h
  dsimp only
  split
  exacts [h.wr, h.setNotes.wr]

protected theorem effTarget {i j : ℕ} : Eff.Keeps o (effTarget i j) := by
  unfold effTarget
  intro _ _ _ _ h
  exact Kept.ite_snd h h.wr

protected theorem effSchedSubmit {q : ℕ} : Eff.Keeps o (effSchedSubmit q) := by
  unfold effSchedSubmit
  intro _ _ _ _ h
  exact Kept.ite_snd h h.schedule

protected theorem effSchedCancel {q : ℕ} : Eff.Keeps o (effSchedCancel q) := by
  unfold effSchedCancel
  intro _ _ _ _ h
  exact Kept.ite_snd h h.unschedule

protected theorem mkaStarts {b : ℕ} (h : Kept o a d) : Kept o a (d.mkaStarts b) := by
  unfold Dev.mkaStarts
  exact h.draw.setMkaOf.setMka.mkaShow

protected theorem effMkaEnable {b : ℕ} : Eff.Keeps o (effMkaEnable b) := by
  unfold effMkaEnable
  intro _ _ _ _ h
  exact Kept.ite_snd (((((h.same rfl).setMkaOf).wr).setMka).mkaShow) (Kept.ite_snd h (Kept.ite_snd h (Kept.ite_snd h h.wr.mkaStarts)))

protected theorem effBinding {b j : ℕ} : Eff.Keeps o (effBinding b j) := by
  unfold effBinding
  intro _ _ _ _ h
  exact Kept.ite_snd h h.wr

protected theorem setCtx {c : ℕ} {x : Ctx} (h : Kept o a d) : Kept o a (d.setCtx c x) := by
  unfold Dev.setCtx
  exact h.same rfl

protected theorem effCtxErase : Eff.Keeps o effCtxErase := by
  unfold effCtxErase
  intro _ _ _ _ h
  exact h.setCtx

protected theorem effSaCmd {win : ℕ} : Eff.Keeps o (effSaCmd win) := by
  unfold effSaCmd
  intro _ _ _ _ h
  exact (Kept.ite_snd h (Kept.ite_snd h h.saOp)).wr

protected theorem effKeys {c : Cls} {n i j : ℕ} : Eff.Keeps false (effKeys c n i j) := by
  unfold effKeys
  split
  · exact .ite Kept.effZeroise (.ite Kept.effZeroiseClear Kept.effReseedFree)
  · exact .ite Kept.effUsage Kept.effErase
  · exact Kept.effReserve
  · exact .ite Kept.effSubmit (.ite Kept.effCancel Kept.effJobField)
  · exact .ite Kept.effNotePop (.ite Kept.effTarget (.ite Kept.effSchedSubmit (.ite Kept.effSchedCancel Kept.store)))
  · exact .ite Kept.effMkaEnable Kept.effBinding
  · exact .ite Kept.effCtxErase Kept.store
  · exact .ite Kept.effSaCmd Kept.store
  · exact Kept.store

protected theorem effMigrate {k : ℕ} : Eff.Keeps o (effMigrate k) := by
  unfold effMigrate
  intro _ _ _ _ h
  exact Kept.ite_snd h (Kept.ite_snd h h.setTab.wr)

protected theorem effLock {k t : ℕ} : Eff.Keeps o (effLock k t) := by
  unfold effLock
  intro _ _ _ _ h
  exact Kept.ite_snd h h.setTab.wr

protected theorem unlock {k : ℕ} (h : Kept o a d) : Kept o a (d.unlock k) := by
  unfold Dev.unlock
  exact h.setTab.wr

protected theorem effUnlock {k : ℕ} : Eff.Keeps o (effUnlock k) := by
  unfold effUnlock
  intro _ _ _ _ h
  dsimp only
  split
  exacts [Kept.ite_snd h.unlock h, h]

protected theorem effPlumbEnable {k : ℕ} : Eff.Keeps o (effPlumbEnable k) := by
  unfold effPlumbEnable
  intro _ _ _ _ h
  exact (h.when (fun _ hy => hy.setTab)).wr

protected theorem effPlumbSet {k : ℕ} : Eff.Keeps o (effPlumbSet k) := by
  unfold effPlumbSet
  intro _ _ _ _ h
  exact Kept.ite_snd h h.plumbWrite

protected theorem setLearnQ {q : ℕ} {l : List ℕ} (h : Kept o a d) : Kept o a (d.setLearnQ q l) := by
  unfold Dev.setLearnQ
  exact (h.same rfl).wr

protected theorem effLearnPop {q : ℕ} : Eff.Keeps o (effLearnPop q) := by
  unfold effLearnPop
  intro _ _ _ _ h
  dsimp only
  split
  exacts [h.wr, h.setLearnQ.wr]

protected theorem effPuntPool {q : ℕ} : Eff.Keeps o (effPuntPool q) := by
  unfold effPuntPool
  intro _ _ _ _ h
  exact Kept.ite_snd h.wr h

protected theorem effPoolSize {q p : ℕ} : Eff.Keeps o (effPoolSize q p) := by
  unfold effPoolSize
  intro _ _ _ _ h
  exact Kept.ite_snd h h.wr.wr

protected theorem effPoolOwner {q p : ℕ} : Eff.Keeps o (effPoolOwner q p) := by
  unfold effPoolOwner
  intro _ _ _ _ h
  exact Kept.ite_snd h (Kept.ite_snd h h.wr)

protected theorem effPortShape {s j t : ℕ} : Eff.Keeps o (effPortShape s j t) := by
  unfold effPortShape
  intro _ _ _ _ h
  exact h.wr.when (fun _ hy => hy.setSched)

protected theorem gateSync {s t : ℕ} (h : Kept o a d) : Kept o a (d.gateSync s t) := by
  unfold Dev.gateSync
  dsimp only
  split
  exacts [h.setGate.count.cause.ite h.setGate, h.setGate]

protected theorem effGateEnable {s t : ℕ} : Eff.Keeps o (effGateEnable s t) := by
  unfold effGateEnable
  intro _ _ _ _ h
  exact h.wr.gateSync

protected theorem effConfigChange {s : ℕ} : Eff.Keeps o (effConfigChange s) := by
  unfold effConfigChange
  intro _ _ _ _ h
  exact Kept.ite_snd h (Kept.ite_snd h h.schedule.setGate.wr.wr)

protected theorem effConfigCancel {s : ℕ} : Eff.Keeps o (effConfigCancel s) := by
  unfold effConfigCancel
  intro _ _ _ _ h
  exact Kept.ite_snd h h.unschedule.setGate.wr

protected theorem setSampler {q : ℕ} {x : Sampler} (h : Kept o a d) : Kept o a (d.setSampler q x) := by
  unfold Dev.setSampler
  exact h.same rfl

protected theorem sampleRecord {q : ℕ} {ok : Bool} {b : Bytes} (h : Kept o a d) : Kept o a (d.sampleRecord q ok b) := by
  unfold Dev.sampleRecord
  exact h.count.cause.ite (h.setSampler.cause.ite h.emit.wr)

protected theorem passBegin {q t : ℕ} {ok : Bool} (h : Kept o a d) : Kept o a (d.passBegin q t ok) := by
  unfold Dev.passBegin
  exact h.setSampler.sampleRecord

protected theorem effSampler {q t j : ℕ} : Eff.Keeps o (effSampler q t j) := by
  unfold effSampler
  intro _ _ _ _ h
  exact Kept.ite_snd h (h.wr.ite (h.wr.setSampler.passBegin.ite h.wr.setSampler))

protected theorem effSwap {s : ℕ} : Eff.Keeps o (effSwap s) := by
  unfold effSwap
  intro _ _ _ _ h
  exact Kept.ite_snd h (Kept.ite_snd h h.wr.startPend)

protected theorem setSlot {s k i e : ℕ} (h : Kept o a d) : Kept o a (d.setSlot s k i e) := by
  unfold Dev.setSlot
  exact h.wr

protected theorem effHotEdit {s : ℕ} : Eff.Keeps o (effHotEdit s) := by
  unfold effHotEdit
  intro _ _ _ _ h
  exact Kept.ite_snd h (Kept.ite_snd h (Kept.ite_snd h h.setSlot.setCal.startPend))

protected theorem effBank {s j : ℕ} : Eff.Keeps o (effBank s j) := by
  unfold effBank
  intro _ _ _ _ h
  exact Kept.ite_snd h (Kept.ite_snd h h.wr)

protected theorem setBgLevel {s r v : ℕ} (h : Kept o a d) : Kept o a (d.setBgLevel s r v) := by
  unfold Dev.setBgLevel
  exact h.wr

protected theorem effBgBase {s j : ℕ} : Eff.Keeps o (effBgBase s j) := by
  unfold effBgBase
  intro _ _ _ _ h
  exact Kept.ite_snd h (h.wr.ite (h.wr.foldl (fun _ _ hx => hx.ite hx.setBgLevel)))

protected theorem effBgWaitClear {s : ℕ} : Eff.Keeps o (effBgWaitClear s) := by
  unfold effBgWaitClear
  intro _ _ _ _ h
  exact Kept.ite_snd h (h.foldl (fun _ _ hx => hx.wr))

protected theorem effCalStore {s j : ℕ} : Eff.Keeps o (effCalStore s j) := by
  unfold effCalStore
  intro _ _ _ _ h
  exact Kept.ite_snd h h.wr

protected theorem effStackEnable : Eff.Keeps o effStackEnable := by
  unfold effStackEnable
  intro _ _ _ _ h
  exact h.wr.syncStacks

protected theorem qwDone {n r : ℕ} (h : Kept o a d) : Kept o a (d.qwDone n r) := by
  unfold Dev.qwDone
  exact h.wr

protected theorem writeQueue {q x v : ℕ} (h : Kept o a d) : Kept o a (d.writeQueue q x v).2 := by
  unfold Dev.writeQueue
  exact Kept.ite_snd h (Kept.ite_snd h h.setQ)

protected theorem writeNode {c v t : ℕ} (h : Kept o a d) : Kept o a (d.writeNode c v t).2 := by
  unfold Dev.writeNode
  exact Kept.ite_snd h h.setNode

protected theorem writePolicer {x v t : ℕ} (h : Kept o a d) : Kept o a (d.writePolicer x v t).2 := by
  unfold Dev.writePolicer
  exact Kept.ite_snd h h.setPolicer

protected theorem effQueueCmd {n t : ℕ} : Eff.Keeps o (effQueueCmd n t) := by
  unfold effQueueCmd
  intro _ _ _ _ h
  exact Kept.ite_snd h.qwDone (Kept.ite_snd h.qwDone (by split; exacts [h.putWords.qwDone, ((Kept.ite_snd h.writeQueue (Kept.ite_snd
    h.writeNode h.writePolicer)).qwDone), h.putWords.qwDone, h.emptyQueue.qwDone]))

protected theorem effBlocks {c : Cls} {n t i j : ℕ} : Eff.Keeps o (effBlocks c n t i j) := by
  unfold effBlocks
  split
  · exact .ite Kept.effMigrate (.ite Kept.effLock (.ite Kept.effUnlock (.ite Kept.effCauseClear (.ite Kept.effCauseEnable (.ite
      Kept.effPlumbEnable (.ite Kept.effPlumbSet Kept.store))))))
  · exact .ite Kept.effTableCmd Kept.store
  · exact .ite Kept.effLearnPop Kept.store
  · exact .ite Kept.effCauseClear (.ite Kept.effCauseEnable (.ite Kept.effPuntPool (.ite Kept.effPoolSize (.ite Kept.effPoolOwner
      Kept.store))))
  · exact .ite Kept.effPortShape Kept.store
  · exact .ite Kept.effGateEnable (.ite (fun _ _ _ _ h => h.wr.gateSync) (.ite Kept.effTarget (.ite Kept.effConfigChange (.ite
      Kept.effConfigCancel Kept.store))))
  · exact .ite Kept.store Kept.effSampler
  · exact .ite Kept.effSwap (.ite Kept.effHotEdit (.ite Kept.effBank (.ite Kept.effBgBase (.ite Kept.effBgWaitClear (.ite
      Kept.effCauseClear (.ite Kept.effCauseEnable Kept.effCalStore))))))
  · exact Kept.effStackEnable
  · exact .ite Kept.effQueueCmd Kept.store
  · exact Kept.store

protected theorem refuseJump (h : Kept o a d) : Kept o a d.refuseJump.2 := by
  unfold Dev.refuseJump
  exact .pair h.count.raise

protected theorem postStep {sub : ℕ} {offset : ℤ} {r : Role} (h : Kept o a d) : Kept o a (d.postStep sub offset r) := by
  unfold Dev.postStep
  exact (h.same rfl).startPend

protected theorem effStep : Eff.Keeps o effStep := by
  unfold effStep
  intro _ _ _ _ h
  exact Kept.ite_snd h (Kept.ite_snd h.refuseJump h.postStep)

protected theorem effTimeSet : Eff.Keeps o effTimeSet := by
  unfold effTimeSet
  intro _ _ _ _ h
  exact Kept.ite_snd h (Kept.ite_snd h.refuseJump h.postStep)

protected theorem effClk10m : Eff.Keeps o effClk10m := by
  unfold effClk10m
  intro _ _ _ _ h
  exact (h.same rfl).wr

protected theorem setComp {k : ℕ} {c : Comp} (h : Kept o a d) : Kept o a (d.setComp k c) := by
  unfold Dev.setComp
  exact h.same rfl

protected theorem driveGpio {i : ℕ} (h : Kept o a d) : Kept o a (d.driveGpio i) := by
  unfold Dev.driveGpio
  split
  exacts [h.emit, h]

protected theorem setGpio {i f o' : ℕ} (h : Kept o a d) : Kept o a (d.setGpio i f o') := by
  unfold Dev.setGpio
  exact h.wr.wr.driveGpio

protected theorem releaseComp {k : ℕ} (h : Kept o a d) : Kept o a (d.releaseComp k) := by
  unfold Dev.releaseComp
  exact ((h.setComp.when (fun _ hy => hy.emit)).when (fun _ hy => hy.setGpio)).wr

protected theorem effFunction {k : ℕ} : Eff.Keeps o (effFunction k) := by
  unfold effFunction
  intro _ _ _ _ h
  exact Kept.ite_snd h.releaseComp (Kept.ite_snd h (Kept.ite_snd h (Kept.ite_snd h (Kept.ite_snd h (Kept.ite_snd h (h.setComp.wr.when
    (fun _ hy => hy.setGpio)))))))

protected theorem effComparator {k j : ℕ} : Eff.Keeps o (effComparator k j) := by
  unfold effComparator
  intro _ _ _ _ h
  exact Kept.ite_snd h (Kept.ite_snd h h.wr)

protected theorem effAuditEnable : Eff.Keeps o effAuditEnable := by
  unfold effAuditEnable
  intro _ _ _ _ h
  exact (h.same rfl).wr

protected theorem effReportPop : Eff.Keeps o effReportPop := by
  unfold effReportPop
  intro _ _ _ _ h
  dsimp only
  split
  exacts [h.wr, ((h.same rfl).wr).wr]

protected theorem effRebase : Eff.Keeps o effRebase := by
  unfold effRebase
  intro _ _ _ _ h
  exact Kept.ite_snd h ((h.same rfl).wr)

protected theorem effCheckpoint : Eff.Keeps o effCheckpoint := by
  unfold effCheckpoint
  intro _ _ _ _ h
  exact Kept.ite_snd h (Kept.ite_snd h (Kept.ite_snd h ((h.same rfl).wr)))

protected theorem effSelect {w t : ℕ} : Eff.Keeps o (effSelect w t) := by
  unfold effSelect
  intro _ _ _ _ h
  exact Kept.ite_snd h (Kept.ite_snd h ((h.wr.wr.foldl (fun _ _ hx => hx.wr)).same rfl))

protected theorem effClearMask {w : ℕ} : Eff.Keeps o (effClearMask w) := by
  unfold effClearMask
  intro _ _ _ _ h
  exact Kept.ite_snd h (Kept.ite_snd h (Kept.ite_snd h (h.foldl (fun _ _ hx => hx.setCtr.ite hx))))

protected theorem perfFresh {b j : ℕ} (h : Kept o a d) : Kept o a (d.perfFresh b j) := by
  unfold Dev.perfFresh
  exact h.draw.wr.ite h

protected theorem effPcEnable {b : ℕ} : Eff.Keeps o (effPcEnable b) := by
  unfold effPcEnable
  intro _ _ _ _ h
  exact (h.foldl (fun _ _ hx => hx.ite hx.perfFresh)).wr

protected theorem effPcClear {b : ℕ} : Eff.Keeps o (effPcClear b) := by
  unfold effPcClear
  intro _ _ _ _ h
  exact h.foldl (fun _ _ hx => hx.wr.ite hx)

protected theorem effPcSaturatedClear {b : ℕ} : Eff.Keeps o (effPcSaturatedClear b) := by
  unfold effPcSaturatedClear
  intro _ _ _ _ h
  exact h.wr

protected theorem effPerfSelect {b j : ℕ} : Eff.Keeps o (effPerfSelect b j) := by
  unfold effPerfSelect
  intro _ _ _ _ h
  exact Kept.ite_snd h (Kept.ite_snd h h.wr)

protected theorem effPerfThreshold {b j : ℕ} : Eff.Keeps o (effPerfThreshold b j) := by
  unfold effPerfThreshold
  intro _ _ _ _ h
  exact Kept.ite_snd h h.wr

protected theorem effMask {g : ℕ} : Eff.Keeps o (effMask g) := by
  unfold effMask
  intro _ _ _ _ h
  exact h.wr.foldl (fun _ _ hx => hx.deliver)

protected theorem effClear {g : ℕ} {again : List ℕ} : Eff.Keeps o (effClear g again) := by
  unfold effClear
  intro _ _ _ _ h
  exact h.wr.foldl (fun _ _ hx => hx.raise)

protected theorem wdRestart {k : ℕ} (h : Kept o a d) : Kept o a (d.wdRestart k) := by
  unfold Dev.wdRestart
  exact h.same rfl

protected theorem effWdEnable : Eff.Keeps o effWdEnable := by
  unfold effWdEnable
  intro _ _ _ _ h
  exact h.wr.foldl (fun _ _ hx => hx.wdRestart)

protected theorem effKick : Eff.Keeps o effKick := by
  unfold effKick
  intro _ _ _ _ h
  exact Kept.ite_snd h h.wdRestart

protected theorem fence {s : ℕ} (h : Kept o a d) : Kept o a (d.fence s) := by
  unfold Dev.fence
  exact (h.same rfl).tracking (fun _ hy => hy.wr.count.raise)

protected theorem effFence {s : ℕ} : Eff.Keeps o (effFence s) := by
  unfold effFence
  intro _ _ _ _ h
  exact Kept.ite_snd h (Kept.ite_snd h h.wrBit.fence)

protected theorem effFaultClear {s : ℕ} : Eff.Keeps o (effFaultClear s) := by
  unfold effFaultClear
  intro _ _ _ _ h
  exact h.wr

protected theorem setGen {q : ℕ} {x : ℕ × Bool} (h : Kept o a d) : Kept o a (d.setGen q x) := by
  unfold Dev.setGen
  exact h.same rfl

protected theorem effTgStart {q : ℕ} : Eff.Keeps o (effTgStart q) := by
  unfold effTgStart
  intro _ _ _ _ h
  exact Kept.ite_snd h (Kept.ite_snd h h.setGen.wr.settleAsks)

protected theorem genEnd {q : ℕ} (h : Kept o a d) : Kept o a (d.genEnd q) := by
  unfold Dev.genEnd
  exact h.ite h.wr

protected theorem effTgStop {q : ℕ} : Eff.Keeps o (effTgStop q) := by
  unfold effTgStop
  intro _ _ _ _ h
  exact h.setGen.genEnd.settleAsks

protected theorem effGenerator {q j : ℕ} : Eff.Keeps o (effGenerator q j) := by
  unfold effGenerator
  intro _ _ _ _ h
  exact Kept.ite_snd h (Kept.ite_snd h h.wr)

protected theorem sliceFault {s b : ℕ} {inj : Bool} (h : Kept o a d) : Kept o a (d.sliceFault s b inj) := by
  unfold Dev.sliceFault
  exact h.ite ((h.wrBit.when (fun _ hy => hy.wrBit)).ite (((h.wrBit.when (fun _ hy => hy.wrBit)).fence).ite ((h.wrBit.when (fun _ hy =>
    hy.wrBit)).raise)))

protected theorem loseLane {l : ℕ} (h : Kept o a d) : Kept o a (d.loseLane l) := by
  unfold Dev.loseLane
  dsimp only
  split
  exacts [h.restartLane.setSide.unalign.evalSide, h.restartLane]

protected theorem injLos {l us t : ℕ} (h : Kept o a d) : Kept o a (d.injLos l us t) := by
  unfold Dev.injLos
  exact ((h.same rfl).loseLane).ite (((h.same rfl).setLaneState).ite (h.same rfl))

protected theorem pulseOverflow {b : ℕ} (h : Kept o a d) : Kept o a (d.pulseOverflow b) := by
  unfold Dev.pulseOverflow
  exact h.setOverflow.setCrossing

protected theorem leaseEnds {k : ℕ} (h : Kept o a d) : Kept o a (d.leaseEnds k) := by
  unfold Dev.leaseEnds
  exact h.ite ((h.unlock.cause.same rfl).foldl (fun _ _ hx => hx.dmaEnd))

protected theorem cancelCores {cores : List ℕ} {p : ℕ} {x : Bool × Dev} (h : Kept o a x.2) : Kept o a (Dev.cancelCores cores p x).2 := by
  unfold Dev.cancelCores
  exact (h.setPl.ite h).endJobs

protected theorem cancelAll {cores : List ℕ} (h : Kept o a d) : Kept o a (d.cancelAll cores).2 := by
  unfold Dev.cancelAll
  exact h.foldl_snd fun _ _ hx => hx.cancelCores

protected theorem wdExpires {k t : ℕ} (h : Kept o a d) : Kept o a (d.wdExpires k t) := by
  unfold Dev.wdExpires
  exact h.ite ((((((h.same rfl).count).wr).raise).cancelAll).raise)

protected theorem logTamper {e : ℕ} (h : Kept o a d) : Kept o a (d.logTamper e) := by
  unfold Dev.logTamper
  exact ((h.same rfl).wr).when (fun _ hy => hy.raise)

protected theorem zeroiseBackup {c : ℕ} (h : Kept o a d) : Kept o a (d.zeroiseBackup c) := by
  unfold Dev.zeroiseBackup
  exact (((((h.same rfl).foldl (fun _ _ hx => hx.wr)).setVault).wr).wr).count

protected theorem quiesce (h : Kept o a d) : Kept o a d.quiesce := by
  unfold Dev.quiesce
  exact h.ite ((h.tracking (fun _ hy => hy.wrBit)).foldl (fun _ _ hx => hx.emptyQueue))

protected theorem stopPll {k : ℕ} (h : Kept o a d) : Kept o a (d.stopPll k) := by
  unfold Dev.stopPll
  exact h.wr.ite (h.wr.ite h)

protected theorem canStby {k : ℕ} (h : Kept o a d) : Kept o a (d.canStby k) := by
  unfold Dev.canStby
  exact h.when (fun _ hy => hy.driveGpio)

protected theorem reach {k st : ℕ} (h : Kept o a d) : Kept o a (d.reach k st) := by
  unfold Dev.reach
  exact ((h.setPower.count.wr.same rfl).when (fun _ hy => hy.raise)).canStby

protected theorem setPuntQ {q : ℕ} {l : List Punt} (h : Kept o a d) : Kept o a (d.setPuntQ q l) := by
  unfold Dev.setPuntQ
  exact h.same rfl

protected theorem takeCells {q p c : ℕ} (h : Kept o a d) : Kept o a (d.takeCells q p c) := by
  unfold Dev.takeCells
  exact h.wr.wr

protected theorem puntCells {q p up down : ℕ} (h : Kept o a d) : Kept o a (d.puntCells q p up down) := by
  unfold Dev.puntCells
  exact h.wr.takeCells.giveCells

protected theorem emptyQuad {q : ℕ} (h : Kept o a d) : Kept o a (d.emptyQuad q) := by
  unfold Dev.emptyQuad
  exact ((h.foldl (fun _ _ hx => hx.emptyQueue)).foldl (fun _ _ hx => (hx.puntCells.when (fun _ hy => hy.dropped)))).setPuntQ

protected theorem bookSlice {s reason : ℕ} (h : Kept o a d) : Kept o a (d.bookSlice s reason) := by
  unfold Dev.bookSlice
  extract_lets mine d0 staged bg d1 d2 own d3
  have h0 : Kept o a d0 := h.foldl fun _ _ hx => hx.frameEnd
  have h1 : Kept o a d1 := h0.foldl fun _ x hx => (hx.when fun _ hy => hy.cnt).withdraw
  have h2 : Kept o a d2 := h1.foldl fun _ _ hx => hx.drop
  clear_value d2
  have h3 : Kept o a d3 := h2.same rfl
  exact Kept.genEnd (h3.foldl fun _ _ hx => hx.settleDeficits)

protected theorem setDeep {x : ℕ} {l : List (Frame × Bool)} (h : Kept o a d) : Kept o a (d.setDeep x l) := by
  unfold Dev.setDeep
  exact h.dropSpilled.foldl (fun _ _ hx => hx.drop)

protected theorem loseQueuePages {s x : ℕ} (h : Kept o a d) : Kept o a (d.loseQueuePages s x) := by
  unfold Dev.loseQueuePages
  exact h.freePages.cntBy.setQ.setDeep

protected theorem losePages {s : ℕ} (h : Kept o a d) : Kept o a (d.losePages s) := by
  unfold Dev.losePages
  exact (h.foldl (fun _ _ hx => hx.loseQueuePages)).when (fun _ hy => hy.raise)

protected theorem loseStack {s : ℕ} (h : Kept o a d) : Kept o a (d.loseStack s) :=
  let h1 := (h.losePages (s := s)).wr.syncStacks
  { h1 with counters := fun w => Tbl.wf_filter _ _ _ (h1.counters w) }

protected theorem loseSlice {s : ℕ} (h : Kept o a d) : Kept o a (d.loseSlice s) := by
  unfold Dev.loseSlice
  have h1 := h.bookSlice (s := s) (reason := dropCrossingReset)
  generalize d.bookSlice s dropCrossingReset = d1 at h1
  exact Kept.tracking (h1.same rfl) fun _ hy => hy.wr

protected theorem loseLanes {g : ℕ} (h : Kept o a d) : Kept o a (d.loseLanes g) :=
  { h with lanes := fun w => Tbl.wf_filter _ _ _ (h.lanes w), sides := fun w => Tbl.wf_filter _ _ _ (h.sides w) }

protected theorem loseTables {q : ℕ} (h : Kept o a d) : Kept o a (d.loseTables q) := by
  unfold Dev.loseTables
  extract_lets d1 d2 slotIn
  have h2 : Kept o a d2 := h.endJobs.clearCache.unschedule
  clear_value d2
  refine ⟨h2.dict, fun w => ?_, fun w => ?_, h2.queues, h2.counters, fun w => ?_, h2.carriers, h2.lanes, h2.sides, h2.ports⟩
  · exact Tbl.wf_filter _ _ _ (h2.slots w)
  · exact Tbl.wf_filter _ _ _ (h2.chans w)
  · exact Tbl.wf_filter _ _ _ (h2.sas w)

protected theorem failWait {a' : ℕ} {w : AccessWait} (h : Kept false a d) : Kept false a (d.failWait a' w) := by
  unfold Dev.failWait
  split
  exacts [h.lastAbort.dapReply, h.respond.ite ((h.respond.sameTables rfl).sameTables rfl)]

protected theorem endLinkWaits {q a' : ℕ} (h : Kept false a d) : Kept false a (d.endLinkWaits q a') := by
  unfold Dev.endLinkWaits
  exact (h.same rfl).foldl (fun _ _ hx => hx.failWait)

protected theorem loseCounters {q : ℕ} (h : Kept o a d) : Kept o a (d.loseCounters q) :=
  { h with counters := fun w => Tbl.wf_filter _ _ _ (h.counters w) }

protected theorem loseBuffer {q : ℕ} (h : Kept false a d) : Kept false a (d.loseBuffer q) := by
  unfold Dev.loseBuffer
  extract_lets d0 d1 side
  have h1 : Kept false a d1 := h.emptyQuad.loseCounters.endLinkWaits.unschedule
  exact Kept.wr (Kept.wr { h1 with queues := fun w => Tbl.wf_filter _ _ _ (h1.queues w) })

protected theorem loseCluster (h : Kept o a d) : Kept o a d.loseCluster := by
  unfold Dev.loseCluster
  exact ((h.same rfl).foldl (fun _ _ hx => hx.endJobs)).foldl (fun _ _ hx => hx.mkaStarts.ite hx)

protected theorem loseEndpoint (h : Kept false a d) : Kept false a d.loseEndpoint := by
  unfold Dev.loseEndpoint
  exact (h.sameTables rfl).wr

protected theorem loseSessions (h : Kept false a d) : Kept false a d.loseSessions := by
  unfold Dev.loseSessions
  exact h.sameTables rfl

protected theorem syncGates (h : Kept o a d) : Kept o a d.syncGates :=
  { h with dict := fun w => Tbl.wf_filter _ _ _ (h.dict w) }

protected theorem loseTime (h : Kept o a d) : Kept o a d.loseTime := by
  unfold Dev.loseTime
  exact (h.foldl (fun _ _ hx => hx.releaseComp)).same rfl

protected theorem failWake {a' : ℕ} {w : AccessWait} (h : Kept false a d) : Kept false a (d.failWake a' w) := by
  unfold Dev.failWake
  exact ((h.same rfl).foldl (fun _ _ hx => hx.dapReply)).failWait

protected theorem defaultsOf {k : ℕ} (h : Kept false a d) : Kept false a (d.defaultsOf k) := by
  unfold Dev.defaultsOf
  exact (((h.same rfl).foldl (fun _ _ hx => hx.failWake)).foldl (fun _ _ hx => hx.endPend)).defaults

protected theorem loseDomain {k : ℕ} (h : Kept false a d) : Kept false a (d.loseDomain k) := by
  unfold Dev.loseDomain
  exact ((h.loseSlice.ite (h.loseLanes.ite (h.loseTables.ite h.loseBuffer))).ite (h.loseCluster.ite (h.loseEndpoint.ite
    (h.loseSessions.ite (h.loseTime.syncGates.ite h))))).defaultsOf

protected theorem lawsLost {k : ℕ} (h : Kept o a d) : Kept o a (d.lawsLost k) := by
  unfold Dev.lawsLost
  exact h.when (fun _ hy => hy.condition)

protected theorem passOff {k : ℕ} (h : Kept false a d) : Kept false a (d.passOff k) := by
  unfold Dev.passOff
  exact ((((((h.crossReset.ite (h.crossReset.ite (h.crossReset.ite h))).emptyQuad).ite (((h.crossReset.ite (h.crossReset.ite
    (h.crossReset.ite h))).bookSlice).ite (((h.crossReset.ite (h.crossReset.ite (h.crossReset.ite h))).loseStack).ite (h.crossReset.ite
    (h.crossReset.ite (h.crossReset.ite h)))))).foldl (fun _ _ hx => hx.portOff)).lawsLost).loseDomain).restoreCredits

protected theorem forceOff {k : ℕ} (h : Kept false a d) : Kept false a (d.forceOff k) := by
  unfold Dev.forceOff
  exact h.ite ((((h.ite h.passOff).reach).stopPll).same rfl)

protected theorem holdReset (h : Kept false a d) : Kept false a d.holdReset := by
  unfold Dev.holdReset
  exact h.ite (h.wrBit.foldl (fun _ _ hx => hx.forceOff))

protected theorem fire {l : List ℕ} {edge inj zero : Bool} (h : Kept false a d) : Kept false a (d.fire l edge inj zero) := by
  unfold Dev.fire
  exact (((((((h.foldl (fun _ _ hx => hx.wrBit.wrBit.logTamper)).when (fun _ hy => hy.zeroise.ite hy.zeroiseBackup)).when (fun _ hy =>
    hy.quiesce)).when (fun _ hy => hy.holdReset)).when (fun _ hy => hy.wrBit)).foldl (fun _ _ hx => hx.raise)).wr).same rfl

protected theorem ticksNow (h : Kept o a d) : Kept o a d.ticksNow := by
  unfold Dev.ticksNow
  exact h.draw.wr

protected theorem injTamper {i : ℕ} (h : Kept false a d) : Kept false a (d.injTamper i) := by
  unfold Dev.injTamper
  exact (h.ticksNow.when (fun _ hy => hy.wr)).fire

protected theorem injAct {p inst arg t : ℕ} (h : Kept false a d) : Kept false a (d.injAct p inst arg t) := by
  unfold Dev.injAct
  split
  · exact h.sliceFault
  · exact h.injLos
  · exact h.threshold
  · exact h.pulseOverflow
  · exact h.leaseEnds
  · exact h.refuseJump
  · exact h.wdExpires
  · exact h.injTamper

protected theorem effInjFire {t : ℕ} : Eff.Keeps false (effInjFire t) := by
  unfold effInjFire
  intro _ _ _ _ h
  exact Kept.ite_snd h (Kept.ite_snd h (Kept.ite_snd h (Kept.ite_snd h (Kept.ite_snd h.wr.injAct.injCount.wr ((h.wr.same rfl).wr)))))

protected theorem effInjCancel : Eff.Keeps o effInjCancel := by
  unfold effInjCancel
  intro _ _ _ _ h
  exact Kept.ite_snd ((h.same rfl).wr) h

protected theorem effArm : Eff.Keeps o effArm := by
  unfold effArm
  intro _ _ _ _ h
  exact h.wr.when (fun _ hy => hy.raise)

protected theorem effGpioFunc {i : ℕ} : Eff.Keeps o (effGpioFunc i) := by
  unfold effGpioFunc
  intro _ _ _ _ h
  exact Kept.ite_snd h (Kept.ite_snd (Kept.ite_snd h h.setGpio) (Kept.ite_snd h h.setGpio))

protected theorem effGpioOut {i : ℕ} : Eff.Keeps o (effGpioOut i) := by
  unfold effGpioOut
  intro _ _ _ _ h
  exact h.wr.when (fun _ hy => hy.driveGpio)

protected theorem effPpsPlace : Eff.Keeps o effPpsPlace := by
  unfold effPpsPlace
  intro _ _ _ _ h
  exact Kept.ite_snd h (Kept.ite_snd (Kept.ite_snd h h.wr.setGpio.emit) (h.wr.when (fun _ hy => hy.setGpio)))

protected theorem effUnits {c : Cls} {n t i j : ℕ} : Eff.Keeps false (effUnits c n t i j) := by
  unfold effUnits
  split
  · exact .ite Kept.effStep (.ite Kept.effTimeSet (.ite Kept.effClk10m Kept.store))
  · exact .ite Kept.effFunction Kept.effComparator
  · exact .ite Kept.effAuditEnable (.ite Kept.effReportPop (.ite Kept.effRebase (.ite Kept.effCheckpoint (.ite Kept.effReclaim
      Kept.store))))
  · exact .ite Kept.effSelect Kept.effClearMask
  · exact .ite Kept.effPcEnable (.ite Kept.effPcClear (.ite Kept.effPcSaturatedClear (.ite Kept.effPerfSelect Kept.effPerfThreshold)))
  · exact .ite Kept.effMask (.ite Kept.effClear Kept.store)
  · exact .ite Kept.effWdEnable (.ite Kept.effKick Kept.store)
  · exact .ite Kept.effFence (.ite Kept.effUnfence (.ite Kept.effFaultClear Kept.store))
  · exact .ite Kept.effTgStart (.ite Kept.effTgStop Kept.effGenerator)
  · exact .ite Kept.effInjFire (.ite Kept.effInjCancel (.ite Kept.effArm Kept.store))
  · exact .ite Kept.effGpioFunc (.ite Kept.effGpioOut Kept.store)
  · exact Kept.effPpsPlace
  · exact Kept.store

protected theorem effBehaviour : Eff.Keeps o effBehaviour := by
  unfold effBehaviour
  intro _ _ _ _ h
  exact Kept.ite_snd h (Kept.ite_snd h h.wr)

protected theorem loadKeys (h : Kept o a d) : Kept o a d.loadKeys := by
  unfold Dev.loadKeys
  exact ((((h.draw.draw.same rfl).wr).wr).setSlotKey).wr

protected theorem startPll {p : ℕ} (h : Kept o a d) : Kept o a (d.startPll p) := by
  unfold Dev.startPll
  exact (h.wr.same rfl).ite h

protected theorem leaveOff {k : ℕ} (h : Kept o a d) : Kept o a (d.leaveOff k) := by
  unfold Dev.leaveOff
  exact h.setPower.startPll.same rfl

protected theorem leaveOn {k : ℕ} (h : Kept false a d) : Kept false a (d.leaveOn k) := by
  unfold Dev.leaveOn
  exact h.setPower.loseStack.ite (h.setPower.loseSessions.canStby.ite h.setPower)

protected theorem actDomain {k : ℕ} (h : Kept false a d) : Kept false a (d.actDomain k) := by
  unfold Dev.actDomain
  exact h.ite (((h.warmUp.ite h).ite (h.ite h.leaveOff)).ite (((h.warmUp.ite h).ite h.warmUp).ite ((h.ite h.leaveOn).ite (h.setPower.ite
    h))))

protected theorem settle (h : Kept false a d) : Kept false a d.settle := by
  unfold Dev.settle
  exact h.foldl (fun _ _ hx => hx.actDomain)

protected theorem flashRead {c : ℕ} (h : Kept o a d) : Kept o a (d.flashRead c) := by
  unfold Dev.flashRead
  exact (h.when (fun _ hy => hy.emit)).emit

protected theorem setBoot {v : ℕ} (h : Kept o a d) : Kept o a (d.setBoot v) := by
  unfold Dev.setBoot
  exact h.wr

protected theorem attempt {st : ℕ} (h : Kept o a d) : Kept o a (d.attempt st) := by
  unfold Dev.attempt
  exact (h.same rfl).setBoot

protected theorem fetch {st : ℕ} (h : Kept o a d) : Kept o a (d.fetch st) := by
  unfold Dev.fetch
  exact h.attempt.when (fun _ hy => hy.flashRead)

protected theorem bootStop {code : ℕ} (h : Kept o a d) : Kept o a (d.bootStop code) := by
  unfold Dev.bootStop
  exact (((h.same rfl).wr).raise).setBoot

protected theorem letGo {compat : Bool} {src : ℕ} (h : Kept false a d) : Kept false a (d.letGo compat src) := by
  unfold Dev.letGo
  exact (((((((h.same rfl).same rfl).ite ((h.same rfl).loadKeys)).emit).fetch).settle).when (fun _ hy => hy.raise)).when (fun _ hy =>
    hy.bootStop)

protected theorem xtalStatus (h : Kept o a d) : Kept o a d.xtalStatus := by
  unfold Dev.xtalStatus
  exact h.wr

/-- The sparse tables but the registers are empty after a keystone reset, and what it keeps of the registers was canonical (R493). -/
protected theorem wipe (h : Kept o a d) : Kept false a d.wipe := by
  unfold Dev.wipe
  refine Kept.foldl (Kept.xtalStatus (Kept.wr (Kept.foldl ?_ fun _ _ hx => hx.setPower))) fun _ _ hx => hx.syncPairLf
  exact ⟨(h.defaults (p := fun i j => !keptAcross i j)).dict, fun _ => rfl, fun _ => rfl, fun _ => rfl, fun _ => rfl, fun _ => rfl,
    fun _ => rfl, fun _ => rfl, fun _ => rfl, nofun⟩

protected theorem keystoneReset {cause hold : ℕ} (h : Kept false a d) : Kept false a (d.keystoneReset cause hold) := by
  unfold Dev.keystoneReset
  exact h.ite ((h.same rfl).ite ((((h.same rfl).wipe).wr).count))

protected theorem effSoftReset {compat : Bool} {src : ℕ} : Eff.Keeps false (effSoftReset compat src) := by
  intro _ _ _ _ h
  unfold effSoftReset
  exact .ite_snd h (.pair h.keystoneReset.letGo.raise)

protected theorem initOn {k : ℕ} (h : Kept o a d) : Kept o a (d.initOn k) := by
  unfold Dev.initOn
  exact h.wr.ite (h.wr.ite (h.wr.ite h))

protected theorem effDomainReset : Eff.Keeps false effDomainReset := by
  unfold effDomainReset
  intro _ _ _ _ h
  exact Kept.ite_snd h (Kept.ite_snd h ((h.passOff.same rfl).initOn))

protected theorem effSvnAdvance : Eff.Keeps o effSvnAdvance := by
  unfold effSvnAdvance
  intro _ _ _ _ h
  exact Kept.ite_snd h h.wr

protected theorem effKeyRevoke : Eff.Keeps o effKeyRevoke := by
  unfold effKeyRevoke
  intro _ _ _ _ h
  exact Kept.ite_snd h (Kept.ite_snd h h.wr)

protected theorem effPulseClear : Eff.Keeps o effPulseClear := by
  unfold effPulseClear
  intro _ _ _ _ h
  exact h.wr

protected theorem effPowerReq {k : ℕ} : Eff.Keeps false (effPowerReq k) := by
  intro _ _ _ _ h
  unfold effPowerReq
  refine .ite_snd h (.ite_snd h (.ite_snd h (.ite_snd h (.ite_snd h (.ite_snd h (.pair ?_))))))
  exact (h.wr.setPower.ite h.wr).settle

protected theorem effProtSeal : Eff.Keeps o effProtSeal := by
  unfold effProtSeal
  intro _ _ _ _ h
  exact ((((h.same rfl).wr).raise).setBoot).when (fun _ hy => hy.driveGpio)

protected theorem effRegion {r j : ℕ} : Eff.Keeps o (effRegion r j) := by
  unfold effRegion
  intro _ _ _ _ h
  exact Kept.ite_snd h (Kept.ite_snd h (Kept.ite_snd h h.wr))

protected theorem closeSession {id : ℕ} (h : Kept false a d) : Kept false a (d.closeSession id) := by
  unfold Dev.closeSession
  exact h.sameTables rfl

protected theorem effSessionClose : Eff.Keeps false effSessionClose := by
  unfold effSessionClose
  intro _ _ _ _ h
  exact Kept.ite_snd h.closeSession h

protected theorem effAuthSlot {i j : ℕ} : Eff.Keeps o (effAuthSlot i j) := by
  unfold effAuthSlot
  intro _ _ _ _ h
  exact Kept.ite_snd h h.wr

protected theorem effStickyClear : Eff.Keeps o effStickyClear := by
  unfold effStickyClear
  intro _ _ _ _ h
  exact Kept.ite_snd h h.wr

protected theorem retrainSide {s : ℕ} (h : Kept o a d) : Kept o a (d.retrainSide s) := by
  unfold Dev.retrainSide
  exact h.ite ((((h.foldl (fun _ _ hx => hx.restartLane)).setSide).unalign).evalSide)

protected theorem retrain {n : ℕ} (h : Kept o a d) : Kept o a (d.retrain n) := by
  unfold Dev.retrain
  exact h.retrainSide.retrainSide

protected theorem effResponseClear : Eff.Keeps false effResponseClear := by
  unfold effResponseClear
  intro _ _ _ _ h
  exact Kept.ite_snd h (((((h.tracking (fun _ hy => hy.wr)).foldl (fun _ _ hx => hx.retrain)).ite (h.tracking (fun _ hy =>
    hy.wr))).settle).ite (((h.tracking (fun _ hy => hy.wr)).foldl (fun _ _ hx => hx.retrain)).ite (h.tracking (fun _ hy => hy.wr))))

protected theorem effLogPop : Eff.Keeps o effLogPop := by
  unfold effLogPop
  intro _ _ _ _ h
  dsimp only
  split
  exacts [h.wr, ((h.same rfl).wr).wr]

protected theorem setSrc {i : ℕ} {x : Src} (h : Kept o a d) : Kept o a (d.setSrc i x) := by
  unfold Dev.setSrc
  exact h.same rfl

protected theorem effFuseBlow {i : ℕ} : Eff.Keeps o (effFuseBlow i) := by
  unfold effFuseBlow
  intro _ _ _ _ h
  exact Kept.ite_snd h (Kept.ite_snd h h.wrBit.setSrc)

protected theorem alarmEnd {i : ℕ} (h : Kept o a d) : Kept o a (d.alarmEnd i) := by
  unfold Dev.alarmEnd
  exact h.wrBit

protected theorem effSource {i j : ℕ} : Eff.Keeps o (effSource i j) := by
  unfold effSource
  intro _ _ _ _ h
  exact (h.wr.when (fun _ hy => hy.alarmEnd)).when (fun _ hy => hy.setSrc)

protected theorem effKeystone {c : Cls} {n i j : ℕ} : Eff.Keeps false (effKeystone c n i j) := by
  unfold effKeystone
  split
  · exact Kept.effBehaviour
  · exact .ite (fun _ _ _ _ h => Kept.effSoftReset _ _ _ _ h.draw) Kept.effDomainReset
  · exact .ite Kept.effSvnAdvance Kept.effKeyRevoke
  · exact Kept.effPulseClear
  · exact .ite Kept.effPowerReq Kept.store
  · exact .ite Kept.effProtSeal (fun _ _ _ _ h => h.wr)
  · exact Kept.effRegion
  · exact .ite (fun _ _ _ _ h => h) (.ite Kept.effSessionClose Kept.store)
  · exact .ite Kept.effAuthSlot Kept.store
  · exact .ite Kept.effAuthSlot Kept.store
  · exact .ite Kept.effStickyClear (.ite Kept.effResponseClear (.ite Kept.effLogPop Kept.store))
  · exact .ite Kept.effFuseBlow Kept.effSource
  · exact Kept.store

protected theorem effectOf {t i j : ℕ} : Eff.Keeps false (effectOf t i j) := by
  unfold effectOf
  split
  · exact Kept.store
  · exact by split; exacts [Kept.effPorts, Kept.effPorts, Kept.effPorts, Kept.effPorts, Kept.effPorts, Kept.effPorts, Kept.effPorts,
      Kept.effKeys, Kept.effKeys, Kept.effKeys, Kept.effKeys, Kept.effKeys, Kept.effKeys, Kept.effKeys, Kept.effKeys, Kept.effBlocks,
      Kept.effBlocks, Kept.effBlocks, Kept.effBlocks, Kept.effBlocks, Kept.effBlocks, Kept.effBlocks, Kept.effBlocks, Kept.effBlocks,
      Kept.effBlocks, Kept.effUnits, Kept.effUnits, Kept.effUnits, Kept.effUnits, Kept.effUnits, Kept.effUnits, Kept.effUnits,
      Kept.effUnits, Kept.effUnits, Kept.effUnits, Kept.effUnits, Kept.effUnits, Kept.effKeystone]

protected theorem perfClock {n b : ℕ} (h : Kept o a d) : Kept o a (d.perfClock n b) := by
  unfold Dev.perfClock
  exact h.ite (h.foldl (fun _ _ hx => ((hx.perfAdd (fun _ hy => hy.raise110)).ite hx)))

protected theorem moment {t : ℕ} (h : Kept o a d) : Kept o a (d.at t) := by
  unfold Dev.at
  exact (h.foldl (fun _ _ hx => hx.perfClock)).same rfl

protected theorem setStaging {of : Option ℕ} {l : Tbl (Option Byte)} (h : Kept false a d) : Kept false a (d.setStaging of l) := by
  unfold Dev.setStaging
  exact h.sameTables rfl

protected theorem noted {i j a' : ℕ} (h : Kept false a d) : Kept false a (d.noted i j a') := by
  unfold Dev.noted
  exact h.sameTables rfl

protected theorem stage {i j b : ℕ} {ty : Ty} {m : Bytes} {t : ℕ} (h : Kept false a d) : Kept false a (d.stage i j b ty m t) := by
  unfold Dev.stage
  exact Kept.ite (by dsimp only; split; exacts [h.setStaging.respond, (h.setStaging.write Kept.effectOf)]) h.setStaging

protected theorem bar0Write {off len v t : ℕ} (h : Kept false a d) : Kept false a (d.bar0Write off len v t) := by
  unfold Dev.bar0Write
  split
  exact h.ite ((((h.ite h.setStaging).respond).ite ((h.ite h.setStaging).noted)).ite (h.ite ((h.ite h.setStaging).ite (by split; exacts
    [(((h.ite h.setStaging).setStaging).write Kept.effectOf), ((h.ite h.setStaging).stage)]))))

protected theorem allOnes {len : ℕ} (h : Kept o a d) : Kept o a (d.allOnes len) := by
  unfold Dev.allOnes
  exact h.same rfl

protected theorem readVal {i j : ℕ} (h : Kept o a d) : Kept o a (d.readVal i j).2 := by
  unfold Dev.readVal
  split
  · exact h
  · exact Kept.ite_snd h (by split; exacts [(Kept.ite_snd (by split; exacts [h, h.draw]) h), (Kept.ite_snd h.ticksNow h), (Kept.ite_snd h
      h.draw), (Kept.ite_snd h.perfFresh h), h, h, h, h, h, h])

protected theorem readObj {p : Path} {i j : ℕ} (h : Kept false a d) : Kept false a (d.readObj p i j) := by
  unfold Dev.readObj
  exact h.accessed.respond.ite h.accessed.readVal.respond

protected theorem capture {i j : ℕ} (h : Kept false a d) : Kept false a (d.capture i j) := by
  unfold Dev.capture
  exact h.readObj.sameTables rfl

protected theorem bar0Now {off len : ℕ} (h : Kept false a d) : Kept false a (d.bar0Now off len) := by
  unfold Dev.bar0Now
  split
  exact (h.capture.ite h).sameTables rfl

protected theorem bar0Read {off len : ℕ} (h : Kept false a d) : Kept false a (d.bar0Read off len) := by
  unfold Dev.bar0Read
  split
  exact h.ite (h.emit.ite (h.allOnes.ite (h.bar0Now.ite (by dsimp only; split; exacts [(h.linkMeets.same rfl), h.linkMeets.bar0Now]))))

protected theorem dmaDrain {t n : ℕ} (h : Kept o a d) : Kept o a (d.dmaDrain t n) := by
  induction n generalizing d with
  | zero => exact h
  | succ n ih =>
    unfold Dev.dmaDrain
    exact (ih h.dmaServe).ite h

protected theorem ringFlush {r : ℕ} (h : Kept o a d) : Kept o a (d.ringFlush r) := by
  unfold Dev.ringFlush
  exact ((h.dmaDrain.ite h).same rfl).ite (((((h.dmaDrain.ite h).same rfl).setRing).when (fun _ hy => hy.emit)).when (fun _ hy =>
    hy.sendMsix))

protected theorem ringWrite {r o' : ℕ} {m : Bytes} (h : Kept o a d) : Kept o a (d.ringWrite r o' m) := by
  unfold Dev.ringWrite
  exact h.setRing.when (fun _ hy => hy.ringFlush)

protected theorem flushPba (h : Kept o a d) : Kept o a d.flushPba := by
  unfold Dev.flushPba
  exact h.ite (h.foldl (fun _ _ hx => (((hx.same rfl).sendMsix).ite hx)))

protected theorem setVector {v w : ℕ} (h : Kept o a d) : Kept o a (d.setVector v w) := by
  unfold Dev.setVector
  exact (h.same rfl).flushPba

protected theorem bar2Store {o' : ℕ} {m : Bytes} (h : Kept o a d) : Kept o a (d.bar2Store o' m) := by
  unfold Dev.bar2Store
  split
  exacts [h.ringWrite, h.setVector.ite h]

protected theorem bar2 {o' len : ℕ} {write : Bool} {v : ℕ} (h : Kept o a d) : Kept o a (d.bar2 o' len write v) := by
  unfold Dev.bar2
  exact h.ite ((h.ite h.allOnes).ite ((h.count.lastAbort.raise.ite h.count.lastAbort.raise.allOnes).ite (h.bar2Store.ite (h.same rfl))))

protected theorem flushWrite {p : ℕ} (h : Kept o a d) : Kept o a (d.flushWrite p) := by
  unfold Dev.flushWrite
  exact h.bar2

protected theorem puntDone {own : Bool} {n : ℕ} {line : Bool} {octets : ℕ} (h : Kept o a d) : Kept o a (d.puntDone own n line octets) :=
    by
  unfold Dev.puntDone
  exact h.ite h.forwarded.cnt

protected theorem puntOut {q p addr size : ℕ} (h : Kept o a d) : Kept o a (d.puntOut q p addr size) := by
  unfold Dev.puntOut
  dsimp only
  split
  · exact h
  · exact h.emit.emit.advanceRing.raise.ite (h.emit.emit.advanceRing.setPuntQ.puntCells.puntDone.ite h.emit.emit.advanceRing.setPuntQ)

protected theorem inject60 {p len port cls flags chan : ℕ} {data : Bytes} {t : ℕ} (h : Kept o a d) : Kept o a (d.inject60 p len port cls
    flags chan data t) := by
  unfold Dev.inject60
  exact h.ite (h.emit.advanceRing.raise.ite h.emit.advanceRing.countFrame.setBg)

protected theorem msixMaskClear {v : Option ℕ} (h : Kept o a d) : Kept o a (d.msixMaskClear v) := by
  unfold Dev.msixMaskClear
  exact h.ite (by split; exacts [((h.same rfl).flushPba), (h.setVector.ite h)])

protected theorem msixEnable {on fmask : Bool} (h : Kept false a d) : Kept false a (d.msixEnable on fmask) := by
  unfold Dev.msixEnable
  exact h.ite ((((h.sameTables rfl).flushPba).foldl (fun _ _ hx => hx.sendMsix.ite hx)).ite ((h.sameTables rfl).flushPba))

protected theorem wholeZero {k : DapAsk} {a' : ℕ} (h : Kept o a d) : Kept o a (d.wholeZero k a') := by
  unfold Dev.wholeZero
  exact h.lastAbort.sendDap

protected theorem cacheRoot {p s k : ℕ} (h : Kept o a d) : Kept o a (d.cacheRoot p s k) := by
  unfold Dev.cacheRoot
  exact h.setPl.syncCached.foldl (fun _ _ hx => hx.syncCached)

protected theorem root {us : List ℕ} {p s : ℕ} {r : ℕ × Dev} (h : Kept o a d) (e : d.root us p s = some r) : Kept o a r.2 := by
  unfold Dev.root at e
  split at e
  · split at e <;> cases e <;> exact h.cacheRoot
  · cases e

protected theorem authFetch {r : Role} {x : ℕ × Dev} (h : Kept o a d) (e : d.authFetch r = some x) : Kept o a x.2 := h.root e

protected theorem authFail {r : Role} (h : Kept o a d) : Kept o a (d.authFail r) := by
  unfold Dev.authFail
  exact h.count.raise

protected theorem whole {key : Bytes} {k : DapAsk} {a' : ℕ} (h : Kept o a d) : Kept o a (d.whole key k a') := by
  unfold Dev.whole
  exact h.lastAbort.sendDap

protected theorem replayed {key : Bytes} {k : DapAsk} (h : Kept o a d) : Kept o a (d.replayed key k) := by
  unfold Dev.replayed
  exact h.whole.count.raise

protected theorem openSession {r : Role} {peer nonce : ℕ} (h : Kept false a d) : Kept false a (d.openSession r peer nonce).2.2 := by
  unfold Dev.openSession
  refine .ite_snd_snd (.triple h.raise) (.ite_snd_snd h (.ite_snd_snd h ?_))
  split
  · exact h
  · next e => exact (h.authFetch e).draw.draw.sameTables rfl

protected theorem dapBase {key : Bytes} {k : DapAsk} (h : Kept false a d) : Kept false a (d.dapBase key k) := by
  unfold Dev.dapBase
  exact ((h.sameTables rfl).whole).ite (((h.sameTables rfl).wholeZero).ite (by split; exacts [(((Kept.ite_snd_snd ((h.sameTables
    rfl).accessed) (((h.sameTables rfl).accessed).openSession)).respond).sendDap), (h.sameTables rfl)]))

protected theorem cancelResponse {sid q : ℕ} (h : Kept o a d) : Kept o a (d.cancelResponse sid q) := by
  unfold Dev.cancelResponse
  exact h.same rfl

protected theorem askMeets {i j n : ℕ} (h : Kept o a d) : Kept o a (d.askMeets i j n) := by
  unfold Dev.askMeets
  exact h.foldl (fun _ _ hx => hx.linkMeets)

protected theorem readEntries {p : Path} {i n j room : ℕ} (h : Kept false a d) : Kept false a (d.readEntries p i n j room).2.2 := by
  induction n generalizing d j room with
  | zero => exact h
  | succ n ih =>
    unfold Dev.readEntries
    exact .ite_snd_snd h (ih h.readObj)

protected theorem entryWaits {k : DapAsk} (h : Kept o a d) : Kept o a (d.entryWaits k) := by
  unfold Dev.entryWaits
  exact h.same rfl

protected theorem writeEntries {k : DapAsk} {i t n j : ℕ} {l : List (ℕ × ℕ × ℕ)} (h : Kept false a d) :
    Kept false a (d.writeEntries k i t n j l).2 := by
  induction l generalizing d n j with
  | nil => exact h
  | cons x l ih =>
    unfold Dev.writeEntries
    extract_lets p x
    have hx : Kept false a x := h.respond.ite (h.doWrite Kept.effectOf)
    exact .ite_snd hx.entryWaits (.ite_snd hx (ih hx))

protected theorem writeBlock {k : DapAsk} {t n : ℕ} (h : Kept false a d) : Kept false a (d.writeBlock k t n).2 := by
  unfold Dev.writeBlock
  exact h.writeEntries

protected theorem dapAct {k : DapAsk} {t : ℕ} (h : Kept false a d) : Kept false a (d.dapAct k t).2 := by
  unfold Dev.dapAct
  dsimp only
  split
  · exact h.readObj
  · exact h.readEntries
  · exact h.writeBlock
  · split
    · have hx : ∀ {p i j ty len v}, Kept false a (d.doWrite (effectOf t i j) p i j ty len v) := h.doWrite Kept.effectOf
      exact .ite_snd (hx.same rfl) hx
    · exact h

protected theorem answerAsk {key : Bytes} {k : DapAsk} {body : Bytes} {before : Dev} (h : Kept o a d) :
    Kept o a (Dev.answerAsk key k body before d) := by
  unfold Dev.answerAsk
  exact h.sendDap.ite (h.same rfl)

protected theorem dapPerform {key : Bytes} {k : DapAsk} {t : ℕ} (h : Kept false a d) : Kept false a (d.dapPerform key k t) := by
  unfold Dev.dapPerform
  refine h.whole.ite (Kept.ite ((h.same rfl).cancelResponse.ite h) ?_)
  extract_lets i j n wait x
  have hx : Kept false a x := h.askMeets
  have hact := hx.dapAct (k := k) (t := t)
  split
  · exact hx.same rfl
  · split
    · next e => rw [e] at hact; exact hact.answerAsk
    · next e => rw [e] at hact; exact hact

protected theorem dapChecked {k : DapAsk} {text mac : Bytes} {t : ℕ} (h : Kept false a d) : Kept false a (d.dapChecked k text mac t) := by
  unfold Dev.dapChecked
  exact Kept.ite (by split; exacts [h.authFail, (h.authFail.ite (h.replayed.ite h.dapBase))]) (by split; exacts [h.wholeZero,
    (h.authFail.ite (h.replayed.ite ((h.sameTables rfl).dapPerform)))])

protected theorem dapIn {r : Role} {peer : ℕ} {m : Bytes} {t : ℕ} (h : Kept false a d) : Kept false a (d.dapIn r peer m t) := by
  unfold Dev.dapIn
  exact h.moment.ite (h.moment.wholeZero.ite h.moment.dapChecked)

protected theorem request {field : Bool} {peer op sid seq : ℕ} {body : Bytes} {t : ℕ} (h : Kept false a d) : Kept false a (d.request
    field peer op sid seq body t) := by
  unfold Dev.request
  exact h.dapIn

protected theorem pendingReply {r : Role} {sid seq : ℕ} (h : Kept o a d) : Kept o a (d.pendingReply r sid seq) := by
  unfold Dev.pendingReply
  dsimp only
  split
  exacts [h, (h.same rfl).dapReply]

protected theorem holdoffEnd {id e : ℕ} (h : Kept o a d) : Kept o a (d.holdoffEnd id e) := by
  unfold Dev.holdoffEnd
  split
  · exact h
  · split
    · exact h.notifyOn.count.holdOn
    · refine h.sameSessions ?_
      rw [List.map_map]
      refine List.map_congr_left fun x _ => ?_
      simp only [Function.comp]
      split <;> rfl
    · exact h

protected theorem datagram {kind dst port peer : ℕ} {data : Bytes} {t : ℕ} (h : Kept false a d) : Kept false a (d.datagram kind dst port
    peer data t) := by
  unfold Dev.datagram
  exact h.ite (h.emit.ite (h.dapIn.ite h))

protected theorem setReasm {x : Option (Bytes × ℕ)} (h : Kept o a d) : Kept o a (d.setReasm x) := by
  unfold Dev.setReasm
  exact h.same rfl

protected theorem segmentTaken {last : Bool} {m : Bytes} {next t : ℕ} (h : Kept false a d) : Kept false a (d.segmentTaken last m next t)
    := by
  unfold Dev.segmentTaken
  exact h.setReasm.dapIn.ite h.setReasm

protected theorem canIn {ident : ℕ} {data : Bytes} {t : ℕ} (h : Kept false a d) : Kept false a (d.canIn ident data t) := by
  unfold Dev.canIn
  exact h.ite ((h.segmentTaken.ite h.setReasm).ite (by split; exacts [h, (h.segmentTaken.ite h.setReasm)]))

protected theorem canState {v : ℕ} {e : Option ℕ} (h : Kept o a d) : Kept o a (d.canState v e) := by
  unfold Dev.canState
  exact h.ite (by dsimp only; split; exacts [h.wr.raise, h.wr])

protected theorem inLaneState {l a' : ℕ} {f : Dev → Dev} (h : Kept o a d) (hf : ∀ y, Kept o a y → Kept o a (f y)) : Kept o a
    (d.inLaneState l a' f) := by
  unfold Dev.inLaneState
  exact (hf _ h).ite h

protected theorem signalDetect {l : ℕ} (h : Kept o a d) : Kept o a (d.signalDetect l) := by
  unfold Dev.signalDetect
  exact h.ite ((h.same rfl).setLaneState)

protected theorem lockLane {l : ℕ} (h : Kept o a d) : Kept o a (d.lockLane l) := by
  unfold Dev.lockLane
  dsimp only
  split
  exacts [h.setLane.setLaneState.evalSide, h.setLane.setLaneState]

protected theorem cdrLock {l : ℕ} (h : Kept o a d) : Kept o a (d.cdrLock l) := by
  unfold Dev.cdrLock
  exact h.lockLane.ite h.setLaneState

protected theorem firstLock {l : ℕ} {want got : Bytes} (h : Kept o a d) : Kept o a (d.firstLock l want got) := by
  unfold Dev.firstLock
  exact h.ite (h.setLane.ite (h.setLane.ite h.setLane.wr))

protected theorem alignSide {s : ℕ} {pos skew : List ℕ} (h : Kept o a d) : Kept o a (d.alignSide s pos skew) := by
  unfold Dev.alignSide
  exact (((h.foldl (fun _ _ hx => hx.wr)).unalign).evalSide).ite (((((((h.foldl (fun _ _ hx =>
    hx.wr)).wr).wr).wr).setSide).syncOof).evalSide)

protected theorem sideAligned {s : ℕ} {nums : List (List ℕ)} {skew : List ℕ} (h : Kept o a d) : Kept o a (d.sideAligned s nums skew) := by
  unfold Dev.sideAligned
  exact h.ite ((h.alignSide.ite h).ite h.alignSide)

protected theorem linkFault {s f : ℕ} (h : Kept o a d) : Kept o a (d.linkFault s f) := by
  unfold Dev.linkFault
  exact h.ite h.setSide.evalSide

protected theorem codeword {l : ℕ} {syms : List ℕ} {ok : Bool} (h : Kept o a d) : Kept o a (d.codeword l syms ok) := by
  unfold Dev.codeword
  split
  · exact h
  · exact h.ite (((h.setLane.ite h).ite ((((h.setLane.ite h).foldl (fun _ _ hx => hx.count)).count).ite ((h.setLane.ite h).count))).ite
      ((((h.setLane.ite h).ite ((((h.setLane.ite h).foldl (fun _ _ hx => hx.count)).count).ite ((h.setLane.ite h).count))).setLane).ite
      (((((((h.setLane.ite h).ite ((((h.setLane.ite h).foldl (fun _ _ hx => hx.count)).count).ite ((h.setLane.ite
      h).count))).setLane).wr).unalign).evalSide).ite ((h.setLane.ite h).ite ((((h.setLane.ite h).foldl (fun _ _ hx =>
      hx.count)).count).ite ((h.setLane.ite h).count))))))

protected theorem prbsBit {l : ℕ} {b : Bool} (h : Kept o a d) : Kept o a (d.prbsBit l b) := by
  unfold Dev.prbsBit
  exact (h.count.count.setLane.wr.ite h.count.count.setLane).ite (h.setLane.wr.ite h.setLane)

protected theorem prbsRun {l : ℕ} {bits : List Bool} (h : Kept o a d) : Kept o a (d.prbsRun l bits) := by
  unfold Dev.prbsRun
  exact h.ite (h.foldl (fun _ _ hx => hx.prbsBit))

protected theorem relockTimeout {l : ℕ} (h : Kept o a d) : Kept o a (d.relockTimeout l) := by
  unfold Dev.relockTimeout
  exact h.setLane.ite h

protected theorem retainExpiry {s : ℕ} (h : Kept o a d) : Kept o a (d.retainExpiry s) := by
  unfold Dev.retainExpiry
  exact (h.foldl (fun _ _ hx => hx.setLane)).ite h

protected theorem received {n : ℕ} {line : Bool} {octets : ℕ} (h : Kept o a d) : Kept o a (d.received n line octets) := by
  unfold Dev.received
  exact h.law.law.cntBy.perf

protected theorem touch {k loc : ℕ} (h : Kept o a d) : Kept o a (d.touch k loc) :=
  { h with slots := fun w => Tbl.wf_set _ _ _ _ (h.slots w) }

protected theorem tcamLook {q key : ℕ} (h : Kept o a d) : Kept o a (d.tcamLook q key).2 := by
  unfold Dev.tcamLook
  extract_lets k r d1 d2
  have h1 : Kept o a d1 := h.tcamSearch.perf
  have h2 : Kept o a d2 := by
    unfold d2
    split
    exacts [h1.touch, h1.perf]
  exact h2

protected theorem exactLook {k key : ℕ} (h : Kept o a d) : Kept o a (d.exactLook k key).2 := by
  unfold Dev.exactLook
  extract_lets r d1 d2
  have h1 : Kept o a d1 := h.search.perf
  have h2 : Kept o a d2 := by
    unfold d2
    split
    exacts [h1.touch, h1.perf]
  exact h2

protected theorem classifyEgress {n : ℕ} {b : Bytes} (h : Kept o a d) : Kept o a (d.classifyEgress n b).2 := by
  unfold Dev.classifyEgress
  exact Kept.ite_snd h.tcamLook h.tcamLook.exactLook

protected theorem overLong {f : Frame} (h : Kept o a d) : Kept o a (d.overLong f) := by
  unfold Dev.overLong
  exact h.overSdu.cause

protected theorem punted {f : Frame} {g : Dev → Dev} (h : Kept o a d) (hg : ∀ y, Kept o a y → Kept o a (g y)) : Kept o a (d.punted f g)
    := by
  unfold Dev.punted
  exact h.overLong.ite (hg _ h)

protected theorem police {x t : ℕ} (h : Kept o a d) : Kept o a (d.police x t).2 := by
  unfold Dev.police
  refine .ite_snd (.pair h.cnt) (.ite_snd (.pair h.setPolicer.cnt.cause) (.ite_snd ?_ ?_))
  exacts [.pair h.setPolicer.cnt, .pair h.setPolicer.cnt]

protected theorem puntFirm {reason channel ts : ℕ} {f : Frame} (h : Kept o a d) : Kept o a (d.puntFirm reason channel ts f) := by
  unfold Dev.puntFirm
  exact ((h.same rfl).emit).puntDone

protected theorem puntTo {ring reason channel ts : ℕ} {f : Frame} (h : Kept o a d) : Kept o a (d.puntTo ring reason channel ts f) := by
  unfold Dev.puntTo
  exact h.drop.ite (h.puntCells.setPuntQ.ite (((h.drop.when (fun _ hy => hy.cause)).cause).raise))

protected theorem puntRule {res : ℕ} {cc : Bool} {ts t : ℕ} {f : Frame} (h : Kept o a d) : Kept o a (d.puntRule res cc ts t f) := by
  unfold Dev.puntRule
  exact ((Kept.ite_snd h.police h).drop).ite (((Kept.ite_snd h.police h).puntFirm).ite ((Kept.ite_snd h.police h).puntTo))

protected theorem policeBy {q v t : ℕ} (h : Kept o a d) : Kept o a (d.policeBy q v t).2 := by
  unfold Dev.policeBy
  exact Kept.ite_snd h h.police

protected theorem puntPlain {reason ts t : ℕ} {f : Frame} (h : Kept o a d) : Kept o a (d.puntPlain reason ts t f) := by
  unfold Dev.puntPlain
  exact h.policeBy.puntTo.ite h.policeBy.drop

protected theorem writePage {o' : ℕ} {b : Bytes} {p : Page} (h : Kept o a d) : Kept o a (d.writePage o' b p).2 := by
  unfold Dev.writePage
  exact (h.same rfl).perf

protected theorem takePages {n i : ℕ} {b : Bytes} {l : List Page} (h : Kept o a d) : Kept o a (Dev.takePages n i b l d).2 := by
  induction n generalizing d i b l with
  | zero => exact h
  | succ n ih =>
    unfold Dev.takePages
    exact ih h.writePage.pagesBy

protected theorem packFrame {k : Queue} {need : ℕ} {f : Frame} (h : Kept o a d) : Kept o a (d.packFrame k need f).2 := by
  unfold Dev.packFrame
  dsimp only
  split
  exacts [h.takePages, (Kept.ite_snd h h.writePage).takePages]

protected theorem countIn {x : ℕ} {f : Frame} (h : Kept o a d) : Kept o a (d.countIn x f) := by
  unfold Dev.countIn
  exact h.cnt.cntBy.cnt.perf

protected theorem spill {x t : ℕ} {f : Frame} (h : Kept o a d) : Kept o a (d.spill x t f) := by
  unfold Dev.spill
  exact (((h.packFrame.setQ.ite (h.packFrame.setQ.same rfl)).countIn).cnt).perf

protected theorem spillRefused {q need t : ℕ} (h : Kept o a d) : Kept o a (d.spillRefused q need t) := by
  unfold Dev.spillRefused
  exact (((h.cause.perf.when (fun _ hy => hy.raise)).same rfl).raise).ite (h.cause.perf.when (fun _ hy => hy.raise))

protected theorem queueFull {x : ℕ} {f : Frame} (h : Kept o a d) : Kept o a (d.queueFull x f) := by
  unfold Dev.queueFull
  exact h.cnt.drop

protected theorem storeSram {x : ℕ} {f : Frame} (h : Kept o a d) : Kept o a (d.storeSram x f) := by
  unfold Dev.storeSram
  exact h.takeCells.setQ.countIn

protected theorem admission {t : ℕ} {f : Frame} (h : Kept o a d) : Kept o a (d.admission t f) := by
  unfold Dev.admission
  exact h.drop.ite (h.spill.ite (((h.ite (h.cause.ite h.spillRefused)).queueFull).ite (((h.ite (h.cause.ite
    h.spillRefused)).queueFull).ite ((((h.ite (h.cause.ite h.spillRefused)).cause).queueFull).ite ((h.ite (h.cause.ite
    h.spillRefused)).storeSram)))))

protected theorem egressGo {t : ℕ} {bad : Bool} {f : Frame} (h : Kept o a d) : Kept o a (d.egressGo t bad f) := by
  unfold Dev.egressGo
  exact h.goThrough.ite (h.overLong.ite (h.drop.ite h.admission))

protected theorem egressIn {n : ℕ} {own : Bool} {b : Bytes} {fcsOk : Bool} {t : ℕ} (h : Kept o a d) : Kept o a (d.egressIn n own b fcsOk
    t) := by
  unfold Dev.egressIn
  exact ((((h.countFrame.when (fun _ hy => hy.received)).when (fun _ hy => hy.cnt.cause)).stamp).drop).ite (by dsimp only; split; exacts
    [(((((h.countFrame.when (fun _ hy => hy.received)).when (fun _ hy => hy.cnt.cause)).classifyEgress).stamp).drop),
    ((((((h.countFrame.when (fun _ hy => hy.received)).when (fun _ hy => hy.cnt.cause)).classifyEgress).stamp).drop).ite
    (((((h.countFrame.when (fun _ hy => hy.received)).when (fun _ hy => hy.cnt.cause)).classifyEgress).stamp).punted (fun _ hy =>
    hy.puntRule))), ((((((h.countFrame.when (fun _ hy => hy.received)).when (fun _ hy => hy.cnt.cause)).classifyEgress).stamp).drop).ite
    (((((h.countFrame.when (fun _ hy => hy.received)).when (fun _ hy => hy.cnt.cause)).classifyEgress).stamp).punted (fun _ hy =>
    hy.puntPlain))), (((((h.countFrame.when (fun _ hy => hy.received)).when (fun _ hy =>
    hy.cnt.cause)).classifyEgress).stamp).dropBadRecord), ((((((h.countFrame.when (fun _ hy => hy.received)).when (fun _ hy =>
    hy.cnt.cause)).classifyEgress).stamp).recordMet).egressGo)])

protected theorem echo {s : ℕ} {e : List TxLane → Emit} (h : Kept o a d) : Kept o a (d.echo s e) := by
  unfold Dev.echo
  exact h.when (fun _ hy => hy.emit)

protected theorem flip {l : List (ℕ × ℕ)} (h : Kept o a d) : Kept o a (d.flip l) := by
  unfold Dev.flip
  exact h.foldl (fun _ _ hx => (hx.ite ((hx.ite (hx.same rfl)).ite (hx.ite (hx.same rfl)))))

protected theorem egressFrame {n : ℕ} {b : Bytes} {fcsOk : Bool} {t : ℕ} {flips : List (ℕ × ℕ)} (h : Kept o a d) : Kept o a
    (d.egressFrame n b fcsOk t flips) := by
  unfold Dev.egressFrame
  exact (h.flip.when (fun _ hy => hy.echo)).when (fun _ hy => hy.egressIn)

protected theorem ifRuns {k : ℕ} {f : Dev → Dev} (h : Kept o a d) (hf : ∀ y, Kept o a y → Kept o a (f y)) : Kept o a (d.ifRuns k f) := by
  unfold Dev.ifRuns
  exact (hf _ h).ite h

protected theorem saFetch {s t : ℕ} (h : Kept o a d) : Kept o a (d.saFetch s t) := by
  unfold Dev.saFetch
  split
  exacts [h, h.ite h.setInE.bindDrawn]

protected theorem searchI {n : ℕ} {g : Option Tag} {sci : Option ℕ} {b : Bytes} (h : Kept o a d) : Kept o a (d.searchI n g sci b).2 := by
  unfold Dev.searchI
  split
  exacts [Kept.ite_snd h h.exactLook, h]

protected theorem verdict {s t : ℕ} (h : Kept o a d) : Kept o a (d.verdict s t) := by
  unfold Dev.verdict
  split
  exacts [h, h.ite h.setInD.judgeFrame]

protected theorem makeRoom {s t n : ℕ} (h : Kept o a d) : Kept o a (d.makeRoom s t n) := by
  induction n generalizing d with
  | zero => exact h
  | succ n ih =>
    unfold Dev.makeRoom
    exact h.ite (ih h.verdict)

protected theorem toSystem {t rcv : ℕ} {bad : Bool} {f : Frame} (h : Kept o a d) : Kept o a (d.toSystem t rcv bad f) := by
  unfold Dev.toSystem
  exact (h.makeRoom.overLong.ite (h.makeRoom.drop.ite (h.makeRoom.admission.when (fun _ hy => hy.throughHeld)))).ite (((h.makeRoom.when
    (fun _ hy => hy.cause)).goThrough).ite (h.makeRoom.overLong.ite h.makeRoom.admission))

protected theorem ingressUntagged {t ts : ℕ} {bad fenced : Bool} {f : Frame} (h : Kept o a d) : Kept o a (d.ingressUntagged t ts bad
    fenced f) := by
  unfold Dev.ingressUntagged
  exact h.cnt.cause.drop.ite (h.drop.ite ((h.punted (fun _ hy => hy.puntPlain)).ite (by split; exacts [h.dropBadRecord,
    (h.recordMet.toSystem.when (fun _ hy => hy.cnt)), h.drop])))

protected theorem noSci {f : Frame} (h : Kept o a d) : Kept o a (d.noSci f) := by
  unfold Dev.noSci
  exact h.cnt.drop

protected theorem pendingFate {a' reason ts t : ℕ} {f : Frame} (h : Kept o a d) : Kept o a (d.pendingFate a' reason ts t f) := by
  unfold Dev.pendingFate
  exact (h.punted (fun _ hy => hy.puntPlain)).ite h.drop

protected theorem learnNote {q sci pair kind loc : ℕ} (h : Kept o a d) : Kept o a (d.learnNote q sci pair kind loc) := by
  unfold Dev.learnNote
  exact h.emit.ite (h.count.cause.ite (h.setLearnQ.when (fun _ hy => hy.cause)))

protected theorem learn {sci ts t : ℕ} {f : Frame} (h : Kept o a d) : Kept o a (d.learn sci ts t f) := by
  unfold Dev.learn
  extract_lets q k r p i
  have hr : Kept o a r.2 := h.policeBy
  have hi : Kept o a i.2.2 := hr.insertEnt
  refine hr.drop.ite (hr.count.noSci.ite ?_)
  obtain ⟨l, _, d1⟩ := i
  cases l with
  | none => exact hr.count.noSci
  | some l => exact hi.cause.learnNote.pendingFate

protected theorem saNotInUse {t : ℕ} {g : Tag} {bad : Bool} {r : ℕ} {f : Frame} (h : Kept o a d) : Kept o a (d.saNotInUse t g bad r f) :=
    by
  unfold Dev.saNotInUse
  exact h.cnt.drop.ite (h.cause.toSystem.when (fun _ hy => hy.cnt))

protected theorem enterCipher {t a' : ℕ} {g : Tag} {bad : Bool} {r : ℕ} {f : Frame} (h : Kept o a d) : Kept o a (d.enterCipher t a' g bad
    r f) := by
  unfold Dev.enterCipher
  exact h.cnt.drop.ite (h.overLong.ite (h.cause.goThrough.ite ((h.goThrough.ite h.admission).setInD)))

protected theorem ingressSa {t : ℕ} {g : Tag} {bad : Bool} {f : Frame} (h : Kept o a d) : Kept o a (d.ingressSa t g bad f) := by
  unfold Dev.ingressSa
  exact h.perf.recordMet.saNotInUse.ite (h.perf.recordMet.readSlots.dropBadSa.ite (h.perf.recordMet.readSlots.drop.ite
    (h.perf.recordMet.readSlots.saNotInUse.ite (h.perf.recordMet.readSlots.drop.ite (h.perf.recordMet.readSlots.cnt.drop.ite
    h.perf.recordMet.readSlots.makeRoom.enterCipher)))))

protected theorem ingressTag {t ts : ℕ} {g : Tag} {sci : Option ℕ} {found : Option Ent} {bad fenced : Bool} {f : Frame} (h : Kept o a d)
    : Kept o a (d.ingressTag t ts g sci found bad fenced f) := by
  unfold Dev.ingressTag
  exact h.cnt.drop.ite (by split; exacts [h.noSci, ((h.drop.ite h.learn).ite h.noSci), ((h.drop.ite h.pendingFate).ite
    (h.dropBadRecord.ite (h.noSci.ite (h.drop.ite h.ingressSa))))])

protected theorem ingressFate {t ts : ℕ} {g : Option Tag} {sci : Option ℕ} {found : Option Ent} {fate : Option Fate} {bad fenced : Bool}
    {f : Frame} (h : Kept o a d) : Kept o a (d.ingressFate t ts g sci found fate bad fenced f) := by
  unfold Dev.ingressFate
  split
  · exact h.drop
  · exact h.drop.ite (h.punted (fun _ hy => hy.puntRule))
  · exact h.drop.ite (h.punted (fun _ hy => hy.puntPlain))
  · exact h.dropBadRecord
  · exact h.drop.ite h.recordMet.toSystem
  · exact h.ingressUntagged
  · exact h.ingressTag

protected theorem ingressIn {n : ℕ} {own : Bool} {b : Bytes} {fcsOk : Bool} {t : ℕ} (h : Kept o a d) : Kept o a (d.ingressIn n own b
    fcsOk t) := by
  unfold Dev.ingressIn
  exact ((((h.countFrame.when (fun _ hy => hy.received)).when (fun _ hy => hy.cnt.cause)).stamp).drop).ite ((((((h.countFrame.when (fun _
    hy => hy.received)).tcamLook).searchI).stamp).ingressFate).when (fun _ hy => ((hy.ite hy.cnt).cause)))

protected theorem ingressFrame {n : ℕ} {b : Bytes} {fcsOk : Bool} {t : ℕ} {flips : List (ℕ × ℕ)} (h : Kept o a d) : Kept o a
    (d.ingressFrame n b fcsOk t flips) := by
  unfold Dev.ingressFrame
  exact (h.flip.when (fun _ hy => hy.echo)).when (fun _ hy => hy.ingressIn)

protected theorem syncClient {n : ℕ} (h : Kept o a d) : Kept o a (d.syncClient n) := by
  unfold Dev.syncClient
  exact h.ite (h.wrBit.when (fun _ hy => hy.cause))

protected theorem times {k : ℕ} {f : Dev → Dev} (h : Kept o a d) (hf : ∀ y, Kept o a y → Kept o a (f y)) : Kept o a (times k f d) := by
  unfold times
  exact h.foldl (fun _ _ hx => hf _ hx)

protected theorem countTx {n : ℕ} {mapped : Bool} {u : ClientUse} (h : Kept o a d) : Kept o a (d.countTx n mapped u) := by
  unfold Dev.countTx
  exact h.ite (((((h.times (fun _ hy => hy.received)).cntBy).times (fun _ hy => hy.forwarded)).cntBy).ite (((h.times (fun _ hy =>
    hy.received)).cntBy).times (fun _ hy => hy.dropped)))

protected theorem takeClient {n : ℕ} {l : List ClientItem} (h : Kept o a d) : Kept o a (d.takeClient n l) := by
  unfold Dev.takeClient
  exact h.setCarrier.ite h

protected theorem txSwitch {n : ℕ} (h : Kept o a d) : Kept o a (d.txSwitch n) := by
  unfold Dev.txSwitch
  dsimp only
  split
  exacts [h, h.setCarrier.wr.wr.wr.wr.unschedule.cause.autoLoad]

protected theorem trySwitch {n : ℕ} (h : Kept o a d) : Kept o a (d.trySwitch n) := by
  unfold Dev.trySwitch
  exact h.txSwitch.ite h

protected theorem readyTx {n : ℕ} {client : List ClientItem} {u : ClientUse} (h : Kept o a d) : Kept o a (d.readyTx n client u) := by
  unfold Dev.readyTx
  exact h.syncClient.takeClient.countTx.echo.trySwitch.autoLoad.ite h.syncClient.takeClient.countTx.echo

protected theorem drawBytes {n : ℕ} (h : Kept o a d) : Kept o a (d.drawBytes n).2 := by
  unfold Dev.drawBytes
  exact h.same rfl

protected theorem clearFrame {n : ℕ} (h : Kept o a d) : Kept o a (d.clearFrame n).2 := by
  unfold Dev.clearFrame
  exact Kept.ite_snd h h.drawBytes

protected theorem jcTurn {n : ℕ} {adj : ℤ} (h : Kept o a d) : Kept o a (d.jcTurn n adj) := by
  unfold Dev.jcTurn
  exact h.setCarrier.ite h

protected theorem keyedFrame {n : ℕ} {k : CKey} {adj : ℤ} (h : Kept o a d) : Kept o a (d.keyedFrame n k adj).2 := by
  unfold Dev.keyedFrame
  exact (h.ite h.jcTurn).when (fun _ hy => hy.setCarrier)

protected theorem afterTx {n : ℕ} {keyed : Bool} (h : Kept o a d) : Kept o a (d.afterTx n keyed) := by
  unfold Dev.afterTx
  exact h.wr.setCarrier.ite ((((((((h.wr.setCarrier.cause.when (fun _ hy => hy.requestSwitch)).ite h.wr.setCarrier).when (fun _ hy =>
    hy.requestSwitch)).wrBit).cause).setCarrier).setCarrierState).ite (((h.wr.setCarrier.cause.when (fun _ hy => hy.requestSwitch)).ite
    h.wr.setCarrier).when (fun _ hy => hy.requestSwitch)))

protected theorem stripe {n : ℕ} {f : Bytes × Bytes × Bytes} (h : Kept o a d) : Kept o a (d.stripe n f) := by
  unfold Dev.stripe
  exact (h.when (fun _ hy => hy.emit)).setCarrier

protected theorem toSystemSide {n : ℕ} {e : Emit} (h : Kept o a d) : Kept o a (d.toSystemSide n e) := by
  unfold Dev.toSystemSide
  exact h.when (fun _ hy => hy.emit)

protected theorem fillOut {n : ℕ} {f : Fill} {bits : ℕ} (h : Kept o a d) : Kept o a (d.fillOut n f bits) := by
  unfold Dev.fillOut
  exact h.toSystemSide.setCarrier

protected theorem cutOpen {n : ℕ} (h : Kept o a d) : Kept o a (d.cutOpen n) := by
  unfold Dev.cutOpen
  exact h.ite (h.setCarrier.ite h.forwarded.cnt.setCarrier)

protected theorem replaceOut {n bits : ℕ} (h : Kept o a d) : Kept o a (d.replaceOut n bits) := by
  unfold Dev.replaceOut
  exact h.cutOpen.fillOut

protected theorem carrierTx {n : ℕ} {adj : ℤ} {client : List ClientItem} {u : ClientUse} (h : Kept o a d) : Kept o a (d.carrierTx n adj
    client u) := by
  unfold Dev.carrierTx
  exact h.ite ((h.readyTx.ite ((Kept.stripe (by split; exacts [h.readyTx.clearFrame, h.readyTx.keyedFrame])).afterTx)).ite
    ((h.readyTx.ite ((Kept.stripe (by split; exacts [h.readyTx.clearFrame, h.readyTx.keyedFrame])).afterTx)).replaceOut))

protected theorem fev {n : ℕ} (h : Kept o a d) : Kept o a (d.fev n) := by
  unfold Dev.fev
  exact h.count

protected theorem frameWord {n l : ℕ} {b : Bytes} {mfi0 : ℕ} {parity : Option ℕ} (h : Kept o a d) : Kept o a (d.frameWord n l b mfi0
    parity) := by
  unfold Dev.frameWord
  exact ((((((h.when (fun _ hy => hy.fev)).setLane).wr).unalign).evalSide).ite ((h.when (fun _ hy => hy.fev)).setLane)).ite ((((h.when
    (fun _ hy => hy.fev)).setLane).count).count)

protected theorem searchState {l : ℕ} (h : Kept o a d) : Kept o a (d.searchState l) := by
  unfold Dev.searchState
  exact h.wr

protected theorem searchWord {n l pos : ℕ} {b : Bytes} (h : Kept o a d) : Kept o a (d.searchWord n l pos b) := by
  unfold Dev.searchWord
  dsimp only
  split
  · exact (h.setLane.wr.ite h.setLane.searchState).ite (h.setLane.searchState.when (fun _ hy => hy.fev))
  · exact h.ite (h.fev.ite (h.ite h.setLane.searchState))

protected theorem deskew {n : ℕ} {skew : List ℕ} (h : Kept o a d) : Kept o a (d.deskew n skew) := by
  unfold Dev.deskew
  exact h.ite ((h.when (fun _ hy => hy.fev)).alignSide)

protected theorem laneWordRx {l pos : ℕ} {got : Bytes} {mfi0 : ℕ} {parity : Option ℕ} {skew : List ℕ} (h : Kept o a d) : Kept o a
    (d.laneWordRx l pos got mfi0 parity skew) := by
  unfold Dev.laneWordRx
  dsimp only
  split
  exacts [h, h.ite ((((h.struck.frameWord.ite h.frameWord).ite h).ite h.searchWord).deskew)]

protected theorem tryAgree {n : ℕ} (h : Kept o a d) : Kept o a (d.tryAgree n) := by
  unfold Dev.tryAgree
  refine h.ite ?_
  dsimp only
  split
  · exact h
  · exact h.setCarrier.foldl fun _ _ hx => hx.submitDerive_getD.ite hx

protected theorem mortarRx {n : ℕ} {cell : Bytes} (h : Kept o a d) : Kept o a (d.mortarRx n cell) := by
  unfold Dev.mortarRx
  exact Kept.tryAgree (by split; exacts [(h.when (fun _ hy => hy.fev.cause)), ((h.setCarrier.wrBit.when (fun _ hy => hy.fev.cause)).ite
    (((h.setCarrier.wrBit.when (fun _ hy => hy.fev.cause)).fev).cause)), h.setCarrier, h, (h.setCarrier.ite (h.setCarrier.ite h)),
    h.setCarrier, h.fev.cause])

protected theorem demap {n fc skip : ℕ} {c : ℤ} {locked : Bool} {off : ℕ} {oh payload tag : Bytes} {u : ClientUse} (h : Kept o a d) :
    Kept o a (d.demap n fc skip c locked off oh payload tag u).2 := by
  unfold Dev.demap
  dsimp only
  split
  exacts [Kept.ite_snd h.drawBytes h, h]

protected theorem putOut {n off lost : ℕ} {l : List Bool} (h : Kept o a d) : Kept o a (d.putOut n off lost l) := by
  unfold Dev.putOut
  exact h.toSystemSide.ite h.toSystemSide.setCarrier

protected theorem release {n : ℕ} {r : CarrierRx} (h : Kept o a d) : Kept o a (d.release n r) := by
  unfold Dev.release
  exact h.replaceOut.ite h.putOut

protected theorem awaitVerdict {n : ℕ} {r : CarrierRx} (h : Kept o a d) : Kept o a (d.awaitVerdict n r) := by
  unfold Dev.awaitVerdict
  exact h.setCarrier.when (fun _ hy => hy.release)

protected theorem unkeyedRx {n fc : ℕ} {oh payload : Bytes} {u : ClientUse} (h : Kept o a d) : Kept o a (d.unkeyedRx n fc oh payload u)
    := by
  unfold Dev.unkeyedRx
  exact h.cause.mortarRx.demap.awaitVerdict

protected theorem ptrRx {n f : ℕ} (h : Kept o a d) : Kept o a (d.ptrRx n f).1 := by
  unfold Dev.ptrRx
  dsimp only
  split
  · exact Kept.ite_fst (((((h.wr.when (fun _ hy => hy.count)).when (fun _ hy => hy.count)).when (fun _ hy =>
      hy.count.cause)).setCarrier).wr) ((((h.wr.when (fun _ hy => hy.count)).when (fun _ hy => hy.count)).when (fun _ hy =>
      hy.count.cause)).setCarrier)
  · exact h.wr.setCarrier.wr.ite h.wr.setCarrier

protected theorem jcOff {n : ℕ} (h : Kept o a d) : Kept o a (d.jcOff n).2 := by
  unfold Dev.jcOff
  split
  exacts [h, h.draw]

protected theorem jcRx {n fc jc : ℕ} (h : Kept o a d) : Kept o a (d.jcRx n fc jc) := by
  unfold Dev.jcRx
  exact h.setCarrier.ite (by split; exacts [h.setCarrier, h.setCarrier.count.cause])

protected theorem keyedRx {n fc : ℕ} {oh payload tag : Bytes} {u : ClientUse} (h : Kept o a d) :
    Kept o a (d.keyedRx n fc oh payload tag u) := by
  unfold Dev.keyedRx
  exact h.ptrRx.demap.awaitVerdict.ite h.jcOff.jcRx.demap.setCarrier.awaitVerdict

protected theorem carrierRx {n : ℕ} {b : Bytes} {u : ClientUse} (h : Kept o a d) : Kept o a (d.carrierRx n b u) := by
  unfold Dev.carrierRx
  exact h.ite (h.wrBit.unkeyedRx.ite h.wrBit.keyedRx)

protected theorem clientPass {n : ℕ} {u : ClientUse} (h : Kept o a d) : Kept o a (d.clientPass n u) := by
  unfold Dev.clientPass
  exact (((((h.times (fun _ hy => hy.received)).cntBy).when (fun _ hy => hy.dropped)).times (fun _ hy => hy.forwarded)).cntBy).setCarrier

protected theorem clientFail {n : ℕ} {u : ClientUse} (h : Kept o a d) : Kept o a (d.clientFail n u) := by
  unfold Dev.clientFail
  exact ((((h.times (fun _ hy => hy.received)).cntBy).times (fun _ hy => hy.dropped)).setCarrier).ite (((((h.times (fun _ hy =>
    hy.received)).cntBy).when (fun _ hy => hy.forwarded.cnt)).times (fun _ hy => hy.dropped)).setCarrier)

protected theorem gateWhole {n o' : ℕ} {pass : Bool} {r : CarrierRx} (h : Kept o a d) : Kept o a (d.gateWhole n o' pass r) := by
  unfold Dev.gateWhole
  exact h.setCarrier.ite (((h.setCarrier.ite (h.setCarrier.putOut.ite h.setCarrier.fillOut)).ite (((h.setCarrier.ite
    (h.setCarrier.putOut.ite h.setCarrier.fillOut)).putOut).ite ((h.setCarrier.ite (h.setCarrier.putOut.ite
    h.setCarrier.fillOut)).fillOut))).setCarrier)

protected theorem gateThrough {n o' : ℕ} {r : CarrierRx} (h : Kept o a d) : Kept o a (d.gateThrough n o' r) := by
  unfold Dev.gateThrough
  exact h.putOut

protected theorem gateRelease {n : ℕ} {pass repl : Bool} {r : CarrierRx} (h : Kept o a d) : Kept o a (d.gateRelease n pass repl r) := by
  unfold Dev.gateRelease
  exact (h.ite (h.clientPass.ite h.clientFail)).ite (((h.replaceOut.ite (h.replaceOut.clientPass.ite
    h.replaceOut.clientFail)).setCarrier).ite (((h.ite (h.clientPass.ite h.clientFail)).gateWhole).ite (((h.ite (h.clientPass.ite
    h.clientFail)).gateThrough).ite ((h.ite (h.clientPass.ite h.clientFail)).fillOut))))

protected theorem setDefect {n b : ℕ} {v : Bool} (h : Kept o a d) : Kept o a (d.setDefect n b v) := by
  unfold Dev.setDefect
  exact h.ite ((h.wrBit.when (fun _ hy => hy.cause)).evalSide)

protected theorem runTo {n b top : ℕ} {v : Bool} {get : Carrier → ℕ} {put : ℕ → Carrier → Carrier} (h : Kept o a d) : Kept o a (d.runTo n
    b top v get put) := by
  unfold Dev.runTo
  exact h.setCarrier.ite (h.setCarrier.setDefect.ite h.setCarrier)

protected theorem runTfb {n : ℕ} {pass : Bool} (h : Kept o a d) : Kept o a (d.runTfb n pass) := by
  unfold Dev.runTfb
  exact h.runTo

protected theorem verdictFails {n : ℕ} {causes : List ℕ} {r : CarrierRx} (h : Kept o a d) : Kept o a (d.verdictFails n causes r) := by
  unfold Dev.verdictFails
  exact ((h.count.setCarrier.foldl (fun _ _ hx => hx.cause)).runTfb).gateRelease

protected theorem flagsRx {n : ℕ} {oh : Bytes} (h : Kept o a d) : Kept o a (d.flagsRx n oh) := by
  unfold Dev.flagsRx
  exact ((h.setCarrier.runTo.runTo.wrBit.when (fun _ hy => hy.cause)).when (fun _ hy => hy.cause)).when (fun _ hy => hy.fev.cause)

protected theorem verified {n e fc : ℕ} (h : Kept o a d) : Kept o a (d.verified n e fc) := by
  unfold Dev.verified
  exact Kept.wr (by split; exacts [(h.setCarrier.ite h.setCarrier.wr.cause.autoLoad), h.setCarrier, h.setCarrier, h])

protected theorem verdictPasses {n : ℕ} {k : CKey} {r : CarrierRx} (h : Kept o a d) : Kept o a (d.verdictPasses n k r) := by
  unfold Dev.verdictPasses
  exact (((((h.when (fun _ hy => hy.fev.cause)).verified).flagsRx).runTfb).mortarRx).gateRelease

protected theorem carrierVerdict {n : ℕ} (h : Kept o a d) : Kept o a (d.carrierVerdict n) := by
  unfold Dev.carrierVerdict
  dsimp only
  split
  · exact h
  · exact (h.setCarrier.verdictFails.ite h.setCarrier.gateRelease).ite (by split; exacts [h.setCarrier.fev.verdictFails,
      (h.setCarrier.struck.verdictFails.ite (h.setCarrier.verdictFails.ite (h.setCarrier.count.verdictFails.ite
      (h.setCarrier.fev.verdictFails.ite (h.setCarrier.fev.verdictFails.ite h.setCarrier.verdictPasses)))))])

protected theorem clearTrio {n : ℕ} (h : Kept o a d) : Kept o a (d.clearTrio n) := by
  unfold Dev.clearTrio
  exact (h.foldl (fun _ _ hx => hx.setDefect)).setCarrier

protected theorem declare {n b : ℕ} {v : Bool} (h : Kept o a d) : Kept o a (d.declare n b v) := by
  unfold Dev.declare
  exact h.ite (h.clearTrio.setDefect.ite h.setDefect)

protected theorem carrierStart {n : ℕ} (h : Kept o a d) : Kept o a (d.carrierStart n) := by
  unfold Dev.carrierStart
  exact (h.dropKeys.setCarrier.wrBit.setCarrierState.ite (h.dropKeys.setCarrier.wrBit.setCarrierState.when (fun _ hy => hy.fev))).ite h

protected theorem carrierRun {n : ℕ} (h : Kept o a d) : Kept o a (d.carrierRun n) := by
  unfold Dev.carrierRun
  dsimp only
  split
  exacts [h.setCarrier.wr.wr.wr.setCarrierState.autoLoad.ite h, h]

protected theorem setExec {p : ℕ} {j : Option Job} (h : Kept o a d) : Kept o a (d.setExec p j) := by
  unfold Dev.setExec
  exact h.setPl

protected theorem carrierKeyLoaded {n : ℕ} (h : Kept o a d) : Kept o a (d.carrierKeyLoaded n) := by
  unfold Dev.carrierKeyLoaded
  dsimp only
  split
  · exact h
  · refine h.ite ?_
    split
    · exact h.setExec.endJob
    · next e =>
      split at e
      · exact (h.setExec.root e).setCarrier.endJob
      · cases e

protected theorem zeroiseN {low : Bool} (h : Kept false a d) : Kept false a (d.zeroiseN low) := by
  unfold Dev.zeroiseN
  exact (h.same rfl).when (fun _ hy => hy.zeroise)

protected theorem dropTail {x : ℕ} (h : Kept o a d) : Kept o a (d.dropTail x) := by
  unfold Dev.dropTail
  exact h.giveCells.freePages.setQ.settleDeficits.foldl (fun _ _ hx => hx.drop)

protected theorem unsealed (h : Kept o a d) : Kept o a d.unseal := by
  unfold Dev.unseal
  exact ((h.foldl (fun _ _ hx => hx.dropTail)).same rfl).wr

protected theorem unkeyAll (h : Kept o a d) : Kept o a d.unkeyAll := by
  unfold Dev.unkeyAll
  exact h.foldl (fun _ _ hx => hx.dropKeys.setCarrierState.ite hx.dropKeys.setCarrier)

protected theorem cutZeroised {t : ℕ} (h : Kept o a d) : Kept o a (d.cutZeroised t) := by
  unfold Dev.cutZeroised
  exact h.foldl (fun _ _ hx => hx.cause.setStaged.leave.frameEnd)

protected theorem zeroSas (h : Kept o a d) : Kept o a d.zeroSas := by
  unfold Dev.zeroSas
  refine Kept.foldl { h with sas := fun w => ?_ } fun _ _ hx => hx.clearCache
  obtain ⟨hkeys, -⟩ := (Tbl.wf_iff _ _).1 (h.sas w)
  refine (Tbl.wf_iff _ _).2 ⟨?_, fun e he => by simpa using (List.mem_filter.1 he).2⟩
  refine List.Pairwise.sublist (List.filter_sublist.map _) ?_
  rwa [List.map_map]

protected theorem zeroiseDone (h : Kept false a d) : Kept false a d.zeroiseDone := by
  unfold Dev.zeroiseDone
  refine h.ite ?_
  extract_lets d1 d2 d3 p d4 b d5
  have h1 : Kept false a d1 := h.zeroSas.cutZeroised.unkeyAll.unsealed
  have h2 : Kept false a d2 := h1.setVault.count.raise
  have h3 : Kept false a d3 := h2.foldl fun _ _ hx => hx.mkaFails.ite hx
  clear_value d3
  have h4 : Kept false a d4 := (h3.same rfl).settle
  clear_value d4
  exact (h4.same rfl).loadKeys.ite h4

protected theorem dapErase (h : Kept false a d) : Kept false a d.dapErase := by
  unfold Dev.dapErase
  exact h.ite ((h.foldl (fun _ _ hx => hx.notifyOn)).sameTables rfl)

protected theorem clearDone (h : Kept false a d) : Kept false a d.clearDone := by
  unfold Dev.clearDone
  refine h.ite ?_
  extract_lets d1 k d2 d3
  have h1 : Kept false a d1 := h.foldl fun _ _ hx => hx.wr.ite hx
  clear_value d1
  have h2 : Kept false a d2 :=
    ⟨h1.dict, h1.slots, h1.chans, h1.queues, h1.counters, fun w => Tbl.wf_filter _ _ _ (h1.sas w), h1.carriers, h1.lanes, h1.sides, nofun⟩
  have h3 : Kept false a d3 := h2.loadKeys.setVault.foldl fun _ _ hx => hx.mkaStarts.ite hx
  exact h3.raise.endPend

protected theorem autoReseed (h : Kept o a d) : Kept o a d.autoReseed := by
  unfold Dev.autoReseed
  exact (h.same rfl).ite h

protected theorem healthFail (h : Kept o a d) : Kept o a d.healthFail := by
  unfold Dev.healthFail
  exact h.when (fun _ hy => hy.wr.raise)

protected theorem ifPlanisher {p : ℕ} {f : Dev → Dev} (h : Kept o a d) (hf : ∀ y, Kept o a y → Kept o a (f y)) : Kept o a (d.ifPlanisher
    p f) := by
  unfold Dev.ifPlanisher
  exact (hf _ h).ite h

protected theorem keyBus {p : ℕ} {ok : Bool} (h : Kept o a d) : Kept o a (d.keyBus p ok) := by
  unfold Dev.keyBus
  split
  · exact h
  · exact h.ite (Kept.ite (by dsimp only; split; exacts [(h.perf.cacheRoot.ite h.perf), h.perf]) (((((h.when (fun _ hy =>
      hy.struck)).perf).setExec).raise).endJob))

protected theorem submitAs {code win : ℕ} {p : Path} {core : ℕ} (h : Kept false a d) : Kept false a (d.submitAs code win p core) := by
  unfold Dev.submitAs
  exact (h.write (fun _ _ _ _ hy => Kept.ite_snd hy hy.wr)).write Kept.effSubmit

protected theorem startJob {cont : Bool} {p : ℕ} (h : Kept o a d) : Kept o a (d.startJob cont p) := by
  unfold Dev.startJob
  extract_lets x
  split
  · refine Kept.ite ?_ h
    extract_lets d1
    have h1 : Kept o a d1 := h.setPl
    split
    exacts [h1.wr, h1]
  · exact h

protected theorem saBecomesReady {s : ℕ} (h : Kept o a d) : Kept o a (d.saBecomesReady s) := by
  unfold Dev.saBecomesReady
  exact h.when (fun _ hy => hy.trigger)

protected theorem fillSa {s : ℕ} {key : Bytes} {salt source kn : ℕ} (h : Kept o a d) : Kept o a (d.fillSa s key salt source kn) := by
  unfold Dev.fillSa
  exact h.eccClear.setSa.saBecomesReady

protected theorem derive {s root sci kn : ℕ} (h : Kept o a d) : Kept o a (d.derive s root sci kn) := by
  unfold Dev.derive
  exact h.fillSa.ite (h.fillSa.same rfl)

protected theorem runBatch {p : ℕ} {j : Job} (h : Kept o a d) : Kept o a (d.runBatch p j) := by
  unfold Dev.runBatch
  split
  · exact h.setExec.endJob
  · next k d1 e =>
    have h1 : Kept o a d1 := h.root e
    split
    · exact h1.setExec.endJob
    · have h3 : ∀ {s k sci kn e}, Kept o a ((d1.derive s k sci kn).zeroCounters 6 e) := h1.derive.zeroCounters
      exact h3.setExec.endJob.ite (h3.setExec.ite h3.setExec.enqueueJob)

protected theorem runBlob {j : Job} {b : Bytes} (h : Kept o a d) : Kept o a (d.runBlob j b).2 := by
  unfold Dev.runBlob
  dsimp only
  split
  · exact h
  · next e => exact .ite_snd (.pair (h.root e).setSlotKey.wr.count) (.pair (h.root e).raise)

protected theorem runMkaKeys {j : Job} {ckn : Bytes} (h : Kept o a d) : Kept o a (d.runMkaKeys j ckn).2 := by
  unfold Dev.runMkaKeys
  split
  · exact h
  · next e => exact (h.root e).setCtx

protected theorem runIcv {j : Job} {msg : Bytes} (h : Kept o a d) : Kept o a (d.runIcv j msg).2.2 := by
  unfold Dev.runIcv
  exact Kept.ite_snd_snd h (Kept.ite_snd_snd h h)

protected theorem runRandomSak {j : Job} (h : Kept o a d) : Kept o a (d.runRandomSak j).2.2 := by
  unfold Dev.runRandomSak
  exact .ite_snd_snd h (.ite_snd_snd h (h.draw.same rfl).setCtx)

protected theorem runUnwrapSak {j : Job} {b : Bytes} (h : Kept o a d) : Kept o a (d.runUnwrapSak j b).2 := by
  unfold Dev.runUnwrapSak
  exact Kept.ite_snd h (Kept.ite_snd h h.setCtx)

protected theorem runHashkey {j : Job} (h : Kept o a d) : Kept o a (d.runHashkey j).2 := by
  unfold Dev.runHashkey
  exact Kept.ite_snd h ((h.when (fun _ hy => hy.setCtx)).fillSa)

protected theorem runJob {p : ℕ} {j : Job} {b : Bytes} (h : Kept o a d) : Kept o a (d.runJob p j b).2.2 := by
  unfold Dev.runJob
  dsimp only
  split
  · split
    · exact h
    · next e => exact .ite_snd_snd (h.root e) (h.root e).derive
  · split
    · exact h
    · next e => exact h.root e
  · exact h.runBlob
  · exact h.runMkaKeys
  · exact h.runIcv
  · exact h.runRandomSak
  · exact h.runUnwrapSak
  · exact h.runHashkey
  · exact h.fillSa

protected theorem onWin {j : Job} {f : ℕ → Dev → Dev} (h : Kept o a d) (hf : ∀ x0 y, Kept o a y → Kept o a (f x0 y)) : Kept o a (onWin j
    f d) := by
  unfold onWin
  split
  exacts [hf _ _ h, h]

protected theorem putResult {w : ℕ} {b : Bytes} (h : Kept o a d) : Kept o a (d.putResult w b) := by
  unfold Dev.putResult
  exact h.wr.wr

protected theorem putWrapped {w : ℕ} {b : Bytes} (h : Kept o a d) : Kept o a (d.putWrapped w b) := by
  unfold Dev.putWrapped
  exact h.foldl (fun _ _ hx => hx.wr)

protected theorem deliverOut {j : Job} {out : Bytes} (h : Kept o a d) : Kept o a (d.deliverOut j out) := by
  unfold Dev.deliverOut
  refine h.ite (h.onWin fun w y hy => ?_)
  split
  exacts [hy.putResult, hy.putWrapped]

protected theorem completeJob {p : ℕ} {mem : Option Bytes} (h : Kept o a d) : Kept o a (d.completeJob p mem) := by
  unfold Dev.completeJob
  split
  exacts [h, h.ite (h.runBatch.ite (h.setExec.endJob.ite h.setExec.runJob.deliverOut.endJob))]

protected theorem switchFailed {c a' : ℕ} (h : Kept o a d) : Kept o a (d.switchFailed c a') := by
  unfold Dev.switchFailed
  exact h.note

protected theorem serve {g : Trigger} (h : Kept o a d) : Kept o a (d.serve g) := by
  unfold Dev.serve
  exact h.ite (h.ite (h.changeover.ite (h.switchFailed.ite (h.ite (h.switchFailed.same rfl)))))

protected theorem servePort {q : ℕ} (h : Kept o a d) : Kept o a (d.servePort q) := by
  unfold Dev.servePort
  dsimp only
  split
  exacts [h, (h.same rfl).serve]

protected theorem txRetire {i : ℕ} (h : Kept o a d) : Kept o a (d.txRetire i) := by
  unfold Dev.txRetire
  exact h.when (fun _ hy => hy.retire)

protected theorem rxRetire {i : ℕ} (h : Kept o a d) : Kept o a (d.rxRetire i) := by
  unfold Dev.rxRetire
  exact h.when (fun _ hy => hy.retire)

protected theorem tableCmd {n code : ℕ} {hit : Bool} {p : Path} (h : Kept false a d) : Kept false a (d.tableCmd n code hit p) := by
  unfold Dev.tableCmd
  exact h.write Kept.effTableCmd

protected theorem drainOne {k : ℕ} (h : Kept o a d) : Kept o a (d.drainOne k) := by
  unfold Dev.drainOne
  exact h.ite (by split; exacts [h, (by split; exacts [h, h.moveEnt])])

protected theorem migrateOne {k : ℕ} {l : List ℕ} {r : Dev} (h : Kept o a d) (hr : d.migrateOne k l = some r) : Kept o a r := by
  induction l with
  | nil => cases hr
  | cons x l ih =>
    have hp := h.placeFor (k := k) (e := d.inEpoch k (d.ent k x))
    unfold Dev.migrateOne at hr
    dsimp only at hr
    split at hr
    · next e => rw [e] at hp; cases hr; exact hp.moveEnt.wr.setTab
    · exact ih hr

protected theorem migrationStep {k : ℕ} (h : Kept o a d) : Kept o a (d.migrationStep k) := by
  unfold Dev.migrationStep
  dsimp only
  split
  · exact h
  · refine h.ite ?_
    split
    · next e => exact h.migrateOne e
    · exact h.wr.wr.wr.wr.wr.setTab.cause.ite (h.wr.setTab.ite h.wr.cause)

protected theorem dma {op t : ℕ} {g : DmaDesc} {img : Option Bytes} (h : Kept o a d) : Kept o a (d.dma op t g img) := by
  unfold Dev.dma
  exact h.dmaDrain.ite (by split; exacts [h.dmaDrain.dmaEnd, ((h.dmaDrain.same rfl).dmaServe)])

protected theorem plumbPass {k : ℕ} (h : Kept o a d) : Kept o a (d.plumbPass k) := by
  unfold Dev.plumbPass
  exact h.ite ((h.setTab.when (fun _ hy => hy.struck)).foldl (fun _ _ hx => hx.count.wr.cause))

protected theorem age {k loc : ℕ} {hit : Bool} (h : Kept o a d) : Kept o a (d.age k loc hit) := by
  unfold Dev.age
  exact h.ite (h.storeEnt.ite (h.putEnt.ite (h.removeEnt.count.when (fun _ hy => hy.learnNote))))

protected theorem scrub {k loc : ℕ} (h : Kept o a d) : Kept o a (d.scrub k loc) := by
  unfold Dev.scrub
  exact ((((h.when (fun _ hy => hy.cause)).storeEnt).foldl (fun _ _ hx => hx.dirty)).ite (h.when (fun _ hy => hy.cause))).when (fun _ hy
    => hy.eccMet)

protected theorem ageVisit {k loc : ℕ} {hit : Bool} {flips : List (ℕ × ℕ)} (h : Kept o a d) : Kept o a (d.ageVisit k loc hit flips) := by
  unfold Dev.ageVisit
  exact h.flip.ite h.flip.scrub.age

protected theorem queueCmd {n code t : ℕ} {p : Path} (h : Kept false a d) : Kept false a (d.queueCmd n code t p) := by
  unfold Dev.queueCmd
  exact h.write Kept.effQueueCmd

protected theorem readPage {x : ℕ} (h : Kept o a d) : Kept o a (d.readPage x) := by
  unfold Dev.readPage
  dsimp only
  split
  exacts [h, h.takeCells.setQ.freePages.perf.perf.settleDeficits.ite h]

protected theorem readback {x ecc : ℕ} (h : Kept o a d) : Kept o a (d.readback x ecc) := by
  unfold Dev.readback
  dsimp only
  split
  · exact h
  · exact h.ite (((h.when (fun _ hy => hy.struck)).readPage).ite (((((h.when (fun _ hy => hy.struck)).count).raise).readPage).ite
      ((((((h.when (fun _ hy => hy.struck)).count).raise).setDeep).condition).readPage)))

protected theorem drr {l : List ℕ} {get : ℕ → Dev → ℤ} {add : ℕ → Dev → Dev} {n : ℕ} {cur : Option ℕ} (h : Kept o a d)
    (hadd : ∀ x y, Kept o a y → Kept o a (add x y)) : Kept o a (drr l get add n cur d).2 := by
  induction n generalizing d cur with
  | zero => exact h
  | succ n ih =>
    unfold drr
    split
    · exact h
    · next c _ => exact .ite_snd (hadd c d h) (ih (hadd c d h))

protected theorem turn {l : List ℕ} {get : ℕ → Dev → ℤ} {add : ℕ → Dev → Dev} {cur : Option ℕ} (h : Kept o a d) (hadd : ∀ x0 y, Kept o a
    y → Kept o a (add x0 y)) : Kept o a (turn l get add cur d).2 := by
  unfold turn
  split
  exacts [Kept.ite_snd h (h.drr (fun _ _ hy => hadd _ _ hy)), h.drr (fun _ _ hy => hadd _ _ hy)]

protected theorem choose {s t : ℕ} (h : Kept o a d) : Kept o a (d.choose s t).2 := by
  unfold Dev.choose
  extract_lets live nodes tier l r y
  have hr : Kept o a r.2 := h.turn fun _ _ hy => hy.setNode
  split
  · exact hr
  · extract_lets d1 mine strict q z
    have h1 : Kept o a d1 := hr.setSched
    split
    · exact h1
    · have hq : Kept o a q.2 := h1.turn fun _ _ hy => hy.setQ
      split
      exacts [hq, hq.setNode]

protected theorem select {s t ecc : ℕ} (h : Kept o a d) : Kept o a (d.select s t ecc) := by
  unfold Dev.select
  refine h.ite ?_
  extract_lets d0 r
  have hr : Kept o a r.2 := Kept.choose (h.foldl fun _ _ hx => hx.purgeHead)
  split
  · exact hr
  · extract_lets e hit d1 ecc
    have he : Kept o a e.2 := hr.dequeue
    split
    · exact he
    · have h1 : Kept o a d1 := he.when fun _ hy => hy.struck
      clear_value d1
      exact h1.drop.condition.settleDeficits.ite (h1.condition.cause.sendFrom.ite h1.sendFrom)

protected theorem stackFails {s : ℕ} (h : Kept o a d) : Kept o a (d.stackFails s) := by
  unfold Dev.stackFails
  exact h.wr.losePages.syncStacks.ite h

protected theorem takeover {s t : ℕ} (h : Kept o a d) : Kept o a (d.takeover s t) := by
  unfold Dev.takeover
  dsimp only
  split
  exacts [h, ((h.setGate.wr.wr.wr.wr.wr.wr.foldl (fun _ _ hx => hx.wr)).cause).gateSync]

protected theorem gateTakeover {s t : ℕ} (h : Kept o a d) : Kept o a (d.gateTakeover s t) := by
  unfold Dev.gateTakeover
  exact ((h.same rfl).takeover).ite h

protected theorem passStart {q t : ℕ} {ok : Bool} (h : Kept o a d) : Kept o a (d.passStart q t ok) := by
  unfold Dev.passStart
  exact h.ite h.passBegin

protected theorem passEnd {q : ℕ} (h : Kept o a d) : Kept o a (d.passEnd q) := by
  unfold Dev.passEnd
  exact h.setSampler.count.when (fun _ hy => hy.sendMsix)

protected theorem sampleVisit {q t : ℕ} {ok : Bool} (h : Kept o a d) : Kept o a (d.sampleVisit q t ok) := by
  unfold Dev.sampleVisit
  exact h.ite ((h.setSampler.ite h.setSampler.sampleRecord).when (fun _ hy => hy.passEnd))

protected theorem swapAtWrap {s : ℕ} (h : Kept false a d) : Kept false a (d.swapAtWrap s) := by
  unfold Dev.swapAtWrap
  exact h.ite (h.wr.endPend.ite h.wr.wr.evalShort.cause.endPend)

protected theorem waitAll {s : ℕ} (h : Kept o a d) : Kept o a (d.waitAll s) := by
  unfold Dev.waitAll
  exact h.foldl (fun _ _ hx => hx.setCal.ite hx)

protected theorem editDone {s i : ℕ} (h : Kept false a d) : Kept false a (d.editDone s i) := by
  unfold Dev.editDone
  exact h.setCal.evalShort.endPend.ite h

protected theorem contest {s : ℕ} (h : Kept o a d) : Kept o a (d.contest s) := by
  unfold Dev.contest
  dsimp only
  split
  · exact by split; exacts [h.setBgLevel, h]
  · exact ((Kept.foldl (by split; exacts [h.setBgLevel, h]) (fun _ _ hx => (hx.setBgLevel.ite (hx.ite hx.setBgLevel)))).count).setCal

protected theorem generate {s t : ℕ} (h : Kept o a d) : Kept o a (d.generate s t) := by
  unfold Dev.generate
  exact h.countFrame.setGen.setBg

protected theorem breakPoint {s h' : ℕ} (h : Kept o a d) : Kept o a (d.breakPoint s h') := by
  unfold Dev.breakPoint
  exact h.contest.ite h.setBgLevel.setCal

protected theorem bgDone {s r t : ℕ} {f : Frame} (h : Kept o a d) : Kept o a (d.bgDone s r t f) := by
  unfold Dev.bgDone
  exact (h.ingressIn.ite h.egressIn).ite (h.ite (((h.when (fun _ hy => hy.count.genEnd)).drop).ite (((h.when (fun _ hy =>
    hy.count.genEnd)).setStagedBg).flushBg)))

protected theorem bgBeat {s h' t : ℕ} (h : Kept o a d) : Kept o a (d.bgBeat s h' t) := by
  unfold Dev.bgBeat
  dsimp only
  split
  · exact h
  · exact ((h.generate.ite h).breakPoint).ite ((((((((((h.generate.ite h).waitEnds).ite (h.generate.ite
      h)).perf).perf).setBg).bgDone).ite (((((((h.generate.ite h).waitEnds).ite (h.generate.ite
      h)).perf).perf).setBg).noteFlight)).breakPoint).ite ((((((((h.generate.ite h).waitEnds).ite (h.generate.ite
      h)).perf).perf).setBg).bgDone).ite (((((((h.generate.ite h).waitEnds).ite (h.generate.ite h)).perf).perf).setBg).noteFlight)))

protected theorem bgSlot {s t : ℕ} (h : Kept o a d) : Kept o a (d.bgSlot s t) := by
  unfold Dev.bgSlot
  split
  exacts [h.contest, h.setCal.bgBeat.ite h, h.bgBeat.ite h.contest]

protected theorem hand {s n : ℕ} (h : Kept o a d) : Kept o a (d.hand s n).2 := by
  unfold Dev.hand
  exact h.setStaged.setInE

protected theorem beat {s t : ℕ} (h : Kept o a d) : Kept o a (d.beat s t) := by
  unfold Dev.beat
  exact (h.hand.ite h.hand.select.hand).leave

protected theorem visit {s k i t : ℕ} (h : Kept o a d) : Kept o a (d.visit s k i t) := by
  unfold Dev.visit
  dsimp only
  split
  · exact h.perf.bgSlot
  · exact (((h.flushBg.leave.select.ite h.flushBg.leave).perf).ite (((h.flushBg.leave.select.ite h.flushBg.leave).perf).beat)).ite
      (((h.flushBg.leave.select.ite h.flushBg.leave).perf).bgSlot)

protected theorem idleSlot {s k t : ℕ} {bg : Bool} (h : Kept o a d) : Kept o a (d.idleSlot s k t bg) := by
  unfold Dev.idleSlot
  exact h.perf.bgSlot.ite h

protected theorem slotVisit {s t : ℕ} (h : Kept false a d) : Kept false a (d.slotVisit s t) := by
  unfold Dev.slotVisit
  exact h.ite ((((((((h.swapAtWrap.ite h).setCal).editDone).settleAsks).waitAll).visit).ite ((((((h.swapAtWrap.ite
    h).setCal).editDone).settleAsks).waitAll).idleSlot)).ite ((((((((((h.swapAtWrap.ite
    h).setCal).editDone).editDone).settleAsks).waitAll).idleSlot).ite ((((((((h.swapAtWrap.ite
    h).setCal).editDone).editDone).settleAsks).waitAll).idleSlot).ite (((((((h.swapAtWrap.ite
    h).setCal).editDone).editDone).settleAsks).waitAll).visit))).idleSlot).ite ((((((((((h.swapAtWrap.ite
    h).setCal).editDone).editDone).settleAsks).waitAll).idleSlot).ite ((((((((h.swapAtWrap.ite
    h).setCal).editDone).editDone).settleAsks).waitAll).idleSlot).ite (((((((h.swapAtWrap.ite
    h).setCal).editDone).editDone).settleAsks).waitAll).visit))).idleSlot).ite (((((((((h.swapAtWrap.ite
    h).setCal).editDone).editDone).settleAsks).waitAll).idleSlot).ite ((((((((h.swapAtWrap.ite
    h).setCal).editDone).editDone).settleAsks).waitAll).idleSlot).ite (((((((h.swapAtWrap.ite
    h).setCal).editDone).editDone).settleAsks).waitAll).visit))).visit))))

protected theorem bgWait {s r : ℕ} (h : Kept o a d) : Kept o a (d.bgWait s r) := by
  unfold Dev.bgWait
  exact h.setCal.cause.ite h

protected theorem passInstants (h : Kept o a d) : Kept o a d.passInstants := by
  unfold Dev.passInstants
  exact h.foldl (fun _ _ hx => hx.setComp)

protected theorem recallHanded (h : Kept o a d) : Kept o a d.recallHanded := by
  unfold Dev.recallHanded
  exact h.ite ((h.same rfl).setQueue)

protected theorem regainInstants (h : Kept o a d) : Kept o a d.regainInstants := by
  unfold Dev.regainInstants
  exact h.foldl (fun _ _ hx => hx.setComp)

protected theorem applyStep {st : TimeStep} (h : Kept false a d) : Kept false a (d.applyStep st) := by
  unfold Dev.applyStep
  exact h.endPend.ite (((((((h.same rfl).wr).wr).raise).passInstants).ite ((((((h.same
    rfl).wr).wr).raise).regainInstants).recallHanded)).endPend)

protected theorem tick (h : Kept false a d) : Kept false a d.tick := by
  unfold Dev.tick
  exact ((h.same rfl).foldl (fun _ _ hx => hx.applyStep)).ite h

protected theorem scheduleFire (h : Kept o a d) : Kept o a d.scheduleFire := by
  unfold Dev.scheduleFire
  split
  exacts [h, h.ite ((((h.same rfl).setQueue).count).when (fun _ hy => hy.count.raise))]

protected theorem fireOwner {o' : Owner} {t : ℕ} (h : Kept o a d) : Kept o a (d.fireOwner o' t) := by
  unfold Dev.fireOwner
  split
  exacts [h.trigger, h.requestSwitch, h.takeover]

protected theorem scheduledAction {t : ℕ} (h : Kept o a d) : Kept o a (d.scheduledAction t) := by
  unfold Dev.scheduledAction
  split
  exacts [h, (h.same rfl).fireOwner]

protected theorem pulseEdge {k : ℕ} (h : Kept o a d) : Kept o a (d.pulseEdge k) := by
  unfold Dev.pulseEdge
  exact h.ite ((h.setComp.emit.count.ite h).ite (by split; exacts [h, (h.setComp.emit.count.ite h)]))

protected theorem eventAtTime {k : ℕ} (h : Kept o a d) : Kept o a (d.eventAtTime k) := by
  unfold Dev.eventAtTime
  exact h.count.wr.raise.ite h

protected theorem ppsIn {falling : Bool} (h : Kept o a d) : Kept o a (d.ppsIn falling) := by
  unfold Dev.ppsIn
  exact (((h.same rfl).wr).raise).ite h

protected theorem ppsInLost (h : Kept o a d) : Kept o a d.ppsInLost := by
  unfold Dev.ppsInLost
  split
  exacts [h, ((h.same rfl).raise).ite h]

protected theorem clk10mCount (h : Kept o a d) : Kept o a d.clk10mCount := by
  unfold Dev.clk10mCount
  exact Kept.ite (by dsimp only; split; exacts [((h.same rfl).wr), (h.same rfl)]) h

protected theorem clk10mGone (h : Kept o a d) : Kept o a d.clk10mGone := by
  unfold Dev.clk10mGone
  exact ((h.same rfl).raise).ite h

protected theorem epochBoundary {t : ℕ} (h : Kept o a d) : Kept o a (d.epochBoundary t) := by
  unfold Dev.epochBoundary
  exact ((h.same rfl).foldl (fun _ _ hx => hx.setFollower.ite hx)).ite h

protected theorem resumeWrite {t : ℕ} {w : AccessWait} (h : Kept false a d) : Kept false a (d.resumeWrite t w) := by
  unfold Dev.resumeWrite
  split
  · next k _ =>
    have hb := h.writeBlock (k := k) (t := t) (n := w.sub - beAt 2 1 k.body)
    split
    · next e => rw [e] at hb; exact hb.dapReply
    · next e => rw [e] at hb; exact hb
  · have hx := h.doWrite (p := w.wr.path) (i := w.index) (j := w.sub) (ty := w.wr.ty) (len := w.wr.len) (v := w.wr.value)
      (Kept.effectOf (t := t) (i := w.index) (j := w.sub))
    exact hx.ite ((hx.same rfl).foldl fun _ _ hy => hy.dapReply)

protected theorem wakeDone {k t : ℕ} (h : Kept false a d) : Kept false a (d.wakeDone k t) := by
  unfold Dev.wakeDone
  exact h.ite ((h.same rfl).foldl (fun _ _ hx => hx.resumeWrite))

protected theorem domainsOn (h : Kept o a d) : Kept o a d.domainsOn := by
  unfold Dev.domainsOn
  exact (h.foldl (fun _ _ hx => hx.startPair.ite hx)).foldl (fun _ _ hx => hx.burstSide.ite hx)

protected theorem transitionDone {k : ℕ} (h : Kept false a d) : Kept false a (d.transitionDone k) := by
  unfold Dev.transitionDone
  exact (h.ite (((((h.ite h.initOn).enterOn).reach).settle).domainsOn)).ite (h.reach.settle.ite (h.passOff.reach.stopPll.settle.ite h))

protected theorem domainFault {k : ℕ} (h : Kept false a d) : Kept false a (d.domainFault k) := by
  unfold Dev.domainFault
  exact h.setPower.stopPll.raise.settle.ite h

protected theorem pllLocked {p : ℕ} (h : Kept o a d) : Kept o a (d.pllLocked p) := by
  unfold Dev.pllLocked
  exact (((h.wr.when (fun _ hy => hy.wr)).same rfl).ite (h.wr.when (fun _ hy => hy.wr))).ite h

protected theorem pllLossOf {p : ℕ} (h : Kept o a d) : Kept o a (d.pllLossOf p) := by
  unfold Dev.pllLossOf
  exact (((h.same rfl).wr).count).raise

protected theorem clientLost {s : ℕ} (h : Kept o a d) : Kept o a (d.clientLost s) := by
  unfold Dev.clientLost
  exact h.ite h.dropped.setCarrier

protected theorem fifoReset {s t : ℕ} (h : Kept o a d) : Kept o a (d.fifoReset s t) := by
  unfold Dev.fifoReset
  exact ((((h.setStaged.setStagedBg.foldl (fun _ _ hx => hx.charge.encode.drop)).foldl (fun _ _ hx => hx.drop)).foldl (fun _ _ hx =>
    hx.settleDeficits)).clientLost).refill

protected theorem quadClockLost {q : ℕ} (h : Kept o a d) : Kept o a (d.quadClockLost q) := by
  unfold Dev.quadClockLost
  exact (((((h.when (fun _ hy => hy.condition)).crossReset).foldl (fun _ _ hx => hx.fifoReset)).restoreCredits).foldl (fun _ _ hx =>
    hx.loseLane)).setFollower

protected theorem pllLoss {p : ℕ} (h : Kept false a d) : Kept false a (d.pllLoss p) := by
  unfold Dev.pllLoss
  exact h.ite (h.pllLossOf.quadClockLost.ite (h.pllLossOf.crossReset.ite ((h.pllLossOf.keystoneReset.wr.ite
    h.pllLossOf.keystoneReset.wr.wr).ite h.pllLossOf)))

protected theorem refWindow {i : ℕ} {ppb : ℤ} {gone : Bool} (h : Kept o a d) : Kept o a (d.refWindow i ppb gone) := by
  unfold Dev.refWindow
  exact h.ite (h.wr.wrBit.when (fun _ hy => hy.raise))

protected theorem sysWindow {ppb : ℤ} (h : Kept o a d) : Kept o a (d.sysWindow ppb) := by
  unfold Dev.sysWindow
  exact h.ite (h.wr.wr.when (fun _ hy => hy.raise.condition))

protected theorem discard {i : ℕ} (h : Kept o a d) : Kept o a (d.discard i) := by
  unfold Dev.discard
  exact h.setSrc.alarmEnd

protected theorem disarm (h : Kept o a d) : Kept o a d.disarm := by
  unfold Dev.disarm
  exact (h.same rfl).foldl (fun _ _ hx => hx.discard)

protected theorem mainLost (h : Kept false a d) : Kept false a d.mainLost := by
  unfold Dev.mainLost
  exact h.ite (((((((((h.same rfl).disarm).discard).wipe).same rfl).count).setVault).count).ite ((((((h.same
    rfl).disarm).discard).wipe).same rfl).count))

protected theorem setSupply {v : ℕ} (h : Kept o a d) : Kept o a (d.setSupply v) := by
  unfold Dev.setSupply
  exact h.same rfl

protected theorem dip (h : Kept o a d) : Kept o a d.dip := by
  unfold Dev.dip
  exact h.setSupply.disarm.ite (h.setSupply.disarm.ite h)

protected theorem armAll (h : Kept o a d) : Kept o a d.armAll := by
  unfold Dev.armAll
  exact h.same rfl

protected theorem mainBack (h : Kept false a d) : Kept false a d.mainBack := by
  unfold Dev.mainBack
  exact h.ite ((((((((h.same rfl).armAll).xtalStatus).when (fun _ hy => hy.quiesce)).when (fun _ hy => hy.holdReset)).foldl (fun _ _ hx
    => hx.raise)).when (fun _ hy => hy.raise)).when (fun _ hy => hy.raise))

protected theorem aonUp (h : Kept false a d) : Kept false a d.aonUp := by
  unfold Dev.aonUp
  exact ((h.defaults.same rfl).wrBit).wipe

protected theorem ticksTo {ticks : ℕ} (h : Kept o a d) : Kept o a (d.ticksTo ticks) := by
  unfold Dev.ticksTo
  exact h.wr

protected theorem countEvent {i t : ℕ} (h : Kept o a d) : Kept o a (d.countEvent i t).2 := by
  unfold Dev.countEvent
  exact Kept.ite_snd h h.setSrc.count

protected theorem events {l : List ℕ} {t : ℕ} (h : Kept false a d) : Kept false a (d.events l t) := by
  unfold Dev.events
  extract_lets r
  have hr : Kept false a r.2 := h.foldl_snd fun _ _ hx => hx.countEvent
  exact hr.fire

protected theorem tamperEvent {glitches levels t ticks : ℕ} (h : Kept false a d) : Kept false a (d.tamperEvent glitches levels t ticks)
    := by
  unfold Dev.tamperEvent
  exact h.ite (((((h.ticksTo.foldl (fun _ _ hx => hx.setSrc)).wr).when (fun _ hy => hy.condition)).when (fun _ hy => hy.raise)).events)

protected theorem levelAlarm {m ticks : ℕ} (h : Kept false a d) : Kept false a (d.levelAlarm m ticks) := by
  unfold Dev.levelAlarm
  exact h.ite h.ticksTo.fire

protected theorem alarmOver {i : ℕ} (h : Kept o a d) : Kept o a (d.alarmOver i) := by
  unfold Dev.alarmOver
  exact h.alarmEnd.ite h

protected theorem sampleSource {levels i : ℕ} (h : Kept o a d) : Kept o a (d.sampleSource levels i).2 := by
  unfold Dev.sampleSource
  exact Kept.ite_snd h.setSrc (Kept.ite_snd (h.setSrc.alarmEnd.ite h.setSrc) h.setSrc.count)

protected theorem sample {levels : ℕ} {zlow edge : Bool} {ticks : ℕ} (h : Kept false a d) :
    Kept false a (d.sample levels zlow edge ticks) := by
  unfold Dev.sample
  refine h.ite ?_
  extract_lets d0 d1 m d2 r
  have h1 : Kept false a d1 := h.ticksTo.when fun _ hy => hy.zeroiseBackup.logTamper
  have h2 : Kept false a d2 := h1.same rfl
  have hr : Kept false a r.2 := h2.foldl_snd fun _ _ hx => hx.sampleSource
  exact hr.fire

protected theorem edgeWake {pin levels : ℕ} {zlow : Bool} {ticks : ℕ} (h : Kept false a d) : Kept false a (d.edgeWake pin levels zlow
    ticks) := by
  unfold Dev.edgeWake
  exact h.sample.ite h

protected theorem vbat {mv : ℕ} (h : Kept o a d) : Kept o a (d.vbat mv) := by
  unfold Dev.vbat
  exact h.ite (h.wr.when (fun _ hy => hy.raise))

protected theorem mismatch {law loc dir : ℕ} {x : ℤ} (h : Kept o a d) : Kept o a (d.mismatch law loc dir x) := by
  unfold Dev.mismatch
  exact (h.count.count.raise.ite ((h.count.same rfl).wr)).raise

protected theorem judge {law loc dir : ℕ} {x : ℤ} (h : Kept o a d) : Kept o a (d.judge law loc dir x) := by
  unfold Dev.judge
  exact (h.same rfl).ite (h.ite ((h.same rfl).mismatch))

protected theorem injMismatch {here : ℕ → ℕ → Bool} (h : Kept o a d) : Kept o a (d.injMismatch here) := by
  unfold Dev.injMismatch
  split
  exacts [h.struck.mismatch, h]

protected theorem auditPass {cs : List (List ℕ)} (h : Kept o a d) : Kept o a (d.auditPass cs) := by
  unfold Dev.auditPass
  exact ((h.foldl (fun _ _ hx => hx.judge.ite hx)).same rfl).injMismatch

protected theorem creditMarker {i : ℕ} {dir : Bool} {avail flight held : ℕ} (h : Kept o a d) :
    Kept o a (d.creditMarker i dir avail flight held) := by
  unfold Dev.creditMarker
  extract_lets c p k whole set y
  split
  extract_lets x d1 z d2
  have h1 : Kept o a d1 := h.same rfl
  have h2 : Kept o a d2 := h1.ite ((h1.same rfl).ite h1.judge)
  exact h2.injMismatch

protected theorem book {k : ℕ} (h : Kept o a d) : Kept o a (d.book k) := by
  unfold Dev.book
  exact (h.losePages.syncStacks.ite (h.bookSlice.ite ((h.foldl (fun _ _ hx => hx.fifoReset)).ite (h.emptyQuad.ite h)))).restoreCredits

protected theorem checkpointDone (h : Kept false a d) : Kept false a d.checkpointDone := by
  unfold Dev.checkpointDone
  split
  exacts [h, (((h.book.same rfl).wr).raise).settle]

protected theorem reclaimDone (h : Kept o a d) : Kept o a d.reclaimDone := by
  unfold Dev.reclaimDone
  split
  · exact h
  · extract_lets free d0 d1
    have h1 : Kept o a d1 := h.bookSlice.restoreCredits.cntBy
    clear_value d1
    exact (h1.same rfl).wr.raise

protected theorem perfLimit {b j : ℕ} (h : Kept o a d) : Kept o a (d.perfLimit b j) := by
  unfold Dev.perfLimit
  exact h.wr.wrBit.raise.ite h

protected theorem wdTime {k t : ℕ} (h : Kept o a d) : Kept o a (d.wdTime k t) := by
  unfold Dev.wdTime
  exact h.wdExpires.ite h

protected theorem coreRestart {k : ℕ} (h : Kept o a d) : Kept o a (d.coreRestart k) := by
  unfold Dev.coreRestart
  exact ((h.same rfl).wdRestart).ite h

protected theorem cancelJobs {cores : List ℕ} (h : Kept o a d) : Kept o a (d.cancelJobs cores) := by
  unfold Dev.cancelJobs
  exact h.cancelAll.raise.ite h.cancelAll

protected theorem clusterReset (h : Kept o a d) : Kept o a d.clusterReset := by
  unfold Dev.clusterReset
  extract_lets d1 d2
  have h1 : Kept o a d1 := h.cancelJobs.foldl fun _ _ hx => hx.wdRestart
  have h2 : Kept o a d2 := h1.foldl fun _ _ hx => hx.mkaStarts.ite hx
  clear_value d2
  exact h2.same rfl

protected theorem firmwareRestart (h : Kept o a d) : Kept o a d.firmwareRestart := by
  unfold Dev.firmwareRestart
  refine h.ite ?_
  extract_lets d1
  have h1 : Kept o a d1 := h.raise.count.clusterReset
  clear_value d1
  exact Kept.fetch (h1.same rfl)

protected theorem unfenced {s : ℕ} {ok : Bool} (h : Kept false a d) : Kept false a (d.unfenced s ok) := by
  unfold Dev.unfenced
  exact h.ite ((((h.setBg.settleAsks.tracking (fun _ hy => hy.wr)).foldl (fun _ _ hx => hx.retrain)).endPend).ite
    h.setBg.settleAsks.wrBit.raise.endPend)

protected theorem resume {t : ℕ} {w : AccessWait} (h : Kept false a d) : Kept false a (d.resume t w) := by
  unfold Dev.resume
  split
  exacts [by split; exacts [h.dapPerform, h], h.bar0Now.ite (h.write Kept.effectOf)]

protected theorem linkUp {q t : ℕ} (h : Kept false a d) : Kept false a (d.linkUp q t) := by
  unfold Dev.linkUp
  exact h.ite (((h.same rfl).wr).foldl (fun _ _ hx => hx.resume))

protected theorem linkTimeout {q : ℕ} (h : Kept false a d) : Kept false a (d.linkTimeout q) := by
  unfold Dev.linkTimeout
  exact h.ite (by split; exacts [h, ((h.same rfl).failWait)])

protected theorem underrun {s t : ℕ} (h : Kept o a d) : Kept o a (d.underrun s t) := by
  unfold Dev.underrun
  split
  exacts [h.cutHead.endHead, h]

protected theorem injOccur {n t : ℕ} {b : Bytes} (h : Kept o a d) : Kept o a (d.injOccur n t b) := by
  unfold Dev.injOccur
  split
  · exact h
  · exact by split; exacts [(h.when (fun _ hy => (hy.ifRuns (fun _ hy => hy.select)))), (h.when (fun _ hy => (hy.ifRuns (fun _ hy =>
      hy.readback)))), h.linkAttempt, (h.ifPlanisher (fun _ hy => hy.keyBus)), h.laneWordRx, (h.ifRuns (fun _ hy => hy.carrierVerdict)),
      (h.ifRuns (fun _ hy => hy.underrun)), (h.ifRuns (fun _ hy => hy.plumbPass)), h]

protected theorem powerOn {compat : Bool} {src : ℕ} (h : Kept false a d) : Kept false a (d.powerOn compat src) := by
  unfold Dev.powerOn
  exact h.ite ((((h.same rfl).wr).keystoneReset).ite (((h.same rfl).wr).letGo))

protected theorem tapRelease (h : Kept o a d) : Kept o a d.tapRelease := by
  unfold Dev.tapRelease
  exact (h.same rfl).ite h

protected theorem sysRst {low : Bool} (h : Kept false a d) : Kept false a (d.sysRst low) := by
  unfold Dev.sysRst
  exact ((h.same rfl).keystoneReset).ite (((h.same rfl).same rfl).when (fun _ hy => hy.tapRelease))

protected theorem bootFail {code : ℕ} (h : Kept o a d) : Kept o a (d.bootFail code) := by
  unfold Dev.bootFail
  exact ((((((h.same rfl).wr).raise).same rfl).setBoot).flashRead).ite ((((((h.same rfl).wr).raise).same rfl).setBoot).ite (((((h.same
    rfl).wr).raise).same rfl).setBoot))

protected theorem perst {low : Bool} (h : Kept false a d) : Kept false a (d.perst low) := by
  unfold Dev.perst
  exact (((h.same rfl).loseEndpoint).when (fun _ hy => hy.bootFail)).ite (h.same rfl)

protected theorem pcieUp {link : ℕ} (h : Kept o a d) : Kept o a (d.pcieUp link) := by
  unfold Dev.pcieUp
  exact h.ite ((h.same rfl).wr)

protected theorem doorbell {addr len : ℕ} (h : Kept o a d) : Kept o a (d.doorbell addr len) := by
  unfold Dev.doorbell
  exact h.ite ((((h.same rfl).attempt).same rfl).ite (h.same rfl))

protected theorem imageLoaded {img : Option Bytes} (h : Kept o a d) : Kept o a (d.imageLoaded img) := by
  unfold Dev.imageLoaded
  exact ((h.same rfl).setBoot).ite h

protected theorem verify (h : Kept o a d) : Kept o a d.verify := by
  unfold Dev.verify
  exact h.ite (h.bootFail.ite ((((h.wr.wr.wr.wr.same rfl).wr).raise).setBoot))

protected theorem bootRecord {i j ty len v t : ℕ} (h : Kept false a d) : Kept false a (d.bootRecord i j ty len v t) := by
  unfold Dev.bootRecord
  exact h.ite ((h.same rfl).ite (((h.same rfl).doWrite Kept.effectOf).ite ((((h.same rfl).doWrite Kept.effectOf).same rfl).bootStop)))

protected theorem bootTimeout (h : Kept o a d) : Kept o a d.bootTimeout := by
  unfold Dev.bootTimeout
  exact (h.bootStop.ite h).ite (h.ite (((h.same rfl).bootStop).ite (((h.same rfl).clusterReset).fetch)))

protected theorem deviceReady {ms : ℕ} (h : Kept o a d) : Kept o a (d.deviceReady ms) := by
  unfold Dev.deviceReady
  exact h.ite ((((h.same rfl).setBoot).wr).raise)

protected theorem tapBypass {n : ℕ} {tdi : List Bool} (h : Kept o a d) : Kept o a (d.tapBypass n tdi) := by
  unfold Dev.tapBypass
  exact (h.same rfl).emit

protected theorem tapBypassOnly {tdi : List Bool} (h : Kept o a d) : Kept o a (d.tapBypassOnly tdi) := by
  unfold Dev.tapBypassOnly
  exact h.when (fun _ hy => hy.tapBypass)

protected theorem tapIdcode {tdi : List Bool} (h : Kept o a d) : Kept o a (d.tapIdcode tdi) := by
  unfold Dev.tapIdcode
  exact h.when (fun _ hy => ((hy.same rfl).emit))

protected theorem tapCapture {n : ℕ} {balls tdi : List Bool} (h : Kept o a d) : Kept o a (d.tapCapture n balls tdi) := by
  unfold Dev.tapCapture
  exact (h.same rfl).emit

protected theorem tapSample {balls tdi : List Bool} (h : Kept o a d) : Kept o a (d.tapSample balls tdi) := by
  unfold Dev.tapSample
  exact h.when (fun _ hy => hy.tapCapture)

protected theorem tapExtest {n : ℕ} {balls tdi : List Bool} (h : Kept o a d) : Kept o a (d.tapExtest n balls tdi) := by
  unfold Dev.tapExtest
  exact h.ite (h.tapBypass.ite h.emit.tapCapture.emit)

protected theorem tapHold {n : ℕ} {tdi : List Bool} (h : Kept o a d) : Kept o a (d.tapHold n tdi) := by
  unfold Dev.tapHold
  exact h.ite (h.tapBypass.ite h.emit.tapBypass)

protected theorem stackTrained {s : ℕ} {ok : Bool} (h : Kept o a d) : Kept o a (d.stackTrained s ok) := by
  unfold Dev.stackTrained
  exact h.wr.syncStacks.ite h

protected theorem dipEnds {t ticks : ℕ} (h : Kept false a d) : Kept false a (d.dipEnds t ticks) := by
  unfold Dev.dipEnds
  exact (((h.setSupply.same rfl).ticksTo).events).ite h

protected theorem resetRelease {compat : Bool} {src : ℕ} (h : Kept false a d) : Kept false a (d.resetRelease compat src) := by
  unfold Dev.resetRelease
  exact h.ite h.letGo

end Dev.Kept

end Sys2Proof.Machine

namespace Sys2Proof.Machine

/-! ## What every command and every round of the engines keeps -/

namespace Dev.Kept

variable {o : Bool} {s t : State} {f : Dev → Dev}

theorem of_act (e : act f s = .next t) (h : Kept o s.dev (f s.dev)) : Kept o s.dev t.dev := by
  cases e
  exact h

theorem of_actIf {p : Bool} (e : actIf p f s = .next t) (h : Kept o s.dev (f s.dev)) : Kept o s.dev t.dev := by
  cases p with
  | false => cases e
  | true => exact of_act e h

/-- Every command keeps the nine tables canonical; those that `apart` names keep the access ports too. -/
theorem of_exec {c : Instr} (e : exec c s = .next t) : Kept (apart c) s.dev t.dev := by
  have h := refl (apart c) s.dev
  cases c
  case dictionaryWrite =>
    simp only [exec, execDictionaryWrite] at e
    exact .of_act e (h.moment.write Kept.effectOf)
  case protSeal => exact .of_act e (h.write Kept.effProtSeal)
  case bar0Write =>
    simp only [exec, execBar0Write] at e
    exact .of_act e (h.moment.bar0Write)
  case bar0ReadCapture =>
    simp only [exec, execBar0ReadCapture] at e
    exact .of_act e (h.moment.bar0Read)
  case bar2Access => exact .of_act e h.bar2
  case ringDoorbell => exact .of_actIf e h.bar2
  case ringFlush => exact .of_actIf e h.flushWrite
  case punt => exact .of_actIf e h.puntOut
  case injectDescriptor => exact .of_actIf e h.moment.inject60
  case msixMaskClear => exact .of_act e h.msixMaskClear
  case msixEnable => exact .of_act e h.msixEnable
  case dapMessage =>
    simp only [exec, execDapMessage, actAt] at e
    exact .of_actIf e (h.moment.dapIn)
  case read | write | readBlock | writeBlock | exec | abort | sessionOpen | sessionClose => exact .of_act e h.request
  case execPendingReply => exact .of_act e h.pendingReply
  case sessionIdleTimeout => exact .of_act e h.closeSession
  case notifyHoldoffEnd => exact .of_act e h.holdoffEnd
  case udpDatagram =>
    simp only [exec, execUdpDatagram, actAt] at e
    exact .of_actIf e (h.moment.datagram)
  case mgmtLinkChange => exact .of_act e (h.when (fun _ hy => hy.raise))
  case canSegment =>
    simp only [exec, execCanSegment, actAt] at e
    exact .of_actIf e (h.moment.canIn)
  case canReassemblyTimeout => exact .of_act e h.setReasm
  case errorPassive | busOff | errorActive => exact .of_act e h.canState
  case behaviourLevel => exact .of_act e (h.write Kept.effBehaviour)
  case portCompat => exact .of_actIf e (h.write Kept.effPortCompat)
  case portWidth => exact .of_actIf e (h.write Kept.effPortWidth)
  case portMode | portModeOff => exact .of_actIf e (h.write Kept.effPortMode)
  case signalDetect => exact .of_actIf e (h.inLaneState (fun _ hy => hy.signalDetect))
  case cdrLock => exact .of_actIf e (h.inLaneState (fun _ hy => hy.cdrLock))
  case cdrLockTimeout => exact .of_actIf e (h.inLaneState (fun _ hy => hy.setLaneState))
  case adaptComplete => exact .of_actIf e (h.inLaneState (fun _ hy => hy.lockLane))
  case laneLockLost => exact .of_actIf e (h.inLaneState (fun _ hy => hy.loseLane))
  case firstLock => exact .of_actIf e h.firstLock
  case sideAligned => exact .of_actIf e h.sideAligned
  case linkFaultReceived => exact .of_actIf e h.linkFault
  case codewordLock => exact .of_actIf e h.codeword
  case prbsPattern | prbsCheck => exact .of_actIf e (h.write Kept.effPrbs)
  case prbsLock => exact .of_actIf e h.prbsRun
  case prbsClear => exact .of_actIf e (h.write Kept.effPrbsClear)
  case prbsInsert => exact .of_actIf e (h.write Kept.effPrbsInsert)
  case portPowerIdle | fastExit => exact .of_actIf e (h.write Kept.effPortPower)
  case fastRelockTimeout => exact .of_actIf e h.relockTimeout
  case idleRetainExpiry => exact .of_actIf e h.retainExpiry
  case egressFrame => exact .of_actIf e h.moment.egressFrame
  case egressSaFetch => exact .of_actIf e (h.moment.ifRuns (fun _ hy => hy.flip.saFetch))
  case ingressFrame => exact .of_actIf e h.moment.ingressFrame
  case verdict => exact .of_actIf e (h.moment.ifRuns (fun _ hy => hy.verdict))
  case causeClear => exact .of_actIf e (h.write Kept.effCauseClear)
  case causeEnable => exact .of_actIf e (h.write Kept.effCauseEnable)
  case carrierFrameTx => exact .of_actIf e (h.ifRuns (fun _ hy => hy.carrierTx))
  case laneWordRx => exact .of_actIf e h.laneWordRx
  case carrierFrameRx => exact .of_actIf e ((h.when (fun _ hy => hy.echo)).carrierRx)
  case carrierVerdict => exact .of_actIf e (h.ifRuns (fun _ hy => hy.carrierVerdict))
  case losDeclare | losClear | lofDeclare | lofClear => exact .of_actIf e h.declare
  case carrierStart => exact .of_actIf e h.carrierStart
  case carrierRunning => exact .of_actIf e h.carrierRun
  case carrierKeyLoaded => exact .of_actIf e h.carrierKeyLoaded
  case loadNext => exact .of_actIf e (h.write Kept.effLoadNext)
  case switchNow => exact .of_actIf e (h.write Kept.effSwitchNow)
  case switchAtTime => exact .of_actIf e (h.write Kept.effSwitchAtTime)
  case epochHighClear => exact .of_actIf e (h.write Kept.effEpochHighClear)
  case zeroise => exact .of_act e (h.write Kept.effZeroise)
  case zeroiseN => exact .of_act e h.zeroiseN
  case zeroisationComplete => exact .of_act e h.zeroiseDone
  case dapZeroiseClose => exact .of_act e h.dapErase
  case zeroiseClear => exact .of_act e (h.write Kept.effZeroiseClear)
  case zeroiseClearComplete => exact .of_act e h.clearDone
  case erase => exact .of_actIf e (h.write Kept.effErase)
  case usage => exact .of_actIf e (h.write Kept.effUsage)
  case drbgReseed => exact .of_act e (h.write Kept.effReseed)
  case drbgAutoReseed => exact .of_act e h.autoReseed
  case drbgHealthFail => exact .of_act e h.healthFail
  case keyBusTransfer => exact .of_actIf e (h.ifPlanisher (fun _ hy => hy.keyBus))
  case deriveSa | rekeyBatch | rootLoad | unwrapBlob | mkaKeys | mkaIcv | randomSak | unwrapSak | hashkey | testLoad =>
    exact .of_actIf e h.submitAs
  case rekeyBatchContinue | jobStart => exact .of_actIf e (h.ifPlanisher (fun _ hy => hy.startJob))
  case jobComplete => exact .of_actIf e (h.ifPlanisher (fun _ hy => hy.completeJob))
  case cancel => exact .of_actIf e (h.write Kept.effCancel)
  case configure | saRead | setThreshold | setPn | saErase => exact .of_actIf e (h.write Kept.effSaCmd)
  case notePop => exact .of_actIf e (h.write Kept.effNotePop)
  case schedSubmit => exact .of_actIf e (h.write Kept.effSchedSubmit)
  case schedCancel => exact .of_actIf e (h.write Kept.effSchedCancel)
  case changeover => exact .of_actIf e (h.ifRuns (fun _ hy => hy.servePort))
  case txRetire => exact .of_actIf e (h.ifRuns (fun _ hy => hy.txRetire))
  case retireDelayExpiry => exact .of_actIf e (h.ifRuns (fun _ hy => hy.rxRetire))
  case ctxErase => exact .of_act e (h.write Kept.effCtxErase)
  case mkaBindingEnable => exact .of_actIf e (h.write Kept.effMkaEnable)
  case lookup | insert | update | delete | readSlot | readEntry => exact .of_actIf e h.tableCmd
  case stashDrain => exact .of_actIf e (h.when (fun _ hy => hy.drainOne))
  case migrate => exact .of_actIf e (h.write Kept.effMigrate)
  case migrationStep => exact .of_actIf e (h.when (fun _ hy => hy.migrationStep))
  case lock => exact .of_actIf e (h.moment.write Kept.effLock)
  case lockRelease => exact .of_actIf e (h.write Kept.effUnlock)
  case leaseExpiry => exact .of_actIf e (h.ifRuns (fun _ hy => hy.leaseEnds))
  case readBuckets | writeBuckets | readStash | writeStash | readEntries | writeEntries | readRecords | writeRecords | loadPlumb =>
    exact .of_actIf e h.dma
  case plumbSet => exact .of_actIf e (h.write Kept.effPlumbSet)
  case plumbPass => exact .of_actIf e (h.ifRuns (fun _ hy => hy.plumbPass))
  case learnPop => exact .of_actIf e (h.write Kept.effLearnPop)
  case agerVisit => exact .of_actIf e h.ageVisit
  case queueWindowRead | queueWindowWrite | queueWindowStatus | flush => exact .of_actIf e h.moment.queueCmd
  case poolOwner => exact .of_actIf e (h.write Kept.effPoolOwner)
  case readback => exact .of_actIf e (h.ifRuns (fun _ hy => hy.readback))
  case schedulerSelect => exact .of_actIf e (h.moment.ifRuns (fun _ hy => hy.select))
  case frameEndCharge => exact .of_actIf e (h.moment.ifRuns (fun _ hy => hy.frameEnd))
  case stackFailed => exact .of_actIf e h.stackFails
  case configChange => exact .of_actIf e (h.write Kept.effConfigChange)
  case configCancel => exact .of_actIf e (h.write Kept.effConfigCancel)
  case gateTakeover => exact .of_actIf e (h.moment.ifRuns (fun _ hy => hy.gateTakeover))
  case gateTransition => exact .of_actIf e (h.moment.ifRuns (fun _ hy => hy.gateSync))
  case gateEnable => exact .of_actIf e (h.moment.write Kept.effGateEnable)
  case samplePassStart => exact .of_actIf e (h.moment.ifRuns (fun _ hy => hy.passStart))
  case sampleVisit => exact .of_actIf e (h.moment.ifRuns (fun _ hy => hy.sampleVisit))
  case sampleSize => exact .of_actIf e (h.moment.write Kept.effSampler)
  case slotVisit => exact .of_actIf e (h.moment.ifRuns (fun _ hy => hy.slotVisit))
  case swap => exact .of_actIf e (h.write Kept.effSwap)
  case swapAtWrap => exact .of_actIf e (h.ifRuns (fun _ hy => hy.swapAtWrap))
  case hotEdit => exact .of_actIf e (h.write Kept.effHotEdit)
  case bgBase => exact .of_actIf e (h.write Kept.effBgBase)
  case bgWait => exact .of_actIf e (h.ifRuns (fun _ hy => hy.bgWait))
  case bgWaitClear => exact .of_actIf e (h.write Kept.effBgWaitClear)
  case timeTick => exact .of_act e h.tick
  case increment => exact .of_act e (h.write Kept.store)
  case step => exact .of_act e (h.write Kept.effStep)
  case timeSet => exact .of_act e (h.write Kept.effTimeSet)
  case scheduleFire => exact .of_act e h.scheduleFire
  case scheduledAction =>
    simp only [exec, execScheduledAction, actAt] at e
    exact .of_actIf e (h.moment.scheduledAction)
  case tsPop => exact .of_actIf e (h.write Kept.effTsPop)
  case function => exact .of_actIf e (h.write Kept.effFunction)
  case pulseEdge => exact .of_actIf e h.pulseEdge
  case eventAtTime => exact .of_actIf e h.eventAtTime
  case ppsInEdge => exact .of_act e h.ppsIn
  case ppsInLost => exact .of_act e h.ppsInLost
  case clk10mMeasurement => exact .of_act e h.clk10mCount
  case clk10mLost => exact .of_act e h.clk10mGone
  case epochBoundary =>
    simp only [exec, execEpochBoundary, actAt] at e
    exact .of_actIf e (h.moment.epochBoundary)
  case powerReq => exact .of_actIf e (h.write Kept.effPowerReq)
  case domainTransitionDone => exact .of_actIf e h.moment.transitionDone.wakeDone
  case domainFault => exact .of_actIf e h.domainFault
  case pllLocked => exact .of_actIf e h.pllLocked
  case pllLockLoss => exact .of_actIf e h.pllLoss
  case refclkWindow => exact .of_actIf e h.refWindow
  case sysclkWindow => exact .of_act e h.sysWindow
  case sysclkLost => exact .of_act e h.keystoneReset
  case pulseOverflow => exact .of_actIf e h.pulseOverflow
  case pulseOverflowClear => exact .of_act e (h.write Kept.effPulseClear)
  case mainPowerLost => exact .of_act e h.mainLost
  case vddIoDip => exact .of_act e h.dip
  case mainPowerRestored => exact .of_act e h.mainBack
  case aonPowerUp => exact .of_act e h.aonUp
  case tamperEvent =>
    simp only [exec, execTamperEvent, actAt] at e
    exact .of_actIf e (h.moment.tamperEvent)
  case tamperLevelAlarm => exact .of_act e h.levelAlarm
  case tamperAlarmEnd => exact .of_actIf e h.alarmOver
  case tamperSample => exact .of_act e h.sample
  case wakeOnEdge => exact .of_actIf e h.edgeWake
  case stickyClear => exact .of_act e (h.write Kept.effStickyClear)
  case responseClear => exact .of_act e (h.write Kept.effResponseClear)
  case fuseBlow => exact .of_actIf e (h.write Kept.effFuseBlow)
  case logPop => exact .of_act e (h.write Kept.effLogPop)
  case vbatMeasure => exact .of_act e h.vbat
  case auditPass => exact .of_act e h.auditPass
  case creditMarker => exact .of_actIf e h.creditMarker
  case reportPop => exact .of_act e (h.write Kept.effReportPop)
  case rebase => exact .of_act e (h.write Kept.effRebase)
  case checkpoint => exact .of_act e (h.write Kept.effCheckpoint)
  case checkpointDone => exact .of_act e h.checkpointDone
  case reclaim => exact .of_act e (h.write Kept.effReclaim)
  case reclaimDone => exact .of_act e h.reclaimDone
  case select => exact .of_actIf e (h.moment.write Kept.effSelect)
  case clearMask => exact .of_actIf e (h.write Kept.effClearMask)
  case pcEnable => exact .of_actIf e (h.write Kept.effPcEnable)
  case pcClear => exact .of_actIf e (h.write Kept.effPcClear)
  case pcSaturatedClear => exact .of_actIf e (h.write Kept.effPcSaturatedClear)
  case pcSaturation => exact .of_actIf e h.perfLimit
  case eventRaise => exact .of_actIf e (h.when (fun _ hy => hy.raise))
  case clear => exact .of_actIf e (h.write Kept.effClear)
  case mask => exact .of_actIf e (h.write Kept.effMask)
  case wdKick => exact .of_act e (h.write Kept.effKick)
  case wdExpiry => exact .of_actIf e h.moment.wdTime
  case coreRestart => exact .of_actIf e h.coreRestart
  case firmwareRestart => exact .of_act e h.firmwareRestart
  case fence => exact .of_actIf e (h.write Kept.effFence)
  case sliceInternalFault => exact .of_actIf e h.sliceFault
  case unfence => exact .of_actIf e (h.write Kept.effUnfence)
  case unfenceComplete => exact .of_actIf e h.unfenced
  case faultClear => exact .of_actIf e (h.write Kept.effFaultClear)
  case linkReset => exact .of_actIf e h.linkReset
  case linkRetrained => exact .of_actIf e h.moment.linkUp
  case linkAccessTimeout => exact .of_actIf e h.linkTimeout
  case loopback => exact .of_actIf e (h.write Kept.effLoopback)
  case tgStart => exact .of_actIf e (h.write Kept.effTgStart)
  case tgStop => exact .of_actIf e (h.write Kept.effTgStop)
  case injFire =>
    simp only [exec, execInjFire, actAt] at e
    exact .of_actIf e (h.moment.write Kept.effInjFire)
  case injectionOccurrence =>
    simp only [exec, execInjectionOccurrence, actAt] at e
    exact .of_actIf e (h.moment.injOccur)
  case injCancel => exact .of_act e (h.write Kept.effInjCancel)
  case testZeroiseArmed => exact .of_act e (h.write Kept.effArm)
  case powerOnReset => exact .of_actIf e h.powerOn
  case sysRstN => exact .of_act e h.sysRst
  case softReset => exact .of_actIf e (h.write Kept.effSoftReset)
  case perstN => exact .of_act e h.perst
  case pcieLinkTrained => exact .of_act e h.pcieUp
  case domainReset => exact .of_act e (h.write Kept.effDomainReset)
  case doorbell => exact .of_act e h.doorbell
  case imageLoaded => exact .of_act e h.imageLoaded
  case imageVerify => exact .of_act e h.verify
  case bootConfigRecord =>
    simp only [exec, execBootConfigRecord] at e
    exact .of_act e (h.moment.bootRecord)
  case bootTimeout => exact .of_act e h.bootTimeout
  case deviceReady => exact .of_act e h.deviceReady
  case svnAdvance => exact .of_act e (h.write Kept.effSvnAdvance)
  case keyRevoke => exact .of_act e (h.write Kept.effKeyRevoke)
  case gpioFunc => exact .of_actIf e (h.write Kept.effGpioFunc)
  case ppsPlace => exact .of_act e (h.write Kept.effPpsPlace)
  case bypass => exact .of_act e h.tapBypassOnly
  case idcode => exact .of_act e h.tapIdcode
  case samplePreload => exact .of_act e h.tapSample
  case extest | extestPulse | extestTrain => exact .of_act e h.tapExtest
  case clamp | highz => exact .of_act e h.tapHold
  case stackTrainingDone => exact .of_actIf e h.stackTrained
  case vddIoReturn =>
    simp only [exec, execVddIoReturn, actAt] at e
    exact .of_actIf e (h.moment.dipEnds)
  case resetRelease => exact .of_actIf e h.resetRelease

/-- A step on an empty queue is a round of the engines (log 5); any other performs the command in front. -/
theorem of_step (e : step s = .next t) : Kept false s.dev t.dev := by
  obtain ⟨pending, d⟩ := s
  cases pending with
  | nil =>
    cases e
    exact (refl false d).round
  | cons c rest => exact { of_exec (s := ⟨rest, d⟩) e with ports := nofun }

end Dev.Kept

/-- Settles O4: the register file is one of the nine tables that every operation of the model keeps in their canonical form. -/
theorem registersStayInTheirCanonicalForm : Obligations.RegistersStayInTheirCanonicalForm := by
  unfold Obligations.RegistersStayInTheirCanonicalForm
  exact fun _ _ hs e => (Dev.Kept.of_step e).dict hs

/-- Settles O5: every operation of the model keeps the nine tables in their canonical form. -/
theorem tablesStayInTheirCanonicalForm : Obligations.TablesStayInTheirCanonicalForm := by
  unfold Obligations.TablesStayInTheirCanonicalForm
  exact fun _ _ hs e => (Dev.Kept.of_step e).canonical hs

/-- Settles O60: the operations by which the commands apart act keep the access ports, and those commands complete. -/
theorem accessPortsStandApart : Obligations.AccessPortsStandApart := by
  unfold Obligations.AccessPortsStandApart
  intro c s hc hw
  obtain ⟨d, e⟩ := exec_of_wf hw s
  exact ⟨_, e, rfl, (Dev.Kept.of_exec e).ports hc⟩

end Sys2Proof.Machine

namespace Sys2Proof.Machine

/-! ## What a write meets before its owner, for every object -/

/-- An object found is one of those that its index has. -/
theorem mem_of_objIn {j n : Nat} {c : Cls} {r : Row} {l : List (Cls × Nat)} (h : objIn l j = some (c, n, r)) : (c, n) ∈ l := by
  induction l with
  | nil => cases h
  | cons e l ih =>
    obtain ⟨c', n'⟩ := e
    simp only [objIn] at h
    split at h
    · split at h
      · cases h
        exact List.mem_cons_self
      · exact List.mem_cons_of_mem _ (ih h)
    · exact List.mem_cons_of_mem _ (ih h)

theorem mem_of_objAt {i j n : Nat} {c : Cls} {r : Row} (h : objAt i j = some (c, n, r)) : (c, n) ∈ insts i := mem_of_objIn h

/-- Every slice and every calendar among the instances `l` is numbered below 64. -/
def SlicesBelow (l : List (Cls × Nat)) : Prop := ∀ n, ((.slice, n) ∈ l → n < 64) ∧ ((.calendar, n) ∈ l → n < 64)

namespace SlicesBelow

theorem ite {p : Prop} [Decidable p] {l m : List (Cls × Nat)} (h : p → SlicesBelow l) (k : ¬ p → SlicesBelow m) :
    SlicesBelow (if p then l else m) := by
  split
  · next hp => exact h hp
  · next hp => exact k hp

theorem append {l m : List (Cls × Nat)} (h : SlicesBelow l) (k : SlicesBelow m) : SlicesBelow (l ++ m) := fun n =>
  ⟨fun hn => (List.mem_append.1 hn).elim (h n).1 (k n).1, fun hn => (List.mem_append.1 hn).elim (h n).2 (k n).2⟩

theorem cons {e : Cls × Nat} {l : List (Cls × Nat)} (he : e.1 ≠ .slice ∧ e.1 ≠ .calendar) (h : SlicesBelow l) : SlicesBelow (e :: l) := by
  intro n
  have hs : (Cls.slice, n) ≠ e := fun hn => he.1 (by rw [← hn])
  have hc : (Cls.calendar, n) ≠ e := fun hn => he.2 (by rw [← hn])
  simpa only [List.mem_cons, hs, hc, false_or] using h n

theorem instsKeystone (i : Nat) : SlicesBelow (instsKeystone i) := by
  unfold Machine.instsKeystone
  repeat' refine SlicesBelow.ite (fun _ => ?_) (fun _ => ?_)
  all_goals simp [SlicesBelow]

theorem instsPorts (i : Nat) : SlicesBelow (instsPorts i) := by
  unfold Machine.instsPorts
  repeat' refine SlicesBelow.ite (fun _ => ?_) (fun _ => ?_)
  all_goals simp [SlicesBelow]
  omega

theorem instsBlocks (i : Nat) : SlicesBelow (instsBlocks i) := by
  unfold Machine.instsBlocks
  repeat' refine SlicesBelow.ite (fun _ => ?_) (fun _ => ?_)
  case' refine_2.refine_2.refine_2.refine_2.refine_1 =>
    refine .append (.append (.append (.cons (by simp) ?_) ?_) ?_) ?_ <;> refine .ite (fun _ => ?_) (fun _ => ?_)
  all_goals simp_all [SlicesBelow, within]
  omega

theorem insts (i : Nat) : SlicesBelow (insts i) :=
  .ite (fun _ => .ite (fun _ => by simp [SlicesBelow]) fun _ => instsKeystone i)
    fun _ => .ite (fun _ => by simp [SlicesBelow]) fun _ => .ite (fun _ => instsPorts i) fun _ => instsBlocks i

end SlicesBelow

/-- No object lies in domain 136, that of the control cluster (log 10). -/
theorem domainIn_ne_cluster {i n j : Nat} {c : Cls} (h : (c, n) ∈ insts i) : domainIn c n j ≠ some 136 := by
  intro hd
  have hlt : c = .slice ∨ c = .calendar → n < 64 := fun hc => by
    rcases hc with rfl | rfl
    exacts [(SlicesBelow.insts i n).1 h, (SlicesBelow.insts i n).2 h]
  cases c <;> simp only [domainIn, reduceCtorEq] at hd
  all_goals first | split_ifs at hd | skip
  all_goals simp only [Option.some.injEq, reduceCtorEq, or_false, or_true, forall_const] at hd hlt
  all_goals omega

/-- POWER_STATE of a domain other than 136 is no register of events (R405). -/
theorem eventReg_powerState {k : Nat} (hk : k ≠ 136) : eventReg (0x1100 + k) 2 = false := by
  simp only [eventReg, within, Bool.or_eq_false_iff, Bool.and_eq_false_iff, decide_eq_false_iff_not]
  omega

/-- The state of a die-to-die link is no register of events (R12). -/
theorem eventReg_linkState (q : Nat) : eventReg (0x141C + q) 1 = false := by
  simp only [eventReg, within, Bool.or_eq_false_iff, Bool.and_eq_false_iff, decide_eq_false_iff_not]
  omega

namespace Dev.Touches

variable {a b : Dev} (h : Touches eventReg a b)
include h

theorem inject_eq : b.inject = a.inject := by rw [h.same]

theorem boot_eq : b.boot = a.boot := by rw [h.same]

theorem linkHolds_eq (i j : Nat) : b.linkHolds i j = a.linkHolds i j := by
  simp only [Dev.linkHolds, h.rd (j := 1) (by decide) (eventReg_linkState _)]

theorem linkHit_eq (i j : Nat) : b.linkHit i j = a.linkHit i j := by
  have he : b.linkErr = a.linkErr := by
    funext q
    simp only [Dev.linkErr, Dev.armed, h.rd (j := 1) (by decide) (eventReg_linkState q), h.inject_eq]
  simp only [Dev.linkHit, he]

theorem answersOff_eq {k : Nat} (hk : k ≠ 136) : b.answersOff k = a.answersOff k := by
  unfold Dev.answersOff Dev.isLive Dev.pstate
  rw [h.rd (by decide) (eventReg_powerState hk)]

theorem roleExtra_eq (r : Role) (c : Cls) (n i j v : Nat) : b.roleExtra r c n i j v = a.roleExtra r c n i j v := by
  unfold Dev.roleExtra
  split
  case h_5 => rw [h.rd (by decide) (by decide)]
  case h_7 => rw [h.hasRight]
  case h_8 => rw [h.hasRight]
  case h_11 => rw [h.rd (by decide) (by simp [eventReg, within])]
  all_goals rfl

theorem mayWrite_eq (r : Role) (c : Cls) (n : Nat) (row : Row) (i j v : Nat) :
    b.mayWrite r c n row i j v = a.mayWrite r c n row i j v := by
  simp only [Dev.mayWrite, h.hasRight, h.roleExtra_eq]

/-- The checks from NO_OBJECT to RANGE do not see events, at any object. -/
theorem writeAbort_eq (r : Role) (i j ty len v : Nat) : b.writeAbort r i j ty len v = a.writeAbort r i j ty len v := by
  unfold Dev.writeAbort
  rw [h.boot_eq]
  split
  · rfl
  · next c n row ho =>
    have hoff : ∀ k, domainIn c n j = some k → b.answersOff k = a.answersOff k := fun k hk =>
      h.answersOff_eq fun h136 => domainIn_ne_cluster (mem_of_objAt ho) (h136 ▸ hk)
    rw [h.mayWrite_eq]
    cases hd : domainIn c n j with
    | none => rfl
    | some k => simp only [hoff k hd]

end Dev.Touches

/-! ## Refused writes (R79) -/

/-- The code that a refused write is answered with: the first of the order, or POWERED_OFF of the domain that it names (log 24). -/
def RefusedWith (d : Dev) (r : Role) (i j ty len v a : Nat) : Prop :=
  a = d.writeAbort r i j ty len v ∨
    ((d.writeAbort r i j ty len v = abType ∨ d.writeAbort r i j ty len v = abRange) ∧ namesDomain i j = true ∧ a = abPoweredOff)

theorem Dev.doWrite_refusedWith (eff : Eff) (p : Path) (i j ty len v : Nat) (d : Dev)
    (h : (d.accessed (d.roleOf p)).writeAbort (d.roleOf p) i j ty len v ≠ 0) :
    ∃ a, d.doWrite eff p i j ty len v = (d.accessed (d.roleOf p)).respond p i j a 0 0 0 ∧ a ≠ 0 ∧
      RefusedWith (d.accessed (d.roleOf p)) (d.roleOf p) i j ty len v a := by
  unfold Dev.doWrite
  simp only [bne_iff_ne, ne_eq, h, not_false_eq_true, if_true]
  split
  · next hn =>
    simp only [Bool.and_eq_true, Bool.or_eq_true, decide_eq_true_eq] at hn
    exact ⟨_, rfl, by decide, .inr ⟨hn.1.1, hn.1.2, rfl⟩⟩
  · exact ⟨_, rfl, h, .inl rfl⟩

/-- A refused access leaves in LAST_ABORT the object and the code (R77). -/
theorem Dev.rd_respond_lastAbort (p : Path) (i j : Nat) {a : Nat} (ha : a ≠ 0) (d : Dev) :
    (d.respond p i j a 0 0 0).rd 0x1530 2 = i * 2 ^ 24 + j * 2 ^ 16 + a :=
  (Dev.rd_of_dict (by rw [Dev.respond_dict, if_neg ha]) _ _).trans (Dev.rd_wr_self _ _ _ _)

/-- A dictionary write that the checks from NO_OBJECT to RANGE refuse, whatever the moment in which it comes. -/
theorem completes_refusedWrite {i j t : Nat} {w : Wr} {s : State} (hr : s.dev.reaches w.path = true) (hl : s.dev.linkHolds i j = none)
    (hh : s.dev.linkHit i j = none)
    (ha : (s.dev.accessed (s.dev.roleOf w.path)).writeAbort (s.dev.roleOf w.path) i j w.ty w.len w.value ≠ 0) :
    Completes (.dictionaryWrite i j t w) s fun d =>
      RefusedWith (s.dev.accessed (s.dev.roleOf w.path)) (s.dev.roleOf w.path) i j w.ty w.len w.value d.answer.abort ∧
      d.rd 0x1530 2 = i * 2 ^ 24 + j * 2 ^ 16 + d.answer.abort ∧ s.dev.keeps (only 0x1530 2) d := by
  have hat : Dev.Touches eventReg s.dev (s.dev.at t) := Dev.touches_at (fun _ _ h => h) t s.dev
  have hx : Dev.Touches eventReg s.dev ((s.dev.at t).accessed (s.dev.roleOf w.path)) := hat.trans (Dev.touches_accessed _ _)
  have hsame : ((s.dev.at t).accessed (s.dev.roleOf w.path)).writeAbort (s.dev.roleOf w.path) i j w.ty w.len w.value =
      (s.dev.accessed (s.dev.roleOf w.path)).writeAbort (s.dev.roleOf w.path) i j w.ty w.len w.value :=
    (hx.writeAbort_eq ..).trans ((Dev.touches_accessed _ _).writeAbort_eq ..).symm
  have hrole : (s.dev.at t).roleOf w.path = s.dev.roleOf w.path := hat.roleOf _
  obtain ⟨a, he, ha0, hw⟩ := (s.dev.at t).doWrite_refusedWith (effectOf t i j) w.path i j w.ty w.len w.value
    (by rw [hrole, hsame]; exact ha)
  rw [hrole] at he hw
  have hwrite : (s.dev.at t).write (effectOf t i j) i j w = ((s.dev.at t).accessed (s.dev.roleOf w.path)).respond w.path i j a 0 0 0 := by
    rw [Dev.write_performed _ i j w _ (hat.reaches _ hr) ((hat.linkHolds_eq i j).trans hl) ((hat.linkHit_eq i j).trans hh), he]
  obtain ⟨habort, hkeeps⟩ := hx.keeps_refused w.path i j a
  refine ⟨_, rfl, rfl, ?_⟩
  simp only [hwrite, habort]
  refine ⟨?_, Dev.rd_respond_lastAbort _ _ _ ha0 _, hkeeps⟩
  simpa only [RefusedWith, hsame] using hw

/-- The same where the code of the order is one that names no type and no range. -/
theorem completes_refusedWrite_with {i j t ab : Nat} {w : Wr} {s : State} (hr : s.dev.reaches w.path = true)
    (hl : s.dev.linkHolds i j = none) (hh : s.dev.linkHit i j = none)
    (ha : (s.dev.accessed (s.dev.roleOf w.path)).writeAbort (s.dev.roleOf w.path) i j w.ty w.len w.value = ab) (h0 : ab ≠ 0)
    (hty : ab ≠ abType) (hra : ab ≠ abRange) :
    Completes (.dictionaryWrite i j t w) s fun d => d.answer.abort = ab ∧ s.dev.keeps (only 0x1530 2) d := by
  obtain ⟨u, he, hp, hw, -, hk⟩ := completes_refusedWrite (t := t) hr hl hh (by rw [ha]; exact h0)
  refine ⟨u, he, hp, ?_, hk⟩
  simpa only [RefusedWith, ha, hty, hra, or_self, false_and, or_false] using hw

/-- Settles O7: counting the access and the time leave the checks alone, and a refusal writes LAST_ABORT alone. -/
theorem refusedWritesAreAnsweredAndDoNothingElse : Obligations.RefusedWritesAreAnsweredAndDoNothingElse := by
  unfold Obligations.RefusedWritesAreAnsweredAndDoNothingElse
  refine ⟨fun i j t w s _ hr hl hh ha => ?_, fun i j t w s hp ho hs hr hl hh => ?_, fun i j t w s hi ho hr hl hh => ?_,
    fun i j t w s hi ho hj hr hl hh => ?_⟩
  · obtain ⟨u, he, hp, hw, hlast, hk⟩ := completes_refusedWrite (t := t) hr hl hh ha
    exact ⟨u, he, hp, hw.imp_right fun hn => hn.2, hlast, hk⟩
  · refine completes_refusedWrite_with hr hl hh ?_ (by decide) (by decide) (by decide)
    obtain ⟨⟨c, n, row⟩, ho⟩ := Option.isSome_iff_exists.1 ho
    have hb : (s.dev.accessed (s.dev.roleOf w.path)).boot.sealed = true := by rw [(Dev.touches_accessed _ _).boot_eq]; exact hs
    simp only [Dev.writeAbort, ho, hp, hb, Bool.and_self, if_true]
  · refine completes_refusedWrite_with hr hl hh ?_ (by decide) (by decide) (by decide)
    simp only [Dev.writeAbort, ho, hi, List.isEmpty_nil, if_true]
  · refine completes_refusedWrite_with hr hl hh ?_ (by decide) (by decide) (by decide)
    have hne : (insts i).isEmpty = false := by simpa using hi
    simp only [Dev.writeAbort, ho, hne, hj, Bool.false_eq_true, if_false]

end Sys2Proof.Machine

namespace Sys2Proof.Machine

/-! ## What an object reads as (R41) -/

/-- The block with other keys, carriers and sessions. -/
def Dev.withKeys (k : Keys) (c : Tbl Carrier) (p : Dap) (d : Dev) : Dev := { d with keys := k, carriers := c, dap := p }

theorem Tbl.find_map {α : Type} (g : α → α) (t : Tbl α) (n : Nat) : Tbl.find (t.map fun e => (e.1, g e.2)) n = (Tbl.find t n).map g := by
  induction t with
  | nil => rfl
  | cons e t ih => exact (ite_congr rfl (fun _ => rfl) fun _ => ih).trans (apply_ite (Option.map g) (e.1 = n) (some e.2) (Tbl.find t n)).symm

/-- What `f` reads of an entry, the same of an entry changed by `g`, reads alike in a table changed by `g`. -/
theorem Tbl.get_map_congr {α β : Type} (d : Nat → α) (g : α → α) (t : Tbl α) (f : α → β) (h : ∀ x, f (g x) = f x) (n : Nat) :
    f (Tbl.get d (t.map fun e => (e.1, g e.2)) n) = f (Tbl.get d t n) := by
  rw [Tbl.get, Tbl.get, Tbl.find_map]
  cases Tbl.find t n with
  | none => rfl
  | some x => exact h x

theorem ite_fst_congr {α β : Type} {q : Prop} [Decidable q] {x y x' y' : α × β} (hx : x.1 = x'.1) (hy : y.1 = y'.1) :
    (if q then x else y).1 = (if q then x' else y').1 := by
  split <;> assumption

section ReadVal

variable {d : Dev} {k : Keys} {c : Tbl Carrier} {p : Dap} {i j n : Nat}

/-- The objects of the shared blocks read the keys through the status of a context and the exhausted SAs alone. -/
theorem liveUnit_withKeys (cls : Cls) (hx : (d.withKeys k c p).ctxStatus = d.ctxStatus)
    (hq : (d.withKeys k c p).exhaustedSas n = d.exhaustedSas n) : (d.withKeys k c p).liveUnit cls n i j = d.liveUnit cls n i j := by
  unfold Dev.liveUnit
  split
  case h_8 => exact hx
  case h_9 => exact hq
  all_goals rfl

/-- The objects of ports and lanes read the carrier through its key status alone. -/
theorem livePort_withKeys (cls : Cls) (hs : (d.withKeys k c p).keyStatus n = d.keyStatus n) :
    (d.withKeys k c p).livePort cls n i j = d.livePort cls n i j := by
  unfold Dev.livePort
  split
  case h_7 => exact hs
  all_goals rfl

theorem perfFresh_withKeys (b m : Nat) : ((d.withKeys k c p).perfFresh b m) = (d.perfFresh b m).withKeys k c p := by
  unfold Dev.perfFresh
  extract_lets was r was' r'
  exact (apply_ite (Dev.withKeys k c p) ((d.perfCycles b m && decide (was' < 2 ^ 48 - 1)) = true)
    (r'.2.wr (0x8100 + b) (0x90 + m) (was' + r'.1 % (2 ^ 48 - 1 - was'))) d).symm

/-- A read of an object looks at keys, carriers and sessions through three statuses alone. -/
theorem readVal_withKeys (hx : (d.withKeys k c p).ctxStatus = d.ctxStatus)
    (hq : ∀ q, (d.withKeys k c p).exhaustedSas q = d.exhaustedSas q) (hs : ∀ n, (d.withKeys k c p).keyStatus n = d.keyStatus n) :
    ((d.withKeys k c p).readVal i j).1 = (d.readVal i j).1 := by
  have live : ∀ cls n, (d.withKeys k c p).liveUnit cls n i j = d.liveUnit cls n i j := fun cls n => liveUnit_withKeys cls hx (hq n)
  have port : ∀ cls n, (d.withKeys k c p).livePort cls n i j = d.livePort cls n i j := fun cls n => livePort_withKeys cls (hs n)
  unfold Dev.readVal
  cases objAt i j with
  | none => rfl
  | some o =>
    obtain ⟨cls, n, row⟩ := o
    refine ite_fst_congr rfl ?_
    cases cls
    case gpio =>
      refine ite_fst_congr ?_ rfl
      have hg : (d.withKeys k c p).gpioLevel n = d.gpioLevel n := rfl
      rw [hg]
      cases d.gpioLevel n <;> rfl
    case tamper => exact ite_fst_congr rfl (live .tamper n)
    case dieTemp => exact ite_fst_congr rfl rfl
    case perf =>
      refine ite_fst_congr ?_ rfl
      rw [perfFresh_withKeys]
      rfl
    case linePort | sysPort | policy | carrier | lane =>
      dsimp only
      rw [port]
      rfl
    all_goals
      dsimp only
      exact live _ n

end ReadVal

/-- What the block says of a context. -/
def ctxSummary (x : Ctx) : Nat :=
  b2n x.hasKeys + 2 * b2n x.hasSak + 4 * b2n x.spent + x.cakSlot * 2 ^ 8 + x.sakLen * 2 ^ 16 + x.cakLen * 2 ^ 24

/-- KEY_STATUS of a carrier whose current epoch is `e` (R161). -/
def keySummary (e : Nat) (x : Carrier) : Nat :=
  b2n x.txNext.isSome + 2 * b2n x.rxNext.isSome + 4 * b2n (3 ≤ x.ready && x.farReady = some (e + 1)) + 8 * b2n x.want

/-- A context, an SA and a carrier with their keys replaced by `f`. -/
def Ctx.rekeyed (f : Nat → Nat) (x : Ctx) : Ctx := { x with ick := f x.ick, kek := f x.kek, sak := f x.sak }

def Sa.rekeyed (f : Nat → Nat) (x : Sa) : Sa := { x with key := f x.key, h := f x.h, salt := f x.salt }

def Carrier.rekeyed (f : Nat → Nat) (x : Carrier) : Carrier :=
  let c := fun (k : CKey) => { k with key := f k.key, salt := f k.salt }
  { x with txCur := x.txCur.map c, txNext := x.txNext.map c, rxCur := x.rxCur.map c, rxNext := x.rxNext.map c }

theorem keySummary_rekeyed (f : Nat → Nat) (e : Nat) (x : Carrier) : keySummary e (x.rekeyed f) = keySummary e x := by
  simp only [keySummary, Carrier.rekeyed, Option.isSome_map]
  rfl

theorem length_exhausted_map {g : Sa → Sa} (hg : ∀ x, (g x).state = x.state) (t : Tbl Sa) (q : Nat) :
    ((t.map fun e => (e.1, g e.2)).filter (fun e => e.1 / 16384 = q && e.2.state = saExhausted)).length =
      (t.filter (fun e => e.1 / 16384 = q && e.2.state = saExhausted)).length := by
  rw [List.filter_map, List.length_map]
  simp only [Function.comp_def, hg]

/-- Settles O8: the three statuses say how many keys there are, and in which state, not which. -/
theorem keyMaterialIsNeverRead : Obligations.KeyMaterialIsNeverRead := by
  unfold Obligations.KeyMaterialIsNeverRead
  refine ⟨fun d i j n k => ?_, fun d i j f g => ?_, fun _ _ _ _ => rfl⟩
  · exact readVal_withKeys (d := d) (k := { d.keys with slots := Tbl.set (fun _ => none) d.keys.slots n k }) (c := d.carriers) (p := d.dap)
      rfl (fun _ => rfl) fun _ => rfl
  · refine readVal_withKeys (d := d) (k := (d.otherKeys f g).keys) (c := (d.otherKeys f g).carriers) (p := (d.otherKeys f g).dap) ?_ ?_ ?_
    · exact Tbl.get_map_congr _ (Ctx.rekeyed f) _ ctxSummary (fun _ => rfl) _
    · exact fun q => ite_congr rfl (fun _ => rfl) fun _ => length_exhausted_map (g := Sa.rekeyed f) (fun _ => rfl) d.keys.sas q
    · exact fun n => Tbl.get_map_congr _ (Carrier.rekeyed f) d.carriers (keySummary (d.rd (0x2500 + n) 0x15)) (keySummary_rekeyed f _) n

end Sys2Proof.Machine

namespace Sys2Proof.Machine

/-! ## What a heard write of any object meets -/

namespace Dev.Touches

variable {a b : Dev} (h : Touches eventReg a b)
include h

theorem wakesFor_eq (i j : Nat) : b.wakesFor i j = a.wakesFor i j := by
  unfold Dev.wakesFor
  split
  · next c n row ho =>
    cases hk : domainIn c n j with
    | none => rfl
    | some k =>
      have hne : k ≠ 136 := fun h136 => domainIn_ne_cluster (mem_of_objAt ho) (h136 ▸ hk)
      have hp : b.pstate k = a.pstate k := h.rd (by decide) (eventReg_powerState hne)
      rw [Option.filter_some, Option.filter_some, hp]
  · rfl

/-- A write that is heard is heard as well after events. -/
theorem hears_at {i j : Nat} {w : Wr} (ha : a.hears i j w = true) : b.hears i j w = true := by
  obtain ⟨hreach, hholds, hhit, habort, habs, hpend, hwake⟩ := a.hears_parts i j w ha
  have hx : Touches eventReg a (a.accessed (a.roleOf w.path)) := touches_accessed _ a
  have hy : Touches eventReg a (b.accessed (a.roleOf w.path)) := h.trans (touches_accessed _ b)
  simp only [Dev.hears, h.roleOf, h.reaches _ hreach, h.linkHolds_eq, hholds, h.linkHit_eq, hhit, hy.writeAbort_eq,
    (hx.writeAbort_eq ..).symm.trans habort, hy.absorbedAt, (hx.absorbedAt i).symm.trans habs, hy.isPending,
    (hx.isPending i j).symm.trans hpend, hy.wakesFor_eq, (hx.wakesFor_eq i j).symm.trans hwake, Option.isNone_none, decide_true,
    Bool.not_false, Bool.and_true]

theorem vaultState_eq : b.vaultState = a.vaultState := h.rd (by decide) (by decide)

end Dev.Touches

/-- The block as the owner of an object meets a heard write. -/
theorem Dev.touches_atOwner (w : Wr) (d : Dev) : Dev.Touches eventReg d (d.atOwner w) := Dev.touches_accessed _ d

theorem Dev.role_atOwner (w : Wr) (d : Dev) : (d.atOwner w).roleOf w.path = d.roleOf w.path := (d.touches_atOwner w).roleOf _

/-- A command that acts on the block alone completes with what it acts. -/
theorem completes_act {c : Instr} {s : State} {f : Dev → Dev} {P : Dev → Prop} (he : exec c s = act f s) (h : P (f s.dev)) :
    Completes c s P := ⟨_, he, rfl, h⟩

theorem completes_actIf {c : Instr} {s : State} {p : Bool} {f : Dev → Dev} {P : Dev → Prop} (he : exec c s = actIf p f s) (hp : p = true)
    (h : P (f s.dev)) : Completes c s P := by
  subst hp
  exact completes_act he h

/-- A heard write that its owner refuses with `ab` changes LAST_ABORT alone. -/
theorem Dev.write_refuses {eff : Eff} {i j ab : Nat} {w : Wr} {d : Dev} (hh : d.hears i j w = true)
    (he : eff (d.roleOf w.path) w.value (d.atOwner w) = (ab, d.atOwner w)) :
    (d.write eff i j w).answer.abort = ab ∧ d.keeps (only 0x1530 2) (d.write eff i j w) := by
  rw [Dev.write_hears eff i j w d hh, he]
  exact (d.touches_atOwner w).keeps_refused _ _ _ _

/-- A heard write whose value its owner stores. -/
theorem Dev.write_stores {eff : Eff} {i j v : Nat} {w : Wr} {d : Dev} (hh : d.hears i j w = true) (hj : j < 256) (hi : i ≠ 0x1188)
    (he : eff (d.roleOf w.path) w.value (d.atOwner w) = (0, (d.atOwner w).wr i j v)) :
    (d.write eff i j w).answer.abort = 0 ∧ (d.write eff i j w).rd i j = v ∧ d.keeps (only i j) (d.write eff i j w) := by
  rw [Dev.write_hears eff i j w d hh, he]
  exact (d.touches_atOwner w).keeps_stored _ i j v hj hi

/-! ## PORT_COMPAT (R83) -/

section PortCompat

variable {n : Nat} {w : Wr} {d : Dev}

theorem Dev.Touches.levelDev_eq {a b : Dev} (h : Dev.Touches eventReg a b) : b.levelDev = a.levelDev := by
  unfold Dev.levelDev
  rw [h.boot_eq, h.rd (by decide) (by decide)]

theorem effPortCompat_level {r : Role} (hl : d.levelDev = 1) : effPortCompat n r 0 d = (abLevel, d) := by
  simp [effPortCompat, hl]

theorem effPortCompat_state {r : Role} {v : Nat} (hl : v = 0 → d.levelDev ≠ 1) (hm : d.mode n ≠ pmOff) :
    effPortCompat n r v d = (abState, d) := by
  simp only [effPortCompat, Bool.and_eq_true, decide_eq_true_eq, bne_iff_ne, ne_eq, hm, not_false_eq_true, if_true]
  exact if_neg fun h => hl h.1 h.2

theorem effPortCompat_stores {r : Role} {v : Nat} (hl : v = 0 → d.levelDev ≠ 1) (hm : d.mode n = pmOff) :
    effPortCompat n r v d = (0, d.wr (0x2000 + n) 3 v) := by
  simp only [effPortCompat, Bool.and_eq_true, decide_eq_true_eq, hm, bne_self_eq_false, Bool.false_eq_true, if_false]
  exact if_neg fun h => hl h.1 h.2

theorem exec_portCompat (hn : n < 256) (s : State) : exec (.portCompat n w) s = act (Dev.write (effPortCompat n) (0x2000 + n) 3 w) s := by
  show actIf (n < 256) _ s = _
  simp only [hn, decide_true]
  rfl

/-- At level 1 every PORT_COMPAT reads 1, of an absorbed pair as well (R83). -/
theorem readVal_portCompat (hn : n < 256) (hl : d.levelDev = 1) : (d.readVal (0x2000 + n) 3).1 = 1 := by
  have ho : objAt (0x2000 + n) 3 = some (.linePort, n, ⟨3, 1, "PORT_COMPAT", .bool, .rw, 0, .all⟩) := objAt_linePort hn rfl
  simp [Dev.readVal, ho, Dev.livePort, hl]

/-- Settles O10: PORT_COMPAT reads 1 at level 1, and its owner refuses or stores. -/
theorem portCompatFollowsTheBehaviourLevel : Obligations.PortCompatFollowsTheBehaviourLevel := by
  unfold Obligations.PortCompatFollowsTheBehaviourLevel
  refine ⟨fun n hn => objAt_linePort hn rfl, fun n s _ h1 => by simp [Dev.level1, h1], fun n s hn hl => readVal_portCompat hn hl,
    fun n w s hn hh hv hl => completes_act (exec_portCompat hn s) (Dev.write_refuses hh ?_),
    fun n w s hn hh hl hm => completes_act (exec_portCompat hn s) (Dev.write_refuses hh ?_),
    fun n w s hn hh hl hm => completes_act (exec_portCompat hn s) (Dev.write_stores (j := 3) hh (by decide) ?_ ?_)⟩
  case refine_3 => omega
  all_goals have ht := s.dev.touches_atOwner w
  · rw [hv]
    exact effPortCompat_level (ht.levelDev_eq.trans hl)
  · exact effPortCompat_state (fun hv => ht.levelDev_eq ▸ hl hv) fun h0 => hm ((ht.mode (by omega)).symm.trans h0)
  · exact effPortCompat_stores (fun hv => ht.levelDev_eq ▸ hl hv) ((ht.mode (by omega)).trans hm)

end PortCompat

end Sys2Proof.Machine

namespace Sys2Proof.Machine

/-! ## What refutes a clause -/

/-- What a command that acts on the block alone completes with holds of what it acts. -/
theorem Completes.of_act {c : Instr} {s : State} {f : Dev → Dev} {P : Dev → Prop} (h : Completes c s P) (he : exec c s = act f s) :
    P (f s.dev) := by
  obtain ⟨t, ht, -, hp⟩ := h
  obtain rfl := Host.Outcome.next.inj (he.symm.trans ht)
  exact hp

/-! ## A wait beside a clearing vault (R257) -/

/-- A block that clears its vault while a write of ZEROISE_CLEAR waits for a domain. -/
def clearingWithWait : State :=
  ⟨[], { Dev.reset with keys := { Dev.reset.keys with clearing := true }, wakeWaits := [⟨0, 0x3000, 3, ⟨.host, 0, 0, 0⟩, false, none⟩] }⟩

/-- Refutes O26: a write of ZEROISE_CLEAR that waits for a domain keeps it pending past the end of the clearing. -/
theorem not_zeroisationRunsAndIsCleared : ¬ Obligations.ZeroisationRunsAndIsCleared := by
  unfold Obligations.ZeroisationRunsAndIsCleared
  intro h
  obtain ⟨-, -, -, -, -, hend⟩ := h
  obtain ⟨-, -, -, -, hpend⟩ := (hend clearingWithWait rfl).of_act (f := Dev.clearDone) rfl
  exact absurd hpend (by decide +kernel)

end Sys2Proof.Machine

namespace Sys2Proof.Machine

/-! ## IN_FLIGHT_MAX of a slice that comes up (R353) -/

/-- A block with the domain of slice 0 on its way to ON, nothing in its pipeline and its IN_FLIGHT_MAX reading 1. -/
def slicePowersOn : State :=
  ⟨[], (((((onDoms [33, 139, 140, 141]).wr 0x1121 1 2).wr 0x1100 1 2).wr 0x1100 2 psToOn).wr 0x1210 1 2).wr 0x2600 5 1⟩

/-- Refutes O43: the transition of a slice domain to ON starts the slice's IN_FLIGHT_MAX over, which the statement keeps. -/
theorem not_domainsChangeStateAndServeTheirWrites : ¬ Obligations.DomainsChangeStateAndServeTheirWrites := by
  unfold Obligations.DomainsChangeStateAndServeTheirWrites
  intro h
  obtain ⟨-, -, -, hon, -⟩ := h
  obtain ⟨-, -, hkeeps, -⟩ := hon 0 0 slicePowersOn (by decide) (by decide +kernel) (by decide +kernel) (by decide +kernel)
    (by decide +kernel) rfl rfl rfl
    |>.of_act (f := fun d => ((d.at 0).transitionDone 0).wakeDone 0 0) rfl
  exact absurd (hkeeps 0x2600 5 (by decide) (by decide) (by decide)) (by decide +kernel)

end Sys2Proof.Machine

namespace Sys2Proof.Machine

/-! ## A parked grant and a generator that starts (R351, R483) -/

/-- A block whose pair 5 is UP, with generator 0 set for its clear traffic, and the grant of the pair's calendar parked at requester 0. -/
def generatorBesideParked : State :=
  ⟨[], (((passPair 5).wr 0x9010 1 5).wr 0x9010 5 0xFFFFFFFF).setCal (eSliceOf 5) { Cal.init with grant := some 0, parked := true }⟩

/-- Refutes O52: a generator that TG_START runs takes the parked grant from another requester, and BG_GRANT changes, which the statement
keeps. -/
theorem not_linksLoopbacksGeneratorsAndInjection : ¬ Obligations.LinksLoopbacksGeneratorsAndInjection := by
  unfold Obligations.LinksLoopbacksGeneratorsAndInjection
  intro h
  obtain ⟨-, -, -, -, -, hstart, -⟩ := h
  obtain ⟨-, -, -, hkeeps, -⟩ := hstart 0 (wOf 0x9010 8 1) generatorBesideParked (by decide) (by decide +kernel) (.inl (by decide +kernel))
    (by decide +kernel) |>.of_act (f := Dev.write (effTgStart 0) 0x9010 8 (wOf 0x9010 8 1)) rfl
  exact absurd (hkeeps 0x6000 0x54 (by decide) (by decide) (by decide)) (by decide +kernel)

end Sys2Proof.Machine

namespace Sys2Proof.Machine

/-! ## An inject descriptor while the pair drains (R60, R423) -/

/-- A block whose pair 5 is UP and drains, the buffer domain of its quadrant being emptied, with a descriptor in inject ring 5. -/
def drainingInject : State :=
  let x := passPair 5
  ⟨[], ({ x with boot := { x.boot with configReady := true }, assay := { x.assay with draining := some 33 } } : Dev).wr 0x118B 2 2
    |>.setRing 69 { Ring.init with base := 4096, size := 6, prod := 3, cons := 1, enable := true }⟩

/-- Refutes O57: a descriptor that fails its checks waits while its pair drains; CONS does not advance. -/
theorem not_ringsMoveTheirIndices : ¬ Obligations.RingsMoveTheirIndices := by
  unfold Obligations.RingsMoveTheirIndices
  intro h
  obtain ⟨-, -, -, -, hbad⟩ := h
  obtain ⟨hcons, -⟩ := hbad 5 59 5 0 0 0 9 [] drainingInject (by decide) (by decide +kernel) (by decide +kernel) (by decide +kernel)
    |>.of_act (f := fun d => Dev.inject60 5 59 5 0 0 0 [] 9 (d.at 9)) rfl
  exact absurd hcons (by decide +kernel)

end Sys2Proof.Machine

namespace Sys2Proof.Machine

/-! ## A width outside its values (R92) -/

/-- The states of the pairs `ns` and `n` followed, that of `n` last. -/
theorem tracking_concat (ns : List Nat) (n : Nat) (f : Dev → Dev) (d : Dev) :
    tracking (ns ++ [n]) f d = Dev.syncPairLf n (
      if d.portState n = (f d).portState n then tracking ns f d
      else
        let c := causeAt (if (f d).mode n = pmCarrier then CauseBlock.carrier n else CauseBlock.pair n)
        ((tracking ns f d).wrBit c.1 c.2.1 0 true).raise (pairEvent n)) := by
  unfold tracking
  exact List.foldl_append ..

/-- An event of number 401, beyond the event groups, sets a bit of 0x1419.01. -/
theorem Dev.status_raise_beyond (d : Dev) : bit 1 ((d.raise 401).rd 0x1419 1) = true := by
  have hkeep : ∀ {a b : Dev}, Dev.Quiet a b → b.rd 0x1419 1 = a.rd 0x1419 1 := fun q => q.rd 0x1419 1 (by decide) (by decide)
  change bit 1 (((d.raise0 401).perf 4 0x160 0 1).rd 0x1419 1) = true
  rw [hkeep (Dev.quiet_perf _ _ _ _ (by decide) _)]
  unfold Dev.raise0
  simp only [Dev.count_eq]
  split
  · simp [Dev.rd_wr]
  · rw [hkeep (Dev.Quiet.foldl _ (fun d k => d.quiet_notifyRaise _ _ k) _ _)]
    split
    · simp [Dev.rd_wr]
    · rw [hkeep (Dev.quiet_deliver _ _)]
      simp [Dev.rd_wr]

/-- Number 257 followed where its state changes: its event is raised. -/
theorem status_tracking_beyond {ns : List Nat} {f : Dev → Dev} {d : Dev} (h : d.portState 257 ≠ (f d).portState 257) :
    bit 1 ((tracking (ns ++ [257]) f d).rd 0x1419 1) = true := by
  rw [tracking_concat, if_neg h, (Dev.touches_syncPairLf eventReg 257 _).rd (by decide) (by decide)]
  exact Dev.status_raise_beyond _

/-- A block whose PORT_WIDTH of pair 0 reads 258, with the registers that the states of the two sides of number 257 read set to UP. -/
def widePair : State := ⟨[], ((allOn.wr 0x2000 2 258).wr 0x2101 4 3).wr 0x2201 4 3⟩

/-- A PORT_WIDTH of 2 written over one of 258 follows number 257, which pair 1 that it takes in resets. -/
theorem status_effPortWidth_wide {r : Role} {d : Dev} (h0 : d.mode 0 = pmOff) (h1 : d.mode 1 = pmOff) (hw : d.width 0 = 258)
    (hp : d.portState 257 ≠ ((d.wr 0x2000 2 2).absorb 1).portState 257) : bit 1 ((effPortWidth 0 r 2 d).2.rd 0x1419 1) = true := by
  have hns : (List.range (max 2 (d.width 0))).map (0 + ·) = (List.range 257).map (0 + ·) ++ [257] := by
    rw [hw, show max 2 258 = 257 + 1 from rfl, List.range_succ, List.map_append]
    rfl
  have heff : (effPortWidth 0 r 2 d).2 =
      tracking ((List.range (max 2 (d.width 0))).map (0 + ·)) (fun x => (x.wr 0x2000 2 2).absorb 1) d := by
    simp [effPortWidth, h0, h1]
  rw [heff, hns]
  exact status_tracking_beyond hp

/-- A heard PORT_WIDTH of 2 written over one of 258 sets that bit. -/
theorem status_write_wide {w : Wr} {d : Dev} (hh : d.hears 0x2000 2 w = true) (hv : w.value = 2) (h0 : (d.atOwner w).mode 0 = pmOff)
    (h1 : (d.atOwner w).mode 1 = pmOff) (hw : (d.atOwner w).width 0 = 258)
    (hp : (d.atOwner w).portState 257 ≠ (((d.atOwner w).wr 0x2000 2 2).absorb 1).portState 257) :
    bit 1 ((d.write (effPortWidth 0) 0x2000 2 w).rd 0x1419 1) = true := by
  rw [Dev.write_hears _ _ _ _ _ hh, Dev.rd_respond _ _ _ _ _ _ _ _ _ (by decide), hv]
  exact status_effPortWidth_wide h0 h1 hw hp

/-- A register that a command keeps but for the clock part. -/
theorem Dev.keeps.rd_time {p : Nat → Nat → Bool} {a b : Dev} (h : a.keeps p { b with time := a.time }) {i j : Nat} (hj : j < 256)
    (hp : p i j = false) (he : eventReg i j = false) : b.rd i j = a.rd i j := h.1 i j hj hp he

/-- Refutes O15: a PORT_WIDTH that reads 258 before the write of 2 follows number 257 too, whose event is beyond the event groups and
changes a register that the statement keeps. -/
theorem not_portObjectsAreWrittenWhileOff : ¬ Obligations.PortObjectsAreWrittenWhileOff := by
  unfold Obligations.PortObjectsAreWrittenWhileOff
  intro h
  obtain ⟨-, -, hwidth, -⟩ := h
  have hh : widePair.dev.hears 0x2000 2 (wOf 0x2000 2 2) = true := by decide +kernel
  obtain ⟨-, -, hkeeps⟩ := hwidth 0 (wOf 0x2000 2 2) widePair (by decide) hh (by decide) (by decide +kernel)
    |>.of_act (f := Dev.write (effPortWidth 0) 0x2000 2 (wOf 0x2000 2 2)) rfl
  have hstatus := status_write_wide hh rfl (by decide +kernel) (by decide +kernel) (by decide +kernel) (by decide +kernel)
  rw [hkeeps.rd_time (by decide) (by decide +kernel) (by decide)] at hstatus
  exact absurd hstatus (by decide +kernel)

end Sys2Proof.Machine

namespace Sys2Proof.Machine

/-! ## The registers of the planisher that a session is opened on (R218, R220) -/

/-- A block that can open a session, whose planisher 4 holds no job while its PL_STATE reads 1. -/
def busyPlanisher : State := ⟨[], dapUp.wr 0x3054 1 1⟩

/-- Refutes O59: opening a session caches a root at planisher 4, whose PL_STATE and QUEUED then follow it; the statement
keeps them. -/
theorem not_sessionsAndTheirPortsFollowEvents : ¬ Obligations.SessionsAndTheirPortsFollowEvents := by
  unfold Obligations.SessionsAndTheirPortsFollowEvents
  intro h
  obtain ⟨hopen, -⟩ := h
  obtain ⟨-, -, -, -, -, -, hkeeps, -⟩ := hopen true 7 6 5 9 busyPlanisher (by decide +kernel) (by decide +kernel) (by decide +kernel)
    (by decide +kernel) (by decide +kernel) (by decide) (by decide) (by decide +kernel) (by decide +kernel) (by decide +kernel)
    (by decide +kernel)
    |>.of_act (f := Dev.request true 7 5 0 6 (bodyHead 0x1500 1 0 ++ bodyArg 7 12 5) 9) rfl
  exact absurd (hkeeps 0x3054 1 (by decide) (by decide) (by decide)) (by decide +kernel)

end Sys2Proof.Machine

namespace Sys2Proof.Machine

/-! ## What keeps VAULT_STATE (R44, R253) -/

section VaultState

theorem Dev.vaultState_wr {i j : Nat} (v : Nat) (d : Dev) (h : i * 256 + j ≠ 0x3000 * 256 + 2) : (d.wr i j v).vaultState = d.vaultState :=
  d.rd_wr_ne v h.symm

theorem Dev.vaultState_foldl {α : Type} {f : Dev → α → Dev} {l : List α} (hf : ∀ x ∈ l, ∀ d, (f d x).vaultState = d.vaultState) (d : Dev) :
    (l.foldl f d).vaultState = d.vaultState := by
  induction l generalizing d with
  | nil => rfl
  | cons x l ih => exact (ih (fun y hy => hf y (.tail _ hy)) _).trans (hf x (.head _) d)

theorem Dev.vaultState_raise {e : Nat} (he : e < 400) (d : Dev) : (d.raise e).vaultState = d.vaultState :=
  d.rd_raise e he 0x3000 2 (by decide) (by decide)

theorem Dev.vaultState_raiseUnsaid {e : Nat} (he : e < 400) (d : Dev) : (d.raiseUnsaid e).vaultState = d.vaultState :=
  Dev.vaultState_raise he { d with dap := { d.dap with sessions := [] } }

theorem Dev.vaultState_syncCached (s : Nat) (d : Dev) : (d.syncCached s).vaultState = d.vaultState :=
  d.vaultState_wr _ (by omega)

theorem Dev.vaultState_setPl (p : Nat) (x : Planisher) (d : Dev) : (d.setPl p x).vaultState = d.vaultState := by
  unfold Dev.setPl
  rw [Dev.vaultState_wr _ _ (by omega), Dev.vaultState_wr _ _ (by omega), Dev.vaultState_wr _ _ (by omega)]
  rfl

theorem Dev.vaultState_clearCache (p : Nat) (d : Dev) : (d.clearCache p).vaultState = d.vaultState :=
  (Dev.vaultState_foldl (fun _ _ y => y.vaultState_syncCached _) _).trans (d.vaultState_setPl _ _)

theorem Dev.vaultState_withKeys (k : Keys) (d : Dev) : ({ d with keys := k } : Dev).vaultState = d.vaultState := rfl

theorem Dev.vaultState_mkaTold (j : Job) (res : Nat) (d : Dev) : (d.mkaTold j res).vaultState = d.vaultState := by
  unfold Dev.mkaTold
  split <;> rfl

theorem Dev.vaultState_endJob (p : Nat) (j : Job) (res : Nat) (d : Dev) : (d.endJob p j res).vaultState = d.vaultState := by
  unfold Dev.endJob
  extract_lets d1 d2 d3 d4
  have h1 : d1.vaultState = d.vaultState := by
    unfold d1
    split
    · rw [Dev.vaultState_wr _ _ (by omega), Dev.vaultState_wr _ _ (by omega)]
    · rfl
  have h2 : d2.vaultState = d.vaultState := by
    unfold d2 when
    split_ifs
    · split
      · rw [Dev.vaultState_wr _ _ (by omega), h1]
      · exact h1
    · exact h1
  have h3 : d3.vaultState = d.vaultState := by
    unfold d3 when
    split_ifs
    · exact h2
    · exact h2
  have h4 : d4.vaultState = d.vaultState := by
    rw [show d4.vaultState = (d3.mkaTold j res).vaultState from Dev.vaultState_wr _ _ (by split <;> omega), Dev.vaultState_mkaTold, h3]
  split_ifs with hp
  · exact (Dev.vaultState_raise (by simp only [quadEvent]; omega) d4).trans h4
  · exact (Dev.vaultState_raise (by decide) d4).trans h4
  · exact (Dev.vaultState_raise (by decide) d4).trans h4

theorem Dev.vaultState_endJobs (p res : Nat) (f : Job → Bool) (d : Dev) : (d.endJobs p res f).vaultState = d.vaultState :=
  (Dev.vaultState_foldl (fun j _ y => y.vaultState_endJob p j res) _).trans (d.vaultState_setPl _ _)

theorem Dev.vaultState_zeroSlots (d : Dev) : d.zeroSlots.vaultState = d.vaultState :=
  (Dev.vaultState_clearCache _ _).trans (Dev.vaultState_foldl (fun s _ y => y.vaultState_wr _ (by omega)) _)

theorem Dev.vaultState_setNode (c : Nat) (x : Node) (d : Dev) : (d.setNode c x).vaultState = d.vaultState := rfl

theorem Dev.vaultState_setPolicer (c : Nat) (x : Policer) (d : Dev) : (d.setPolicer c x).vaultState = d.vaultState := rfl

theorem Dev.vaultState_setSched (s : Nat) (x : Sched) (d : Dev) : (d.setSched s x).vaultState = d.vaultState := rfl

theorem Dev.vaultState_fullLevels (q : Nat) (d : Dev) : (d.fullLevels q).vaultState = d.vaultState := by
  unfold Dev.fullLevels
  simp only
  rw [Dev.vaultState_foldl fun _ _ y => y.vaultState_setSched _ _, Dev.vaultState_foldl fun _ _ y => y.vaultState_setPolicer _ _,
    Dev.vaultState_foldl fun _ _ y => y.vaultState_setNode _ _]

theorem Dev.vaultState_setFollower (q : Nat) (x : Follower) (d : Dev) : (d.setFollower q x).vaultState = d.vaultState := rfl

theorem Dev.vaultState_enterOn (k : Nat) (d : Dev) : (d.enterOn k).vaultState = d.vaultState := by
  unfold Dev.enterOn
  split_ifs
  · exact d.vaultState_wr _ (by omega)
  · exact (Dev.vaultState_setFollower _ _ _).trans (d.vaultState_fullLevels _)
  · rfl

theorem Dev.vaultState_zeroWake {k : Nat} (hk : k < 256) (d : Dev) : (d.zeroWake k).vaultState = d.vaultState := by
  unfold Dev.zeroWake
  split
  · change Dev.vaultState (Dev.wr (0x1100 + k) 8 _ (Dev.count 64 (0x1100 + k) 7 1 _)) = _
    rw [Dev.count_eq, Dev.vaultState_wr _ _ (by omega), Dev.vaultState_wr _ _ (by omega), Dev.vaultState_enterOn]
    exact Dev.vaultState_wr _ _ (by omega)
  · rfl

theorem Dev.keyDomains_lt {d : Dev} {k : Nat} (h : k ∈ d.keyDomains) : k < 256 := by
  simp only [Dev.keyDomains, List.mem_flatMap, List.mem_filter, List.mem_range] at h
  obtain ⟨m, ⟨hm, -⟩, hk⟩ := h
  simp only [parentOf, List.mem_cons, List.not_mem_nil, or_false] at hk
  split_ifs at hk <;> omega

/-- Zeroisation begun leaves VAULT_STATE ZEROISING (R253). -/
theorem Dev.vaultState_zeroise {c : Nat} {d : Dev} (h : d.vaultState ≠ 1) : (d.zeroise c).vaultState = 1 := by
  unfold Dev.zeroise
  rw [if_neg h]
  simp only
  rw [Dev.vaultState_withKeys, Dev.vaultState_foldl fun k hk y => y.vaultState_zeroWake (Dev.keyDomains_lt hk), Dev.vaultState_zeroSlots,
    Dev.vaultState_foldl fun p _ y => y.vaultState_endJobs p 10 _, Dev.vaultState_raiseUnsaid (by decide),
    Dev.vaultState_wr _ _ (by decide), Dev.vaultState_wr _ _ (by decide)]
  exact Dev.rd_wr_self ..

end VaultState

/-! ## ZEROISE (R44) -/

section Zeroise

theorem objAt_zeroise : objAt 0x3000 1 = some (.vault, 0, ⟨1, 1, "ZEROISE", .u32, .exec, 0, .oneOf [0x5A45524F]⟩) := rfl

/-- Who may write ZEROISE does not follow the value written. -/
theorem Dev.mayWrite_zeroise (d : Dev) (r : Role) (row : Row) (v u : Nat) :
    d.mayWrite r .vault 0 row 0x3000 1 v = d.mayWrite r .vault 0 row 0x3000 1 u := rfl

/-- The checks of a ZEROISE of another 32-bit value end at RANGE where those of its own value pass. -/
theorem writeAbort_zeroise {d : Dev} {r : Role} {ty len v : Nat} (h : d.writeAbort r 0x3000 1 ty len 0x5A45524F = 0) (hv : v < 2 ^ 32)
    (hne : v ≠ 0x5A45524F) : d.writeAbort r 0x3000 1 ty len v = abRange := by
  simp only [Dev.writeAbort, objAt_zeroise, d.mayWrite_zeroise r _ v 0x5A45524F] at h ⊢
  split_ifs at h with hs hr hd ht hra
  iterate 5 exact absurd h (by decide)
  have htype : (ty != Ty.u32.code || len != Ty.u32.size || decide (2 ^ (8 * len) ≤ v)) ≠ true := by
    simp only [Bool.or_eq_true, bne_iff_ne, ne_eq, decide_eq_true_eq, not_or, not_not, not_le] at ht ⊢
    obtain ⟨⟨hty, rfl⟩, -⟩ := ht
    exact ⟨⟨hty, rfl⟩, hv⟩
  rw [if_neg hs, if_neg hr, if_neg hd, if_neg htype, if_pos (by simp [Range.has, hne])]

/-- A write that the checks refuse before its owner, at an object that names no domain. -/
theorem Dev.write_refused {eff : Eff} {i j ab : Nat} {w : Wr} {d : Dev} (hr : d.reaches w.path = true) (hl : d.linkHolds i j = none)
    (hh : d.linkHit i j = none) (ha : (d.accessed (d.roleOf w.path)).writeAbort (d.roleOf w.path) i j w.ty w.len w.value = ab) (h0 : ab ≠ 0)
    (hn : namesDomain i j = false) : (d.write eff i j w).answer.abort = ab ∧ d.keeps (only 0x1530 2) (d.write eff i j w) := by
  obtain ⟨a, he, -, hw⟩ := d.doWrite_refusedWith eff w.path i j w.ty w.len w.value (by rwa [ha])
  have hab : a = ab := by simpa [RefusedWith, ha, hn] using hw
  rw [Dev.write_performed _ i j w _ hr hl hh, he, hab]
  exact (d.touches_accessed _).keeps_refused _ _ _ _

/-- Settles O9: ZEROISE begins the zeroisation, and RANGE refuses every other value before the vault hears of it. -/
theorem zeroiseStartsOnlyOnItsValue : Obligations.ZeroiseStartsOnlyOnItsValue := by
  unfold Obligations.ZeroiseStartsOnlyOnItsValue
  refine ⟨objAt_zeroise, fun w s hh hv hn => completes_act rfl ?_, fun w s hr hl hi ha hv hne => completes_act rfl ?_⟩
  · have hstate : (s.dev.atOwner w).vaultState ≠ 1 := fun h1 => hn ((s.dev.touches_atOwner w).vaultState_eq.symm.trans h1)
    have heff : effZeroise (s.dev.roleOf w.path) w.value (s.dev.atOwner w) =
        (0, (s.dev.atOwner w).zeroise (if s.dev.roleOf w.path = .field then 3 else 4)) := by rw [hv]; rfl
    rw [Dev.write_hears _ _ _ _ _ hh, heff]
    exact ⟨by rw [Dev.respond_answer], (Dev.rd_respond_zero ..).trans (Dev.vaultState_zeroise hstate)⟩
  · exact Dev.write_refused hr hl hi (writeAbort_zeroise ha hv hne) (by decide) rfl

end Zeroise

end Sys2Proof.Machine

namespace Sys2Proof.Machine

/-! ## The boot part beside what events touch -/

theorem Dev.Touches.boot_same {p : Nat → Nat → Bool} {a b : Dev} (h : Dev.Touches p a b) : b.boot = a.boot := by rw [h.same]

/-- Touching registers does not look at the boot part. -/
theorem Dev.Touches.withBoot {p : Nat → Nat → Bool} {a b : Dev} (h : Dev.Touches p a b) (x : Boot) :
    Dev.Touches p { a with boot := x } { b with boot := x } := by
  induction h with
  | refl => exact .refl
  | wr i j v _ hp hj hdom ih => exact ih.wr i j v hp hj hdom
  | out _ hc ih =>
    refine ih.out ?_
    rw [hc]

/-- A command that keeps everything beside a boot part it replaced keeps everything but the boot part. -/
theorem Dev.keeps.ofBoot {p : Nat → Nat → Bool} {a b : Dev} {x : Boot} (h : Dev.keeps p { a with boot := x } b) :
    a.keeps p { b with boot := a.boot } := by
  obtain ⟨hrd, hrest⟩ := h
  exact ⟨hrd, by rw [hrest]⟩

/-- The same beside the registers that events may change. -/
theorem Dev.Touches.keeps_boot {p : Nat → Nat → Bool} {a b : Dev} {x : Boot}
    (h : Dev.Touches (fun i j => p i j || eventReg i j) { a with boot := x } b) : a.keeps p { b with boot := a.boot } :=
  Dev.keeps.ofBoot h.keeps

end Sys2Proof.Machine

namespace Sys2Proof.Machine

/-! ## A record of the boot configuration (R503) -/

section BootRecord

theorem effectOf_route {g t : Nat} (hg : g < 25) : effectOf t (0x1400 + g) 4 = store (0x1400 + g) 4 := by
  rw [effectOf, objAt_eventGroup (j := 4) hg rfl]
  rfl

theorem wakesFor_route {g : Nat} (hg : g < 25) (d : Dev) : d.wakesFor (0x1400 + g) 4 = none := by
  rw [Dev.wakesFor, objAt_eventGroup (j := 4) hg rfl]
  rfl

/-- The block with one more record of the boot configuration performed. -/
def Dev.recorded (d : Dev) : Dev := { d with boot := { d.boot with record := d.boot.record + 1 } }

/-- A record of ROUTE that its checks let through: stored. -/
theorem Dev.doWrite_route {d : Dev} {g v t : Nat} (hg : g < 25) (hs : d.boot.sealed = false)
    (ha : d.writeAbort .boot (0x1400 + g) 4 3 2 v = 0) (hp : d.isPending (0x1400 + g) 4 = false) :
    d.doWrite (effectOf t (0x1400 + g) 4) .cluster (0x1400 + g) 4 3 2 v =
      ((d.accessed .boot).wr (0x1400 + g) 4 v).respond .cluster (0x1400 + g) 4 0 0 0 0 := by
  have hx : Dev.Touches eventReg d (d.accessed .boot) := Dev.touches_accessed _ _
  have hrole : d.roleOf .cluster = .boot := by simp [Dev.roleOf, hs]
  have habs : d.absorbedAt (0x1400 + g) = false := by
    simp only [Dev.absorbedAt, within, Bool.and_eq_false_iff, Bool.or_eq_false_iff, decide_eq_false_iff_not]
    omega
  rw [Dev.doWrite_owner _ _ _ _ _ _ _ _ (by rw [hrole, hx.writeAbort_eq]; exact ha) (by rw [hrole, hx.absorbedAt]; exact habs)
    (by rw [hrole, hx.isPending]; exact hp) (by rw [hrole]; exact wakesFor_route hg _), hrole, effectOf_route hg]
  rfl

/-- The same as a record of the boot configuration: counted too. -/
theorem Dev.bootRecord_route {d : Dev} {g v t : Nat} (hg : g < 25) (hb : d.bootState = btCode) (hr : d.boot.restart = false)
    (hs : d.boot.sealed = false) (hc : d.clusterUp = true) (ha : d.writeAbort .boot (0x1400 + g) 4 3 2 v = 0)
    (hp : d.isPending (0x1400 + g) 4 = false) :
    d.bootRecord (0x1400 + g) 4 3 2 v t = ((d.recorded.accessed .boot).wr (0x1400 + g) 4 v).respond .cluster (0x1400 + g) 4 0 0 0 0 := by
  have hrun : (d.bootState != btCode || d.boot.restart || d.boot.sealed || !d.clusterUp) ≠ true := by simp [hb, hr, hs, hc]
  have hport : (within 0x2000 256 (0x1400 + g) && 4 = 1 && v != 0 && bit 4 (d.rd 0x7800 5)) ≠ true := by simp
  have hdone := d.recorded.doWrite_route (t := t) hg hs ha hp
  unfold Dev.bootRecord
  rw [if_neg hrun, if_neg hport]
  change (if (d.recorded.doWrite _ _ _ _ _ _ _).answer.abort = 0 then d.recorded.doWrite _ _ _ _ _ _ _ else _) = _
  rw [hdone, Dev.respond_answer, if_pos rfl]

/-- What a record of ROUTE leaves (R503). -/
theorem completes_bootRecord_route {g v t : Nat} {s : State} (hg : g < 25) (hb : s.dev.bootState = 3) (hr : s.dev.boot.restart = false)
    (hc : s.dev.clusterUp = true) (hs : s.dev.boot.sealed = false) (ha : s.dev.writeAbort .boot (0x1400 + g) 4 3 2 v = 0)
    (hp : s.dev.isPending (0x1400 + g) 4 = false) :
    Completes (.bootConfigRecord (0x1400 + g) 4 3 2 v t) s fun d => d.answer.abort = 0 ∧ d.rd (0x1400 + g) 4 = v ∧
      d.boot.record = s.dev.boot.record + 1 ∧ s.dev.keeps (only (0x1400 + g) 4) { d with boot := s.dev.boot } := by
  have hat : Dev.Touches eventReg s.dev (s.dev.at t) := Dev.touches_at (fun _ _ h => h) t s.dev
  have hboot : (s.dev.at t).boot = s.dev.boot := hat.boot_eq
  have hup : (s.dev.at t).clusterUp = true := hat.reaches .cluster hc
  have hx : Dev.Touches eventReg s.dev.recorded ((s.dev.at t).recorded.accessed .boot) := by
    refine Dev.Touches.trans ?_ (Dev.touches_accessed _ _)
    unfold Dev.recorded
    rw [hboot]
    exact hat.withBoot _
  refine completes_act (f := fun d => (d.at t).bootRecord (0x1400 + g) 4 3 2 v t) rfl ?_
  rw [Dev.bootRecord_route hg ((hat.rd (by decide) (by decide)).trans hb) (by rw [hboot, hr]) (by rw [hboot, hs]) hup
    ((hat.writeAbort_eq ..).trans ha) ((hat.isPending ..).trans hp)]
  obtain ⟨habort, hrd, hkeeps⟩ := hx.keeps_stored .cluster (0x1400 + g) 4 v (by decide) (by omega)
  exact ⟨habort, hrd, congrArg (·.boot.record) hkeeps.2, hkeeps.ofBoot⟩

end BootRecord

/-! ## PROT_SEAL, DEVICE_READY and the antifuses (R51, R505 to R509) -/

section BootStages

/-- One register written, the object's own or another, and the write answered with 0. -/
theorem Dev.Touches.keeps_storedAt {a d : Dev} (h : Dev.Touches eventReg a d) (p : Path) (i j : Nat) {x y : Nat} (v : Nat) (hy : y < 256)
    (hx : y = 2 → x ≠ 0x1188) :
    ((d.wr x y v).respond p i j 0 0 0 0).answer.abort = 0 ∧ ((d.wr x y v).respond p i j 0 0 0 0).rd x y = v ∧
      a.keeps (only x y) ((d.wr x y v).respond p i j 0 0 0 0) := by
  have hd : Dev.Touches (fun i' j' => only x y i' j' || eventReg i' j') a d := h.mono fun _ _ he => by simp only [he, Bool.or_true]
  exact ⟨by rw [Dev.respond_answer], by rw [Dev.rd_respond_zero, Dev.rd_wr_self],
    ((hd.trans (.write _ x y v (by simp [only]) hy hx)).trans (Dev.touches_respond (fun h0 => absurd rfl h0) _ _ _ _ _ _ _)).keeps⟩

/-- A heard write whose owner writes one register: the object's own or another. -/
theorem Dev.write_storesAt {eff : Eff} {i j x y v : Nat} {w : Wr} {d : Dev} (hh : d.hears i j w = true) (hy : y < 256)
    (hx : y = 2 → x ≠ 0x1188) (he : eff (d.roleOf w.path) w.value (d.atOwner w) = (0, (d.atOwner w).wr x y v)) :
    (d.write eff i j w).answer.abort = 0 ∧ (d.write eff i j w).rd x y = v ∧ d.keeps (only x y) (d.write eff i j w) := by
  rw [Dev.write_hears eff i j w d hh, he]
  exact (d.touches_atOwner w).keeps_storedAt _ _ _ _ hy hx

/-- An event of group 0 stands in its STATUS where BOOT_STATE and BOOT_TIME are written besides. -/
theorem Dev.Touches.status_boot {a b : Dev} {e : Nat} (h : Dev.Touches (fun i _ => i = 0x1020) (a.raise e) b) (he : e < 16) :
    bit e (b.rd 0x1400 1) = true := by
  rw [h.rd (by decide) (by decide)]
  have hst := Dev.status_raise e (by omega) a
  rwa [Nat.mod_eq_of_lt he, Nat.div_eq_of_lt he] at hst

theorem Dev.touches_driveGpio {p : Nat → Nat → Bool} (i : Nat) (d : Dev) : Dev.Touches p d (d.driveGpio i) := by
  unfold Dev.driveGpio
  split
  · exact .emit _ _
  · exact .refl

/-- The block with its map sealed. -/
def Dev.sealing (d : Dev) : Dev := { d with boot := { d.boot with sealed := true } }

/-- The block with its boot part as DEVICE_READY leaves it. -/
def Dev.readying (d : Dev) : Dev := { d with boot := { d.boot with ready := true, restart := false } }

theorem effProtSeal_eq (r : Role) (v : Nat) (d : Dev) :
    effProtSeal r v d = (0, when (d.rd 0x103D 1 = 5) (Dev.driveGpio 13) (((d.sealing.wr 0x1300 2 1).raise 2).setBoot btSealed)) := rfl

theorem Dev.touches_sealing {p : Nat → Nat → Bool} {a b : Dev} (h : Dev.Touches p a b) : Dev.Touches p a.sealing b.sealing := by
  unfold Dev.sealing
  rw [h.boot_same]
  exact h.withBoot _

/-- What a heard PROT_SEAL leaves (R51). -/
theorem write_protSeal_leaves {w : Wr} {s : Dev} (hh : s.hears 0x1300 1 w = true) :
    (s.write effProtSeal 0x1300 1 w).answer.abort = 0 ∧ (s.write effProtSeal 0x1300 1 w).boot.sealed = true ∧
      (s.write effProtSeal 0x1300 1 w).rd 0x1300 2 = 1 ∧ (s.write effProtSeal 0x1300 1 w).bootState = 4 ∧
      bit 2 ((s.write effProtSeal 0x1300 1 w).rd 0x1400 1) = true ∧
      s.keeps (fun i j => only 0x1300 2 i j || only 0x1020 4 i j) { s.write effProtSeal 0x1300 1 w with boot := s.boot } := by
  let x := (s.atOwner w).sealing
  let y := x.wr 0x1300 2 1
  have hw : s.write effProtSeal 0x1300 1 w =
      (when ((s.atOwner w).rd 0x103D 1 = 5) (Dev.driveGpio 13) ((y.raise 2).setBoot btSealed)).respond w.path 0x1300 1 0 0 0 0 := by
    rw [Dev.write_hears _ _ _ _ _ hh, effProtSeal_eq]
  have hend : ∀ p : Nat → Nat → Bool, Dev.Touches p ((y.raise 2).setBoot btSealed) (s.write effProtSeal 0x1300 1 w) := fun p => by
    rw [hw]
    exact (Dev.Touches.when (Dev.touches_driveGpio 13 _)).trans (Dev.touches_respond (fun h0 => absurd rfl h0) _ _ _ _ _ _ _)
  have hstage : Dev.Touches (fun i _ => i = 0x1020) (y.raise 2) (s.write effProtSeal 0x1300 1 w) :=
    (Dev.Touches.write _ 0x1020 4 _ (by decide) (by decide) (by decide)).trans (hend _)
  have hraise : Dev.Touches eventReg y (y.raise 2) := Dev.touches_raise (fun _ _ h => h) 2 (by decide) (by decide) y
  have hall : Dev.Touches (fun i j => (only 0x1300 2 i j || only 0x1020 4 i j) || eventReg i j) s.sealing
      (s.write effProtSeal 0x1300 1 w) := by
    have hx : Dev.Touches eventReg s.sealing x := Dev.touches_sealing (s.touches_atOwner w)
    refine ((hx.mono ?_).trans ((Dev.Touches.write _ 0x1300 2 1 (by decide) (by decide) (by decide)).trans (hraise.mono ?_))).trans
      ((Dev.Touches.write _ 0x1020 4 _ (by decide) (by decide) (by decide)).trans (hend _))
    all_goals exact fun _ _ he => by simp only [he, Bool.or_true]
  refine ⟨by rw [hw, Dev.respond_answer], congrArg (·.sealed) hall.boot_same, ?_, ?_, hstage.status_boot (by decide), hall.keeps_boot⟩
  · rw [hstage.rd (by decide) (by decide), hraise.rd (by decide) (by decide)]
    exact Dev.rd_wr_self ..
  · exact ((hend (fun _ _ => false)).rd (by decide) rfl).trans (Dev.rd_wr_self ..)

/-- DEVICE_READY where its checks pass (R507). -/
theorem completes_deviceReady {ms : Nat} {s : State} (hr : s.dev.boot.restart = false) (hb : s.dev.bootState = 4)
    (hc : s.dev.clusterUp = true) (hd : [139, 140, 141].all s.dev.isOn = true) (ht : s.dev.timeRuns = true) (hm : s.dev.mkaLoaded = true) :
    Completes (.deviceReady ms) s fun d => d.boot.ready = true ∧ d.bootState = 5 ∧ d.rd 0x1020 6 = ms % 2 ^ 32 ∧
      bit 3 (d.rd 0x1400 1) = true ∧ s.dev.keeps (fun i j => i = 0x1020 && (j = 4 || j = 6)) { d with boot := s.dev.boot } := by
  let y := (s.dev.readying.setBoot btReady).wr 0x1020 6 (ms % 2 ^ 32)
  have hready : s.dev.deviceReady ms = y.raise 3 := by
    unfold Dev.deviceReady
    simp only [hr, hb, hc, hd, ht, hm, btSealed, Bool.false_eq_true, if_false, decide_true, Bool.not_true, Bool.or_self]
    rfl
  have hraise : Dev.Touches eventReg y (y.raise 3) := Dev.touches_raise (fun _ _ h => h) 3 (by decide) (by decide) y
  have hall : Dev.Touches (fun i j => (i = 0x1020 && (j = 4 || j = 6)) || eventReg i j) s.dev.readying (y.raise 3) :=
    ((Dev.Touches.write _ 0x1020 4 _ (by decide) (by decide) (by decide)).trans
      (.write _ 0x1020 6 _ (by decide) (by decide) (by decide))).trans (hraise.mono fun _ _ he => by simp only [he, Bool.or_true])
  refine completes_act (f := Dev.deviceReady ms) rfl ?_
  rw [hready]
  refine ⟨congrArg (·.ready) hall.boot_same, ?_, ?_, Dev.Touches.refl.status_boot (by decide), hall.keeps_boot⟩
  · exact (hraise.rd (by decide) (by decide)).trans ((Dev.rd_wr_ne _ _ (by decide)).trans (Dev.rd_wr_self ..))
  · exact (hraise.rd (by decide) (by decide)).trans (Dev.rd_wr_self ..)

end BootStages

/-- Settles O54: each stage of the boot writes the registers of its stage beside what its event touches. -/
theorem bootCodeSealsAndReadies : Obligations.BootCodeSealsAndReadies := by
  unfold Obligations.BootCodeSealsAndReadies
  refine ⟨fun i j ty len v t s hb hr hc hs hi hj hty hlen _ ha hp => ?_, fun w s hh => completes_act rfl (write_protSeal_leaves hh),
    fun ms s hr hb hc hd ht hm => completes_deviceReady hr hb hc hd ht hm,
    fun w s hh hlo hhi => completes_act rfl (Dev.write_storesAt hh (by decide) (by decide) ?_),
    fun w s hh hv hk hn => ?_⟩
  · obtain ⟨g, rfl⟩ : ∃ g, i = 0x1400 + g := ⟨i - 0x1400, by simp only [within, Bool.and_eq_true, decide_eq_true_eq] at hi; omega⟩
    subst hj hty hlen
    exact completes_bootRecord_route (by simp [within] at hi; omega) hb hr hc hs ha hp
  · have ht := s.dev.touches_atOwner w
    have h2 : (s.dev.atOwner w).rd 0x1010 2 = s.dev.rd 0x1010 2 := ht.rd (by decide) (by decide)
    have h5 : (s.dev.atOwner w).rd 0x1010 5 = s.dev.rd 0x1010 5 := ht.rd (by decide) (by decide)
    simp only [effSvnAdvance, h2, h5, Bool.or_eq_true, decide_eq_true_eq]
    exact if_neg (by omega)
  · have ht := s.dev.touches_atOwner w
    have h3 : (s.dev.atOwner w).rd 0x1010 3 = s.dev.rd 0x1010 3 := ht.rd (by decide) (by decide)
    have h6 : (s.dev.atOwner w).rd 0x1010 6 = s.dev.rd 0x1010 6 := ht.rd (by decide) (by decide)
    have heff : effKeyRevoke (s.dev.roleOf w.path) w.value (s.dev.atOwner w) =
        (0, (s.dev.atOwner w).wr 0x1010 6 (setBit w.value (s.dev.rd 0x1010 6))) := by
      simp only [effKeyRevoke, h3, h6, Bool.or_eq_true, decide_eq_true_eq]
      rw [if_neg (by omega), if_neg (by simp [hk, hn])]
    obtain ⟨habort, hrd, hkeeps⟩ := Dev.write_storesAt hh (by decide) (by decide) heff
    refine completes_act rfl ⟨habort, ?_, hkeeps⟩
    rw [hrd, bit_setBit_self]

end Sys2Proof.Machine

namespace Sys2Proof.Machine

/-! ## Writes of stored objects on any path (R36) -/

section Stored

theorem insts_domain {k : Nat} (hk : k < 142) : insts (0x1100 + k) = [(.domain, k)] := by
  have h1 : 0x1100 + k < 0x1600 := by omega
  have h2 : ¬ 0x1100 + k < 0x1000 := by omega
  have h3 : ¬ 0x1100 + k < 0x1100 := by omega
  have h4 : 0x1100 + k < 0x1200 := by omega
  have h5 : within 0x1100 142 (0x1100 + k) = true := by simp [within]; omega
  simp only [insts, instsKeystone, h1, h2, h3, h4, h5, if_true, if_false, Nat.add_sub_cancel_left]

theorem insts_sched {x : Nat} (hx : x < 512) : ∃ rest, insts (0x5000 + x) = (.sched, x) :: rest := by
  have h1 : ¬ 0x5000 + x < 0x1600 := by omega
  have h2 : ¬ 0x5000 + x < 0x2000 := by omega
  have h3 : ¬ 0x5000 + x < 0x4000 := by omega
  have h4 : within 0x4010 16 (0x5000 + x) = false ∧ within 0x4040 64 (0x5000 + x) = false ∧ within 0x4080 4 (0x5000 + x) = false ∧
      within 0x4090 4 (0x5000 + x) = false := by simp [within]; omega
  obtain ⟨h5, h6, h7, h8⟩ := h4
  simp only [insts, instsBlocks, h1, h2, h3, h5, h6, h7, h8, if_false, Bool.false_eq_true, Nat.add_sub_cancel_left]
  by_cases hl : x < 256
  · rw [if_pos (by simp [within]; omega)]
    exact ⟨_, rfl⟩
  · rw [if_neg (by simp [within]; omega), if_pos (by simp [within]; omega)]
    exact ⟨_, rfl⟩

/-- The objects named: ROUTE of an event group, NOTIFY of a domain, OVERHEAD of a port scheduler. -/
def IsStored (i j : Nat) : Prop :=
  (within 0x1400 25 i = true ∧ j = 4) ∨ (within 0x1100 142 i = true ∧ j = 3) ∨ (within 0x5000 512 i = true ∧ j = 4)

theorem effectOf_stored {i j : Nat} (h : IsStored i j) (t : Nat) : effectOf t i j = store i j := by
  simp only [IsStored, within, Bool.and_eq_true, decide_eq_true_eq] at h
  obtain ⟨hi, rfl⟩ | ⟨hi, rfl⟩ | ⟨hi, rfl⟩ := h
  · obtain ⟨g, rfl⟩ := Nat.exists_eq_add_of_le hi.1
    exact effectOf_route (by omega)
  · obtain ⟨k, rfl⟩ := Nat.exists_eq_add_of_le hi.1
    rw [effectOf, objAt_cons (j := 3) (insts_domain (by omega)) rfl rfl]
    rfl
  · obtain ⟨x, rfl⟩ := Nat.exists_eq_add_of_le hi.1
    obtain ⟨rest, hr⟩ := insts_sched (x := x) (by omega)
    rw [effectOf, objAt_cons (j := 4) hr rfl rfl]
    rfl

theorem IsStored.sub {i j : Nat} (h : IsStored i j) : j = 3 ∨ j = 4 := by
  obtain ⟨-, hj⟩ | ⟨-, hj⟩ | ⟨-, hj⟩ := h
  exacts [.inr hj, .inl hj, .inr hj]

/-- A write that the owner of a stored object hears, on any path. -/
theorem completes_stored {i j t : Nat} {w : Wr} {s : State} (hs : IsStored i j) (hh : s.dev.hears i j w = true) :
    Completes (.dictionaryWrite i j t w) s fun d => d.answer.abort = 0 ∧ d.rd i j = w.value ∧ s.dev.keeps (only i j) d := by
  have hat : Dev.Touches eventReg s.dev (s.dev.at t) := Dev.touches_at (fun _ _ h => h) t s.dev
  refine completes_act (f := fun d => (d.at t).write (effectOf t i j) i j w) rfl ?_
  have hj := hs.sub
  rw [Dev.write_hears _ _ _ _ _ (hat.hears_at hh), effectOf_stored hs]
  exact (hat.trans (Dev.touches_atOwner w _)).keeps_storedAt _ _ _ _ (by omega) (by omega)

end Stored

end Sys2Proof.Machine

namespace Sys2Proof.Machine

/-! ## MSI-X messages (R61) -/

section Msix

theorem bit_clrBit_self (b v : Nat) : bit b (clrBit b v) = false := by
  unfold clrBit
  split
  · next h =>
    have hb : bit b (v - 2 ^ b) = false := by
      simp only [bit, decide_eq_true_eq] at h
      have hle : 2 ^ b ≤ v := by
        by_contra hlt
        rw [Nat.div_eq_of_lt (by omega)] at h
        omega
      have hadd : v = (v - 2 ^ b) + 2 ^ b := by omega
      rw [hadd, Nat.add_div_right _ (by positivity)] at h
      simp only [bit, decide_eq_false_iff_not]
      omega
    exact hb
  · next h => simpa using h

theorem bit_clrBit_ne {b v x : Nat} (h : x ≠ b) : bit x (clrBit b v) = bit x v := by
  have hself := bit_clrBit_self b v
  unfold clrBit at hself ⊢
  split
  · next hb =>
    rw [if_pos hb] at hself
    have hle : 2 ^ b ≤ v := by
      by_contra hlt
      simp only [bit, decide_eq_true_eq, Nat.div_eq_of_lt (not_le.1 hlt)] at hb
      omega
    rw [← bit_add_two_pow hself h, Nat.sub_add_cancel hle]
  · rfl

/-- `b` comes from `a` by messages sent or recorded as pending. -/
def Dev.Posts (a b : Dev) : Prop := b = { a with msix := { a.msix with pba := b.msix.pba }, emits := b.emits }

namespace Dev.Posts

variable {a b c : Dev}

theorem refl (a : Dev) : Dev.Posts a a := rfl

theorem withPba (a : Dev) (m : Nat) : Dev.Posts a { a with msix := { a.msix with pba := m } } := rfl

theorem trans (h : Dev.Posts a b) (k : Dev.Posts b c) : Dev.Posts a c := by
  unfold Dev.Posts at *
  rw [k, h]

theorem sendMsix (v : Nat) (a : Dev) : Dev.Posts a (a.sendMsix v) := by
  unfold Dev.sendMsix
  simp only
  split_ifs <;> rfl

theorem foldl {α : Type} {f : Dev → α → Dev} (hf : ∀ x d, Dev.Posts d (f d x)) (l : List α) (a : Dev) : Dev.Posts a (l.foldl f a) := by
  induction l generalizing a with
  | nil => exact .refl a
  | cons x l ih => exact (hf x a).trans (ih _)

theorem dict (h : Dev.Posts a b) : b.dict = a.dict := by rw [h]

theorem enable (h : Dev.Posts a b) : b.msix.enable = a.msix.enable := by rw [h]

theorem fmask (h : Dev.Posts a b) : b.msix.fmask = a.msix.fmask := by rw [h]

theorem table (h : Dev.Posts a b) : b.msix.table = a.msix.table := by rw [h]

/-- No register changes, and nothing but the MSI-X state and what is put out. -/
theorem keeps {m : Msix} (h : Dev.Posts { a with msix := m } b) : a.keeps (fun _ _ => false) b :=
  ⟨fun _ _ _ _ _ => Dev.rd_of_dict h.dict _ _, by rw [h]⟩

end Dev.Posts

/-- What the pending bit of vector `v` asks for where messages may go. -/
def Dev.flushVector (x : Dev) (v : Nat) : Dev :=
  if bit v x.msix.pba && !bit 96 (Tbl.get msixDflt x.msix.table v) then
    ({ x with msix := { x.msix with pba := clrBit v x.msix.pba } } : Dev).sendMsix v
  else x

theorem Dev.flushPba_eq (d : Dev) : d.flushPba = if !d.msix.enable || d.msix.fmask then d else (List.range 64).foldl Dev.flushVector d := rfl

theorem Dev.posts_flushVector (v : Nat) (x : Dev) : Dev.Posts x (x.flushVector v) := by
  unfold Dev.flushVector
  split
  · exact (Dev.Posts.withPba x _).trans (.sendMsix v _)
  · exact .refl x

theorem Dev.posts_flushPba (d : Dev) : Dev.Posts d d.flushPba := by
  rw [Dev.flushPba_eq]
  split
  · exact .refl d
  · exact .foldl Dev.posts_flushVector _ d

/-- A message of one vector leaves the pending bit of another. -/
theorem Dev.bit_sendMsix_ne {v w : Nat} (h : v ≠ w) (x : Dev) : bit v (x.sendMsix w).msix.pba = bit v x.msix.pba := by
  unfold Dev.sendMsix
  simp only
  split_ifs
  · rfl
  · exact bit_setBit_ne h
  · rfl

theorem Dev.bit_flushVector_ne {v w : Nat} (h : v ≠ w) (x : Dev) : bit v (x.flushVector w).msix.pba = bit v x.msix.pba := by
  unfold Dev.flushVector
  split
  · rw [Dev.bit_sendMsix_ne h]
    exact bit_clrBit_ne h
  · rfl

/-- Messages may go, and vector `v` is not masked. -/
def Dev.postsVector (d : Dev) (v : Nat) : Prop := d.msix.enable = true ∧ d.msix.fmask = false ∧ bit 96 (Tbl.get msixDflt d.msix.table v) = false

theorem Dev.Posts.postsVector {a b : Dev} {v : Nat} (h : Dev.Posts a b) (hs : a.postsVector v) : b.postsVector v := by
  unfold Dev.postsVector
  rw [h.enable, h.fmask, h.table]
  exact hs

/-- Where messages may go, one that is sent is not pending. -/
theorem Dev.bit_sendMsix_self {v : Nat} {x : Dev} (h : x.postsVector v) (hp : bit v x.msix.pba = false) :
    bit v (x.sendMsix v).msix.pba = false := by
  obtain ⟨-, hf, hm⟩ := h
  unfold Dev.sendMsix
  simp only [hf, hm, Bool.or_self, Bool.false_eq_true, if_false]
  split
  · exact hp
  · exact hp

theorem Dev.bit_flushVector_self {v : Nat} {x : Dev} (h : x.postsVector v) : bit v (x.flushVector v).msix.pba = false := by
  unfold Dev.flushVector
  obtain ⟨he, hf, hm⟩ := h
  simp only [hm, Bool.not_false, Bool.and_true]
  split
  · exact Dev.bit_sendMsix_self ⟨he, hf, hm⟩ (bit_clrBit_self v _)
  · next hp => simpa using hp

/-- After a pass over vectors among which is `v`, no message of `v` is pending. -/
theorem Dev.bit_foldl_flushVector {v : Nat} (l : List Nat) (x : Dev) (h : x.postsVector v) (hv : v ∈ l ∨ bit v x.msix.pba = false) :
    bit v (l.foldl Dev.flushVector x).msix.pba = false := by
  induction l generalizing x with
  | nil => simpa using hv
  | cons w l ih =>
    refine ih _ ((x.posts_flushVector w).postsVector h) ?_
    by_cases hw : v = w
    · subst hw
      exact .inr (Dev.bit_flushVector_self h)
    · rw [Dev.bit_flushVector_ne hw]
      simpa [hw] using hv

theorem Dev.bit_flushPba {v : Nat} {x : Dev} (hv : v < 64) (h : x.postsVector v) : bit v x.flushPba.msix.pba = false := by
  obtain ⟨he, hf, -⟩ := id h
  rw [Dev.flushPba_eq, if_neg (by simp [he, hf])]
  exact Dev.bit_foldl_flushVector _ x h (.inl (List.mem_range.2 hv))

/-- The host clears the mask of a vector (R61). -/
theorem completes_msixMaskClear {v : Nat} {s : State} (hv : v < 64) (hu : s.dev.endpointUp = true) (hr : s.dev.boot.ready = true) :
    Completes (.msixMaskClear (some v)) s fun d =>
      bit 96 (Tbl.get msixDflt d.msix.table v) = false ∧ (s.dev.msix.enable = true → s.dev.msix.fmask = false → bit v d.msix.pba = false) ∧
      d.dict = s.dev.dict ∧ s.dev.keeps (fun _ _ => false) d := by
  let word := clrBit 96 (Tbl.get msixDflt s.dev.msix.table v)
  let x : Dev := { s.dev with msix := { s.dev.msix with table := Tbl.set msixDflt s.dev.msix.table v word } }
  have hdev : s.dev.msixMaskClear (some v) = x.flushPba := by
    unfold Dev.msixMaskClear
    simp only [hu, hr, hv, decide_true, Bool.and_self, Bool.not_true, Bool.false_eq_true, if_false, if_true]
    rfl
  have hpost : Dev.Posts x x.flushPba := x.posts_flushPba
  have hclear : bit 96 (Tbl.get msixDflt x.msix.table v) = false := by
    rw [show x.msix.table = Tbl.set msixDflt s.dev.msix.table v word from rfl, Tbl.get_set_self]
    exact bit_clrBit_self _ _
  refine completes_act (f := Dev.msixMaskClear (some v)) rfl ?_
  rw [hdev]
  exact ⟨by rw [hpost.table]; exact hclear, fun he hf => Dev.bit_flushPba hv ⟨he, hf, hclear⟩, hpost.dict, hpost.keeps⟩

/-- The host clears the Function Mask (R61). -/
theorem completes_functionMaskClear {s : State} (hu : s.dev.endpointUp = true) :
    Completes (.msixMaskClear none) s fun d => d.msix.fmask = false ∧ d.msix.enable = s.dev.msix.enable ∧
      d.msix.table = s.dev.msix.table ∧ d.dict = s.dev.dict ∧ s.dev.keeps (fun _ _ => false) d := by
  let x : Dev := { s.dev with msix := { s.dev.msix with fmask := false } }
  have hdev : s.dev.msixMaskClear none = x.flushPba := by
    unfold Dev.msixMaskClear
    simp only [hu, Bool.not_true, Bool.false_eq_true, if_false]
    rfl
  have hpost : Dev.Posts x x.flushPba := x.posts_flushPba
  refine completes_act (f := Dev.msixMaskClear none) rfl ?_
  rw [hdev]
  exact ⟨hpost.fmask, hpost.enable, hpost.table, hpost.dict, hpost.keeps⟩

/-- The host writes MSI-X Enable and the Function Mask (R61). -/
theorem completes_msixEnable {a b : Bool} {s : State} (hu : s.dev.endpointUp = true) :
    Completes (.msixEnable a b) s fun d => d.msix.enable = a ∧ d.msix.fmask = b ∧ d.msix.table = s.dev.msix.table ∧
      d.dict = s.dev.dict ∧ s.dev.keeps (fun _ _ => false) d := by
  let x : Dev := { s.dev with msix := { s.dev.msix with enable := a, fmask := b } }
  have hpost : Dev.Posts x (s.dev.msixEnable a b) := by
    unfold Dev.msixEnable
    simp only [hu, Bool.not_true, Bool.false_eq_true, if_false]
    refine x.posts_flushPba.trans ?_
    split
    · refine .foldl (fun g d => ?_) _ _
      split
      · exact .sendMsix _ d
      · exact .refl d
    · exact .refl _
  exact completes_act (f := Dev.msixEnable a b) rfl ⟨hpost.enable, hpost.fmask, hpost.table, hpost.dict, hpost.keeps⟩

end Msix

/-! ## BAR2 reads (R57) -/

/-- A BAR2 read with the right of its governing index answers the bytes there. -/
theorem completes_bar2Read {o len : Nat} {s : State} (hu : s.dev.endpointUp = true) (hr : s.dev.boot.ready = true)
    (hg : ∀ i ∈ governing o, s.dev.hasRight 0 .host i = true) :
    Completes (.bar2Access o len false 0) s fun d =>
      d.answer = ⟨0, 0, len, ofLE ((List.range len).map (fun x => s.dev.bar2Byte (o + x)))⟩ ∧ d.emits = s.dev.emits ∧
      s.dev.keeps (fun _ _ => false) d := by
  have hdev : s.dev.bar2 o len false 0 = { s.dev with answer := ⟨0, 0, len, ofLE ((List.range len).map fun x => s.dev.bar2Byte (o + x))⟩ } := by
    unfold Dev.bar2
    simp only [hu, hr, Bool.not_true, Bool.false_eq_true, if_false]
    split
    · next i hi => simp only [hg i hi, Bool.not_true, Bool.false_eq_true, if_false]
    · simp only [Bool.false_eq_true, if_false]
  refine completes_act (f := Dev.bar2 o len false 0) rfl ?_
  rw [hdev]
  exact ⟨rfl, rfl, fun _ _ _ _ _ => rfl, rfl⟩

end Sys2Proof.Machine

namespace Sys2Proof.Machine

/-! ## Numbers as bytes (R36) -/

section ByteNumbers

theorem length_toBE (n v : Nat) : (toBE n v).length = n := by
  induction n with
  | zero => rfl
  | succ n ih => simp [toBE, ih]

theorem length_toLE (n v : Nat) : (toLE n v).length = n := by rw [toLE, List.length_reverse, length_toBE]

theorem foldl_ofBE (b : Bytes) (a : Nat) : b.foldl (fun a x => a * 256 + x.toNat) a = a * 256 ^ b.length + ofBE b := by
  induction b generalizing a with
  | nil => simp [ofBE]
  | cons x b ih =>
    have h0 : ofBE (x :: b) = x.toNat * 256 ^ b.length + ofBE b := by
      simpa [ofBE] using ih x.toNat
    rw [List.foldl_cons, ih, h0, List.length_cons, Nat.pow_succ]
    ring

theorem ofBE_cons (x : Byte) (b : Bytes) : ofBE (x :: b) = x.toNat * 256 ^ b.length + ofBE b := by
  simpa [ofBE] using foldl_ofBE b x.toNat

theorem ofBE_append (a b : Bytes) : ofBE (a ++ b) = ofBE a * 256 ^ b.length + ofBE b := by
  rw [ofBE, List.foldl_append]
  exact foldl_ofBE b _

/-- The bytes of a number spell it, modulo what they hold. -/
theorem ofBE_toBE (n v : Nat) : ofBE (toBE n v) = v % 256 ^ n := by
  induction n with
  | zero => simp [toBE, ofBE, Nat.mod_one]
  | succ n ih =>
    rw [toBE, ofBE_cons, ih, length_toBE, BitVec.toNat_ofNat, show 2 ^ 8 = 256 from rfl, Nat.mod_pow_succ, Nat.mul_comm, Nat.add_comm]

theorem ofLE_toLE (n v : Nat) : ofLE (toLE n v) = v % 256 ^ n := by rw [ofLE, toLE, List.reverse_reverse, ofBE_toBE]

theorem ofLE_append (a b : Bytes) : ofLE (a ++ b) = ofLE b * 256 ^ a.length + ofLE a := by
  rw [ofLE, List.reverse_append, ofBE_append, List.length_reverse]
  rfl

/-- The first bytes of a number. -/
theorem take_toLE {m n : Nat} (h : m ≤ n) (v : Nat) : (toLE n v).take m = toLE m v := by
  induction n with
  | zero => simp_all [toLE, toBE]
  | succ n ih =>
    have hs : toLE (n + 1) v = toLE n v ++ [BitVec.ofNat 8 (v / 256 ^ n)] := by simp [toLE, toBE]
    rw [hs]
    rcases Nat.lt_or_ge n m with hm | hm
    · obtain rfl : m = n + 1 := by omega
      rw [List.take_of_length_le (by simp [length_toLE]), hs]
    · rw [List.take_append_of_le_length (by rw [length_toLE]; exact hm), ih hm]

end ByteNumbers

end Sys2Proof.Machine

namespace Sys2Proof.Machine

/-! ## Reads of ROUTE (R54) -/

section ReadRoute

theorem Dev.readAbort_route {d : Dev} {r : Role} {g : Nat} (hg : g < 25) :
    d.readAbort r (0x1400 + g) 4 = if !d.mayRead r (0x1400 + g) 4 then abRoleDenied else 0 := by
  rw [Dev.readAbort, objAt_eventGroup (j := 4) hg rfl]
  rfl

theorem Dev.Touches.mayRead {a b : Dev} (h : Dev.Touches eventReg a b) (r : Role) (i j : Nat) : b.mayRead r i j = a.mayRead r i j := by
  simp only [Dev.mayRead, h.hasRight]

theorem Dev.readVal_route {d : Dev} {g : Nat} (hg : g < 25) : d.readVal (0x1400 + g) 4 = (d.rd (0x1400 + g) 4, d) := by
  rw [Dev.readVal, objAt_eventGroup (j := 4) hg rfl]
  rfl

theorem typeOf_route {g : Nat} (hg : g < 25) : typeOf (0x1400 + g) 4 = .u16 := by
  rw [typeOf, objAt_eventGroup (j := 4) hg rfl]

theorem quadAt_route {g : Nat} (hg : g < 25) : quadAt (0x1400 + g) 4 = none := by
  rw [quadAt, objAt_eventGroup (j := 4) hg rfl]
  rfl

theorem eventReg_route (g : Nat) (hg : g < 25) : eventReg (0x1400 + g) 4 = false := by
  simp only [eventReg, within, Bool.or_eq_false_iff, Bool.and_eq_false_iff, decide_eq_false_iff_not]
  omega

/-- A read of ROUTE that its role may make is answered with the value, cut to its type. -/
theorem Dev.readObj_route {d : Dev} {p : Path} {g : Nat} (hg : g < 25) (hr : d.readAbort (d.roleOf p) (0x1400 + g) 4 = 0) :
    d.readObj p (0x1400 + g) 4 = (d.accessed (d.roleOf p)).respond p (0x1400 + g) 4 0 3 2 (d.rd (0x1400 + g) 4 % 65536) := by
  have hx : Dev.Touches eventReg d (d.accessed (d.roleOf p)) := Dev.touches_accessed _ _
  have ha : (d.accessed (d.roleOf p)).readAbort (d.roleOf p) (0x1400 + g) 4 = 0 := by
    rw [Dev.readAbort_route hg, hx.mayRead, ← Dev.readAbort_route hg]
    exact hr
  unfold Dev.readObj
  simp only [ha, bne_self_eq_false, Bool.false_eq_true, if_false, Dev.readVal_route hg, typeOf_route hg,
    hx.rd (show 4 < 256 by decide) (eventReg_route g hg)]
  rfl

end ReadRoute

end Sys2Proof.Machine

namespace Sys2Proof.Machine

/-! ## BAR0 accesses of ROUTE (R52 to R54) -/

section Bar0

theorem entryAt_route {g : Nat} (hg : g < 25) : entryAt (4096 * (0x1400 + g) + 64) = (0x1400 + g, 4, 0) := by
  simp only [entryAt, Prod.mk.injEq]
  omega

theorem Dev.linkMeets_route {g : Nat} (hg : g < 25) (d : Dev) : d.linkMeets (0x1400 + g) 4 = d := by rw [Dev.linkMeets, quadAt_route hg]

theorem Dev.linkHolds_route {g : Nat} (hg : g < 25) (d : Dev) : d.linkHolds (0x1400 + g) 4 = none := by
  rw [Dev.linkHolds, quadAt_route hg]
  rfl

/-- What only events touch is kept. -/
theorem Dev.Touches.keepsAll {a b : Dev} (h : Dev.Touches eventReg a b) : a.keeps (fun _ _ => false) b :=
  (h.mono fun _ _ he => by simp only [he, Bool.or_true]).keeps

/-- A capture of ROUTE holds its value. -/
theorem Dev.capture_route {d : Dev} {g : Nat} (hg : g < 25) (hr : d.readAbort .host (0x1400 + g) 4 = 0) :
    d.capture (0x1400 + g) 4 =
      let x := (d.accessed .host).respond .host (0x1400 + g) 4 0 3 2 (d.rd (0x1400 + g) 4 % 65536)
      { x with bar0 := { x.bar0 with capture := some (okey (0x1400 + g) 4, d.rd (0x1400 + g) 4 % 65536) } } := by
  have hv : ofLE (valueBytes 3 2 (d.rd (0x1400 + g) 4 % 65536)) = d.rd (0x1400 + g) 4 % 65536 := by
    rw [valueBytes, if_neg (by decide), ofLE_toLE]
    omega
  unfold Dev.capture
  simp only [Dev.readObj_route (p := .host) hg hr, Dev.respond_answer, if_true, hv]
  rfl

/-- The 16 bytes of an entry whose capture is held begin with it. -/
theorem entryBytes_captured {d : Dev} {i j v : Nat} (h : d.bar0.capture = some (okey i j, v)) :
    (d.entryBytes i j).length = 16 ∧ ofLE (d.entryBytes i j) % 2 ^ 96 = v % 2 ^ 96 := by
  unfold Dev.entryBytes
  simp only [h, if_true]
  refine ⟨by simp [length_toLE], ?_⟩
  rw [ofLE_append, length_toLE, ofLE_toLE, ofLE_toLE]
  omega

/-- A 16-byte BAR0 read of ROUTE captures and answers the entry (R54). -/
theorem Dev.bar0Read_route {d : Dev} {g : Nat} (hg : g < 25) (hu : d.endpointUp = true) (hb : d.boot.ready = true) :
    d.bar0Read (4096 * (0x1400 + g) + 64) 16 =
      let x := d.capture (0x1400 + g) 4
      { x with answer := ⟨x.answer.abort, 0, 16, ofLE (slice 0 16 (x.entryBytes (0x1400 + g) 4))⟩ } := by
  have hacc : readAccess (4096 * (0x1400 + g) + 64) 16 = true := by
    simp only [readAccess, Bool.or_eq_true, Bool.and_eq_true, decide_eq_true_eq]
    omega
  have hneed : d.needsCapture (0x1400 + g) 4 0 = true := rfl
  simp only [Dev.bar0Read, Dev.bar0Now, entryAt_route hg, hu, hb, hacc, hneed, Dev.linkMeets_route hg, Dev.linkHolds_route hg,
    Bool.not_true, Bool.false_eq_true, if_false, if_true]

/-- What a BAR0 read of ROUTE leaves (R54). -/
theorem completes_bar0Read {g t : Nat} {s : State} (hg : g < 25) (hu : s.dev.endpointUp = true) (hb : s.dev.boot.ready = true)
    (hr : s.dev.readAbort .host (0x1400 + g) 4 = 0) :
    Completes (.bar0ReadCapture (4096 * (0x1400 + g) + 64) 16 t) s fun d => d.answer.abort = 0 ∧ d.answer.len = 16 ∧
      d.answer.value % 2 ^ 96 = s.dev.rd (0x1400 + g) 4 % 65536 ∧
      d.bar0.capture = some (okey (0x1400 + g) 4, s.dev.rd (0x1400 + g) 4 % 65536) ∧ s.dev.keeps (fun _ _ => false) d := by
  have hat : Dev.Touches eventReg s.dev (s.dev.at t) := Dev.touches_at (fun _ _ h => h) t s.dev
  have hrd : (s.dev.at t).rd (0x1400 + g) 4 = s.dev.rd (0x1400 + g) 4 := hat.rd (by decide) (eventReg_route g hg)
  have hra : (s.dev.at t).readAbort .host (0x1400 + g) 4 = 0 := by
    rw [Dev.readAbort_route hg, hat.mayRead, ← Dev.readAbort_route hg]
    exact hr
  have hreach : (s.dev.at t).reaches .host = true := hat.reaches .host (by simp only [Dev.reaches, hu, hb, Bool.and_self])
  obtain ⟨hu', hb'⟩ : (s.dev.at t).endpointUp = true ∧ (s.dev.at t).boot.ready = true := by
    simpa only [Dev.reaches, Bool.and_eq_true] using hreach
  let x := (s.dev.at t).capture (0x1400 + g) 4
  have hcap : x.bar0.capture = some (okey (0x1400 + g) 4, s.dev.rd (0x1400 + g) 4 % 65536) := by
    simp only [x, Dev.capture_route hg hra, hrd]
  have habort : x.answer.abort = 0 := by
    simp only [x, Dev.capture_route hg hra, Dev.respond_answer]
  have htouch : Dev.Touches eventReg s.dev x := by
    simp only [x, Dev.capture_route hg hra]
    exact (hat.trans ((Dev.touches_accessed _ _).trans (Dev.touches_respond (fun h0 => absurd rfl h0) _ _ _ _ _ _ _))).out rfl
  obtain ⟨hlen, hval⟩ := entryBytes_captured hcap
  refine completes_act (f := fun d => (d.at t).bar0Read (4096 * (0x1400 + g) + 64) 16) rfl ?_
  rw [Dev.bar0Read_route hg hu' hb']
  refine ⟨habort, rfl, ?_, hcap, Dev.Touches.keepsAll (htouch.out ?_)⟩
  case refine_2 => rfl
  have hslice : slice 0 16 (x.entryBytes (0x1400 + g) 4) = x.entryBytes (0x1400 + g) 4 := List.take_of_length_le (by rw [List.drop_zero, hlen])
  show ofLE (slice 0 16 (x.entryBytes (0x1400 + g) 4)) % 2 ^ 96 = _
  rw [hslice, hval]
  omega

end Bar0

end Sys2Proof.Machine

namespace Sys2Proof.Machine

/-! ## A BAR0 write of ROUTE, and the host's accesses together (R53, R54) -/

section Bar0Write

theorem Dev.bar0_accessed (r : Role) (d : Dev) : (d.accessed r).bar0 = d.bar0 := (((Dev.Kept.refl true d).accessed (r := r)).ports rfl).1

theorem Dev.bar0_wr (i j v : Nat) (d : Dev) : (d.wr i j v).bar0 = d.bar0 := rfl

theorem Dev.bar0_lastAbort (i j a : Nat) (d : Dev) : (d.lastAbort i j a).bar0 = d.bar0 := by
  unfold Dev.lastAbort
  split
  · rfl
  · exact Dev.bar0_wr _ _ _ _

theorem Dev.staging_respond (p : Path) (i j a ty len v : Nat) (d : Dev) : (d.respond p i j a ty len v).bar0.stagingOf = d.bar0.stagingOf := by
  unfold Dev.respond
  simp only
  have h := congrArg Bar0.stagingOf (Dev.bar0_lastAbort i j a { d with answer := ⟨a, ty, len, v⟩ })
  split
  · exact h
  · exact h

/-- The low two bytes of the four written. -/
theorem ofValueBytes_u16 (v : Nat) : ofValueBytes Ty.u16.code Ty.u16.size ([] ++ toLE 4 v) = v % 65536 := by
  rw [List.nil_append, ofValueBytes, if_neg (by decide), take_toLE (by decide), ofLE_toLE]
  rfl

/-- A write of the four bytes that commit ROUTE (R54). -/
theorem Dev.stage_route (g v t : Nat) (d : Dev) :
    d.stage (0x1400 + g) 4 0 .u16 (toLE 4 v) t =
      (d.setStaging none []).write (effectOf t (0x1400 + g) 4) (0x1400 + g) 4 ⟨.host, Ty.u16.code, 2, v % 65536⟩ := by
  have hlast : 0 ≤ lastByte Ty.u16.size ∧ lastByte Ty.u16.size < 0 + (toLE 4 v).length := by rw [length_toLE]; decide
  unfold Dev.stage
  simp only [hlast, decide_true, Bool.and_self, if_true, List.range_zero, List.mapM_nil]
  exact congrArg (fun x => Dev.write _ _ _ ⟨.host, _, _, x⟩ _) (ofValueBytes_u16 v)

theorem Dev.bar0Write_route {g v t : Nat} {d : Dev} (hg : g < 25) (hu : d.endpointUp = true) (hb : d.boot.ready = true) :
    d.bar0Write (4096 * (0x1400 + g) + 64) 4 v t =
      ((if d.bar0.stagingOf = some (okey (0x1400 + g) 4) then d else d.setStaging none []).setStaging none []).write
        (effectOf t (0x1400 + g) 4) (0x1400 + g) 4 ⟨.host, Ty.u16.code, 2, v % 65536⟩ := by
  have hacc : wordAccess (4096 * (0x1400 + g) + 64) 4 = true := by
    simp only [wordAccess, decide_true, Bool.true_or, Bool.true_and, decide_eq_true_eq]
    omega
  unfold Dev.bar0Write
  rw [entryAt_route hg]
  simp only [hu, hb, hacc, Bool.not_true, Bool.false_eq_true, if_false, objAt_eventGroup (j := 4) hg rfl]
  exact Dev.stage_route g v t _

/-- What a BAR0 write of ROUTE that its owner hears leaves. -/
theorem completes_bar0Write {g v t : Nat} {s : State} (hg : g < 25)
    (hh : s.dev.hears (0x1400 + g) 4 ⟨.host, Ty.u16.code, 2, v % 65536⟩ = true) :
    Completes (.bar0Write (4096 * (0x1400 + g) + 64) 4 v t) s fun d => d.answer.abort = 0 ∧ d.rd (0x1400 + g) 4 = v % 65536 ∧
      d.bar0.stagingOf = none ∧ s.dev.keeps (only (0x1400 + g) 4) d := by
  have hat : Dev.Touches eventReg s.dev (s.dev.at t) := Dev.touches_at (fun _ _ h => h) t s.dev
  obtain ⟨hreach, -⟩ := s.dev.hears_parts _ _ _ hh
  obtain ⟨hu, hb⟩ : (s.dev.at t).endpointUp = true ∧ (s.dev.at t).boot.ready = true := by
    simpa only [Dev.reaches, Bool.and_eq_true] using hat.reaches .host hreach
  refine completes_act (f := fun d => (d.at t).bar0Write (4096 * (0x1400 + g) + 64) 4 v t) rfl ?_
  rw [Dev.bar0Write_route hg hu hb]
  generalize hy : (if (s.dev.at t).bar0.stagingOf = some (okey (0x1400 + g) 4) then s.dev.at t else (s.dev.at t).setStaging none []) = y
  have hty : Dev.Touches eventReg s.dev (y.setStaging none []) := by
    subst hy
    exact (Dev.Touches.ite hat (hat.out rfl)).out rfl
  have hst : IsStored (0x1400 + g) 4 := .inl ⟨by simp [within]; omega, rfl⟩
  rw [Dev.write_hears _ _ _ _ _ (hty.hears_at hh), effectOf_stored hst]
  obtain ⟨habort, hrd, hkeeps⟩ := (hty.trans (Dev.touches_atOwner ⟨.host, Ty.u16.code, 2, v % 65536⟩ _)).keeps_storedAt .host (0x1400 + g) 4
    (x := 0x1400 + g) (y := 4) (v % 65536) (by decide) (by omega)
  refine ⟨habort, hrd, (Dev.staging_respond ..).trans ?_, hkeeps⟩
  exact congrArg Bar0.stagingOf (Dev.bar0_accessed _ _)

end Bar0Write

/-- Settles O56: BAR0 captures and commits, a stored object takes its value on every path, BAR2 answers bytes, and the messages wait. -/
theorem hostAccessesAndMsixMessages : Obligations.HostAccessesAndMsixMessages := by
  unfold Obligations.HostAccessesAndMsixMessages
  exact ⟨fun g t s hg hu hb hr => completes_bar0Read hg hu hb hr, fun g v t s hg hh => completes_bar0Write hg hh,
    fun i j t w s hh hs => completes_stored hs hh, fun o len s hu hr hg => completes_bar2Read hu hr hg,
    fun v s hv hu hr => completes_msixMaskClear hv hu hr, fun s hu => completes_functionMaskClear hu,
    fun a b s hu => completes_msixEnable hu⟩

end Sys2Proof.Machine

namespace Sys2Proof.Machine

/-! ## A session without key bytes (R64, R67) -/

/-- A block with a session of the OOB role open whose key has no bytes, so that the MAC of its messages has none either. -/
def keylessSession : State := ⟨[], { dapUp with dap := { dapUp.dap with sessions := [{ aSession .oob with key := [] }] } }⟩

/-- Refutes O58: a message with the MAC of a session that holds an empty key is shorter than a message must be, and is dropped; its sequence
number is not recorded. -/
theorem not_requestsArePerformedOnTheirSession : ¬ Obligations.RequestsArePerformedOnTheirSession := by
  unfold Obligations.RequestsArePerformedOnTheirSession
  intro h
  obtain ⟨-, -, -, hread, -⟩ := h
  obtain ⟨-, -, hbare, -⟩ := hread false 7 9 6 0 5 { aSession .oob with key := [] } keylessSession (by decide +kernel) (by decide +kernel)
    (by decide +kernel) (by decide) (by decide) (by decide) (by decide +kernel) (by decide +kernel) (by decide) (by decide +kernel)
    (by decide +kernel)
    |>.of_act (f := Dev.request false 7 1 9 6 (bodyHead 0x1400 4 0) 5) rfl
  exact absurd hbare (by decide +kernel)

end Sys2Proof.Machine

namespace Sys2Proof.Machine

/-! ## What operations put out

Raising an event puts out messages, notifications and interrupts, never a carrier frame: what a carrier's frame left is told apart from them by
`Emit.isCarrier`. -/

/-- A carrier frame. -/
def Emit.isCarrier : Emit → Bool
  | .carrier .. => true
  | _ => false

/-- What `b` has put out since `a` holds no carrier frame. -/
def Dev.Puts (a b : Dev) : Prop := ∃ l : List Emit, b.emits = l ++ a.emits ∧ ∀ e ∈ l, e.isCarrier = false

namespace Dev.Puts

variable {a b c : Dev}

theorem same (h : b.emits = a.emits) : Puts a b := ⟨[], h, by simp⟩

theorem refl (a : Dev) : Puts a a := same rfl

theorem trans (h : Puts a b) (k : Puts b c) : Puts a c := by
  obtain ⟨l, hl, hq⟩ := h
  obtain ⟨l', hl', hq'⟩ := k
  exact ⟨l' ++ l, by rw [hl', hl, List.append_assoc], fun e he => (List.mem_append.1 he).elim (hq' e) (hq e)⟩

theorem emit (a : Dev) {e : Emit} (he : e.isCarrier = false) : Puts a (a.emit e) := ⟨[e], rfl, by simpa using he⟩

theorem wr (a : Dev) (i j v : Nat) : Puts a (a.wr i j v) := same rfl

theorem ite {p : Prop} [Decidable p] (h : Puts a b) (k : Puts a c) : Puts a (if p then b else c) := by split <;> assumption

theorem foldl {α : Type} {f : Dev → α → Dev} (hf : ∀ x d, Puts d (f d x)) (l : List α) (a : Dev) : Puts a (l.foldl f a) := by
  induction l generalizing a with
  | nil => exact .refl a
  | cons x l ih => exact (hf x a).trans (ih _)

/-- What was put out before stays put out. -/
theorem mem (h : Puts a b) {e : Emit} (he : e ∈ a.emits) : e ∈ b.emits := by
  obtain ⟨l, hl, -⟩ := h
  rw [hl]
  exact List.mem_append_right l he

end Dev.Puts

theorem Dev.puts_sendMsix (v : Nat) (a : Dev) : Dev.Puts a (a.sendMsix v) := by
  unfold Dev.sendMsix; simp only
  exact .ite (.refl a) (.ite (.same rfl) (.emit a rfl))

theorem Dev.puts_canNext (a : Dev) : Dev.Puts a a.canNext := by
  unfold Dev.canNext
  split
  · exact .refl a
  · exact .ite (.trans (.same rfl) (.emit _ rfl)) (.refl a)

theorem Dev.puts_sendDap (r : Role) (peer : Nat) (x : Bytes) (a : Dev) : Dev.Puts a (a.sendDap r peer x) := by
  unfold Dev.sendDap; simp only
  exact .ite (.ite (.trans (.same rfl) (Dev.puts_canNext _)) (.same rfl)) (.emit a rfl)

theorem Dev.puts_holdOn (k e : Nat) (x : Option (Nat × Nat)) (a : Dev) : Dev.Puts a (a.holdOn k e x) := by
  unfold Dev.holdOn
  split <;> exact .same rfl

theorem Dev.puts_notifyOn (k e t : Nat) (a : Dev) : Dev.Puts a (a.notifyOn k e t) := by
  unfold Dev.notifyOn
  split
  · exact .refl a
  · next x _ =>
    have noted : Dev.Puts a { a with dap := { a.dap with sessions := setNth { x with notes := x.notes + 1 } a.dap.sessions k } } := .same rfl
    exact noted.trans ((Dev.puts_sendDap _ _ _ _).trans (.wr _ 0x1419 4 _))

theorem Dev.puts_notifyRaise (e t : Nat) (a : Dev) (k : Nat) : Dev.Puts a (a.notifyRaise e t k) := by
  unfold Dev.notifyRaise
  split
  · exact .refl a
  · split
    · exact a.puts_holdOn _ _ _
    · exact (a.puts_notifyOn _ _ _).trans (Dev.puts_holdOn _ _ _ _)

theorem Dev.puts_warmUp (k : Nat) (a : Dev) : Dev.Puts a (a.warmUp k) := by
  unfold Dev.warmUp
  exact .ite (.same rfl) (.refl a)

theorem Dev.puts_deliver (g : Nat) (a : Dev) : Dev.Puts a (a.deliver g) := by
  have h : Dev.Puts a (if bit 6 (a.rd (0x1400 + g) 4) then a.sendMsix (fld 5 0 (a.rd (0x1400 + g) 4)) else a) :=
    .ite (a.puts_sendMsix _) (.refl a)
  unfold Dev.deliver; simp only
  exact .ite (h.trans ((Dev.Puts.emit _ rfl).trans (Dev.puts_warmUp _ _))) h

theorem Dev.puts_raise0 (e : Nat) (a : Dev) : Dev.Puts a (a.raise0 e) := by
  unfold Dev.raise0; simp only [Dev.count_eq]
  have h := (Dev.Puts.wr a (0x1400 + e / 16) 1 (setBit (e % 16) (a.rd (0x1400 + e / 16) 1))).trans (.wr _ (0x1400 + e / 16) 5
    (satAdd 64 ((a.wr (0x1400 + e / 16) 1 (setBit (e % 16) (a.rd (0x1400 + e / 16) 1))).rd (0x1400 + e / 16) 5) 1))
  split
  · exact h
  · exact h.trans (.trans (.ite (.refl _) (Dev.puts_deliver _ _)) (.foldl (fun k d => d.puts_notifyRaise _ _ k) _ _))

theorem Dev.puts_perfAdd {sat : Dev → Dev} (hs : ∀ d, Dev.Puts d (sat d)) (b j k : Nat) (a : Dev) : Dev.Puts a (a.perfAdd sat b j k) := by
  unfold Dev.perfAdd; simp only
  have full : ∀ (d : Dev) (v : Nat), Dev.Puts a d → Dev.Puts a (sat (d.wr (0x8100 + b) 3 v)) := fun d v h => h.trans ((Dev.Puts.wr d _ _ _).trans (hs _))
  exact .ite (.ite (.wr a _ _ _) (full _ _ (.wr a _ _ _))) (.ite (.wr a _ _ _) (full _ _ (.wr a _ _ _)))

theorem Dev.puts_perfWith {sat : Dev → Dev} (hs : ∀ d, Dev.Puts d (sat d)) (b ev inst k : Nat) (a : Dev) :
    Dev.Puts a (a.perfWith sat b ev inst k) := by
  unfold Dev.perfWith
  exact .ite (.refl a) (.foldl (fun j d => .ite (d.puts_perfAdd hs b j k) (.refl d)) _ a)

theorem Dev.puts_perf (b ev inst k : Nat) (a : Dev) : Dev.Puts a (a.perf b ev inst k) :=
  Dev.puts_perfWith (fun d => (d.puts_raise0 110).trans (Dev.puts_perfWith (Dev.puts_raise0 110) _ _ _ _ _)) b ev inst k a

theorem Dev.puts_hear (e : Nat) (a : Dev) : Dev.Puts a (a.hear e) := (a.puts_raise0 e).trans (Dev.puts_perf _ _ _ _ _)

/-- Raising an event puts out no carrier frame. -/
theorem Dev.puts_raise (e : Nat) (a : Dev) : Dev.Puts a (a.raise e) := by
  have cross : ∀ (d : Dev) (n t : Nat), Dev.Puts d (d.setCrossing e n t) := fun _ _ _ => .same rfl
  have counted : Dev.Puts a (a.crossCount e) := .ite ((cross _ _ _).trans (Dev.puts_hear e _)) (.refl a)
  have overflow : ∀ (b : Nat) (d : Dev), Dev.Puts d (d.setOverflow b) := fun b d => .trans (.same rfl) (Dev.puts_hear _ _)
  unfold Dev.raise
  split
  · exact a.puts_hear e
  · refine counted.trans ?_
    exact .ite ((cross _ _ _).trans (Dev.puts_hear e _)) (.ite (.trans (.ite (cross _ _ _) (cross _ _ _)) (Dev.puts_hear e _))
      (.ite (cross _ _ _) (overflow _ _)))

theorem Dev.puts_syncPairLf (n : Nat) (a : Dev) : Dev.Puts a (a.syncPairLf n) := by
  have side : ∀ (s : Nat) (d : Dev), Dev.Puts d (d.syncLf s) := fun s d => .ite (.refl d) (.emit d rfl)
  exact (side n a).trans (side (256 + n) _)

/-! ## What operations of the lanes and carriers change

`Dev.Shifts m a b` is what `Dev.keeps` asks of a command, for each operation on its way: the registers outside the scope `m`, and the parts of the
block that `m` does not open, are as they were. `Dev.Moves` says besides that no carrier frame is put out and that no carrier's frame
counter, current transmit key, frames received and marks of a failure or a changeover asked for are changed. One lemma follows for each operation. -/

/-- What an operation may change: registers, those of events apart, and parts of the block. -/
structure Scope where
  reg : Nat → Nat → Bool
  lanes : Bool := false
  sides : Bool := false
  carriers : Bool := false
  keys : Bool := false
  counters : Bool := false
  fresh : Bool := false
  power : Bool := false

/-- The block without its registers, without what is answered, timed, put out, sent or set warming, and without the parts that `m` opens. -/
def Dev.outside (m : Scope) (d : Dev) : Dev :=
  { d with dict := [], answer := Dev.reset.answer, now := 0, pulses := [], bar0 := Dev.reset.bar0, emits := [], msix := Dev.reset.msix,
           dap := Dev.reset.dap, power := bif m.power then Dev.reset.power else { d.power with warm := [] },
           lanes := bif m.lanes then [] else d.lanes, sides := bif m.sides then [] else d.sides,
           carriers := bif m.carriers then [] else d.carriers, keys := bif m.keys then Dev.reset.keys else d.keys,
           counters := bif m.counters then [] else d.counters, fresh := bif m.fresh then 0 else d.fresh }

/-- `b` with the parts that `m` opens as in `a`. -/
def Dev.back (m : Scope) (a b : Dev) : Dev :=
  { b with lanes := bif m.lanes then a.lanes else b.lanes, sides := bif m.sides then a.sides else b.sides,
           carriers := bif m.carriers then a.carriers else b.carriers, keys := bif m.keys then a.keys else b.keys,
           counters := bif m.counters then a.counters else b.counters, fresh := bif m.fresh then a.fresh else b.fresh }

/-- A register that `m` opens, or one of events. -/
def Scope.opens (m : Scope) (i j : Nat) : Bool := m.reg i j || eventReg i j

theorem Scope.opens_eventReg (m : Scope) (i j : Nat) (h : eventReg i j = true) : m.opens i j = true := by simp [Scope.opens, h]

theorem Scope.opens_reg {m : Scope} {i j : Nat} (h : m.reg i j = true) : m.opens i j = true := by simp [Scope.opens, h]

structure Dev.Shifts (m : Scope) (a b : Dev) : Prop where
  rd : ∀ {i j}, j < 256 → m.opens i j = false → b.rd i j = a.rd i j
  rest : b.outside m = a.outside m

namespace Dev.Shifts

variable {m : Scope} {a b c : Dev}

theorem refl (m : Scope) (a : Dev) : Shifts m a a := ⟨fun _ _ => rfl, rfl⟩

theorem trans (h : Shifts m a b) (k : Shifts m b c) : Shifts m a c :=
  ⟨fun hj hm => (k.rd hj hm).trans (h.rd hj hm), k.rest.trans h.rest⟩

theorem of_touches (h : Touches m.opens a b) : Shifts m a b := by
  refine ⟨fun hj hm => h.rd hj hm, ?_⟩
  rw [h.same]
  rfl

theorem wr (a : Dev) {i j : Nat} (v : Nat) (hm : m.opens i j = true) (hj : j < 256) : Shifts m a (a.wr i j v) := by
  refine ⟨fun {i' j'} hj' hm' => a.rd_wr_ne v fun hk => ?_, rfl⟩
  obtain ⟨rfl, rfl⟩ : i' = i ∧ j' = j := by omega
  rw [hm] at hm'
  cases hm'

theorem of_rest (hd : b.dict = a.dict) (h : b.outside m = a.outside m) : Shifts m a b := ⟨fun _ _ => Dev.rd_of_dict hd _ _, h⟩

/-- Where the scope does not open the lanes, they stay. -/
theorem lanes_eq (h : Shifts m a b) (hm : m.lanes = false) : b.lanes = a.lanes := by
  simpa [Dev.outside, hm] using congrArg Dev.lanes h.rest

/-- The lists of pairs and sides that wait for domains stay. -/
theorem forming_eq (h : Shifts m a b) (hm : m.power = false) : b.power.forming = a.power.forming := by
  simpa [Dev.outside, hm] using congrArg (fun d => d.power.forming) h.rest

theorem exiting_eq (h : Shifts m a b) (hm : m.power = false) : b.power.exiting = a.power.exiting := by
  simpa [Dev.outside, hm] using congrArg (fun d => d.power.exiting) h.rest

/-- What stays within a scope keeps the rest (Dev.keeps). -/
theorem keeps {p : Nat → Nat → Bool} (h : Shifts m a b) (hp : ∀ i j, m.reg i j = true → p i j = true) : a.keeps p (a.back m b) := by
  refine ⟨fun i j hj hi he => ?_, ?_⟩
  · have hm : m.reg i j = false := by
      by_contra hr
      rw [hp i j (by simpa using hr)] at hi
      cases hi
    exact (Dev.rd_of_dict rfl i j).trans (h.rd hj (by simp [Scope.opens, hm, he]))
  · have hcond : ∀ {α : Type} (x : Bool) (u v w : α), (bif x then u else bif x then v else w) = bif x then u else w := by
      intro α x u v w; cases x <;> rfl
    have hrest := congrArg (fun z : Dev => { Dev.back m a z with
      dict := b.dict, answer := b.answer, now := b.now, pulses := b.pulses, bar0 := b.bar0, emits := b.emits, msix := b.msix,
      dap := b.dap, power := b.power }) h.rest
    simpa only [Dev.back, Dev.outside, hcond, Bool.cond_self] using hrest

end Dev.Shifts

/-- What of a carrier only the frame it sends, the frame it receives and the verdict change. -/
def Carrier.core (x : Carrier) : Nat × Option CKey × List CarrierRx × Bool × Bool := (x.fc, x.txCur, x.rx, x.tfr, x.want)

structure Dev.Moves (m : Scope) (a b : Dev) : Prop extends Dev.Shifts m a b where
  puts : Dev.Puts a b
  core : ∀ k, (b.carrier k).core = (a.carrier k).core

namespace Dev.Moves

variable {m : Scope} {a b c : Dev}

theorem refl (m : Scope) (a : Dev) : Moves m a a := ⟨.refl m a, .refl a, fun _ => rfl⟩

theorem trans (h : Moves m a b) (k : Moves m b c) : Moves m a c :=
  ⟨h.toShifts.trans k.toShifts, h.puts.trans k.puts, fun n => (k.core n).trans (h.core n)⟩

theorem ite {p : Prop} [Decidable p] (h : Moves m a b) (k : Moves m a c) : Moves m a (if p then b else c) := by split <;> assumption

theorem when {x : Bool} {f : Dev → Dev} (h : ∀ d, Moves m d (f d)) (a : Dev) : Moves m a (Machine.when x f a) := by
  cases x
  · exact .refl m a
  · exact h a

theorem foldl {α : Type} {f : Dev → α → Dev} (l : List α) (hf : ∀ x ∈ l, ∀ d, Moves m d (f d x)) (a : Dev) : Moves m a (l.foldl f a) := by
  induction l generalizing a with
  | nil => exact .refl m a
  | cons x l ih => exact (hf x (by simp) a).trans (ih (fun y hy => hf y (by simp [hy])) _)

theorem times {f : Dev → Dev} (hf : ∀ d, Moves m d (f d)) (k : Nat) (a : Dev) : Moves m a (Machine.times k f a) :=
  .foldl _ (fun _ _ d => hf d) a

/-- An operation that leaves the carriers, and puts out no carrier frame. -/
theorem of_shifts (h : Shifts m a b) (hp : Puts a b) (hc : b.carriers = a.carriers) : Moves m a b :=
  ⟨h, hp, fun k => by unfold Dev.carrier; rw [hc]⟩

theorem of_touches (h : Touches m.opens a b) (hp : Puts a b) : Moves m a b := .of_shifts (.of_touches h) hp (by rw [h.same])

theorem wr (a : Dev) {i j : Nat} (v : Nat) (hm : m.reg i j = true) (hj : j < 256) : Moves m a (a.wr i j v) :=
  .of_shifts (.wr a v (Scope.opens_reg hm) hj) (.same rfl) rfl

theorem emit (a : Dev) {e : Emit} (he : e.isCarrier = false) : Moves m a (a.emit e) := .of_shifts (.of_rest rfl rfl) (.emit a he) rfl

theorem setLane (a : Dev) (l : Nat) (x : Lane) (hm : m.lanes = true) : Moves m a (a.setLane l x) :=
  .of_shifts (.of_rest rfl (by simp [Dev.outside, Dev.setLane, hm])) (.same rfl) rfl

theorem setSide (a : Dev) (s : Nat) (x : Side) (hm : m.sides = true) : Moves m a (a.setSide s x) :=
  .of_shifts (.of_rest rfl (by simp [Dev.outside, Dev.setSide, hm])) (.same rfl) rfl

theorem setCtr (a : Dev) (k e v x : Nat) (hm : m.counters = true) : Moves m a (a.setCtr k e v x) :=
  .of_shifts (.of_rest rfl (by simp [Dev.outside, Dev.setCtr, hm])) (.same rfl) rfl

theorem drawn (a : Dev) (x : Nat) (hm : m.fresh = true) : Moves m a { a with fresh := x } :=
  .of_shifts (.of_rest rfl (by simp [Dev.outside, hm])) (.same rfl) rfl

theorem withKeys (a : Dev) (x : Keys) (hm : m.keys = true) : Moves m a { a with keys := x } :=
  .of_shifts (.of_rest rfl (by simp [Dev.outside, hm])) (.same rfl) rfl

theorem withPower (a : Dev) (x : Power) (hm : m.power = true) : Moves m a { a with power := x } :=
  .of_shifts (.of_rest rfl (by simp [Dev.outside, hm])) (.same rfl) rfl

theorem raise (e : Nat) (he : e < 400) (a : Dev) : Moves m a (a.raise e) :=
  .of_touches (Dev.touches_raise m.opens_eventReg e (m.opens_eventReg _ _ (eventReg_group he (.inl rfl)))
    (m.opens_eventReg _ _ (eventReg_group he (.inr rfl))) a) (a.puts_raise e)

end Dev.Moves

/-- The carrier of pair `n` replaced by one with other content. -/
theorem Dev.carrier_setCarrier (n k : Nat) (x : Carrier) (d : Dev) : (d.setCarrier n x).carrier k = if k = n then x else d.carrier k := by
  simp [Dev.carrier, Dev.setCarrier, Tbl.get_set]

theorem Dev.lane_setLane (l k : Nat) (x : Lane) (d : Dev) : (d.setLane l x).lane k = if k = l then x else d.lane k := by
  simp [Dev.lane, Dev.setLane, Tbl.get_set]

theorem Dev.side_setSide (s k : Nat) (x : Side) (d : Dev) : (d.setSide s x).side k = if k = s then x else d.side k := by
  simp [Dev.side, Dev.setSide, Tbl.get_set]

theorem Dev.Shifts.setCarrier {m : Scope} (a : Dev) (n : Nat) (x : Carrier) (hm : m.carriers = true) : Dev.Shifts m a (a.setCarrier n x) :=
  .of_rest rfl (by simp [Dev.outside, Dev.setCarrier, hm])

theorem Dev.Moves.setCarrier {m : Scope} (a : Dev) {n : Nat} {x : Carrier} (hm : m.carriers = true) (hx : x.core = (a.carrier n).core) :
    Dev.Moves m a (a.setCarrier n x) := by
  refine ⟨.setCarrier a n x hm, .same rfl, fun k => ?_⟩
  rw [Dev.carrier_setCarrier]
  split
  · next hk => rw [hx, hk]
  · rfl

end Sys2Proof.Machine

namespace Sys2Proof.Machine

/-! ## Which pair holds a lane (R16) -/

theorem Dev.lt_of_mem_formedPairs {d : Dev} {n : Nat} (h : n ∈ d.formedPairs) : n < 256 := by
  obtain ⟨e, -, he⟩ := List.mem_filterMap.1 h
  obtain ⟨hw, he⟩ := Option.ite_none_right_eq_some.1 he
  simp only [within, Bool.and_eq_true, decide_eq_true_eq, Option.some.injEq] at hw he
  omega

theorem Dev.of_laneHolder {d : Dev} {l n : Nat} (h : d.laneHolder l = some n) : n < 256 ∧ l ∈ d.pairLanes n :=
  ⟨d.lt_of_mem_formedPairs (List.mem_of_find?_eq_some h), by simpa using List.find?_some h⟩

/-- The side that lane `l` of pair `n` belongs to. -/
def sideOf (l n : Nat) : Nat := if l < 256 then n else 256 + n

theorem Dev.of_sideOfLane {d : Dev} {l x : Nat} (h : d.sideOfLane l = some x) : ∃ n, d.laneHolder l = some n ∧ n < 256 ∧ x = sideOf l n := by
  obtain ⟨n, hn, rfl⟩ := Option.map_eq_some_iff.1 h
  exact ⟨n, hn, (Dev.of_laneHolder hn).1, rfl⟩

theorem sideOf_lt {l n : Nat} (hn : n < 256) : sideOf l n < 512 ∧ sideOf l n % 256 = n := by
  unfold sideOf
  split <;> omega

/-- A register that is not PORT_MODE, PORT_WIDTH or SYS_GEARBOX of a pair. -/
def offPairing (i j : Nat) : Bool := !(within 0x2000 256 i && (j = 1 || j = 2)) && !(within 0x2100 256 i && j = 0x10)

theorem Dev.formedPairs_eq_filter (d : Dev) : d.formedPairs =
    (d.dict.filter fun e => within 0x2000 256 (e.1 / 256) && e.1 % 256 = 1).filterMap fun e =>
      if within 0x2000 256 (e.1 / 256) && e.1 % 256 = 1 && e.2 != 0 then some (e.1 / 256 - 0x2000) else none := by
  rw [List.filterMap_filter]
  refine congrArg (fun f => d.dict.filterMap f) (funext fun e => ?_)
  by_cases h : (within 0x2000 256 (e.1 / 256) && decide (e.1 % 256 = 1)) = true
  · rw [if_pos h]
  · rw [if_neg h, Bool.eq_false_iff.2 h, Bool.false_and, if_neg (by decide)]

namespace Dev.Touches

variable {p : Nat → Nat → Bool} {a b : Dev} (h : Touches p a b) (hp : ∀ i j, p i j = true → offPairing i j = true)
include h hp

/-- The pairs formed stay so where no PORT_MODE is written. -/
theorem formedPairs_eq : b.formedPairs = a.formedPairs := by
  rw [Dev.formedPairs_eq_filter, Dev.formedPairs_eq_filter, h.filter_dict]
  intro i j v hij hj
  have h1 : okey i j / 256 = i := by simp only [okey]; omega
  have h2 : okey i j % 256 = j := by simp only [okey]; omega
  have hoff := hp i j hij
  by_contra hq
  simp only [offPairing, h1, h2] at hoff hq
  simp_all

theorem sideLanes_eq {x : Nat} (hx : x < 512) : b.sideLanes x = a.sideLanes x := by
  have line : ∀ n, n < 256 → b.width n = a.width n := fun n hn => h.rd (by decide) <| by
    by_contra hq
    have := hp _ _ (by simpa using hq)
    simp [offPairing, within] at this
    omega
  have box : ∀ n, n < 256 → b.gearbox n = a.gearbox n := fun n hn => by
    unfold Dev.gearbox
    rw [h.rd (by decide) ?_]
    by_contra hq
    have := hp _ _ (by simpa using hq)
    simp [offPairing, within] at this
    omega
  unfold Dev.sideLanes Dev.sysWidth
  split
  · next hl => rw [line x hl]
  · next hl => rw [line _ (by omega), box _ (by omega)]

/-- A lane stays with its pair where no PORT_MODE, PORT_WIDTH or SYS_GEARBOX is written. -/
theorem laneHolder_eq (l : Nat) : b.laneHolder l = a.laneHolder l := by
  unfold Dev.laneHolder
  rw [h.formedPairs_eq hp, ← List.head?_filter, ← List.head?_filter]
  refine congrArg List.head? (List.filter_congr fun n hn => ?_)
  have hn := a.lt_of_mem_formedPairs hn
  simp only [Dev.pairLanes, h.sideLanes_eq hp (show n < 512 by omega), h.sideLanes_eq hp (show 256 + n < 512 by omega)]

end Dev.Touches

theorem offPairing_eventReg (i j : Nat) (h : eventReg i j = true) : offPairing i j = true := by
  simp only [eventReg, within, Bool.or_eq_true, Bool.and_eq_true, decide_eq_true_eq] at h
  simp only [offPairing, within, Bool.and_eq_true, Bool.not_eq_true', Bool.and_eq_false_iff, Bool.or_eq_false_iff, decide_eq_false_iff_not]
  omega

/-- A register of a lane, written, leaves every lane with its pair. -/
theorem Dev.laneHolder_wr_lane (l k j v : Nat) (hj : j < 256) (d : Dev) : (d.wr (0x2200 + l) j v).laneHolder k = d.laneHolder k := by
  refine (Dev.Touches.write (p := fun i y => i = 0x2200 + l && y = j) d (0x2200 + l) j v (by simp) hj (by omega)).laneHolder_eq ?_ k
  intro i y h
  simp only [Bool.and_eq_true, decide_eq_true_eq] at h
  simp only [offPairing, within, Bool.and_eq_true, Bool.not_eq_true', Bool.and_eq_false_iff, Bool.or_eq_false_iff, decide_eq_false_iff_not]
  omega

theorem eventReg_lane {l : Nat} (hl : l < 512) (j : Nat) : eventReg (0x2200 + l) j = false := by
  simp only [eventReg, within, Bool.or_eq_false_iff, Bool.and_eq_false_iff, decide_eq_false_iff_not]
  omega

/-! ## The state of a side made to follow (R89, R90, R99) -/

/-- What following PORT_STATE of pair `n` may change: CAUSE of the pair and of its carrier. -/
def causeReg (n i j : Nat) : Bool := j = 0x12 && (i = 0x2400 + n || i = 0x2500 + n)

/-- What making the state of side `s` follow may change: its state, its count of defects, the causes of its pair. -/
def sideReg (s i j : Nat) : Bool := (i = 0x2000 + s && (j = 4 || j = 0x18 || j = 0x19 || j = 0x20)) || causeReg (s % 256) i j

theorem Dev.touches_trackingOne {n : Nat} (hn : n < 256) (f : Dev → Dev) (d : Dev) :
    Dev.Touches (fun i j => causeReg n i j || eventReg i j) (f d) (tracking [n] f d) := by
  have he : pairEvent n < 400 := by simp only [pairEvent]; omega
  have hp : ∀ i j, eventReg i j = true → (causeReg n i j || eventReg i j) = true := fun i j h => by simp [h]
  unfold tracking
  simp only [List.foldl]
  refine .trans (.ite .refl ?_) (Dev.touches_syncPairLf _ n _)
  refine .trans (b := (f d).wrBit _ _ 0 true) ?_ (Dev.touches_raise hp _ (hp _ _ (eventReg_group he (.inl rfl))) (hp _ _ (eventReg_group he (.inr rfl))) _)
  split <;> exact .write _ _ _ _ (by simp [causeAt, causeReg]) (by simp [causeAt]) (by simp [causeAt])

theorem Dev.puts_trackingOne (n : Nat) (f : Dev → Dev) (d : Dev) : Dev.Puts (f d) (tracking [n] f d) := by
  unfold tracking
  simp only [List.foldl]
  exact .trans (.ite (.refl _) ((Dev.Puts.wr _ _ _ _).trans (Dev.puts_raise _ _))) (Dev.puts_syncPairLf n _)

/-- The causes of pair `n` are within the scope. -/
def Scope.causes (m : Scope) (n : Nat) : Prop := ∀ i j, causeReg n i j = true → m.reg i j = true

theorem Dev.Moves.tracking {m : Scope} {n : Nat} (hn : n < 256) (hm : m.causes n) {f : Dev → Dev} {d : Dev} (hf : Dev.Moves m d (f d)) :
    Dev.Moves m d (Machine.tracking [n] f d) := by
  refine hf.trans (.of_touches ((Dev.touches_trackingOne hn f d).mono fun i j h => ?_) (Dev.puts_trackingOne n f d))
  rcases Bool.or_eq_true_iff.1 h with h | h
  · exact Scope.opens_reg (hm i j h)
  · exact m.opens_eventReg i j h

theorem eventReg_port {s : Nat} (hs : s < 512) (j : Nat) : eventReg (0x2000 + s) j = false := eventReg_linePort (by omega) j

section EvalSide

variable {m : Scope} {s : Nat}

theorem Dev.moves_evalSide (hm : ∀ i j, sideReg s i j = true → m.reg i j = true) (hsides : m.sides = true) (d : Dev) :
    Dev.Moves m d (d.evalSide s) := by
  have hw : ∀ (a : Dev) (j v : Nat), j = 4 ∨ j = 0x18 ∨ j = 0x19 ∨ j = 0x20 → Dev.Moves m a (a.wr (0x2000 + s) j v) := fun a j v hj =>
    .wr a v (hm _ _ (by simp [sideReg]; tauto)) (by omega)
  unfold Dev.evalSide
  refine .tracking (by omega) (fun i j h => hm i j (by simp [sideReg, h])) ?_
  refine .trans (.trans (b := d.setSideState s _) ?_ (.when (fun a => ?_) _)) (.when (fun a => .setSide a s _ hsides) _)
  · unfold Dev.setSideState
    exact .ite (hw _ _ _ (by simp)) (hw _ _ _ (by simp))
  · rw [Dev.count_eq]
    exact hw _ _ _ (by split <;> simp)

theorem Dev.rd_evalSide {i j : Nat} (hj : j < 256) (hr : sideReg s i j = false) (he : eventReg i j = false) (d : Dev) :
    (d.evalSide s).rd i j = d.rd i j :=
  (d.moves_evalSide (m := { reg := sideReg s, sides := true }) (fun _ _ h => h) rfl).rd hj (by simp [Scope.opens, hr, he])

theorem Dev.lanes_evalSide (d : Dev) : (d.evalSide s).lanes = d.lanes :=
  (d.moves_evalSide (m := { reg := sideReg s, sides := true }) (fun _ _ h => h) rfl).lanes_eq rfl

/-- The side keeps its alignment and the fault it receives. -/
theorem Dev.side_evalSide (d : Dev) : ((d.evalSide s).side s).aligned = (d.side s).aligned ∧ ((d.evalSide s).side s).fault = (d.side s).fault := by
  have hst : ∀ v, (d.setSideState s v).side s = d.side s := fun v => by unfold Dev.setSideState; split <;> rfl
  unfold Dev.evalSide
  generalize hf : (fun y : Dev => _) = f
  have hside : (tracking [s % 256] f d).side s = (f d).side s := by
    unfold Dev.side
    rw [(Dev.touches_trackingOne (by omega) f d).same]
  rw [hside, ← hf]
  simp only
  cases hup : decide (d.sideTarget s = stUp) <;> cases (decide (d.sideTarget s = stDefect) && d.sideState s != stDefect) <;>
    simp only [when_true, when_false, Dev.side_setSide, if_true, Dev.count_eq] <;> exact ⟨congrArg _ (hst _), congrArg _ (hst _)⟩

/-- The side is in the state that it is to be in. -/
theorem Dev.sideState_evalSide (hs : s < 512) (d : Dev) : (d.evalSide s).sideState s = d.sideTarget s := by
  have hst : ∀ v, (d.setSideState s v).sideState s = v := fun v => by unfold Dev.setSideState Dev.sideState; split <;> exact Dev.rd_wr_self _ _ _ _
  have hcount : ∀ (k v : Nat) (y : Dev), (k = 0x18 ∨ k = 0x19) → (y.wr (0x2000 + s) k v).sideState s = y.sideState s := fun k v y hk => by
    unfold Dev.sideState; split <;> exact Dev.rd_wr_ne _ _ (by omega)
  have hset : ∀ (x : Side) (y : Dev), (y.setSide s x).sideState s = y.sideState s := fun _ _ => rfl
  unfold Dev.evalSide
  generalize hf : (fun y : Dev => _) = f
  have htrack : (tracking [s % 256] f d).sideState s = (f d).sideState s := by
    have h : ∀ j, j < 256 → j ≠ 0x12 → (tracking [s % 256] f d).rd (0x2000 + s) j = (f d).rd (0x2000 + s) j := fun j hj hne =>
      (Dev.touches_trackingOne (by omega) f d).rd hj (by simp [causeReg, hne, eventReg_port hs])
    unfold Dev.sideState
    rw [h _ (by decide) (by decide), h _ (by decide) (by decide)]
  rw [htrack, ← hf]
  simp only
  cases decide (d.sideTarget s = stUp) <;> cases (decide (d.sideTarget s = stDefect) && d.sideState s != stDefect) <;>
    simp only [when_true, when_false, hset, Dev.count_eq]
  · exact hst _
  · exact (hcount _ _ _ (by split <;> simp)).trans (hst _)
  · exact hst _
  · exact (hcount _ _ _ (by split <;> simp)).trans (hst _)

end EvalSide

/-- No register of a lane is one of a side. -/
theorem sideReg_lane {s l : Nat} (hs : s < 512) (hl : l < 512) (j : Nat) : sideReg s (0x2200 + l) j = false := by
  simp only [sideReg, causeReg, Bool.or_eq_false_iff, Bool.and_eq_false_iff, decide_eq_false_iff_not]
  omega

theorem Dev.rd_evalSide_lane {s l j : Nat} (hs : s < 512) (hl : l < 512) (hj : j < 256) (d : Dev) :
    (d.evalSide s).rd (0x2200 + l) j = d.rd (0x2200 + l) j :=
  Dev.rd_evalSide hj (sideReg_lane hs hl j) (eventReg_lane hl j) d

/-- The registers of a side are among those of its pair. -/
theorem pairReg_of_sideReg {s i j : Nat} (hs : s < 512) (h : sideReg s i j = true) : pairReg (s % 256) i j = true := by
  simp only [sideReg, causeReg, Bool.or_eq_true, Bool.and_eq_true, decide_eq_true_eq] at h
  simp only [pairReg, Bool.or_eq_true, decide_eq_true_eq]
  omega

end Sys2Proof.Machine

namespace Sys2Proof.Machine

/-! ## A side that reaches beyond the lanes of the part (R13) -/

/-- System side 511 of two lanes, which would be dictionary lanes 511 and 512: the first reads LOCKED, and so does the register that the second
would have, one of the policy of pair 0. -/
def sideBeyond : Dev :=
  (((((Dev.reset.wr 0x20FF 1 pmFrame).wr 0x20FF 2 2).wr 0x23FF 1 lnLocked).wr 0x2400 1 lnLocked).setLane 511
    { Lane.init with polDone := true }).setLane 512 { Lane.init with polDone := true }

/-- Its second lane lags by 200,000 ps, which is written where the policy of pair 0 stands. -/
theorem rd_sideBeyond : sideBeyond.rd 0x2400 8 = 0 ∧ (sideBeyond.sideAligned 511 [] [0, 200000]).rd 0x2400 8 = 200000 := by decide +kernel

/-- Refutes O12: its clause on a side that stays unaligned does not ask that the lanes of the side exist (R13, R14, R95). With a PORT_WIDTH that
leads past lane 511 the SKEW of a lane beyond it falls on a register of another pair. -/
theorem not_lanesComeUpStateByState : ¬ Obligations.LanesComeUpStateByState := by
  unfold Obligations.LanesComeUpStateByState
  rintro ⟨-, -, -, -, -, -, hunaligned, -⟩
  obtain ⟨-, hkeeps, -⟩ := (hunaligned 511 1 [] [0, 200000] ⟨[], sideBeyond⟩ (by decide) (by decide +kernel) (by decide +kernel)
    (by decide +kernel) (by decide +kernel) (by decide +kernel) (by decide +kernel) (by decide +kernel)).of_act
    (f := Dev.sideAligned 511 [] [0, 200000]) rfl
  obtain ⟨hbefore, hafter⟩ := rd_sideBeyond
  have hkept : (sideBeyond.sideAligned 511 [] [0, 200000]).rd 0x2400 8 = sideBeyond.rd 0x2400 8 :=
    hkeeps 0x2400 8 (by decide) (by decide) (by decide)
  rw [hbefore, hafter] at hkept
  exact absurd hkept (by decide)

end Sys2Proof.Machine

namespace Sys2Proof.Machine

/-! ## A lane becomes LOCKED (R97, R113) -/

section LockLane

variable {m : Scope} {l : Nat} {d : Dev}

theorem Dev.lockLane_eq (l : Nat) (d : Dev) : d.lockLane l =
    (d.sideOfLane l).elim ((d.setLane l { d.lane l with adapt := true }).setLaneState l lnLocked)
      (fun x => ((d.setLane l { d.lane l with adapt := true }).setLaneState l lnLocked).evalSide x) := by
  have hside : ((d.setLane l { d.lane l with adapt := true }).setLaneState l lnLocked).sideOfLane l = d.sideOfLane l :=
    congrArg (Option.map _) (Dev.laneHolder_wr_lane l l 1 lnLocked (by decide) (d.setLane l { d.lane l with adapt := true }))
  unfold Dev.lockLane
  simp only [hside]
  cases d.sideOfLane l <;> rfl

theorem Dev.moves_lockLane (hlanes : m.lanes = true) (hsides : m.sides = true) (hreg : m.reg (0x2200 + l) 1 = true)
    (hside : ∀ x, d.sideOfLane l = some x → ∀ i j, sideReg x i j = true → m.reg i j = true) : Dev.Moves m d (d.lockLane l) := by
  have hlock : Dev.Moves m d ((d.setLane l { d.lane l with adapt := true }).setLaneState l lnLocked) :=
    (Dev.Moves.setLane d l _ hlanes).trans (.wr _ _ hreg (by decide))
  rw [Dev.lockLane_eq]
  cases hx : d.sideOfLane l with
  | none => exact hlock
  | some x => exact hlock.trans (Dev.moves_evalSide (hside x hx) hsides _)

theorem Dev.laneState_lockLane (hl : l < 512) : (d.lockLane l).laneState l = lnLocked := by
  rw [Dev.lockLane_eq]
  cases hx : d.sideOfLane l with
  | none => exact Dev.rd_wr_self _ _ _ _
  | some x =>
    obtain ⟨n, -, hn, rfl⟩ := Dev.of_sideOfLane hx
    exact (Dev.rd_evalSide_lane (sideOf_lt hn).1 hl (by decide) _).trans (Dev.rd_wr_self _ _ _ _)

theorem Dev.adapt_lockLane : ((d.lockLane l).lane l).adapt = true := by
  have hset : ∀ e : Dev, e.lanes = (d.setLane l { d.lane l with adapt := true }).lanes → (e.lane l).adapt = true := fun e he => by
    unfold Dev.lane
    rw [he]
    exact congrArg Lane.adapt (((Dev.lane_setLane l l _ d).trans (if_pos rfl)))
  rw [Dev.lockLane_eq]
  cases hx : d.sideOfLane l with
  | none => exact hset _ rfl
  | some x => exact hset _ (Dev.lanes_evalSide _)

/-- What a lane that becomes LOCKED leaves alone. -/
theorem Dev.keeps_lockLane : d.keeps (fun i j => i = 0x2200 + l || (d.laneHolder l).any (fun n => pairReg n i j))
    { d.lockLane l with lanes := d.lanes, sides := d.sides } := by
  refine (Dev.moves_lockLane (m := { reg := _, lanes := true, sides := true }) rfl rfl ?_ fun x hx i j h => ?_).toShifts.keeps fun _ _ h => h
  · simp
  · obtain ⟨n, hn, hlt, rfl⟩ := Dev.of_sideOfLane hx
    have hp := pairReg_of_sideReg (sideOf_lt hlt).1 h
    rw [(sideOf_lt hlt).2] at hp
    exact Bool.or_eq_true_iff.2 (.inr (by simp [hn, hp]))

end LockLane

/-! ## The first lock step (R100, R101) -/

section FirstLock

variable {l : Nat} {want got : Bytes} {d : Dev}

/-- A position that holds the pattern in form `f`, where RX_POLARITY takes that form now, settles the polarity. -/
theorem Dev.firstLock_settles {f : Nat} (hs : d.laneState l = lnLocked) (hp : (d.lane l).polDone = false) (hf : d.formAt l want got = f)
    (h : (f = 0 ∧ d.rd (0x2200 + l) 3 ≠ 2) ∨
      (f = 1 ∧ (d.rd (0x2200 + l) 3 = 2 ∨ (d.rd (0x2200 + l) 3 = 0 ∧ (d.lane l).inverted = 1)))) :
    d.firstLock l want got = (d.setLane l { d.lane l with inverted := 0, polDone := true }).wr (0x2200 + l) 4 f := by
  unfold Dev.firstLock
  rcases h with ⟨rfl, h⟩ | ⟨rfl, h | ⟨h, hi⟩⟩ <;> simp_all

/-- A position that holds neither form ends the succession. -/
theorem Dev.firstLock_neither (hs : d.laneState l = lnLocked) (hp : (d.lane l).polDone = false) (hf : d.formAt l want got = 2) :
    d.firstLock l want got = d.setLane l { d.lane l with inverted := 0 } := by
  unfold Dev.firstLock
  simp [hs, hp, hf]

/-- What a settled polarity leaves: RX_INVERTED, and nothing else but the lane. -/
theorem Dev.settled (f : Nat) (x : Lane) (hx : x.polDone = true) :
    ((d.setLane l x).wr (0x2200 + l) 4 f).rd (0x2200 + l) 4 = f ∧ (((d.setLane l x).wr (0x2200 + l) 4 f).lane l).polDone = true ∧
    d.keeps (only (0x2200 + l) 4) { (d.setLane l x).wr (0x2200 + l) 4 f with lanes := d.lanes } := by
  refine ⟨Dev.rd_wr_self _ _ _ _, (congrArg Lane.polDone ((Dev.lane_setLane l l x d).trans (if_pos rfl))).trans hx, ?_⟩
  exact ((Dev.Moves.setLane (m := { reg := _, lanes := true }) d l x rfl).trans (.wr _ f (by simp) (by decide))).toShifts.keeps
    fun _ _ h => h

/-- A lane replaced leaves everything else. -/
theorem Dev.keeps_setLane (x : Lane) : d.keeps (fun _ _ => false) { d.setLane l x with lanes := d.lanes } :=
  (Dev.Moves.setLane (m := { reg := _, lanes := true }) d l x rfl).toShifts.keeps fun _ _ h => h

end FirstLock

/-! ## Stored adaptation discarded (R114) -/

/-- The lanes `ls` without their stored adaptation. -/
theorem Dev.lane_discard (ls : List Nat) (k : Nat) (d : Dev) :
    ((ls.foldl (fun x l => x.setLane l { x.lane l with adapt := false }) d).lane k).adapt = (if k ∈ ls then false else (d.lane k).adapt) := by
  induction ls generalizing d with
  | nil => rfl
  | cons l ls ih =>
    rw [List.foldl_cons, ih, Dev.lane_setLane]
    by_cases hk : k = l <;> by_cases hm : k ∈ ls <;> simp [hk, hm]

/-- Settles O13: each step of a lane is the one of its branch; locking makes the state of the lane's side follow, the others change the lane
alone. -/
theorem storedAdaptationShortensRelocking : Obligations.StoredAdaptationShortensRelocking := by
  unfold Obligations.StoredAdaptationShortensRelocking
  refine ⟨fun l s hl hs ha => ?relocks, fun l s hl hs => ?timeout, fun l want got s hl hs hp hw hg => ?normal,
    fun l want got s hl hs hp hg hm hw => ?inverted, fun l want got s hl hs hp hg hm => ?neither, fun x s hx hm hi => ?expiry⟩
  case relocks =>
    refine completes_actIf (f := Dev.inLaneState l lnCdrLock (Dev.cdrLock l)) rfl (by simpa using hl) ?_
    simp only [Dev.inLaneState, hs, if_true, Dev.cdrLock, ha]
    exact ⟨Dev.laneState_lockLane hl, Dev.adapt_lockLane, Dev.keeps_lockLane⟩
  case timeout =>
    refine completes_actIf (f := Dev.relockTimeout l) rfl (by simpa using hl) ?_
    simp only [Dev.relockTimeout, hs, decide_true, Bool.true_or, if_true]
    exact ⟨hs, by rw [Dev.lane_setLane, if_pos rfl], Dev.keeps_setLane _⟩
  case normal =>
    refine completes_actIf (f := Dev.firstLock l want got) rfl (by simpa using hl) ?_
    rw [Dev.firstLock_settles hs hp (if_pos hg) (.inl ⟨rfl, hw⟩)]
    exact Dev.settled 0 _ rfl
  case inverted =>
    refine completes_actIf (f := Dev.firstLock l want got) rfl (by simpa using hl) ?_
    rw [Dev.firstLock_settles hs hp ((if_neg hg).trans (if_pos hm)) (.inr ⟨rfl, hw⟩)]
    exact Dev.settled 1 _ rfl
  case neither =>
    refine completes_actIf (f := Dev.firstLock l want got) rfl (by simpa using hl) ?_
    rw [Dev.firstLock_neither hs hp ((if_neg hg).trans (if_neg hm))]
    exact ⟨by simp only [Dev.lane_setLane, if_true, hp], by simp only [Dev.lane_setLane, if_true], Dev.keeps_setLane _⟩
  case expiry =>
    refine completes_actIf (f := Dev.retainExpiry x) rfl (by simpa using hx) ?_
    have hgo : (s.dev.mode (x % 256) != pmOff && s.dev.sideIdle x) = true := by simp [hm, hi]
    simp only [Dev.retainExpiry, hgo, if_true]
    refine ⟨fun l hl => by rw [Dev.lane_discard, if_pos hl], ?_⟩
    exact (Dev.Moves.foldl (m := { reg := _, lanes := true }) _ (fun l _ d => .setLane d l _ rfl) s.dev).toShifts.keeps fun _ _ h => h

end Sys2Proof.Machine

namespace Sys2Proof.Machine

/-! ## Writes that their owner accepts -/

section Accepted

variable {m : Scope} {d : Dev}

/-- A heard write whose owner accepts it and makes the block `y`. -/
theorem Dev.write_accepts {eff : Eff} {i j : Nat} {w : Wr} {y : Dev} (hh : d.hears i j w = true)
    (he : eff (d.roleOf w.path) w.value (d.atOwner w) = (0, y)) : d.write eff i j w = y.respond w.path i j 0 0 0 0 := by
  rw [Dev.write_hears eff i j w d hh, he]

theorem Dev.shifts_atOwner (w : Wr) : Dev.Shifts m d (d.atOwner w) := .of_touches ((d.touches_atOwner w).mono m.opens_eventReg)

theorem Dev.Shifts.respond {a : Dev} (h : Dev.Shifts m a d) (p : Path) (i j : Nat) : Dev.Shifts m a (d.respond p i j 0 0 0 0) :=
  h.trans (.of_touches (Dev.touches_respond (fun h0 => absurd rfl h0) _ _ _ _ _ _ _))

theorem Dev.lane_respond (p : Path) (i j a k : Nat) : (d.respond p i j a 0 0 0).lane k = d.lane k := by
  rw [Dev.respond_same]
  rfl

theorem Dev.lane_atOwner (w : Wr) (k : Nat) : (d.atOwner w).lane k = d.lane k := by
  unfold Dev.lane
  rw [(Dev.shifts_atOwner (m := { reg := fun _ _ => false }) w).lanes_eq rfl]

theorem Dev.rd_atOwner_lane {l j : Nat} (hl : l < 512) (hj : j < 256) (w : Wr) : (d.atOwner w).rd (0x2200 + l) j = d.rd (0x2200 + l) j :=
  Dev.rd_atOwner _ _ w hj (eventReg_lane hl j) d

theorem Dev.laneHolder_atOwner (w : Wr) (l : Nat) : (d.atOwner w).laneHolder l = d.laneHolder l :=
  (d.touches_atOwner w).laneHolder_eq offPairing_eventReg l

end Accepted

/-! ## PRBS objects (R108 to R111) -/

section Prbs

variable {l : Nat} {d : Dev}

theorem Dev.rd_setLane (k : Nat) (x : Lane) (i j : Nat) : (d.setLane k x).rd i j = d.rd i j := rfl

theorem Dev.rd_lane_ne {j j' : Nat} (v : Nat) (h : j ≠ j') :
    (d.wr (0x2200 + l) j' v).rd (0x2200 + l) j = d.rd (0x2200 + l) j := Dev.rd_wr_ne _ _ (by omega)

/-- A pattern or check that suits LANE_RATE of a lane outside every pair is stored. -/
theorem effPrbs_stores {r : Role} {j v : Nat} (hh : d.laneHolder l = none) (hf : prbsFits v (d.rd (0x2200 + l) 2) = true) :
    effPrbs l j r v d = (0, ((d.wr (0x2200 + l) j v).prbsFresh l j v).prbsState l) := by
  have hrate : d.laneRate l = d.rd (0x2200 + l) 2 := by unfold Dev.laneRate; rw [hh]
  unfold effPrbs
  simp only [hrate, hf, hh, Bool.not_true, Option.isSome_none, Bool.false_eq_true, if_false]

theorem Dev.prbsFresh_pattern (v : Nat) : ∃ x, d.prbsFresh l 0xA v = d.setLane l x := ⟨_, rfl⟩

theorem Dev.prbsFresh_check (v : Nat) : ∃ x, d.prbsFresh l 0xB v = (d.setLane l x).wr (0x2200 + l) 0xC (d.rd (0x2200 + l) 0xC / 4 * 4) := ⟨_, rfl⟩

theorem completes_prbsPattern {w : Wr} {s : State} (hl : l < 512) (hh : s.dev.hears (0x2200 + l) 0xA w = true)
    (hf : prbsFits w.value (s.dev.rd (0x2200 + l) 2) = true) (hn : s.dev.laneHolder l = none) :
    Completes (.prbsPattern l w) s fun d => d.answer.abort = 0 ∧ d.rd (0x2200 + l) 0xA = w.value ∧
      d.laneState l = (if w.value = 0 ∧ s.dev.rd (0x2200 + l) 0xB = 0 then lnOff else lnPrbs) ∧
      s.dev.keeps (fun i j => only (0x2200 + l) 1 i j || only (0x2200 + l) 0xA i j) { d with lanes := s.dev.lanes } := by
  refine completes_actIf (f := Dev.write (effPrbs l 0xA) (0x2200 + l) 0xA w) rfl (by simpa using hl) ?_
  have heff := effPrbs_stores (r := s.dev.roleOf w.path) (j := 0xA) ((Dev.laneHolder_atOwner w l).trans hn)
    ((congrArg _ (Dev.rd_atOwner_lane hl (by decide) w)).trans hf)
  obtain ⟨x, hx⟩ := Dev.prbsFresh_pattern (l := l) (d := (s.dev.atOwner w).wr (0x2200 + l) 0xA w.value) w.value
  rw [hx] at heff
  rw [Dev.write_accepts hh heff]
  unfold Dev.prbsState Dev.setLaneState
  refine ⟨congrArg Answer.abort (Dev.respond_answer ..), (Dev.rd_respond_zero ..).trans ?_, (Dev.rd_respond_zero ..).trans ?_, ?_⟩
  · rw [Dev.rd_lane_ne _ (by decide), Dev.rd_setLane, Dev.rd_wr_self]
  · rw [Dev.rd_wr_self, Dev.rd_setLane, Dev.rd_setLane, Dev.rd_wr_self, Dev.rd_lane_ne _ (by decide),
      Dev.rd_atOwner_lane hl (by decide)]
    simp
  · refine (Dev.Shifts.respond (m := { reg := _, lanes := true }) ((Dev.shifts_atOwner w).trans ?_) _ _ _).keeps fun _ _ h => h
    exact ((Dev.Moves.wr _ _ (by simp [only]) (by decide)).trans ((Dev.Moves.setLane _ _ _ rfl).trans
      (.wr _ _ (by simp [only]) (by decide)))).toShifts

theorem completes_prbsCheck {w : Wr} {s : State} (hl : l < 512) (hh : s.dev.hears (0x2200 + l) 0xB w = true)
    (hf : prbsFits w.value (s.dev.rd (0x2200 + l) 2) = true) (hn : s.dev.laneHolder l = none) :
    Completes (.prbsCheck l w) s fun d => d.answer.abort = 0 ∧ d.rd (0x2200 + l) 0xB = w.value ∧ bit 0 (d.rd (0x2200 + l) 0xC) = false ∧
      d.laneState l = (if w.value = 0 ∧ s.dev.rd (0x2200 + l) 0xA = 0 then lnOff else lnPrbs) ∧
      s.dev.keeps (fun i j => i = 0x2200 + l && (j = 1 || j = 0xB || j = 0xC)) { d with lanes := s.dev.lanes } := by
  refine completes_actIf (f := Dev.write (effPrbs l 0xB) (0x2200 + l) 0xB w) rfl (by simpa using hl) ?_
  have heff := effPrbs_stores (r := s.dev.roleOf w.path) (j := 0xB) ((Dev.laneHolder_atOwner w l).trans hn)
    ((congrArg _ (Dev.rd_atOwner_lane hl (by decide) w)).trans hf)
  obtain ⟨x, hx⟩ := Dev.prbsFresh_check (l := l) (d := (s.dev.atOwner w).wr (0x2200 + l) 0xB w.value) w.value
  rw [hx] at heff
  rw [Dev.write_accepts hh heff]
  unfold Dev.prbsState Dev.setLaneState
  refine ⟨congrArg Answer.abort (Dev.respond_answer ..), (Dev.rd_respond_zero ..).trans ?_, ?_, (Dev.rd_respond_zero ..).trans ?_, ?_⟩
  · rw [Dev.rd_lane_ne _ (by decide), Dev.rd_lane_ne _ (by decide), Dev.rd_setLane,
      Dev.rd_wr_self]
  · rw [Dev.rd_respond_zero, Dev.rd_lane_ne _ (by decide), Dev.rd_wr_self]
    simp only [bit, decide_eq_false_iff_not]
    omega
  · rw [Dev.rd_wr_self, Dev.rd_lane_ne _ (by decide), Dev.rd_lane_ne _ (by decide),
      Dev.rd_setLane, Dev.rd_setLane, Dev.rd_wr_self, Dev.rd_lane_ne _ (by decide),
      Dev.rd_atOwner_lane hl (by decide)]
    simp [and_comm]
  · refine (Dev.Shifts.respond (m := { reg := _, lanes := true }) ((Dev.shifts_atOwner w).trans ?_) _ _ _).keeps fun _ _ h => h
    exact ((Dev.Moves.wr _ _ (by simp) (by decide)).trans ((Dev.Moves.setLane _ _ _ rfl).trans
      ((Dev.Moves.wr _ _ (by simp) (by decide)).trans (.wr _ _ (by simp) (by decide))))).toShifts

/-! ## The PRBS checker (R110) -/

/-- A checker in an ON domain takes the bits one by one. -/
theorem Dev.prbsRun_eq {bits : List Bool} (hon : d.isOn (laneDom l) = true) (hp : d.rd (0x2200 + l) 0xB ≠ 0) :
    d.prbsRun l bits = bits.foldl (fun x b => x.prbsBit l b) d := by
  unfold Dev.prbsRun
  simp only [hon, hp, decide_false, Bool.not_true, Bool.or_self, Bool.false_eq_true, if_false]

/-- The 64th bit in a row that follows the pattern in its normal form locks a checker that is seeded (R110). -/
theorem Dev.prbsBit_locks {b : Bool} (hst : bit 0 (d.rd (0x2200 + l) 0xC) = false)
    (hseen : prbsDegree (d.rd (0x2200 + l) 0xB) ≤ (d.lane l).chk.seen) (hrun : (d.lane l).chk.run = 63)
    (hb : b = prbsNext (d.rd (0x2200 + l) 0xB) (d.lane l).chk.reg) :
    ∃ x, d.prbsBit l b = (d.setLane l x).wr (0x2200 + l) 0xC (putBit 1 (setBit 0 (d.rd (0x2200 + l) 0xC)) false) := by
  have hseed : ((d.lane l).chk.seed (d.rd (0x2200 + l) 0xB) (isPam4 (d.laneRate l)) b).run = 64 := by
    unfold Checker.seed
    simp only [hseen, decide_true, Bool.true_and, ← hb, if_true, hrun]
  unfold Dev.prbsBit
  simp only [hst, hseed, Bool.false_eq_true, if_false, le_refl, decide_true, Bool.true_or, if_true, lt_irrefl, decide_false]
  exact ⟨_, rfl⟩

/-- A locked checker counts the bit, and an error where it differs from the pattern; it goes on, or loses its lock. -/
theorem Dev.prbsBit_locked (b : Bool) (hst : bit 0 (d.rd (0x2200 + l) 0xC) = true) :
    let r := (d.lane l).chk.compare (d.rd (0x2200 + l) 0xB) (isPam4 (d.laneRate l)) b
    let e := (d.count 64 (0x2200 + l) 0xD (b2n r.1)).count 64 (0x2200 + l) 0xE 1
    (r.2.errs ≤ 512 ∧ d.prbsBit l b = e.setLane l { d.lane l with chk := r.2 }) ∨
      (512 < r.2.errs ∧ ∃ x v, d.prbsBit l b = (e.setLane l x).wr (0x2200 + l) 0xC v) := by
  intro r e
  unfold Dev.prbsBit
  simp only [hst, if_true]
  split
  · next h => exact .inr ⟨h, _, _, rfl⟩
  · next h => exact .inl ⟨not_lt.1 h, rfl⟩

/-- What a locked checker counts stands in PRBS_ERRORS and PRBS_BITS. -/
theorem Dev.rd_counted (k : Nat) :
    ((d.count 64 (0x2200 + l) 0xD k).count 64 (0x2200 + l) 0xE 1).rd (0x2200 + l) 0xD = satAdd 64 (d.rd (0x2200 + l) 0xD) k ∧
    ((d.count 64 (0x2200 + l) 0xD k).count 64 (0x2200 + l) 0xE 1).rd (0x2200 + l) 0xE = satAdd 64 (d.rd (0x2200 + l) 0xE) 1 := by
  simp only [Dev.count_eq]
  refine ⟨?_, ?_⟩
  · rw [Dev.rd_lane_ne _ (by decide), Dev.rd_wr_self]
  · rw [Dev.rd_wr_self, Dev.rd_lane_ne _ (by decide)]

theorem Dev.moves_counted {m : Scope} (hD : m.reg (0x2200 + l) 0xD = true) (hE : m.reg (0x2200 + l) 0xE = true) (k : Nat) :
    Dev.Moves m d ((d.count 64 (0x2200 + l) 0xD k).count 64 (0x2200 + l) 0xE 1) :=
  (Dev.Moves.wr d _ hD (by decide)).trans (.wr _ _ hE (by decide))

theorem Checker.errs_compare (p : Nat) (pam4 b : Bool) (c : Checker) : (c.compare p pam4 b).2.errs ≤ c.errs + 1 := by
  have hb : ∀ x : Bool, b2n x ≤ 1 := by decide
  unfold Checker.compare
  simp only
  have := hb ((if (c.inv && !(pam4 && c.second)) = true then !b else b) != prbsNext p c.reg)
  omega

theorem satAdd_satAdd_one (w a k : Nat) : satAdd w (satAdd w a 1) k = satAdd w a (k + 1) := by
  have h2 : 0 < 2 ^ w := Nat.two_pow_pos w
  unfold satAdd
  split_ifs <;> omega

/-- A locked checker stays so over bits that cannot bring the errors in its window above 512, and counts them all. -/
theorem Dev.prbsBits_stay (bits : List Bool) (d : Dev) (hst : bit 0 (d.rd (0x2200 + l) 0xC) = true)
    (hb : (d.lane l).chk.errs + bits.length ≤ 512) :
    (bits ≠ [] → (bits.foldl (fun x b => x.prbsBit l b) d).rd (0x2200 + l) 0xE = satAdd 64 (d.rd (0x2200 + l) 0xE) bits.length) ∧
    Dev.Moves { reg := fun i j => only (0x2200 + l) 0xD i j || only (0x2200 + l) 0xE i j, lanes := true } d
      (bits.foldl (fun x b => x.prbsBit l b) d) := by
  induction bits generalizing d with
  | nil => exact ⟨fun h => absurd rfl h, .refl _ d⟩
  | cons b bits ih =>
    have herr := Checker.errs_compare (d.rd (0x2200 + l) 0xB) (isPam4 (d.laneRate l)) b (d.lane l).chk
    obtain ⟨-, hbit⟩ | ⟨hlost, -⟩ := Dev.prbsBit_locked b hst
    swap
    · simp only [List.length_cons] at hb
      omega
    rw [List.foldl_cons, hbit]
    set e := (d.count 64 (0x2200 + l) 0xD _).count 64 (0x2200 + l) 0xE 1
    set x := ({ d.lane l with chk := _ } : Lane)
    have hx : x.chk.errs ≤ (d.lane l).chk.errs + 1 := herr
    have hE : (e.setLane l x).rd (0x2200 + l) 0xE = satAdd 64 (d.rd (0x2200 + l) 0xE) 1 := (Dev.rd_counted _).2
    have hmove : Dev.Moves { reg := fun i j => only (0x2200 + l) 0xD i j || only (0x2200 + l) 0xE i j, lanes := true } d (e.setLane l x) :=
      (Dev.moves_counted (by simp [only]) (by simp [only]) _).trans (.setLane _ _ _ rfl)
    have hC : (e.setLane l x).rd (0x2200 + l) 0xC = d.rd (0x2200 + l) 0xC := by
      rw [Dev.rd_setLane]
      simp only [e, Dev.count_eq]
      rw [Dev.rd_lane_ne _ (by decide), Dev.rd_lane_ne _ (by decide)]
    obtain ⟨hcount, hrest⟩ := ih (e.setLane l x) (by rw [hC]; exact hst) (by
      rw [Dev.lane_setLane, if_pos rfl]
      simp only [List.length_cons] at hb
      omega)
    refine ⟨fun _ => ?_, hmove.trans hrest⟩
    cases bits with
    | nil => exact hE
    | cons b' bits => rw [hcount (by simp), hE, satAdd_satAdd_one]; rfl

/-- Settles O16: a write comes to its owner, which stores, clears or inserts; a checker's bit locks it or is counted. -/
theorem prbsObjectsTestALane : Obligations.PrbsObjectsTestALane := by
  unfold Obligations.PrbsObjectsTestALane
  refine ⟨fun l w s hl hh hf hn => completes_prbsPattern hl hh hf hn, fun l w s hl hh hf hn => completes_prbsCheck hl hh hf hn,
    fun l b s hl hon hp hst hseen hrun hb => ?locks, fun l b s hl hon hp hst hinv => ?counts,
    fun l bits s hl hon hp hst herr hne => ?stays, fun l w s hl hh => ?clear, fun l w s hl hh hv hp => ?insert⟩
  case locks =>
    refine completes_actIf (f := Dev.prbsRun l [b]) rfl (by simpa using hl) ?_
    rw [Dev.prbsRun_eq hon hp, List.foldl_cons, List.foldl_nil]
    obtain ⟨x, hx⟩ := Dev.prbsBit_locks hst hseen hrun hb
    rw [hx, Dev.rd_wr_self]
    refine ⟨(bit_clrBit_ne (by decide)).trans (bit_setBit_self 0 _), bit_clrBit_self 1 _, ?_⟩
    exact ((Dev.Moves.setLane (m := { reg := _, lanes := true }) _ _ _ rfl).trans (.wr _ _ (by simp) (by decide))).toShifts.keeps
      fun _ _ h => h
  case counts =>
    refine completes_actIf (f := Dev.prbsRun l [b]) rfl (by simpa using hl) ?_
    rw [Dev.prbsRun_eq hon hp, List.foldl_cons, List.foldl_nil]
    have hbad : ((s.dev.lane l).chk.compare (s.dev.rd (0x2200 + l) 0xB) (isPam4 (s.dev.laneRate l)) b).1 =
        (b != prbsNext (s.dev.rd (0x2200 + l) 0xB) (s.dev.lane l).chk.reg) := by
      simp only [Checker.compare, hinv, Bool.false_and, Bool.false_eq_true, if_false]
    obtain ⟨hD, hE⟩ := Dev.rd_counted (l := l) (d := s.dev)
      (b2n ((s.dev.lane l).chk.compare (s.dev.rd (0x2200 + l) 0xB) (isPam4 (s.dev.laneRate l)) b).1)
    have hmove := (Dev.moves_counted (m := { reg := fun i j => i = 0x2200 + l && within 0xC 3 j, lanes := true }) (l := l) (d := s.dev)
      (by simp [within]) (by simp [within])
      (b2n ((s.dev.lane l).chk.compare (s.dev.rd (0x2200 + l) 0xB) (isPam4 (s.dev.laneRate l)) b).1))
    rw [← hbad]
    rcases Dev.prbsBit_locked b hst with ⟨-, h⟩ | ⟨-, x, v, h⟩
    · rw [h]
      exact ⟨hD, hE, (hmove.trans (.setLane _ _ _ rfl)).toShifts.keeps fun _ _ h => h⟩
    · rw [h, Dev.rd_lane_ne _ (by decide), Dev.rd_lane_ne _ (by decide)]
      exact ⟨hD, hE, (hmove.trans ((Dev.Moves.setLane _ _ _ rfl).trans (.wr _ _ (by simp [within]) (by decide)))).toShifts.keeps
        fun _ _ h => h⟩
  case stays =>
    refine completes_actIf (f := Dev.prbsRun l bits) rfl (by simpa using hl) ?_
    rw [Dev.prbsRun_eq hon hp]
    obtain ⟨hE, hmove⟩ := Dev.prbsBits_stay bits s.dev hst herr
    have hC := hmove.rd (i := 0x2200 + l) (j := 0xC) (by decide) (by simp [Scope.opens, only, eventReg_lane hl])
    exact ⟨by rw [hC]; exact hst, hE hne, hmove.toShifts.keeps fun _ _ h => h⟩
  case clear =>
    refine completes_actIf (f := Dev.write (effPrbsClear l) (0x2200 + l) 0xF w) rfl (by simpa using hl) ?_
    rw [Dev.write_accepts hh rfl]
    refine ⟨congrArg Answer.abort (Dev.respond_answer ..), (Dev.rd_respond_zero ..).trans ?_, (Dev.rd_respond_zero ..).trans ?_, ?_, ?_⟩
    · rw [Dev.rd_lane_ne _ (by decide), Dev.rd_lane_ne _ (by decide), Dev.rd_wr_self]
    · rw [Dev.rd_lane_ne _ (by decide), Dev.rd_wr_self]
    · rw [Dev.rd_respond_zero, Dev.rd_wr_self]
      exact bit_clrBit_self 2 _
    · refine (Dev.Shifts.respond (m := { reg := _ }) ((Dev.shifts_atOwner w).trans ?_) _ _ _).keeps fun _ _ h => h
      exact ((Dev.Moves.wr _ _ (by simp [within]) (by decide)).trans ((Dev.Moves.wr _ _ (by simp [within]) (by decide)).trans
        (.wr _ _ (by simp [within]) (by decide)))).toShifts
  case insert =>
    refine completes_actIf (f := Dev.write (effPrbsInsert l) (0x2200 + l) 0x10 w) rfl (by simpa using hl) ?_
    have heff : effPrbsInsert l (s.dev.roleOf w.path) w.value (s.dev.atOwner w) =
        (0, (s.dev.atOwner w).setLane l { s.dev.lane l with insert := (s.dev.lane l).insert + w.value }) := by
      unfold effPrbsInsert
      simp only [hv, Dev.rd_atOwner_lane hl (show 0xA < 256 by decide), hp, Dev.lane_atOwner, decide_false, Bool.or_self, Bool.false_eq_true, if_false]
    rw [Dev.write_accepts hh heff]
    refine ⟨congrArg Answer.abort (Dev.respond_answer ..), ?_, ?_⟩
    · rw [Dev.lane_respond, Dev.lane_setLane, if_pos rfl]
    · exact (Dev.Shifts.respond (m := { reg := _, lanes := true }) ((Dev.shifts_atOwner w).trans (Dev.Moves.setLane _ _ _ rfl).toShifts) _ _ _).keeps
        fun _ _ h => h

end Prbs

end Sys2Proof.Machine

namespace Sys2Proof.Machine

/-! ## The lanes of a side (R13, R95) -/

section SideLanes

variable {d : Dev} {x k l : Nat}

/-- The lanes of a side are numbered from the side's own number on. -/
theorem Dev.sideLanes_eq_map (d : Dev) (x : Nat) : d.sideLanes x = (List.range (d.sideLanes x).length).map (x + ·) := by
  unfold Dev.sideLanes
  split <;> simp

theorem nth_map_range (f : Nat → Nat) : ∀ w k, k < w → nth 0 ((List.range w).map f) k = f k := by
  have hnth : ∀ (l : List Nat) (k : Nat), nth 0 l k = l.getD k 0 := fun l => by
    induction l with
    | nil => intro k; rfl
    | cons x l ih => intro k; cases k with
      | zero => rfl
      | succ k => exact ih k
  intro w k hk
  simp [hnth, hk]

theorem Dev.nth_sideLanes (hk : k < (d.sideLanes x).length) : nth 0 (d.sideLanes x) k = x + k := by
  rw [d.sideLanes_eq_map x]
  exact nth_map_range (x + ·) _ k hk

theorem Dev.add_mem_sideLanes (hk : k < (d.sideLanes x).length) : x + k ∈ d.sideLanes x := by
  rw [d.sideLanes_eq_map x]
  exact List.mem_map.2 ⟨k, List.mem_range.2 hk, rfl⟩

/-- The lanes of a side that fits below the last pair of its half are line lanes, or system lanes. -/
theorem Dev.lt_of_mem_sideLanes (hx : x < 512) (hfit : x % 256 + d.sysWidth (x % 256) ≤ 256) (hl : l ∈ d.sideLanes x) :
    l < 512 ∧ (x < 256 → l < 256) := by
  have hw : d.width (x % 256) ≤ d.sysWidth (x % 256) := by unfold Dev.sysWidth; split <;> omega
  unfold Dev.sideLanes at hl
  split at hl
  · next hline =>
    obtain ⟨k, hk, rfl⟩ := List.mem_map.1 hl
    have hk := List.mem_range.1 hk
    rw [Nat.mod_eq_of_lt hline] at hw hfit
    omega
  · next hsys =>
    obtain ⟨k, hk, rfl⟩ := List.mem_map.1 hl
    have hk := List.mem_range.1 hk
    rw [show x % 256 = x - 256 by omega] at hfit
    omega

end SideLanes

/-! ## The same register written on one lane after another -/

/-- Register `j` of the objects numbered from `b` on, each made anew from what it held. -/
theorem Dev.rd_foldl_update {b j : Nat} (g : Nat → Nat → Nat) (d : Dev) (k w : Nat) :
    ((List.range w).foldl (fun z i => z.wr (b + i) j (g i (z.rd (b + i) j))) d).rd (b + k) j =
      (if k < w then g k (d.rd (b + k) j) else d.rd (b + k) j) := by
  induction w with
  | zero => rfl
  | succ w ih =>
    rw [List.range_succ, List.foldl_append, List.foldl_cons, List.foldl_nil]
    by_cases hk : k = w
    · subst hk
      rw [Dev.rd_wr_self, ih, if_neg (lt_irrefl k), if_pos (by omega)]
    · rw [Dev.rd_wr_ne _ _ (by omega), ih]
      simp only [show k < w ↔ k < w + 1 by omega]

/-! ## Aligning a side (R102, R104, R184) -/

/-- What aligning side `s` may change among its own registers: its lane order, reversal and skew, OOF of its carrier, and its state. -/
def alignReg (s i j : Nat) : Bool :=
  (i = 0x2000 + s && (j = 0x12 || j = 0x13 || j = 0x17)) || (s < 256 && i = 0x2500 + s && j = 0x11) || sideReg s i j

theorem alignReg_of_sideReg {s i j : Nat} (h : sideReg s i j = true) : alignReg s i j = true := by simp [alignReg, h]

/-- They are among the registers of the pair. -/
theorem pairReg_of_alignReg {s i j : Nat} (hs : s < 512) (h : alignReg s i j = true) : pairReg (s % 256) i j = true := by
  rcases Bool.or_eq_true_iff.1 h with h | h
  · simp only [Bool.or_eq_true, Bool.and_eq_true, decide_eq_true_eq] at h
    simp only [pairReg, Bool.or_eq_true, decide_eq_true_eq]
    omega
  · exact pairReg_of_sideReg hs h

/-- Each lane's lag behind the earliest of the first `w`. -/
def lag (w : Nat) (skew : List Nat) (i : Nat) : Nat := nth 0 skew i - (List.range w).foldl (fun a i => min a (nth 0 skew i)) (nth 0 skew 0)

section Aligning

variable {m : Scope} {s : Nat} {pos skew : List Nat}

theorem Dev.moves_syncOof (hm : ∀ i j, alignReg s i j = true → m.reg i j = true) (d : Dev) : Dev.Moves m d (d.syncOof s) := by
  unfold Dev.syncOof
  split
  · next h =>
    have hs : s < 256 := by simp only [Dev.carrierLine, Bool.and_eq_true, decide_eq_true_eq] at h; exact h.1
    exact .wr _ _ (hm _ _ (by simp [alignReg, hs])) (by decide)
  · exact .refl m d

variable (hm : ∀ i j, alignReg s i j = true → m.reg i j = true) (hsides : m.sides = true)
include hm hsides

theorem Dev.moves_unalign (d : Dev) : Dev.Moves m d (d.unalign s) :=
  (Dev.Moves.setSide d s _ hsides).trans ((Dev.Moves.wr _ _ (hm _ _ (by simp [alignReg])) (by decide)).trans
    ((Dev.Moves.wr _ _ (hm _ _ (by simp [alignReg])) (by decide)).trans (Dev.moves_syncOof hm _)))

theorem Dev.moves_alignSide (d : Dev) (hlanes : ∀ l ∈ d.sideLanes s, m.reg (0x2200 + l) 8 = true) : Dev.Moves m d (d.alignSide s pos skew) := by
  have hside : ∀ e, Dev.Moves m e (e.evalSide s) := Dev.moves_evalSide (fun i j h => hm i j (alignReg_of_sideReg h)) hsides
  have hw : ∀ (e : Dev) (j v : Nat), j = 0x12 ∨ j = 0x13 ∨ j = 0x17 → Dev.Moves m e (e.wr (0x2000 + s) j v) := fun e j v hj =>
    .wr e v (hm _ _ (by simp [alignReg]; tauto)) (by omega)
  have hskew : Dev.Moves m d ((List.range (d.sideLanes s).length).foldl (fun x i => x.wr (0x2200 + nth 0 (d.sideLanes s) i) 8
      (lag (d.sideLanes s).length skew i % 2 ^ 32)) d) := .foldl _ (fun i hi e => .wr e _ (by
    have hi := List.mem_range.1 hi
    rw [Dev.nth_sideLanes hi]
    exact hlanes _ (Dev.add_mem_sideLanes hi)) (by decide)) d
  refine hskew.trans ?_
  unfold Dev.alignSide
  refine .ite ((Dev.moves_unalign hm hsides _).trans (hside _)) ?_
  exact (hw _ _ _ (.inl rfl)).trans ((hw _ _ _ (.inr (.inl rfl))).trans ((hw _ _ _ (.inr (.inr rfl))).trans
    ((Dev.Moves.setSide _ s _ hsides).trans ((Dev.moves_syncOof hm _).trans (hside _)))))

end Aligning

/-! ## A side aligned -/

theorem foldl_min_le (f : Nat → Nat) (l : List Nat) (a : Nat) :
    l.foldl (fun a i => min a (f i)) a ≤ a ∧ ∀ k ∈ l, l.foldl (fun a i => min a (f i)) a ≤ f k := by
  induction l generalizing a with
  | nil => simp
  | cons x l ih =>
    obtain ⟨hstart, hrest⟩ := ih (min a (f x))
    refine ⟨hstart.trans (min_le_left _ _), fun k hk => ?_⟩
    rcases List.mem_cons.1 hk with rfl | hk
    · exact hstart.trans (min_le_right _ _)
    · exact hrest k hk

/-- A lane's lag and when the earliest lane arrives make when it arrives. -/
theorem lag_add {w k : Nat} (skew : List Nat) (hk : k < w) :
    lag w skew k + (List.range w).foldl (fun a i => min a (nth 0 skew i)) (nth 0 skew 0) = nth 0 skew k :=
  Nat.sub_add_cancel ((foldl_min_le (nth 0 skew) (List.range w) _).2 k (List.mem_range.2 hk))

theorem nth_le_foldl_max (skew : List Nat) (w k : Nat) (hk : k < w) : nth 0 skew k ≤ (skew.take w).foldl max 0 := by
  have hstart : ∀ (l : List Nat) (a : Nat), a ≤ l.foldl max a := fun l => by
    induction l with
    | nil => exact fun a => le_refl a
    | cons x l ih => exact fun a => (le_max_left a x).trans (ih _)
  have hnth : ∀ (l : List Nat) (a w k : Nat), k < w → nth 0 l k ≤ (l.take w).foldl max a := fun l => by
    induction l with
    | nil => exact fun _ _ _ _ => Nat.zero_le _
    | cons x l ih =>
      rintro a (_ | w) (_ | k) hk
      · omega
      · omega
      · exact (le_max_right a x).trans (hstart _ _)
      · exact ih _ w k (by omega)
  exact hnth skew 0 w k hk

/-- No lag is above the latest arrival. -/
theorem foldl_max_lag_le {w : Nat} {skew : List Nat} {c : Nat} (h : (skew.take w).foldl max 0 ≤ c) :
    (List.range w).foldl (fun a i => max a (lag w skew i)) 0 ≤ c ∧ ∀ i, i < w → lag w skew i ≤ c := by
  have hlag : ∀ i, i < w → lag w skew i ≤ c := fun i hi => (Nat.sub_le _ _).trans ((nth_le_foldl_max skew w i hi).trans h)
  refine ⟨?_, hlag⟩
  refine List.foldlRecOn (motive := (· ≤ c)) (List.range w) _ (Nat.zero_le _) fun a ha i hi => max_le ha (hlag i (List.mem_range.1 hi))

/-- Side `s` with the skew of each lane written. -/
def Dev.skewed (s : Nat) (skew : List Nat) (d : Dev) : Dev :=
  (List.range (d.sideLanes s).length).foldl (fun x i => x.wr (0x2200 + nth 0 (d.sideLanes s) i) 8 (lag (d.sideLanes s).length skew i % 2 ^ 32)) d

/-- Nothing keeps side `s` of an Ethernet pair DOWN. -/
def Dev.trains (s : Nat) (d : Dev) : Bool :=
  d.mode (s % 256) != pmOff && !d.sideIdle s && !d.carrierLine s && !d.power.forming.contains (s % 256) && !d.power.exiting.contains s

section Target

variable {s : Nat} {d : Dev}

theorem Dev.sideTarget_fault (htrains : d.trains s = true) (hf : (d.side s).fault ≠ 0) : d.sideTarget s = stDefect := by
  simp only [Dev.trains, Bool.and_eq_true, bne_iff_ne, Bool.not_eq_true'] at htrains
  obtain ⟨⟨⟨⟨hmode, hidle⟩, -⟩, hforming⟩, hexiting⟩ := htrains
  simp only [Dev.sideTarget, hmode, hidle, hforming, hexiting, decide_false, Bool.or_self, Bool.false_eq_true, if_false, bne_iff_ne.2 hf, Bool.true_or,
    if_true]

theorem Dev.sideTarget_aligned (htrains : d.trains s = true) (hl : d.lanesLocked s = true) (ha : (d.side s).aligned = true) :
    d.sideTarget s = (if (d.side s).fault = 0 then stUp else stDefect) := by
  by_cases hf : (d.side s).fault = 0
  · simp only [Dev.trains, Bool.and_eq_true, bne_iff_ne, Bool.not_eq_true'] at htrains
    obtain ⟨⟨⟨⟨hmode, hidle⟩, hline⟩, hforming⟩, hexiting⟩ := htrains
    simp only [Dev.sideTarget, hmode, hidle, hline, hforming, hexiting, hf, hl, ha, decide_false, bne_self_eq_false, Bool.false_and, Bool.or_self,
      Bool.and_self, Bool.false_eq_true, if_false, if_true]
  · rw [Dev.sideTarget_fault htrains hf, if_neg hf]

end Target

/-- A register that does not say whether a side is up to bring-up: not of the pairing, a side's power object, LANE_STATE. -/
def offBringUp (i j : Nat) : Bool := offPairing i j && !(within 0x2000 512 i && j = 6) && !(within 0x2200 512 i && j = 1)

namespace Dev.Touches

variable {p : Nat → Nat → Bool} {a b : Dev} {s : Nat} (h : Touches p a b) (hp : ∀ i j, p i j = true → offBringUp i j = true)
include h hp

theorem mode_eq {n : Nat} (hn : n < 256) : b.mode n = a.mode n := h.rd (by decide) <| by
  by_contra hq
  have := hp _ _ (by simpa using hq)
  simp [offBringUp, offPairing, within] at this
  omega

theorem carrierLine_eq : b.carrierLine s = a.carrierLine s := by
  unfold Dev.carrierLine
  by_cases hs : s < 256
  · rw [h.mode_eq hp hs]
  · simp [hs]

theorem sideIdle_eq (hs : s < 512) : b.sideIdle s = a.sideIdle s := by
  unfold Dev.sideIdle
  rw [h.rd (by decide)]
  by_contra hq
  have := hp _ _ (by simpa using hq)
  simp [offBringUp, within] at this
  omega

theorem trains_eq (hs : s < 512) : b.trains s = a.trains s := by
  unfold Dev.trains
  rw [h.mode_eq hp (by omega), h.carrierLine_eq hp, h.sideIdle_eq hp hs, h.same]

theorem lanesLocked_eq (hs : s < 512) (hl : ∀ l ∈ a.sideLanes s, l < 512) : b.lanesLocked s = a.lanesLocked s := by
  unfold Dev.lanesLocked
  rw [h.sideLanes_eq (fun i j hij => ?_) hs, Bool.eq_iff_iff, List.all_eq_true, List.all_eq_true]
  · refine forall₂_congr fun l hm => ?_
    have hlt := hl l hm
    unfold Dev.laneState
    rw [h.rd (by decide)]
    by_contra hq
    have := hp _ _ (by simpa using hq)
    simp [offBringUp, within] at this
    omega
  · have := hp i j hij
    simp only [offBringUp, Bool.and_eq_true] at this
    exact this.1.1

end Dev.Touches

section Aligned

variable {s : Nat} {pos skew : List Nat} {d : Dev}

/-- The order of lanes written, the skew of each and the side's before its state follows. -/
def Dev.ordered (s : Nat) (skew : List Nat) (map rev top : Nat) (d : Dev) : Dev :=
  (((d.skewed s skew).wr (0x2000 + s) 0x12 map).wr (0x2000 + s) 0x13 rev).wr (0x2000 + s) 0x17 top

/-- SKEW of a lane, RX_LANE_MAP, RX_REVERSED and SKEW_MAX of side `s`. -/
def orderReg (s i j : Nat) : Bool := (within 0x2200 512 i && j = 8) || (i = 0x2000 + s && (j = 0x12 || j = 0x13 || j = 0x17))

theorem offBringUp_of_orderReg {i j : Nat} (hs : s < 512) (h : orderReg s i j = true) : offBringUp i j = true := by
  simp only [orderReg, within, Bool.or_eq_true, Bool.and_eq_true, decide_eq_true_eq] at h
  simp only [offBringUp, offPairing, within, Bool.and_eq_true, Bool.not_eq_true', Bool.and_eq_false_iff, Bool.or_eq_false_iff,
    decide_eq_false_iff_not]
  omega

theorem Dev.touches_ordered (hs : s < 512) (hl : ∀ l ∈ d.sideLanes s, l < 512) (map rev top : Nat) :
    Dev.Touches (orderReg s) d (d.ordered s skew map rev top) := by
  have hw : ∀ (e : Dev) (j v : Nat), j = 0x12 ∨ j = 0x13 ∨ j = 0x17 → Dev.Touches (orderReg s) e (e.wr (0x2000 + s) j v) := fun e j v hj =>
    .write e _ _ v (by simp [orderReg]; tauto) (by omega) (by omega)
  have hskew : Dev.Touches (orderReg s) d (d.skewed s skew) := .foldl _ _ (fun i hi e => .write e _ _ _ (by
    have := hl _ (Dev.add_mem_sideLanes (List.mem_range.1 hi))
    simp only [Dev.nth_sideLanes (List.mem_range.1 hi), orderReg, within, decide_true, Bool.and_true, Bool.or_eq_true, Bool.and_eq_true,
      decide_eq_true_eq]
    omega) (by decide) (by omega)) d
  exact ((hskew.trans (hw _ _ _ (.inl rfl))).trans (hw _ _ _ (.inr (.inl rfl)))).trans (hw _ _ _ (.inr (.inr rfl)))

/-- The lag of each lane of side `s` stands in its SKEW. -/
theorem Dev.rd_ordered_skew (map rev top : Nat) {k : Nat} (hk : k < (d.sideLanes s).length) :
    (d.ordered s skew map rev top).rd (0x2200 + (s + k)) 8 = lag (d.sideLanes s).length skew k % 2 ^ 32 := by
  have hskewed : d.skewed s skew = (List.range (d.sideLanes s).length).foldl
      (fun z i => z.wr (0x2200 + s + i) 8 (lag (d.sideLanes s).length skew i % 2 ^ 32)) d := by
    refine List.foldl_ext _ _ _ fun e i hi => ?_
    rw [Dev.nth_sideLanes (List.mem_range.1 hi), Nat.add_assoc]
  unfold Dev.ordered
  rw [Dev.rd_wr_ne _ _ (by omega), Dev.rd_wr_ne _ _ (by omega), Dev.rd_wr_ne _ _ (by omega), hskewed, ← Nat.add_assoc]
  exact (Dev.rd_foldl_update (fun i _ => lag (d.sideLanes s).length skew i % 2 ^ 32) d k _).trans (if_pos hk)

/-- Positions that are an order, within 180 ns of skew, align a side that is not a carrier's line side. -/
theorem Dev.alignSide_aligned (hs : s < 512) (hl : ∀ l ∈ d.sideLanes s, l < 512) (hline : d.carrierLine s = false)
    (ho : isOrder (d.sideLanes s).length pos = true) (hskew : (skew.take (d.sideLanes s).length).foldl max 0 ≤ 180000) :
    ∃ map rev top, map = (List.range 16).foldl (fun a i => a + (if i < (d.sideLanes s).length then nth 0 pos i else 15) * 16 ^ i) 0 ∧
      d.alignSide s pos skew = ((d.ordered s skew map rev top).setSide s { d.side s with aligned := true }).evalSide s := by
  have hsync : ∀ (x : Side) (map rev top : Nat), ((d.ordered s skew map rev top).setSide s x).syncOof s =
      (d.ordered s skew map rev top).setSide s x := fun x map rev top => by
    have : ((d.ordered s skew map rev top).setSide s x).carrierLine s = false :=
      ((Dev.touches_ordered hs hl map rev top).carrierLine_eq fun i j => offBringUp_of_orderReg hs).trans hline
    unfold Dev.syncOof
    rw [this, if_neg (by decide)]
  have hside : ∀ map rev top, (d.ordered s skew map rev top).side s = d.side s := fun map rev top => by
    unfold Dev.side
    rw [(Dev.touches_ordered hs hl map rev top).same]
  obtain ⟨htop, -⟩ := foldl_max_lag_le hskew
  have hcond : ¬ (decide (180000 < (List.range (d.sideLanes s).length).foldl (fun a i => max a (lag (d.sideLanes s).length skew i)) 0) ||
      !isOrder (d.sideLanes s).length pos) = true := by simp [ho, htop]
  obtain ⟨map, rev, top, hmap, heq⟩ : ∃ map rev top,
      map = (List.range 16).foldl (fun a i => a + (if i < (d.sideLanes s).length then nth 0 pos i else 15) * 16 ^ i) 0 ∧
      d.alignSide s pos skew = (((d.ordered s skew map rev top).setSide s
        { (d.ordered s skew map rev top).side s with aligned := true }).syncOof s).evalSide s :=
    ⟨_, _, _, rfl, if_neg hcond⟩
  exact ⟨map, rev, top, hmap, by rw [heq, hsync, hside]⟩

variable (hs : s < 512) (hl : ∀ l ∈ d.sideLanes s, l < 512) (hline : d.carrierLine s = false)
  (ho : isOrder (d.sideLanes s).length pos = true) (hskew : (skew.take (d.sideLanes s).length).foldl max 0 ≤ 180000)
include hs hl hline ho hskew

theorem Dev.aligned_alignSide : ((d.alignSide s pos skew).side s).aligned = true := by
  obtain ⟨map, rev, top, hmap, heq⟩ := Dev.alignSide_aligned hs hl hline ho hskew
  rw [heq, (Dev.side_evalSide _).1, Dev.side_setSide, if_pos rfl]

/-- It is UP, or DEFECT while it receives a fault. -/
theorem Dev.sideState_alignSide (htrains : d.trains s = true) (hlocked : d.lanesLocked s = true) :
    (d.alignSide s pos skew).sideState s = if (d.side s).fault = 0 then stUp else stDefect := by
  obtain ⟨map, rev, top, hmap, heq⟩ := Dev.alignSide_aligned hs hl hline ho hskew
  have hoff : ∀ i j, orderReg s i j = true → offBringUp i j = true := fun i j => offBringUp_of_orderReg hs
  rw [heq, Dev.sideState_evalSide hs, Dev.sideTarget_aligned, Dev.side_setSide, if_pos rfl]
  · exact ((Dev.touches_ordered hs hl map rev top).trains_eq hoff hs).trans htrains
  · exact ((Dev.touches_ordered hs hl map rev top).lanesLocked_eq hoff hs hl).trans hlocked
  · rw [Dev.side_setSide, if_pos rfl]

/-- RX_LANE_MAP holds the positions. -/
theorem Dev.rd_alignSide_map : (d.alignSide s pos skew).rd (0x2000 + s) 0x12 =
    (List.range 16).foldl (fun a i => a + (if i < (d.sideLanes s).length then nth 0 pos i else 15) * 16 ^ i) 0 := by
  obtain ⟨map, rev, top, hmap, heq⟩ := Dev.alignSide_aligned hs hl hline ho hskew
  rw [← hmap, heq, Dev.rd_evalSide (by decide) ?_ (eventReg_port hs _)]
  · exact (Dev.rd_wr_ne _ _ (by omega)).trans ((Dev.rd_wr_ne _ _ (by omega)).trans (Dev.rd_wr_self _ _ _ _))
  · simp only [sideReg, causeReg, Bool.or_eq_false_iff, Bool.and_eq_false_iff, decide_eq_false_iff_not]
    omega

/-- SKEW of each lane holds how far it lags the earliest. -/
theorem Dev.rd_alignSide_skew {k : Nat} (hk : k < (d.sideLanes s).length) :
    (d.alignSide s pos skew).rd (0x2200 + nth 0 (d.sideLanes s) k) 8 = lag (d.sideLanes s).length skew k := by
  obtain ⟨map, rev, top, hmap, heq⟩ := Dev.alignSide_aligned hs hl hline ho hskew
  have hlag : lag (d.sideLanes s).length skew k ≤ 180000 := (foldl_max_lag_le hskew).2 k hk
  rw [Dev.nth_sideLanes hk, heq, Dev.rd_evalSide_lane hs (hl _ (Dev.add_mem_sideLanes hk)) (by decide)]
  exact (Dev.rd_ordered_skew _ _ _ hk).trans (Nat.mod_eq_of_lt (by omega))

end Aligned

/-! ## A lane started over, a side idle or leaving it (R112, R113) -/

section Restart

variable {m : Scope} {l st : Nat} {d : Dev}

theorem Dev.moves_restartLane (hm : ∀ j, j = 1 ∨ (l < 256 ∧ j = 0x11) → m.reg (0x2200 + l) j = true) (hlanes : m.lanes = true) (d : Dev) :
    Dev.Moves m d (d.restartLane l st) := by
  unfold Dev.restartLane
  have hstate := (Dev.Moves.setLane d l { Lane.init with adapt := (d.lane l).adapt, polDone := (d.lane l).polDone } hlanes).trans
    (.wr _ st (hm 1 (.inl rfl)) (by decide))
  simp only
  split
  · next hl => exact hstate.trans (.wr _ 0 (hm _ (.inr ⟨hl, rfl⟩)) (by decide))
  · exact hstate

theorem Dev.laneState_restartLane (k : Nat) : (d.restartLane l st).laneState k = if k = l then st else d.laneState k := by
  have hstate : ∀ x, ((d.setLane l x).setLaneState l st).laneState k = if k = l then st else d.laneState k := fun x => by
    unfold Dev.setLaneState Dev.laneState
    split
    · next hk => rw [hk, Dev.rd_wr_self]
    · rw [Dev.rd_wr_ne _ _ (by omega)]
      rfl
  unfold Dev.restartLane
  simp only
  split
  · exact (Dev.rd_wr_ne _ _ (by omega)).trans (hstate _)
  · exact hstate _

/-- Every lane of a list brought to one state, one after another. -/
theorem Dev.laneState_foldl {f : Dev → Nat → Dev} (hf : ∀ l d k, (f d l).laneState k = if k = l then st else d.laneState k) (ls : List Nat) (d : Dev)
    {k : Nat} (hk : k ∈ ls) : (ls.foldl f d).laneState k = st := by
  have hfold : ∀ (ls : List Nat) (d : Dev), (ls.foldl f d).laneState k = if k ∈ ls then st else d.laneState k := fun ls => by
    induction ls with
    | nil => exact fun d => rfl
    | cons l ls ih =>
      intro d
      rw [List.foldl_cons, ih, hf]
      by_cases hk : k = l <;> by_cases hm : k ∈ ls <;> simp [hk, hm]
  rw [hfold, if_pos hk]

end Restart

/-- What a side that goes to or from electrical idle may change: its own registers and, of its lanes, LANE_STATE and FRAME_STATE. -/
def idleReg (s i j : Nat) : Bool := alignReg s i j || (within 0x2200 512 i && (j = 1 || j = 0x11))

theorem alignReg_lane {s l : Nat} (hs : s < 512) (hl : l < 512) (j : Nat) : alignReg s (0x2200 + l) j = false := by
  simp only [alignReg, sideReg_lane hs hl, Bool.or_eq_false_iff, Bool.and_eq_false_iff, decide_eq_false_iff_not, and_true]
  omega

/-- The power object of a side is not among them. -/
theorem idleReg_power {s : Nat} (hs : s < 512) : idleReg s (0x2000 + s) 6 = false := by
  simp only [idleReg, alignReg, sideReg, causeReg, within, Bool.or_eq_false_iff, Bool.and_eq_false_iff, decide_eq_false_iff_not]
  omega

section Idle

variable {m : Scope} {s : Nat} {d : Dev}

/-- The lanes of side `s` started over in state `st`, with what is put out for each. -/
theorem Dev.moves_restartLanes {st : Nat} {f : Dev → Nat → Dev} (hf : ∀ d l, Dev.Moves m (d.restartLane l st) (f d l))
    (hm : ∀ i j, idleReg s i j = true → m.reg i j = true) (hlanes : m.lanes = true) {ls : List Nat} (hls : ∀ l ∈ ls, l < 512) (d : Dev) :
    Dev.Moves m d (ls.foldl f d) := by
  refine .foldl _ (fun l hl d => (Dev.moves_restartLane (fun j hj => hm _ _ (Bool.or_eq_true_iff.2 (.inr ?_))) hlanes d).trans (hf d l)) d
  have := hls l hl
  simp only [within, Bool.or_eq_true, Bool.and_eq_true, decide_eq_true_eq]
  omega

/-- Going to electrical idle, once the lanes are IDLE. -/
theorem Dev.moves_idleSide_rest (hm : ∀ i j, alignReg s i j = true → m.reg i j = true) (hsides : m.sides = true) (hcarriers : m.carriers = true) :
    Dev.Moves m ((d.sideLanes s).foldl (fun x l => x.restartLane l lnIdle)
      { d with power := { d.power with exiting := d.power.exiting.filter (· != s) } }) (d.idleSide s) := by
  have hparity : ∀ e : Dev, Dev.Moves m e (when (d.carrierLine s) (fun x => (x.wr (0x2500 + s) 0x11 (andNot (x.rd (0x2500 + s) 0x11) 3)).setCarrier s
      { x.carrier s with parity := [] }) e) := fun e => by
    cases hline : d.carrierLine s
    · exact .refl m e
    · have hs : s < 256 := by simp only [Dev.carrierLine, Bool.and_eq_true, decide_eq_true_eq] at hline; exact hline.1
      exact (Dev.Moves.wr e _ (hm _ _ (by simp [alignReg, hs])) (by decide)).trans (.setCarrier _ hcarriers rfl)
  unfold Dev.idleSide
  exact (hparity _).trans ((Dev.Moves.setSide _ s _ hsides).trans ((Dev.moves_unalign hm hsides _).trans
    (Dev.moves_evalSide (fun i j h => hm i j (alignReg_of_sideReg h)) hsides _)))

theorem Dev.moves_idleSide (hm : ∀ i j, idleReg s i j = true → m.reg i j = true) (hlanes : m.lanes = true) (hsides : m.sides = true)
    (hcarriers : m.carriers = true) (hpower : m.power = true) (hl : ∀ l ∈ d.sideLanes s, l < 512) : Dev.Moves m d (d.idleSide s) :=
  (Dev.Moves.withPower d _ hpower).trans ((Dev.moves_restartLanes (fun d _ => .refl m _) hm hlanes hl _).trans
    (Dev.moves_idleSide_rest (fun i j h => hm i j (by simp [idleReg, h])) hsides hcarriers))

/-- The lanes of a side that went to electrical idle are IDLE. -/
theorem Dev.laneState_idleSide (hs : s < 512) (hl : ∀ l ∈ d.sideLanes s, l < 512) {l : Nat} (hmem : l ∈ d.sideLanes s) :
    (d.idleSide s).laneState l = lnIdle := by
  refine ((Dev.moves_idleSide_rest (m := { reg := alignReg s, sides := true, carriers := true }) (fun _ _ h => h) rfl rfl).rd (by decide) ?_).trans ?_
  · simp [Scope.opens, alignReg_lane hs (hl l hmem), eventReg_lane (hl l hmem)]
  · exact Dev.laneState_foldl (fun _ _ k => Dev.laneState_restartLane k) _ _ hmem

theorem Dev.moves_burstSide (hm : ∀ i j, idleReg s i j = true → m.reg i j = true) (hlanes : m.lanes = true) (hsides : m.sides = true)
    (hpower : m.power = true) (hl : ∀ l ∈ d.sideLanes s, l < 512) : Dev.Moves m d (d.burstSide s) :=
  (Dev.Moves.withPower d _ hpower).trans ((Dev.moves_restartLanes (fun _ _ => .emit _ rfl) hm hlanes hl _).trans
    (Dev.moves_evalSide (fun i j h => hm i j (by simp [idleReg, alignReg_of_sideReg h])) hsides _))

/-- The lanes of a side that left electrical idle wait for a signal, and their transmitters send their bursts. -/
theorem Dev.laneState_burstSide (hs : s < 512) (hl : ∀ l ∈ d.sideLanes s, l < 512) {l : Nat} (hmem : l ∈ d.sideLanes s) :
    (d.burstSide s).laneState l = lnSignalWait := by
  refine (Dev.rd_evalSide_lane hs (hl l hmem) (by decide) _).trans ?_
  refine Dev.laneState_foldl (fun _ _ k => ?_) _ _ hmem
  exact Dev.laneState_restartLane k

theorem Dev.burst_mem_burstSide {l : Nat} (hmem : l ∈ d.sideLanes s) : .burst l (isPam4 (d.sideRate s)) ∈ (d.burstSide s).emits := by
  have hfold : ∀ (ls : List Nat) (e : Dev), l ∈ ls → .burst l (isPam4 (d.sideRate s)) ∈
      (ls.foldl (fun x l => (x.restartLane l lnSignalWait).emit (.burst l (isPam4 (d.sideRate s)))) e).emits := fun ls => by
    induction ls with
    | nil => simp
    | cons k ls ih =>
      intro e hm
      rcases List.mem_cons.1 hm with rfl | hm
      · refine Dev.Puts.mem (.foldl (fun k e => ?_) ls _) List.mem_cons_self
        exact (Dev.moves_restartLane (m := { reg := fun _ _ => true, lanes := true }) (fun _ _ => rfl) rfl e).puts.trans (.emit _ rfl)
      · exact ih _ hm
  exact Dev.Puts.mem (Dev.moves_evalSide (m := { reg := fun _ _ => true, sides := true }) (fun _ _ _ => rfl) rfl _).puts (hfold _ _ hmem)

end Idle

/-! ## Domains woken for a side (R23, R113, R404) -/

section Wake

variable {m : Scope} {k : Nat} {d : Dev}

/-- A write of POWER_REQ, or of POWER_STATE where the domain is not ON and is not made so, leaves the domains that are ON. -/
theorem Dev.isOn_wr {j v : Nat} (c : Nat) (hj : j < 256) (h : j = 2 → v ≠ psOn ∧ d.isOn k = false) :
    (d.wr (0x1100 + k) j v).isOn c = d.isOn c := by
  unfold Dev.isOn Dev.pstate
  by_cases hkey : c = k ∧ j = 2
  · obtain ⟨rfl, rfl⟩ := hkey
    obtain ⟨hv, hoff⟩ := h rfl
    rw [Dev.rd_wr_self, decide_eq_false hv]
    exact hoff.symm
  · rw [Dev.rd_wr_ne _ _ (by omega)]

theorem Dev.isOn_warmUp (k c : Nat) (d : Dev) : (d.warmUp k).isOn c = d.isOn c := by
  unfold Dev.warmUp
  split
  · next hretain =>
    have hoff : d.isOn k = false := by simp only [Dev.isOn, hretain]; decide
    have hreq : ∀ c, (d.wr (0x1100 + k) 1 2).isOn c = d.isOn c := fun c => Dev.isOn_wr c (by decide) (by simp)
    exact (Dev.isOn_wr c (by decide) fun _ => ⟨by decide, (hreq k).trans hoff⟩).trans (hreq c)
  · rfl

/-- Waking a domain makes none ON. -/
theorem Dev.isOn_wake (k c : Nat) (d : Dev) : (d.wake k).isOn c = d.isOn c := by
  have hreq : ∀ (d : Dev) k, (d.wr (0x1100 + k) 1 2).isOn c = d.isOn c := fun d k => Dev.isOn_wr c (by decide) (by simp)
  have hask : (d.askOn (parentOf k)).isOn c = d.isOn c := by
    unfold Dev.askOn
    split
    · exact hreq d _
    · exact Dev.isOn_warmUp _ c d
  unfold Dev.wake
  simp only
  split
  · split
    · exact (hreq _ k).trans hask
    · exact Dev.isOn_warmUp k c d
  · rfl

/-- A domain that is not in RETAIN does not wake. -/
theorem Dev.wake_of_isOn (h : d.isOn k = true) : d.wake k = d := by
  have hst : d.pstate k = psOn := of_decide_eq_true h
  unfold Dev.wake
  rw [if_neg (by rw [hst]; decide)]

variable (hpower : m.power = true)
include hpower

theorem Dev.moves_warmUp (hm : ∀ j, j = 1 ∨ j = 2 → m.reg (0x1100 + k) j = true) : Dev.Moves m d (d.warmUp k) := by
  unfold Dev.warmUp
  exact .ite ((Dev.Moves.wr d _ (hm 1 (.inl rfl)) (by decide)).trans ((Dev.Moves.wr _ _ (hm 2 (.inr rfl)) (by decide)).trans
    (.withPower _ _ hpower))) (.refl m d)

theorem Dev.moves_wake (hm : ∀ j, j = 1 ∨ j = 2 → m.reg (0x1100 + k) j = true)
    (hparent : parentOf k ≠ 0xFF → ∀ j, j = 1 ∨ j = 2 → m.reg (0x1100 + parentOf k) j = true) : Dev.Moves m d (d.wake k) := by
  unfold Dev.wake
  simp only
  split
  · split
    · next h =>
      have hp := hparent (by simp only [Bool.and_eq_true, bne_iff_ne] at h; exact h.1)
      have hask : Dev.Moves m d (d.askOn (parentOf k)) := .ite (.wr d _ (hp 1 (.inl rfl)) (by decide)) (Dev.moves_warmUp hpower hp)
      exact hask.trans (.wr _ _ (hm 1 (.inl rfl)) (by decide))
    · exact Dev.moves_warmUp hpower hm
  · exact .refl m d

end Wake

/-! ## A side's power object (R112, R113) -/

section PortPower

variable {s : Nat} {d : Dev}

/-- POWER_REQ and POWER_STATE of the domains of lane groups and of their parents. -/
def domainReg (i j : Nat) : Bool := within 0x1100 142 i && (j = 1 || j = 2)

/-- The domains of the lanes of a side are those of lane groups. -/
theorem Dev.lt_of_mem_sideDomains (hl : ∀ l ∈ d.sideLanes s, l < 512) {k : Nat} (hk : k ∈ d.sideDomains s) : k < 136 := by
  obtain ⟨l, hmem, rfl⟩ := List.mem_map.1 (List.mem_eraseDups.1 hk)
  have := hl l hmem
  unfold lineDom sysDom groupOf
  split <;> omega

/-- So are their parents, where they have any. -/
theorem parentOf_le {k : Nat} (hk : parentOf k ≠ 0xFF) : parentOf k < 136 := by
  unfold parentOf at hk ⊢
  split at hk
  · next h =>
    simp only [Bool.and_eq_true, decide_eq_true_eq] at h
    rw [if_pos (by simpa using h)]
    omega
  · exact absurd rfl hk

theorem domainReg_of_lt {k : Nat} (hk : k < 136) {j : Nat} (hj : j = 1 ∨ j = 2) : domainReg (0x1100 + k) j = true := by
  simp only [domainReg, within, Bool.and_eq_true, Bool.or_eq_true, decide_eq_true_eq]
  omega

theorem domainReg_above {i j : Nat} (h : 0x2000 ≤ i) : domainReg i j = false := by
  simp only [domainReg, within, Bool.and_eq_false_iff, decide_eq_false_iff_not]
  omega

theorem Dev.moves_wakes {m : Scope} (hpower : m.power = true) (hm : ∀ i j, domainReg i j = true → m.reg i j = true) {ls : List Nat}
    (hls : ∀ k ∈ ls, k < 136) (d : Dev) : Dev.Moves m d (ls.foldl (fun x k => x.wake k) d) :=
  .foldl ls (fun k hk _ => Dev.moves_wake hpower (fun _ hj => hm _ _ (domainReg_of_lt (hls k hk) hj))
    (fun hp _ hj => hm _ _ (domainReg_of_lt (parentOf_le hp) hj))) d

theorem Dev.isOn_wakes (ls : List Nat) (c : Nat) (d : Dev) : (ls.foldl (fun x k => x.wake k) d).isOn c = d.isOn c :=
  List.foldlRecOn (motive := fun e => e.isOn c = d.isOn c) ls _ rfl fun e he k _ => (Dev.isOn_wake k c e).trans he

theorem Dev.wakes_of_isOn (ls : List Nat) (d : Dev) (h : ∀ k ∈ ls, d.isOn k = true) : ls.foldl (fun x k => x.wake k) d = d :=
  List.foldlRecOn (motive := (· = d)) ls _ rfl fun e he k hk => by rw [he, Dev.wake_of_isOn (h k hk)]

/-- A side whose lane domains are ON leaves electrical idle at once. -/
theorem Dev.exitIdle_on (h : (d.sideDomains s).all d.isOn = true) : d.exitIdle s = d.burstSide s := by
  unfold Dev.exitIdle
  rw [Dev.wakes_of_isOn _ d fun k hk => List.all_eq_true.1 h k hk]
  simp only [h, if_true]

/-- What a write of the power object of side `s` leaves to its owner: the object as written, and what counting the access changed. -/
def Dev.powered (s : Nat) (w : Wr) (v : Nat) (d : Dev) : Dev := (d.atOwner w).wr (0x2000 + s) 6 v

/-- Its registers: the power object, and those of events. -/
def poweredReg (s i j : Nat) : Bool := only (0x2000 + s) 6 i j || eventReg i j

variable (w : Wr) (v : Nat)

theorem Dev.touches_powered : Dev.Touches (poweredReg s) d (d.powered s w v) :=
  ((d.touches_atOwner w).mono fun i j h => by simp [poweredReg, h]).trans (.write _ _ _ v (by simp [poweredReg, only]) (by decide) (by omega))

theorem Dev.rd_powered {i j : Nat} (hj : j < 256) (he : eventReg i j = false) (hne : i ≠ 0x2000 + s ∨ j ≠ 6) :
    (d.powered s w v).rd i j = d.rd i j := by
  refine (Dev.touches_powered w v).rd hj ?_
  simp only [poweredReg, only, he, Bool.or_false, Bool.and_eq_false_iff, decide_eq_false_iff_not]
  exact hne

theorem Dev.isOn_powered {k : Nat} (hk : k < 136) : (d.powered s w v).isOn k = d.isOn k := by
  unfold Dev.isOn Dev.pstate
  rw [Dev.rd_powered w v (by decide) ?_ (.inr (by decide))]
  simp only [eventReg, within, Bool.or_eq_false_iff, Bool.and_eq_false_iff, decide_eq_false_iff_not]
  omega

variable (hs : s < 512)
include hs

theorem Dev.sideLanes_powered : (d.powered s w v).sideLanes s = d.sideLanes s := by
  refine (Dev.touches_powered w v).sideLanes_eq (fun i j h => ?_) hs
  rcases Bool.or_eq_true_iff.1 h with h | h
  · simp only [only, Bool.and_eq_true, decide_eq_true_eq] at h
    simp only [offPairing, within, Bool.and_eq_true, Bool.not_eq_true', Bool.and_eq_false_iff, Bool.or_eq_false_iff, decide_eq_false_iff_not]
    omega
  · exact offPairing_eventReg i j h

theorem Dev.sideDomains_powered : (d.powered s w v).sideDomains s = d.sideDomains s := by
  unfold Dev.sideDomains
  rw [Dev.sideLanes_powered w v hs]

/-- The lane domains are as much ON as they were. -/
theorem Dev.all_isOn_powered (hl : ∀ l ∈ d.sideLanes s, l < 512) :
    ((d.powered s w v).sideDomains s).all (d.powered s w v).isOn = (d.sideDomains s).all d.isOn := by
  rw [Dev.sideDomains_powered w v hs, Bool.eq_iff_iff, List.all_eq_true, List.all_eq_true]
  exact forall₂_congr fun k hk => by rw [Dev.isOn_powered w v (Dev.lt_of_mem_sideDomains hl hk)]

theorem Dev.sideRate_powered : (d.powered s w v).sideRate s = d.sideRate s := by
  have hport : ∀ n j, n < 512 → j < 256 → j ≠ 6 → (d.powered s w v).rd (0x2000 + n) j = d.rd (0x2000 + n) j := fun n j hn hj hne =>
    Dev.rd_powered w v hj (eventReg_port hn j) (.inr hne)
  have hclient : s - 256 < 256 → (d.powered s w v).rd (0x2500 + (s - 256)) 2 = d.rd (0x2500 + (s - 256)) 2 := fun h =>
    Dev.rd_powered w v (by decide) (by simp only [eventReg, within, Bool.or_eq_false_iff, Bool.and_eq_false_iff, decide_eq_false_iff_not]; omega)
      (.inr (by decide))
  have hbox : (d.powered s w v).gearbox (s - 256) = d.gearbox (s - 256) := by
    unfold Dev.gearbox
    rw [show 0x2100 + (s - 256) = 0x2000 + (256 + (s - 256)) by omega, hport _ _ (by omega) (by decide) (by decide)]
  unfold Dev.sideRate Dev.sysRate Dev.width Dev.mode
  rw [hport _ 5 hs (by decide) (by decide), hport _ 2 hs (by decide) (by decide), hport (s - 256) 5 (by omega) (by decide) (by decide),
    hport (s - 256) 2 (by omega) (by decide) (by decide), hport (s - 256) 1 (by omega) (by decide) (by decide), hclient (by omega), hbox]

/-- A write of a new value to the power object of a formed side: IDLE, or its exit. -/
theorem Dev.write_portPower (hv : w.value = v) (hh : d.hears (0x2000 + s) 6 w = true) (hmode : d.mode (s % 256) ≠ pmOff)
    (hnew : v ≠ d.rd (0x2000 + s) 6) : d.write (effPortPower s) (0x2000 + s) 6 w =
      (if v = 1 then (d.powered s w v).idleSide s else (d.powered s w v).exitIdle s).respond w.path (0x2000 + s) 6 0 0 0 0 := by
  have hpow : (d.atOwner w).rd (0x2000 + s) 6 = d.rd (0x2000 + s) 6 := Dev.rd_atOwner _ _ w (by decide) (eventReg_port hs 6) d
  have hmd : (d.atOwner w).mode (s % 256) = d.mode (s % 256) := Dev.rd_atOwner _ _ w (by decide) (eventReg_port (by omega) 1) d
  refine Dev.write_accepts hh ?_
  unfold effPortPower
  simp only [hpow, hmd, hmode, hv, hnew, decide_false, Bool.or_self, Bool.false_eq_true, if_false]
  rfl

end PortPower

section ExitWaits

/-- The lanes of a side follow from the registers of ports and pairs. -/
theorem Dev.sideLanes_of_rd {s : Nat} {a b : Dev} (hs : s < 512) (h : ∀ n j, n < 512 → j < 256 → b.rd (0x2000 + n) j = a.rd (0x2000 + n) j) :
    b.sideLanes s = a.sideLanes s := by
  unfold Dev.sideLanes Dev.sysWidth Dev.gearbox Dev.width
  rw [h s 2 hs (by decide), h (s - 256) 2 (by omega) (by decide), show 0x2100 + (s - 256) = 0x2000 + (256 + (s - 256)) by omega,
    h _ 0x10 (by omega) (by decide)]

variable {s : Nat} {d : Dev}

/-- A side with a lane domain that is not ON waits for it. -/
theorem Dev.exitIdle_waits (hs : s < 512) (hl : ∀ l ∈ d.sideLanes s, l < 512) (h : (d.sideDomains s).all d.isOn = false) :
    ∃ x : Power, d.exitIdle s = { (d.sideDomains s).foldl (fun x k => x.wake k) d with power := x } ∧ x.exiting.contains s = true := by
  have hwakes : Dev.Moves { reg := domainReg, power := true } d ((d.sideDomains s).foldl (fun x k => x.wake k) d) :=
    Dev.moves_wakes rfl (fun _ _ h => h) (fun k hk => Dev.lt_of_mem_sideDomains hl hk) d
  have hdomains : ((d.sideDomains s).foldl (fun x k => x.wake k) d).sideDomains s = d.sideDomains s := by
    have hrd : ∀ n j, n < 512 → j < 256 → ((d.sideDomains s).foldl (fun x k => x.wake k) d).rd (0x2000 + n) j = d.rd (0x2000 + n) j :=
      fun n j hn hj => hwakes.rd hj (by
        simp only [Scope.opens, domainReg, within, eventReg_port hn, Bool.or_false, Bool.and_eq_false_iff, decide_eq_false_iff_not]
        omega)
    exact congrArg (fun ls : List Nat => (ls.map fun l => if l < 256 then lineDom (groupOf l) else sysDom (groupOf (l - 256))).eraseDups)
      (Dev.sideLanes_of_rd hs hrd)
  unfold Dev.exitIdle
  simp only [hdomains, funext fun c => Dev.isOn_wakes (d.sideDomains s) c d, h, Bool.false_eq_true, if_false]
  exact ⟨_, rfl, by simp⟩

end ExitWaits

/-- What a side that goes to or from electrical idle changes is of its pair, or of a lane. -/
theorem pairReg_of_idleReg {s i j : Nat} (hs : s < 512) (h : idleReg s i j = true) : (pairReg (s % 256) i j || within 0x2200 512 i) = true := by
  rcases Bool.or_eq_true_iff.1 h with h | h
  · rw [pairReg_of_alignReg hs h, Bool.true_or]
  · rw [(Bool.and_eq_true_iff.1 h).1, Bool.or_true]

/-- So is its power object. -/
theorem pairReg_port {s : Nat} (hs : s < 512) (j : Nat) : pairReg (s % 256) (0x2000 + s) j = true := by
  simp only [pairReg, Bool.or_eq_true, decide_eq_true_eq]
  omega

theorem Dev.shifts_powered {m : Scope} {s : Nat} {w : Wr} {v : Nat} {d : Dev} (h : m.reg (0x2000 + s) 6 = true) :
    Dev.Shifts m d (d.powered s w v) := (Dev.shifts_atOwner w).trans (Dev.Moves.wr _ v h (by decide)).toShifts

theorem Dev.trains_of {x : Nat} {d : Dev} (hmode : d.mode (x % 256) ≠ pmOff) (hidle : d.sideIdle x = false) (hline : d.carrierLine x = false)
    (hforming : d.power.forming.contains (x % 256) = false) (hexiting : d.power.exiting.contains x = false) : d.trains x = true := by
  simp only [Dev.trains, hidle, hline, hforming, hexiting, Bool.not_false, Bool.and_true, bne_iff_ne]
  exact hmode

/-- A correctable codeword of an aligned Ethernet side counts on each of its lanes, then on the side. -/
theorem Dev.codeword_counts {l x : Nat} {syms : List Nat} {d : Dev} (hside : d.sideOfLane l = some x) (hstate : d.laneState l = lnLocked)
    (hline : d.carrierLine x = false) (hal : (d.side x).aligned = true) : d.codeword l syms true =
    ((List.range (d.sideLanes x).length).foldl (fun z i => z.count 64 (0x2200 + nth 0 (d.sideLanes x) i) 9 (nth 0 syms i)) d).count 64 (0x2000 + x) 0x15
      (b2n ((List.range (d.sideLanes x).length).any (fun i => nth 0 syms i != 0))) := by
  simp only [Dev.codeword, hside, hstate, hline, hal, bne_self_eq_false, Bool.not_true, Bool.not_false, Bool.false_eq_true, if_false, if_true]

/-- SYMBOLS_CORRECTED of each lane of a side, counted up. -/
theorem Dev.rd_counts {x k : Nat} (syms : List Nat) {d : Dev} (hk : k < (d.sideLanes x).length) :
    ((List.range (d.sideLanes x).length).foldl (fun z i => z.count 64 (0x2200 + nth 0 (d.sideLanes x) i) 9 (nth 0 syms i)) d).rd
      (0x2200 + (x + k)) 9 = satAdd 64 (d.rd (0x2200 + (x + k)) 9) (nth 0 syms k) := by
  have hfold : (List.range (d.sideLanes x).length).foldl (fun z i => z.count 64 (0x2200 + nth 0 (d.sideLanes x) i) 9 (nth 0 syms i)) d =
      (List.range (d.sideLanes x).length).foldl
        (fun z i => z.wr (0x2200 + x + i) 9 (satAdd 64 (z.rd (0x2200 + x + i) 9) (nth 0 syms i))) d := by
    refine List.foldl_ext _ _ _ fun e i hi => ?_
    rw [Dev.nth_sideLanes (List.mem_range.1 hi), Nat.add_assoc]
    exact Dev.count_eq ..
  rw [hfold, ← Nat.add_assoc]
  exact (Dev.rd_foldl_update (fun i v => satAdd 64 v (nth 0 syms i)) d k _).trans (if_pos hk)

theorem Dev.moves_counts {m : Scope} {x : Nat} (syms : List Nat) {d : Dev} (hm : ∀ l ∈ d.sideLanes x, m.reg (0x2200 + l) 9 = true) :
    Dev.Moves m d ((List.range (d.sideLanes x).length).foldl (fun z i => z.count 64 (0x2200 + nth 0 (d.sideLanes x) i) 9 (nth 0 syms i)) d) :=
  .foldl _ (fun i hi e => .wr e _ (by
    rw [Dev.nth_sideLanes (List.mem_range.1 hi)]
    exact hm _ (Dev.add_mem_sideLanes (List.mem_range.1 hi))) (by decide)) d

section PowerWrite

variable {x : Nat} {w : Wr} {d : Dev} (hx : x < 512) (hfit : x % 256 + d.sysWidth (x % 256) ≤ 256)
include hx hfit

theorem Dev.lt_of_mem_powered {v l : Nat} (h : l ∈ (d.powered x w v).sideLanes x) : l < 512 :=
  (Dev.lt_of_mem_sideLanes hx hfit (Dev.sideLanes_powered w v hx ▸ h)).1

variable (hh : d.hears (0x2000 + x) 6 w = true) (hmode : d.mode (x % 256) ≠ pmOff)
include hh hmode

/-- A write of 1 to a power object that reads 0 leaves the lanes of the side IDLE (R112). -/
theorem Dev.write_power_idle (hv : w.value = 1) (hp : d.rd (0x2000 + x) 6 = 0) :
    (d.write (effPortPower x) (0x2000 + x) 6 w).answer.abort = 0 ∧ (d.write (effPortPower x) (0x2000 + x) 6 w).rd (0x2000 + x) 6 = 1 ∧
    (∀ l ∈ d.sideLanes x, (d.write (effPortPower x) (0x2000 + x) 6 w).laneState l = lnIdle) ∧
    d.keeps (fun i j => pairReg (x % 256) i j || within 0x2200 512 i)
      { d.write (effPortPower x) (0x2000 + x) 6 w with lanes := d.lanes, sides := d.sides, carriers := d.carriers } := by
  have hl : ∀ l ∈ (d.powered x w 1).sideLanes x, l < 512 := fun l => Dev.lt_of_mem_powered hx hfit
  rw [Dev.write_portPower w 1 hx hv hh hmode (by rw [hp]; decide), if_pos rfl]
  refine ⟨congrArg Answer.abort (Dev.respond_answer ..), (Dev.rd_respond_zero ..).trans ?_, fun l hmem => (Dev.rd_respond_zero ..).trans ?_, ?_⟩
  · exact ((Dev.moves_idleSide (m := { reg := idleReg x, lanes := true, sides := true, carriers := true, power := true }) (fun _ _ h => h)
      rfl rfl rfl rfl hl).rd (by decide) (by simp [Scope.opens, idleReg_power hx, eventReg_port hx])).trans (Dev.rd_wr_self _ _ _ _)
  · exact Dev.laneState_idleSide hx hl ((Dev.sideLanes_powered w 1 hx).symm ▸ hmem)
  · exact (Dev.Shifts.respond (m := { reg := _, lanes := true, sides := true, carriers := true, power := true })
      ((Dev.shifts_powered (by simp [pairReg_port hx])).trans (Dev.moves_idleSide (fun i j h => pairReg_of_idleReg hx h) rfl rfl rfl rfl hl).toShifts)
      _ _ _).keeps fun _ _ h => h

variable (hv : w.value = 0) (hp : d.rd (0x2000 + x) 6 = 1)
include hv hp

/-- A write of 0, where the lane domains are ON, leaves the lanes waiting for a signal, their transmitters bursting (R113). -/
theorem Dev.write_power_exits (hon : (d.sideDomains x).all d.isOn = true) :
    (d.write (effPortPower x) (0x2000 + x) 6 w).answer.abort = 0 ∧ (d.write (effPortPower x) (0x2000 + x) 6 w).rd (0x2000 + x) 6 = 0 ∧
    (∀ l ∈ d.sideLanes x, (d.write (effPortPower x) (0x2000 + x) 6 w).laneState l = lnSignalWait) ∧
    (∀ l ∈ d.sideLanes x, .burst l (isPam4 (d.sideRate x)) ∈ (d.write (effPortPower x) (0x2000 + x) 6 w).emits) ∧
    d.keeps (fun i j => pairReg (x % 256) i j || within 0x2200 512 i)
      { d.write (effPortPower x) (0x2000 + x) 6 w with lanes := d.lanes, sides := d.sides } := by
  have hl : ∀ l ∈ (d.powered x w 0).sideLanes x, l < 512 := fun l => Dev.lt_of_mem_powered hx hfit
  have hdoms := (Dev.all_isOn_powered w 0 hx fun l h => (Dev.lt_of_mem_sideLanes hx hfit h).1).trans hon
  rw [Dev.write_portPower w 0 hx hv hh hmode (by rw [hp]; decide), if_neg (by decide), Dev.exitIdle_on hdoms]
  refine ⟨congrArg Answer.abort (Dev.respond_answer ..), (Dev.rd_respond_zero ..).trans ?_, fun l hmem => (Dev.rd_respond_zero ..).trans ?_,
    fun l hmem => ?_, ?_⟩
  · exact ((Dev.moves_burstSide (m := { reg := idleReg x, lanes := true, sides := true, power := true }) (fun _ _ h => h) rfl rfl rfl hl).rd
      (by decide) (by simp [Scope.opens, idleReg_power hx, eventReg_port hx])).trans (Dev.rd_wr_self _ _ _ _)
  · exact Dev.laneState_burstSide hx hl ((Dev.sideLanes_powered w 0 hx).symm ▸ hmem)
  · rw [Dev.respond_same, ← Dev.sideRate_powered w 0 hx]
    exact Dev.burst_mem_burstSide ((Dev.sideLanes_powered w 0 hx).symm ▸ hmem)
  · exact (Dev.Shifts.respond (m := { reg := _, lanes := true, sides := true, power := true })
      ((Dev.shifts_powered (by simp [pairReg_port hx])).trans (Dev.moves_burstSide (fun i j h => pairReg_of_idleReg hx h) rfl rfl rfl hl).toShifts)
      _ _ _).keeps fun _ _ h => h

/-- A write of 0, where a lane domain is not ON, leaves the side waiting for it with its lanes as they were (R113, R404). -/
theorem Dev.write_power_waits (hon : (d.sideDomains x).all d.isOn = false) :
    (d.write (effPortPower x) (0x2000 + x) 6 w).answer.abort = 0 ∧ (d.write (effPortPower x) (0x2000 + x) 6 w).rd (0x2000 + x) 6 = 0 ∧
    (d.write (effPortPower x) (0x2000 + x) 6 w).power.exiting.contains x = true ∧
    (∀ l ∈ d.sideLanes x, (d.write (effPortPower x) (0x2000 + x) 6 w).laneState l = d.laneState l) ∧
    d.keeps (fun i j => only (0x2000 + x) 6 i j || (within 0x1100 142 i && (j = 1 || j = 2))) (d.write (effPortPower x) (0x2000 + x) 6 w) := by
  have hl : ∀ l ∈ (d.powered x w 0).sideLanes x, l < 512 := fun l => Dev.lt_of_mem_powered hx hfit
  have hdoms := (Dev.all_isOn_powered w 0 hx fun l h => (Dev.lt_of_mem_sideLanes hx hfit h).1).trans hon
  have hwakes : ∀ {m : Scope}, m.power = true → (∀ i j, domainReg i j = true → m.reg i j = true) →
      Dev.Moves m (d.powered x w 0) (((d.powered x w 0).sideDomains x).foldl (fun x k => x.wake k) (d.powered x w 0)) := fun hpower hm =>
    Dev.moves_wakes hpower hm (fun k hk => Dev.lt_of_mem_sideDomains hl hk) _
  have hkept := hwakes (m := { reg := domainReg, power := true }) rfl fun _ _ h => h
  obtain ⟨p, hwait, hexit⟩ := Dev.exitIdle_waits hx hl hdoms
  rw [Dev.write_portPower w 0 hx hv hh hmode (by rw [hp]; decide), if_neg (by decide), hwait]
  refine ⟨congrArg Answer.abort (Dev.respond_answer ..), (Dev.rd_respond_zero ..).trans ?_, ?_, fun l hmem => (Dev.rd_respond_zero ..).trans ?_, ?_⟩
  · exact (hkept.rd (by decide) (by simp [Scope.opens, domainReg_above, eventReg_port hx])).trans (Dev.rd_wr_self _ _ _ _)
  · rw [Dev.respond_same]
    exact hexit
  · have hlt := (Dev.lt_of_mem_sideLanes hx hfit hmem).1
    exact (hkept.rd (by decide) (by simp [Scope.opens, domainReg_above (show 0x2000 ≤ 0x2200 + l by omega), eventReg_lane hlt])).trans
      (Dev.rd_powered w 0 (by decide) (eventReg_lane hlt 1) (.inr (by decide)))
  · exact (Dev.Shifts.respond (m := { reg := _, power := true })
      ((Dev.shifts_powered (by simp [only])).trans ((hwakes rfl fun i j h => Bool.or_eq_true_iff.2 (.inr h)).trans (.withPower _ p rfl)).toShifts)
      _ _ _).keeps fun _ _ h => h

end PowerWrite

/-- Settles O14: aligning writes the order and the skews and makes the side's state follow; the power object brings its lanes to IDLE, or from it
to waiting for a signal. -/
theorem sidesAlignFaultAndIdle : Obligations.SidesAlignFaultAndIdle := by
  unfold Obligations.SidesAlignFaultAndIdle
  refine ⟨fun x nums skew s hx hmode hidle hline hforming hexiting hlocked hpol hfit ho hskew => ?aligned,
    fun x f s hx hmode hidle hline hforming hexiting hlocked hf1 hf3 => ?fault, fun l x syms s hl hside hstate hline hal => ?codeword,
    fun x w s hx hh hmode hp hfit => ?idle, fun x w s hx hh hmode hp hon hfit => ?exits, fun x w s hx hh hmode hp hon hfit => ?waits⟩
  case aligned =>
    refine completes_actIf (f := Dev.sideAligned x nums skew) rfl (by simpa using hx) ?_
    have hl : ∀ l ∈ s.dev.sideLanes x, l < 512 := fun l h => (Dev.lt_of_mem_sideLanes hx hfit h).1
    have halign : s.dev.sideAligned x nums skew = s.dev.alignSide x (nums.map lanePosition) skew := by
      simp only [Dev.sideAligned, hmode, hidle, hline, hlocked, hpol, decide_false, Bool.not_true, Bool.or_self, Bool.false_eq_true, if_false]
    rw [halign]
    refine ⟨Dev.aligned_alignSide hx hl hline ho hskew,
      Dev.sideState_alignSide hx hl hline ho hskew (Dev.trains_of hmode hidle hline hforming hexiting) hlocked,
      Dev.rd_alignSide_map hx hl hline ho hskew, fun k hk => ?_, ?_⟩
    · rw [Dev.rd_alignSide_skew hx hl hline ho hskew hk, lag_add skew hk]
    · refine (Dev.moves_alignSide (m := { reg := _, sides := true }) (fun i j h => ?_) rfl _ fun l h => ?_).toShifts.keeps fun _ _ h => h
      · exact Bool.or_eq_true_iff.2 (.inl (pairReg_of_alignReg hx h))
      · have := hl l h
        exact Bool.or_eq_true_iff.2 (.inr (by simp only [within, Bool.and_eq_true, decide_eq_true_eq]; omega))
  case fault =>
    refine completes_actIf (f := Dev.linkFault x f) rfl (by simpa using hx) ?_
    have hfault : s.dev.linkFault x f = (s.dev.setSide x { s.dev.side x with fault := f % 4 }).evalSide x := by
      simp only [Dev.linkFault, hmode, hidle, hline, hlocked, decide_false, Bool.not_true, Bool.or_self, Bool.false_eq_true, if_false]
    have hside : ((s.dev.setSide x { s.dev.side x with fault := f % 4 }).side x).fault = f := by
      rw [Dev.side_setSide, if_pos rfl]
      exact Nat.mod_eq_of_lt (by omega)
    have htrains : (s.dev.setSide x { s.dev.side x with fault := f % 4 }).trains x = true :=
      show s.dev.trains x = true from Dev.trains_of hmode hidle hline hforming hexiting
    rw [hfault]
    refine ⟨?_, (Dev.side_evalSide _).2.trans hside, ?_⟩
    · rw [Dev.sideState_evalSide hx, Dev.sideTarget_fault htrains (by omega)]
    · exact ((Dev.Moves.setSide (m := { reg := _, sides := true }) _ x _ rfl).trans
        (Dev.moves_evalSide (fun i j h => pairReg_of_sideReg hx h) rfl _)).toShifts.keeps fun _ _ h => h
  case codeword =>
    refine completes_actIf (f := Dev.codeword l syms true) rfl (by simpa using hl) ?_
    obtain ⟨n, -, hn, rfl⟩ := Dev.of_sideOfLane hside
    have hx := (sideOf_lt (l := l) hn).1
    rw [Dev.codeword_counts hside hstate hline hal, Dev.count_eq, Dev.rd_wr_self]
    refine ⟨congrArg (satAdd 64 · _) ?_, fun k hk => ?_, ?_⟩
    · refine (Dev.moves_counts (m := { reg := fun i _ => decide (0x2200 ≤ i) }) syms fun l _ => by simp).rd (by decide) ?_
      simp only [Scope.opens, eventReg_port hx, Bool.or_false, decide_eq_false_iff_not]
      omega
    · rw [Dev.nth_sideLanes hk, Dev.rd_wr_ne _ _ (by omega), Dev.rd_counts syms hk]
    · exact ((Dev.moves_counts (m := { reg := _ }) syms fun l hmem => Bool.or_eq_true_iff.2 (.inl (List.any_eq_true.2 ⟨l, hmem, by simp [only]⟩))).trans
        (.wr _ _ (Bool.or_eq_true_iff.2 (.inr (by simp [only]))) (by decide))).toShifts.keeps fun _ _ h => h
  case idle =>
    exact completes_actIf (f := Dev.write (effPortPower x) (0x2000 + x) 6 { w with value := 1 }) rfl (by simpa using hx)
      (Dev.write_power_idle hx hfit hh hmode rfl hp)
  case exits =>
    exact completes_actIf (f := Dev.write (effPortPower x) (0x2000 + x) 6 { w with value := 0 }) rfl (by simpa using hx)
      (Dev.write_power_exits hx hfit hh hmode rfl hp hon)
  case waits =>
    exact completes_actIf (f := Dev.write (effPortPower x) (0x2000 + x) 6 { w with value := 0 }) rfl (by simpa using hx)
      (Dev.write_power_waits hx hfit hh hmode rfl hp hon)

end Sys2Proof.Machine

namespace Sys2Proof.Machine

/-! ## What a carrier's operations may change

A scope says so in parts: the carrier's record with CAUSE and FEV; DEFECTS; the jobs of its planisher; the frames counted; the state of its
line side. Each operation asks for the parts that it needs. -/

/-- The record of carrier `n`, with CAUSE and FEV. -/
structure Scope.Carrier (m : Scope) (n : Nat) : Prop where
  opened : m.carriers = true
  reg : ∀ j, j = 0x12 ∨ j = 0x26 → m.reg (0x2500 + n) j = true

/-- DEFECTS of carrier `n`. -/
def Scope.Defects (m : Scope) (n : Nat) : Prop := m.reg (0x2500 + n) 0x11 = true

/-- The jobs of the planisher of pair `n`. -/
structure Scope.Jobs (m : Scope) (n : Nat) : Prop where
  opened : m.keys = true
  reg : ∀ j, j = 1 ∨ j = 2 ∨ j = 6 → m.reg (0x3050 + quadOf n) j = true

/-- The live counters, with CONDITIONS. -/
structure Scope.Counts (m : Scope) : Prop where
  opened : m.counters = true
  reg : m.reg 0x8000 0xA = true

/-- The state of side `n`. -/
structure Scope.Side (m : Scope) (n : Nat) : Prop where
  opened : m.sides = true
  reg : ∀ i j, sideReg n i j = true → m.reg i j = true

section Causes

variable {m : Scope} {n : Nat}

/-- A cause of carrier `n`. -/
theorem Dev.moves_carrierCause (hn : n < 256) (hm : m.Carrier n) (i : Nat) (d : Dev) : Dev.Moves m d (d.cause (.carrier n) i) := by
  have he : causeEvent (.carrier n) i < 400 := by simp only [causeEvent, pairEvent]; omega
  have hw : Dev.Moves m d (d.wr (0x2500 + n) 0x12 (setBit i (d.rd (0x2500 + n) 0x12))) := .wr d _ (hm.reg _ (by simp)) (by decide)
  unfold Dev.cause
  exact .ite (hw.trans (.raise _ he _)) hw

theorem Dev.moves_fev (hm : m.Carrier n) (d : Dev) : Dev.Moves m d (d.fev n) := by
  unfold Dev.fev
  rw [Dev.count_eq]
  exact .wr d _ (hm.reg _ (by simp)) (by decide)

/-- A bit of DEFECTS. -/
theorem Dev.moves_defectBit (hm : m.Defects n) (b : Nat) (v : Bool) (d : Dev) : Dev.Moves m d (d.wrBit (0x2500 + n) 0x11 b v) :=
  .wr d _ hm (by decide)

end Causes

/-! ## Frames counted (R446) -/

section Counting

variable {m : Scope} (hm : m.Counts)
include hm

theorem Dev.moves_cntBy (kind e v k : Nat) (d : Dev) : Dev.Moves m d (d.cntBy kind e v k) := .setCtr d _ _ _ _ hm.opened

theorem Dev.moves_condition (b : Nat) (d : Dev) : Dev.Moves m d (d.condition b) := by
  unfold Dev.condition
  exact .ite (.refl m d) ((Dev.Moves.wr d _ hm.reg (by decide)).trans (.raise 111 (by decide) _))

theorem Dev.moves_law (kind e v : Nat) (d : Dev) : Dev.Moves m d (d.law kind e v) :=
  (Dev.moves_cntBy hm _ _ _ _ d).trans (.when (Dev.moves_condition hm 3) _)

theorem Dev.moves_received {n : Nat} (hn : n < 256) (line : Bool) (octets : Nat) (d : Dev) : Dev.Moves m d (d.received n line octets) := by
  have hperf : ∀ (inst : Nat) (e : Dev), Dev.Moves m e (e.perf (quadOf n) 0x040 inst 1) := fun inst e =>
    .of_touches (Dev.touches_perf m.opens_eventReg _ _ _ _ (by unfold quadOf; omega) e) (e.puts_perf _ _ _ _)
  exact (Dev.moves_law hm _ _ _ d).trans ((Dev.moves_law hm _ _ _ _).trans ((Dev.moves_cntBy hm _ _ _ _ _).trans (hperf _ _)))

theorem Dev.moves_leaveFlight (n : Nat) (line : Bool) (d : Dev) : Dev.Moves m d (d.leaveFlight n line) := .setCtr d _ _ _ _ hm.opened

theorem Dev.moves_forwarded (n : Nat) (line : Bool) (octets : Nat) (d : Dev) : Dev.Moves m d (d.forwarded n line octets) :=
  (Dev.moves_leaveFlight hm n line d).trans ((Dev.moves_law hm _ _ _ _).trans (Dev.moves_cntBy hm _ _ _ _ _))

/-- A client frame dropped with CARRIER_DEFECT sets no cause. -/
theorem Dev.moves_droppedDefect (n : Nat) (line : Bool) (d : Dev) : Dev.Moves m d (d.dropped n line dropCarrierDefect) := by
  have hcauses : ∀ e : Dev, e.dropCauses n line dropCarrierDefect = e := fun e => by cases line <;> rfl
  unfold Dev.dropped
  rw [hcauses]
  exact (Dev.moves_leaveFlight hm n line d).trans ((Dev.moves_law hm _ _ _ _).trans (Dev.moves_cntBy hm _ _ _ _ _))

end Counting

/-! ## Jobs of the planisher (R193, R218) -/

section Jobs

variable {m : Scope} {n : Nat} (hm : m.Jobs n)
include hm

theorem Dev.moves_setPl (x : Planisher) (d : Dev) : Dev.Moves m d (d.setPl (quadOf n) x) :=
  (Dev.Moves.withKeys d _ hm.opened).trans ((Dev.Moves.wr _ _ (hm.reg 1 (by simp)) (by decide)).trans
    ((Dev.Moves.wr _ _ (hm.reg 2 (by simp)) (by decide)).trans (.wr _ _ (hm.reg 6 (by simp)) (by decide))))

theorem Dev.moves_submitDerive {e : Nat} {tx : Bool} {d d' : Dev} (h : d.submitDerive n e tx = some d') : Dev.Moves m d d' := by
  unfold Dev.submitDerive at h
  simp only at h
  split at h
  · cases h
    exact .refl m d
  · split at h
    · cases h
    · split at h
      · cases h
      · cases h
        exact Dev.moves_setPl hm _ d

/-- A derivation submitted where it can be. -/
theorem Dev.moves_submitted (e : Nat) (tx : Bool) (d : Dev) : Dev.Moves m d ((d.submitDerive n e tx).getD d) := by
  cases h : d.submitDerive n e tx with
  | none => exact .refl m d
  | some d' => exact Dev.moves_submitDerive hm h

theorem Dev.moves_autoLoad (d : Dev) : Dev.Moves m d (d.autoLoad n) := by
  unfold Dev.autoLoad
  exact .ite (.foldl _ (fun e _ d => .ite (.refl m d) (Dev.moves_submitted hm e.1 e.2 d)) d) (.refl m d)

theorem Dev.moves_tryAgree (hc : m.Carrier n) (d : Dev) : Dev.Moves m d (d.tryAgree n) := by
  unfold Dev.tryAgree
  refine .ite (.refl m d) ?_
  simp only
  split
  · exact .refl m d
  · refine .trans (.setCarrier d hc.opened ?core) (.foldl _ (fun t _ d => .ite (Dev.moves_submitted hm _ t.2 d) (.refl m d)) _)
    case core => rfl

/-- A mortar cell received (R189 to R191). -/
theorem Dev.moves_mortarRx (hn : n < 256) (hc : m.Carrier n) (hd : m.Defects n) (cell : Bytes) (d : Dev) : Dev.Moves m d (d.mortarRx n cell) := by
  have hodd : ∀ (i : Nat) (e : Dev), Dev.Moves m e ((e.fev n).cause (.carrier n) i) := fun i e =>
    (Dev.moves_fev hc e).trans (Dev.moves_carrierCause hn hc i _)
  have hset : ∀ x, x.core = (d.carrier n).core → Dev.Moves m d (d.setCarrier n x) := fun x hx => .setCarrier d hc.opened hx
  unfold Dev.mortarRx
  refine .trans ?_ (Dev.moves_tryAgree hm hc _)
  simp only
  split
  · exact .when (hodd 20) d
  · have hcap := (hset { d.carrier n with cap := some (beAt 1 3 cell) } rfl).trans
      ((Dev.moves_defectBit hd 9 (!d.capOk n (beAt 1 3 cell)) _).trans (.when (x := (beAt 0 1 cell = 0 && beAt 1 3 cell != 0) ||
        (beAt 0 1 cell = 1 && fld 15 10 (beAt 1 3 cell) != 0)) (hodd 20) _))
    exact .ite hcap (hcap.trans (hodd 18 _))
  · exact hset _ rfl
  · exact .refl m d
  · exact .ite (hset _ rfl) (.ite (hset _ rfl) (.refl m d))
  · exact hset _ rfl
  · exact hodd 20 d

end Jobs

/-! ## Toward the system side (R186, R199 to R202) -/

/-- The carrier of pair `n` replaced, at the end of an operation, by one of the core it had at its start. -/
theorem Dev.Moves.putCarrier {m : Scope} {n : Nat} {x : Machine.Carrier} {a b : Dev} (h : Dev.Moves m a b) (hm : m.carriers = true)
    (hx : x.core = (a.carrier n).core) : Dev.Moves m a (b.setCarrier n x) := h.trans (.setCarrier b hm (hx.trans (h.core n).symm))

/-- What the carrier of pair `n` has beyond its core changed, at the end of an operation. -/
theorem Dev.Moves.thenCarrier {m : Scope} {n : Nat} {a b : Dev} (h : Dev.Moves m a b) (hm : m.carriers = true)
    (f : Machine.Carrier → Machine.Carrier) (hf : ∀ x, (f x).core = x.core) : Dev.Moves m a (b.setCarrier n (f (b.carrier n))) :=
  h.trans (.setCarrier b hm (hf _))

section SystemSide

variable {m : Scope} {n : Nat} (hc : m.Carrier n)

theorem Dev.moves_toSystemSide {e : Emit} (he : e.isCarrier = false) (d : Dev) : Dev.Moves m d (d.toSystemSide n e) :=
  .when (fun d => .emit d he) d

include hc

theorem Dev.moves_fillOut (f : Fill) (bits : Nat) (d : Dev) : Dev.Moves m d (d.fillOut n f bits) :=
  (Dev.moves_toSystemSide rfl d).putCarrier hc.opened rfl

theorem Dev.moves_putOut (off lost : Nat) (l : List Bool) (d : Dev) : Dev.Moves m d (d.putOut n off lost l) := by
  unfold Dev.putOut
  exact .ite (Dev.moves_toSystemSide rfl d) ((Dev.moves_toSystemSide rfl d).putCarrier hc.opened rfl)

/-- The open client frame ends; a constant-bit-rate client has none, and counts nothing. -/
theorem Dev.moves_cutOpen (d : Dev) (hk : d.isCbr n = true ∨ m.Counts) : Dev.Moves m d (d.cutOpen n) := by
  unfold Dev.cutOpen
  rcases hk with hk | hk
  · simp only [hk, Bool.true_or, if_true]
    exact .refl m d
  · exact .ite (.refl m d) (.ite (.setCarrier d hc.opened rfl) (((Dev.moves_forwarded hk n true 0 d).trans
      (Dev.moves_cntBy hk 1 n 13 1 _)).thenCarrier hc.opened (fun x => { x with opened := 2 }) fun _ => rfl))

theorem Dev.moves_replaceOut (bits : Nat) (d : Dev) (hk : d.isCbr n = true ∨ m.Counts) : Dev.Moves m d (d.replaceOut n bits) :=
  (Dev.moves_cutOpen hc d hk).trans (Dev.moves_fillOut hc _ _ _)

theorem Dev.moves_release (r : CarrierRx) (d : Dev) (hk : d.isCbr n = true ∨ m.Counts) : Dev.Moves m d (d.release n r) := by
  unfold Dev.release
  exact .ite (Dev.moves_replaceOut hc _ d hk) (Dev.moves_putOut hc _ _ _ d)

/-- The client bits of a frame at behaviour level 1. -/
theorem Dev.moves_gateWhole (o : Nat) (pass : Bool) (r : CarrierRx) (d : Dev) : Dev.Moves m d (d.gateWhole n o pass r) := by
  have hput : ∀ (ok : Bool) (off : Nat) (b : List Bool) (y : Dev),
      Dev.Moves m y (if b.isEmpty then y else if ok then y.putOut n off 0 b else y.fillOut n .idle b.length) := fun ok off b y =>
    .ite (.refl m y) (.ite (Dev.moves_putOut hc _ _ _ y) (Dev.moves_fillOut hc _ _ y))
  unfold Dev.gateWhole
  simp only
  refine .ite (.setCarrier d hc.opened rfl) ?_
  refine .thenCarrier (.trans (.trans (.setCarrier d hc.opened ?core) (hput _ _ _ _)) (hput _ _ _ _)) hc.opened (fun x => { x with held := _ }) fun _ => rfl
  case core => rfl

theorem Dev.moves_gateThrough (o : Nat) (r : CarrierRx) (d : Dev) : Dev.Moves m d (d.gateThrough n o r) := Dev.moves_putOut hc _ _ _ d

variable (hn : n < 256) (hk : m.Counts)
include hn hk

theorem Dev.moves_clientPass (u : ClientUse) (d : Dev) : Dev.Moves m d (d.clientPass n u) := by
  unfold Dev.clientPass
  have hbegin : Dev.Moves m d ((times u.begins (Dev.received n true 0) d).cntBy 1 n 14 u.octetsIn) :=
    (Dev.Moves.times (Dev.moves_received hk hn true 0) _ d).trans (Dev.moves_cntBy hk _ _ _ _ _)
  exact (hbegin.trans ((Dev.Moves.when (Dev.moves_droppedDefect hk n true) _).trans ((Dev.Moves.times (Dev.moves_forwarded hk n true 0) _ _).trans
    (Dev.moves_cntBy hk _ _ _ _ _)))).thenCarrier hc.opened (fun x => { x with opened := _ }) fun _ => rfl

theorem Dev.moves_clientFail (u : ClientUse) (d : Dev) : Dev.Moves m d (d.clientFail n u) := by
  unfold Dev.clientFail
  have hbegin : Dev.Moves m d ((times u.begins (Dev.received n true 0) d).cntBy 1 n 14 u.octetsIn) :=
    (Dev.Moves.times (Dev.moves_received hk hn true 0) _ d).trans (Dev.moves_cntBy hk _ _ _ _ _)
  have hdrop : ∀ k e, Dev.Moves m e (times k (Dev.dropped n true dropCarrierDefect) e) := Dev.Moves.times (Dev.moves_droppedDefect hk n true)
  have hstomp : ∀ e : Dev, Dev.Moves m e ((e.forwarded n true 0).cnt 1 n 13) := fun e =>
    (Dev.moves_forwarded hk n true 0 e).trans (Dev.moves_cntBy hk _ _ _ _ _)
  exact .ite ((hbegin.trans (hdrop _ _)).thenCarrier hc.opened (fun x => { x with opened := _ }) fun _ => rfl)
    ((hbegin.trans ((Dev.Moves.when hstomp _).trans (hdrop _ _))).thenCarrier hc.opened (fun x => { x with opened := _ }) fun _ => rfl)

/-- A frame's client bits after its verdict. -/
theorem Dev.moves_gateRelease (pass repl : Bool) (r : CarrierRx) (d : Dev) : Dev.Moves m d (d.gateRelease n pass repl r) := by
  have hbook : ∀ y : Dev, Dev.Moves m y (if y.isCbr n then y else if pass && !(repl || d.replaced n || !r.locked) then y.clientPass n r.use
      else y.clientFail n r.use) := fun y => .ite (.refl m y) (.ite (Dev.moves_clientPass hc hn hk _ y) (Dev.moves_clientFail hc hn hk _ y))
  unfold Dev.gateRelease
  dsimp only
  split
  · exact hbook d
  · split
    · exact ((Dev.moves_replaceOut hc r.bits d (.inr hk)).trans (hbook _)).thenCarrier hc.opened (fun x => { x with held := [] }) fun _ => rfl
    · split
      · exact (hbook d).trans (Dev.moves_gateWhole hc _ _ _ _)
      · split
        · exact (hbook d).trans (Dev.moves_gateThrough hc _ _ _)
        · exact (hbook d).trans (Dev.moves_fillOut hc _ _ _)

end SystemSide

/-! ## Defects and flags of a passing frame (R166, R185, R194, R206) -/

section Defects

variable {m : Scope} {n : Nat} (hn : n < 256) (hc : m.Carrier n) (hd : m.Defects n) (hs : m.Side n)
include hn hc hd hs

theorem Dev.moves_setDefect (b : Nat) (v : Bool) (d : Dev) : Dev.Moves m d (d.setDefect n b v) := by
  unfold Dev.setDefect
  exact .ite (.refl m d) ((Dev.moves_defectBit hd b v d).trans ((Dev.Moves.when (Dev.moves_carrierCause hn hc (b + 1)) _).trans
    (Dev.moves_evalSide hs.reg hs.opened _)))

theorem Dev.moves_runTo (b top : Nat) (v : Bool) (get : Carrier → Nat) {put : Nat → Carrier → Carrier} (hput : ∀ k x, (put k x).core = x.core)
    (d : Dev) : Dev.Moves m d (d.runTo n b top v get put) := by
  have hset : ∀ k, Dev.Moves m d (d.setCarrier n (put k (d.carrier n))) := fun k => .setCarrier d hc.opened (hput k _)
  unfold Dev.runTo
  exact .ite (hset 0) (.ite ((hset 0).trans (Dev.moves_setDefect hn hc hd hs b v _)) (hset _))

theorem Dev.moves_runTfb (pass : Bool) (d : Dev) : Dev.Moves m d (d.runTfb n pass) :=
  Dev.moves_runTo hn hc hd hs _ _ _ _ (put := fun k x => { x with tfb := k }) (fun _ _ => rfl) d

theorem Dev.moves_flagsRx (oh : Bytes) (d : Dev) : Dev.Moves m d (d.flagsRx n oh) := by
  have hodd : ∀ e : Dev, Dev.Moves m e ((e.fev n).cause (.carrier n) 20) := fun e => (Dev.moves_fev hc e).trans (Dev.moves_carrierCause hn hc 20 _)
  have hcause : ∀ (p : Bool) (i : Nat) (e : Dev), Dev.Moves m e (when p (Dev.cause (.carrier n) i) e) := fun p i e =>
    .when (Dev.moves_carrierCause hn hc i) e
  unfold Dev.flagsRx
  refine .trans (.setCarrier d hc.opened ?core) ((Dev.moves_runTo hn hc hd hs 2 3 _ _ (put := fun k x => { x with ais := k }) (fun _ _ => rfl) _).trans
    ((Dev.moves_runTo hn hc hd hs 3 3 _ _ (put := fun k x => { x with rdi := k }) (fun _ _ => rfl) _).trans ((Dev.moves_defectBit hd 6 _ _).trans
      ((hcause _ 7 _).trans ((hcause _ 8 _).trans (.when hodd _))))))
  case core => rfl

end Defects

end Sys2Proof.Machine

namespace Sys2Proof.Machine

/-! ## A lane word while its lane is not in frame (R181 to R184) -/

section LaneWord

variable {l n pos m k : Nat} {b : Bytes} {skew : List Nat} {d : Dev}

/-- A line lane held by a pair is one of its line side's. -/
theorem Dev.mem_of_sideOfLane (hl : l < 256) (h : d.sideOfLane l = some n) : n < 256 ∧ l ∈ d.sideLanes n := by
  obtain ⟨p, hp, hlt, hx⟩ := Dev.of_sideOfLane h
  obtain rfl : n = p := by rw [hx, sideOf, if_pos hl]
  refine ⟨hlt, ?_⟩
  rcases List.mem_append.1 (Dev.of_laneHolder hp).2 with hmem | hmem
  · exact hmem
  · rw [Dev.sideLanes_eq_map] at hmem
    obtain ⟨i, -, rfl⟩ := List.mem_map.1 hmem
    omega

/-- Registers beyond those of ports and pairs say nothing of a side's lanes. -/
theorem Dev.sideLanes_wr {i j v s : Nat} (hs : s < 512) (hi : 0x2200 ≤ i) : (d.wr i j v).sideLanes s = d.sideLanes s :=
  Dev.sideLanes_of_rd hs fun _ _ hn hj => Dev.rd_wr_ne _ _ (by omega)

theorem Dev.laneWordRx_search {a : Bytes} {mfi : Nat} {par : Option Nat} (hside : d.sideOfLane l = some n) (hline : d.carrierLine n = true)
    (hstate : d.laneState l = lnLocked) (hcw : (d.lane l).cwLock = true) (hframe : d.rd (0x2200 + l) 0x11 ≠ 2) :
    d.laneWordRx l pos a mfi par skew = (d.searchWord n l pos (d.rxForm l a)).deskew n skew := by
  simp only [Dev.laneWordRx, hside, hline, hstate, hcw, hframe, bne_self_eq_false, Bool.not_true, Bool.or_self, Bool.false_eq_true, if_false]

/-- A word with the exact FAW that carries lane number `m` and the width code of carrier `n`. -/
structure Dev.Aligns (d : Dev) (n m : Nat) (b : Bytes) : Prop where
  faw : b.take 6 = faw
  number : beAt 6 1 b = m + 16 * widthCode (d.width n)
  lt : m < 16
  fits : m < d.width n

theorem Dev.Aligns.lane (h : d.Aligns n m b) : beAt 6 1 b % 16 = m ∧ beAt 6 1 b / 16 = widthCode (d.width n) := by
  have := h.lt
  rw [h.number]
  omega

/-- At a position that no candidate holds it becomes one. -/
theorem Dev.searchWord_candidate (h : d.Aligns n m b) (hfind : (d.lane l).cands.find? (fun c => c.1 = pos) = none) (hlen : (d.lane l).cands.length < 4) :
    d.searchWord n l pos b = (d.setLane l { d.lane l with cands := (d.lane l).cands ++ [(pos, m, 0)] }).wr (0x2200 + l) 0x11 1 := by
  obtain ⟨hno, hcode⟩ := h.lane
  have hstate : ∀ x : Lane, x.cands.isEmpty = false → (d.setLane l x).searchState l = (d.setLane l x).wr (0x2200 + l) 0x11 1 := fun x hx => by
    unfold Dev.searchState
    rw [Dev.lane_setLane, if_pos rfl, hx]
    rfl
  unfold Dev.searchWord
  simp only [hfind, h.faw, hno, hcode, h.fits, decide_true, Bool.and_self, Bool.not_true, Bool.false_eq_true, if_false, if_neg (Nat.not_le.2 hlen)]
  exact hstate _ (by simp)

/-- At the position of a candidate of its number that has been confirmed often enough, the lane is in frame. -/
theorem Dev.searchWord_confirmed (h : d.Aligns n m b) (hfind : (d.lane l).cands.find? (fun c => c.1 = pos) = some (pos, m, k))
    (hk : d.rd (0x2500 + n) 7 ≤ k + 1) : d.searchWord n l pos b =
    (d.setLane l { d.lane l with cands := [], fpos := pos, laneNo := m, errored := 0, bipErr := 0 }).wr (0x2200 + l) 0x11 2 := by
  obtain ⟨hno, hcode⟩ := h.lane
  unfold Dev.searchWord
  simp only [hfind, h.faw, hno, hcode, h.fits, hk, decide_true, Bool.and_self, if_true]

/-- While a lane of its line side is not in frame, a carrier does not deskew. -/
theorem Dev.deskew_search (hmem : l ∈ d.sideLanes n) (hframe : d.rd (0x2200 + l) 0x11 ≠ 2) : d.deskew n skew = d := by
  have hall : (d.sideLanes n).all (fun l => d.rd (0x2200 + l) 0x11 = 2) = false := by
    rw [List.all_eq_false]
    exact ⟨l, hmem, by simpa using hframe⟩
  unfold Dev.deskew
  simp only [hall, Bool.not_false, Bool.or_true, if_true]

theorem Dev.moves_deskew {m : Scope} (hn : n < 256) (hc : m.Carrier n) (hm : ∀ i j, alignReg n i j = true → m.reg i j = true) (hsides : m.sides = true)
    (hlanes : ∀ l ∈ d.sideLanes n, m.reg (0x2200 + l) 8 = true) : Dev.Moves m d (d.deskew n skew) := by
  have hskew : ∀ (p : Bool) (pos : List Nat), Dev.Moves m d ((when p (Dev.fev n) d).alignSide n pos skew) := fun p pos => by
    refine (Dev.Moves.when (Dev.moves_fev hc) d).trans (Dev.moves_alignSide hm hsides _ ?_)
    cases p
    · exact hlanes
    · have hsame : (d.fev n).sideLanes n = d.sideLanes n := by
        unfold Dev.fev
        rw [Dev.count_eq]
        exact Dev.sideLanes_wr (by omega) (by omega)
      simpa only [when_true, hsame] using hlanes
  unfold Dev.deskew
  exact .ite (.refl m d) (hskew _ _)

end LaneWord

/-- What deskewing carrier `n` may change: the registers of its line side's alignment, SKEW of a lane, CAUSE and FEV. -/
def deskewReg (n i j : Nat) : Bool :=
  alignReg n i j || (within 0x2200 512 i && j = 8) || (i = 0x2500 + n && (j = 0x12 || j = 0x26))

theorem deskewReg_within {n i j : Nat} (hn : n < 256) (h : deskewReg n i j = true) : (within 0x2200 512 i || pairReg n i j) = true := by
  simp only [deskewReg, Bool.or_eq_true, Bool.and_eq_true, decide_eq_true_eq] at h
  rcases h with (h | ⟨h, -⟩) | ⟨h, -⟩
  · have hpair := pairReg_of_alignReg (by omega) h
    rw [Nat.mod_eq_of_lt hn] at hpair
    rw [hpair, Bool.or_true]
  · rw [h, Bool.true_or]
  · simp [pairReg, h]

/-- A lane word that becomes a candidate. -/
theorem completes_laneWordRx_candidate {l n pos m mfi : Nat} {par : Option Nat} {a : List Byte} {skew : List Nat} {s : State} (hl : l < 256)
    (hside : s.dev.sideOfLane l = some n) (hline : s.dev.carrierLine n = true) (hstate : s.dev.laneState l = lnLocked)
    (hcw : (s.dev.lane l).cwLock = true) (hframe : s.dev.rd (0x2200 + l) 0x11 ≠ 2) (hb : s.dev.Aligns n m (s.dev.rxForm l a))
    (hfind : (s.dev.lane l).cands.find? (fun c => c.1 = pos) = none) (hlen : (s.dev.lane l).cands.length < 4) :
    Completes (.laneWordRx l pos a mfi par skew) s fun d => (d.lane l).cands = (s.dev.lane l).cands ++ [(pos, m, 0)] ∧
      d.rd (0x2200 + l) 0x11 = 1 ∧ s.dev.keeps (only (0x2200 + l) 0x11) { d with lanes := s.dev.lanes } := by
  refine completes_actIf (f := Dev.laneWordRx l pos a mfi par skew) rfl (by simpa using hl) ?_
  obtain ⟨hn, hmem⟩ := Dev.mem_of_sideOfLane hl hside
  rw [Dev.laneWordRx_search hside hline hstate hcw hframe, Dev.searchWord_candidate hb hfind hlen, Dev.deskew_search (l := l)]
  · refine ⟨?_, Dev.rd_wr_self _ _ _ _, ?_⟩
    · exact congrArg Lane.cands ((Dev.lane_setLane l l _ s.dev).trans (if_pos rfl))
    · exact ((Dev.Moves.setLane (m := { reg := _, lanes := true }) _ _ _ rfl).trans (.wr _ _ (by simp) (by decide))).toShifts.keeps fun _ _ h => h
  · rw [Dev.sideLanes_wr (by omega) (by omega)]
    exact hmem
  · rw [Dev.rd_wr_self]
    decide

/-- A lane word that brings its lane in frame. -/
theorem completes_laneWordRx_confirmed {l n pos m k mfi : Nat} {par : Option Nat} {a : List Byte} {skew : List Nat} {s : State} (hl : l < 256)
    (hside : s.dev.sideOfLane l = some n) (hline : s.dev.carrierLine n = true) (hstate : s.dev.laneState l = lnLocked)
    (hcw : (s.dev.lane l).cwLock = true) (hframe : s.dev.rd (0x2200 + l) 0x11 ≠ 2) (hb : s.dev.Aligns n m (s.dev.rxForm l a))
    (hfind : (s.dev.lane l).cands.find? (fun c => c.1 = pos) = some (pos, m, k)) (hk : s.dev.rd (0x2500 + n) 7 ≤ k + 1)
    (hfit : n + s.dev.sysWidth n ≤ 256) :
    Completes (.laneWordRx l pos a mfi par skew) s fun d => d.rd (0x2200 + l) 0x11 = 2 ∧ (d.lane l).laneNo = m ∧ (d.lane l).fpos = pos ∧
      s.dev.keeps (fun i j => within 0x2200 512 i || pairReg n i j) { d with lanes := s.dev.lanes, sides := s.dev.sides, carriers := s.dev.carriers } := by
  refine completes_actIf (f := Dev.laneWordRx l pos a mfi par skew) rfl (by simpa using hl) ?_
  obtain ⟨hn, hmem⟩ := Dev.mem_of_sideOfLane hl hside
  rw [Dev.laneWordRx_search hside hline hstate hcw hframe, Dev.searchWord_confirmed hb hfind hk]
  set z := (s.dev.setLane l _).wr (0x2200 + l) 0x11 2
  have hlanes : ∀ k ∈ z.sideLanes n, k < 256 := fun k hk' => by
    have hmod : n % 256 = n := Nat.mod_eq_of_lt hn
    rw [Dev.sideLanes_wr (by omega) (by omega)] at hk'
    exact (Dev.lt_of_mem_sideLanes (by omega) (by rw [hmod]; exact hfit) hk').2 hn
  have hmove : ∀ {m : Scope}, m.sides = true → m.carriers = true → (∀ i j, deskewReg n i j = true → m.reg i j = true) →
      Dev.Moves m z (z.deskew n skew) := fun hsides hcarriers hm =>
    Dev.moves_deskew hn ⟨hcarriers, fun j hj => hm _ _ (by simp [deskewReg, hj])⟩ (fun i j h => hm i j (by simp [deskewReg, h])) hsides fun k hk' => by
      have : within 0x2200 512 (0x2200 + k) = true := by
        have := hlanes k hk'
        simp only [within, Bool.and_eq_true, decide_eq_true_eq]
        omega
      exact hm _ _ (by simp [deskewReg, this])
  have hown := hmove (m := { reg := deskewReg n, sides := true, carriers := true }) rfl rfl fun _ _ h => h
  have hlane : (z.deskew n skew).lane l = z.lane l := by
    unfold Dev.lane
    rw [hown.lanes_eq rfl]
  have hset : ∀ x, ((s.dev.setLane l x).wr (0x2200 + l) 0x11 2).lane l = x := fun x => (Dev.lane_setLane l l x s.dev).trans (if_pos rfl)
  refine ⟨(hown.rd (by decide) ?_).trans (Dev.rd_wr_self _ _ _ _), ?_, ?_, ?_⟩
  · have halign := alignReg_lane (s := n) (l := l) (by omega) (by omega) 0x11
    simp only [Scope.opens, deskewReg, halign, eventReg_lane (show l < 512 by omega), Bool.or_eq_false_iff, Bool.and_eq_false_iff,
      decide_eq_false_iff_not, true_and, and_true]
    omega
  · rw [hlane, hset]
  · rw [hlane, hset]
  · refine Dev.Shifts.keeps (m := { reg := fun i j => within 0x2200 512 i || pairReg n i j, lanes := true, sides := true, carriers := true })
      (.trans (b := z) ?_ (hmove rfl rfl fun i j h => ?_).toShifts) fun _ _ h => h
    · exact ((Dev.Moves.setLane _ _ _ rfl).trans (.wr _ _ (by simp [within]; omega) (by decide))).toShifts
    · exact deskewReg_within hn h

end Sys2Proof.Machine

namespace Sys2Proof.Machine

/-! ## A carrier frame received (R163, R171, R178) -/

/-- A register of carrier `n` is none of events. -/
theorem eventReg_carrier {n : Nat} (hn : n < 256) (j : Nat) : eventReg (0x2500 + n) j = false := by
  simp only [eventReg, within, Bool.or_eq_false_iff, Bool.and_eq_false_iff, decide_eq_false_iff_not]
  omega

/-- The frames that wait for their verdict stay. -/
theorem Dev.rx_eq {m : Scope} {n : Nat} {a b : Dev} (h : Dev.Moves m a b) : (b.carrier n).rx = (a.carrier n).rx :=
  congrArg (fun c : Nat × Option CKey × List CarrierRx × Bool × Bool => c.2.2.1) (h.core n)

/-- So does the mark that a verdict has failed. -/
theorem Dev.tfr_eq {m : Scope} {n : Nat} {a b : Dev} (h : Dev.Moves m a b) : (b.carrier n).tfr = (a.carrier n).tfr :=
  congrArg (fun c : Nat × Option CKey × List CarrierRx × Bool × Bool => c.2.2.2.1) (h.core n)

/-- So does the changeover asked for. -/
theorem Dev.want_eq {m : Scope} {n : Nat} {a b : Dev} (h : Dev.Moves m a b) : (b.carrier n).want = (a.carrier n).want :=
  congrArg (fun c : Nat × Option CKey × List CarrierRx × Bool × Bool => c.2.2.2.2) (h.core n)

/-- So do the frame counter and the transmit key. -/
theorem Dev.fc_eq {m : Scope} {n : Nat} {a b : Dev} (h : Dev.Moves m a b) : (b.carrier n).fc = (a.carrier n).fc :=
  congrArg (fun c : Nat × Option CKey × List CarrierRx × Bool × Bool => c.1) (h.core n)

theorem Dev.txCur_eq {m : Scope} {n : Nat} {a b : Dev} (h : Dev.Moves m a b) : (b.carrier n).txCur = (a.carrier n).txCur :=
  congrArg (fun c : Nat × Option CKey × List CarrierRx × Bool × Bool => c.2.1) (h.core n)

section Received

variable {m : Scope} {n : Nat} {d : Dev}

theorem Dev.moves_echo (s : Nat) (e : List TxLane → Emit) (he : ∀ ls, (e ls).isCarrier = false) (d : Dev) : Dev.Moves m d (d.echo s e) :=
  .when (fun d => .emit d (he _)) d

theorem Dev.moves_demap (hm : m.fresh = true) (fc skip : Nat) (c : Int) (locked : Bool) (off : Nat) (oh payload tag : Bytes) (u : ClientUse) :
    Dev.Moves m d (d.demap n fc skip c locked off oh payload tag u).2 := by
  unfold Dev.demap
  dsimp only
  split
  · dsimp only
    split
    · exact .drawn d _ hm
    · exact .refl m d
  · exact .refl m d

/-- The frame waits; the bits of a client that is not held, a constant-bit-rate one, leave. -/
theorem Dev.moves_awaitVerdict (hc : m.Carrier n) (r : CarrierRx) :
    Dev.Moves m (d.setCarrier n { d.carrier n with rx := (d.carrier n).rx ++ [r] }) (d.awaitVerdict n r) := by
  unfold Dev.awaitVerdict
  cases h : d.unheld n
  · exact .refl m _
  · exact Dev.moves_release hc r _ (.inl (Bool.and_eq_true_iff.1 h).1)

/-- An unkeyed frame on its way to the queue of frames that wait. -/
theorem Dev.moves_unkeyedRx (hn : n < 256) (hc : m.Carrier n) (hd : m.Defects n) (hj : m.Jobs n) (hf : m.fresh = true) (fc : Nat) (oh payload : Bytes)
    (u : ClientUse) : ∃ e r, Dev.Moves m d e ∧
      Dev.Moves m (e.setCarrier n { e.carrier n with rx := (e.carrier n).rx ++ [r] }) (d.unkeyedRx n fc oh payload u) :=
  ⟨_, _, (Dev.moves_carrierCause hn hc 19 d).trans ((Dev.moves_mortarRx hj hn hc hd _ _).trans (Dev.moves_demap hf _ _ _ _ _ _ _ _ _)),
    Dev.moves_awaitVerdict hc _⟩

/-! ### UNKEYED in DEFECTS stays as the frame sets it -/

/-- Everything that a frame received may change but DEFECTS of carrier `n`. -/
def besideDefects (n : Nat) : Scope :=
  { reg := fun i j => !(i = 0x2500 + n && j = 0x11), carriers := true, keys := true, fresh := true }

theorem carrier_besideDefects (n : Nat) : (besideDefects n).Carrier n :=
  ⟨rfl, fun j hj => by simp only [besideDefects, Bool.not_eq_true', Bool.and_eq_false_iff, decide_eq_false_iff_not]; omega⟩

theorem jobs_besideDefects {n : Nat} (hn : n < 256) : (besideDefects n).Jobs n :=
  ⟨rfl, fun j hj => by simp only [besideDefects, Bool.not_eq_true', Bool.and_eq_false_iff, decide_eq_false_iff_not]; omega⟩

theorem Dev.defect_eq {b : Nat} {e : Dev} (hn : n < 256) (h : Dev.Moves (besideDefects n) d e) : e.defect n b = d.defect n b := by
  unfold Dev.defect
  rw [h.rd (by decide) (by simp [Scope.opens, besideDefects, eventReg_carrier hn])]

theorem Dev.defect_wrBit_ne {b c : Nat} (hb : b ≠ c) (v : Bool) : (d.wrBit (0x2500 + n) 0x11 c v).defect n b = d.defect n b := by
  unfold Dev.defect Dev.wrBit
  rw [Dev.rd_wr_self]
  cases v
  · exact bit_clrBit_ne hb
  · exact bit_setBit_ne hb

theorem Dev.defect_wrBit_self (b : Nat) (v : Bool) : (d.wrBit (0x2500 + n) 0x11 b v).defect n b = v := by
  unfold Dev.defect Dev.wrBit
  rw [Dev.rd_wr_self]
  cases v
  · exact bit_clrBit_self b _
  · exact bit_setBit_self b _

/-- Of DEFECTS a mortar cell changes CAPABILITY_MISMATCH alone. -/
theorem Dev.defect_mortarRx (hn : n < 256) (cell : Bytes) {b : Nat} (hb : b ≠ 9) : (d.mortarRx n cell).defect n b = d.defect n b := by
  have hc := carrier_besideDefects n
  have hodd : ∀ (i : Nat) (e : Dev), Dev.Moves (besideDefects n) e ((e.fev n).cause (.carrier n) i) := fun i e =>
    (Dev.moves_fev hc e).trans (Dev.moves_carrierCause hn hc i _)
  unfold Dev.mortarRx
  rw [Dev.defect_eq hn (Dev.moves_tryAgree (jobs_besideDefects hn) hc _)]
  dsimp only
  split
  · exact Dev.defect_eq hn (.when (hodd 20) d)
  · have hcap : ∀ (p : Bool) (x : Carrier) (v : Bool), (when p (fun y => (y.fev n).cause (.carrier n) 20)
        ((d.setCarrier n x).wrBit (0x2500 + n) 0x11 9 v)).defect n b = d.defect n b := fun p x v =>
      (Dev.defect_eq hn (.when (hodd 20) _)).trans (Dev.defect_wrBit_ne hb v)
    split
    · exact hcap _ _ _
    · exact (Dev.defect_eq hn (hodd 18 _)).trans (hcap _ _ _)
  · rfl
  · rfl
  · split
    · rfl
    · split <;> rfl
  · rfl
  · exact Dev.defect_eq hn (hodd 20 d)

theorem Dev.defect_unkeyedRx (hn : n < 256) (fc : Nat) (oh payload : Bytes) (u : ClientUse) : (d.unkeyedRx n fc oh payload u).defect n 8 = d.defect n 8 := by
  have hc := carrier_besideDefects n
  unfold Dev.unkeyedRx
  dsimp only
  rw [Dev.defect_eq hn (Dev.moves_awaitVerdict hc _)]
  refine (Dev.defect_eq (d := (d.cause (.carrier n) 19).mortarRx n (oh.drop 12)) hn (Dev.moves_demap rfl _ _ _ _ _ _ _ _ _)).trans ?_
  rw [Dev.defect_mortarRx hn _ (by decide), Dev.defect_eq hn (Dev.moves_carrierCause hn hc 19 d)]

end Received

theorem Dev.carrierRx_unkeyed {n : Nat} {b : Bytes} {u : ClientUse} {d : Dev} (hlive : d.carrierLive n = true) (hal : (d.side n).aligned = true)
    (hlen : b.length = 8192 * d.width n) (htag : (b.drop (8192 * d.width n - 16)).all (fun x => x = 0) = true) :
    ∃ fc oh payload, d.carrierRx n b u = (d.wrBit (0x2500 + n) 0x11 8 true).unkeyedRx n fc oh payload u := by
  unfold Dev.carrierRx
  simp only [hlive, hal, hlen, htag, bne_self_eq_false, Bool.not_true, Bool.or_self, Bool.false_eq_true, if_false, if_true]
  exact ⟨_, _, _, rfl⟩

theorem Dev.echo_eq (s : Nat) (e : List TxLane → Emit) (d : Dev) : ∃ l, d.echo s e = { d with emits := l } := by
  unfold Dev.echo
  cases d.farLoop s && d.txOn s
  · exact ⟨_, rfl⟩
  · exact ⟨_, rfl⟩

/-- An unkeyed frame of the width's length waits for its verdict, with UNKEYED standing. -/
theorem completes_carrierFrameRx_unkeyed {n : Nat} {b : List Byte} {u : ClientUse} {s : State} (hn : n < 256) (hlive : s.dev.carrierLive n = true)
    (hal : (s.dev.side n).aligned = true) (hlen : b.length = 8192 * s.dev.width n)
    (htag : (b.drop (8192 * s.dev.width n - 16)).all (fun x => x = 0) = true) :
    Completes (.carrierFrameRx n b u) s fun d => (d.carrier n).rx.length = (s.dev.carrier n).rx.length + 1 ∧ d.defect n 8 = true ∧
      s.dev.keeps (fun i j => pairReg n i j || i = 0x3050 + quadOf n) { d with carriers := s.dev.carriers, keys := s.dev.keys, fresh := s.dev.fresh } := by
  refine completes_actIf (f := fun d => (when (d.carrierLive n) (Dev.echo n (fun ls => .retransmit n ls b true)) d).carrierRx n b u) rfl
    (by simpa using hn) ?_
  have hecho : ∀ m : Scope, Dev.Moves m s.dev (s.dev.echo n (fun ls => .retransmit n ls b true)) := fun m => Dev.moves_echo n _ (fun _ => rfl) _
  obtain ⟨l, hl⟩ := Dev.echo_eq n (fun ls => .retransmit n ls b true) s.dev
  rw [hl] at hecho
  simp only [hlive, when_true, hl]
  obtain ⟨fc, oh, payload, hrx⟩ := Dev.carrierRx_unkeyed (d := { s.dev with emits := l }) (u := u) hlive hal hlen htag
  rw [hrx]
  have hmove : ∀ {m : Scope}, m.Carrier n → m.Defects n → m.Jobs n → m.fresh = true → ∃ e r, Dev.Moves m s.dev e ∧
      Dev.Moves m (e.setCarrier n { e.carrier n with rx := (e.carrier n).rx ++ [r] })
        ((({ s.dev with emits := l } : Dev).wrBit (0x2500 + n) 0x11 8 true).unkeyedRx n fc oh payload u) := fun {m} hc hd hj hf => by
    obtain ⟨e, r, he, hr⟩ := Dev.moves_unkeyedRx (d := ({ s.dev with emits := l } : Dev).wrBit (0x2500 + n) 0x11 8 true) hn hc hd hj hf fc oh payload u
    exact ⟨e, r, (hecho m).trans ((Dev.moves_defectBit hd 8 true _).trans he), hr⟩
  refine ⟨?_, ?_, ?_⟩
  · obtain ⟨e, r, he, hr⟩ := hmove (m := { reg := fun _ _ => true, carriers := true, keys := true, fresh := true }) ⟨rfl, fun _ _ => rfl⟩ rfl
      ⟨rfl, fun _ _ => rfl⟩ rfl
    rw [Dev.rx_eq hr, Dev.carrier_setCarrier, if_pos rfl, List.length_append, Dev.rx_eq he]
    rfl
  · rw [Dev.defect_unkeyedRx hn, Dev.defect_wrBit_self]
  · obtain ⟨e, r, he, hr⟩ := hmove (m := { reg := fun i j => pairReg n i j || i = 0x3050 + quadOf n, carriers := true, keys := true, fresh := true })
      ⟨rfl, fun j _ => by simp [pairReg]⟩ (by simp [Scope.Defects, pairReg]) ⟨rfl, fun j _ => by simp⟩ rfl
    exact ((he.toShifts.trans (.setCarrier e n _ rfl)).trans hr.toShifts).keeps fun _ _ h => h

/-! ## The verdict (R196, R198) -/

/-- Everything that a verdict may change but the registers of carrier `n` other than DEFECTS, CAUSE and FEV. -/
def besideRecord (n : Nat) : Scope :=
  { reg := fun i j => i != 0x2500 + n || j = 0x11 || j = 0x12 || j = 0x26, sides := true, carriers := true, keys := true, counters := true }

theorem Dev.rd_besideRecord {n j : Nat} {a b : Dev} (hn : n < 256) (h : Dev.Moves (besideRecord n) a b) (hj : j < 256)
    (hne : j ≠ 0x11 ∧ j ≠ 0x12 ∧ j ≠ 0x26) : b.rd (0x2500 + n) j = a.rd (0x2500 + n) j := by
  refine h.rd hj ?_
  simp only [Scope.opens, besideRecord, eventReg_carrier hn, bne_self_eq_false, Bool.or_eq_false_iff, decide_eq_false_iff_not, true_and, and_true]
  omega

/-- What a verdict needs of a scope: every part. -/
structure Scope.Verdict (m : Scope) (n : Nat) : Prop where
  carrier : m.Carrier n
  defects : m.Defects n
  jobs : m.Jobs n
  counts : m.Counts
  side : m.Side n

theorem verdict_besideRecord {n : Nat} (hn : n < 256) : (besideRecord n).Verdict n where
  carrier := ⟨rfl, fun j hj => by rcases hj with rfl | rfl <;> simp [besideRecord]⟩
  defects := by simp [Scope.Defects, besideRecord]
  jobs := ⟨rfl, fun j _ => by simp [besideRecord]; omega⟩
  counts := ⟨rfl, by simp [besideRecord]; omega⟩
  side := ⟨rfl, fun i j h => by
    simp only [sideReg, causeReg, Bool.or_eq_true, Bool.and_eq_true, decide_eq_true_eq] at h
    simp only [besideRecord, Bool.or_eq_true, bne_iff_ne, decide_eq_true_eq]
    omega⟩

/-- The registers of pair `n`, those of its planisher's jobs, CONDITIONS, and the parts that a verdict opens. -/
def pairScope (n : Nat) : Scope :=
  { reg := fun i j => pairReg n i j || i = 0x3050 + quadOf n || only 0x8000 0xA i j, sides := true, carriers := true, keys := true, counters := true }

theorem pairScope_carrier (n j : Nat) : (pairScope n).reg (0x2500 + n) j = true := by simp [pairScope, pairReg]

theorem verdict_pairScope {n : Nat} (hn : n < 256) : (pairScope n).Verdict n where
  carrier := ⟨rfl, fun j _ => pairScope_carrier n j⟩
  defects := pairScope_carrier n 0x11
  jobs := ⟨rfl, fun j _ => by simp [pairScope]⟩
  counts := ⟨rfl, by simp [pairScope, only]⟩
  side := ⟨rfl, fun i j h => by
    have hpair := pairReg_of_sideReg (by omega) h
    rw [Nat.mod_eq_of_lt hn] at hpair
    simp [pairScope, hpair]⟩

section Verdict

variable {m : Scope} {n : Nat} {d : Dev} (hn : n < 256) (hv : m.Verdict n)
include hn hv

/-- The record of a key, which may become the current one. -/
theorem Dev.moves_verified (h16 : m.reg (0x2500 + n) 0x16 = true) (h18 : m.reg (0x2500 + n) 0x18 = true) (e fc : Nat) :
    Dev.Moves m d (d.verified n e fc) := by
  have hset : ∀ x, x.core = (d.carrier n).core → Dev.Moves m d (d.setCarrier n x) := fun x hx => .setCarrier d hv.carrier.opened hx
  unfold Dev.verified
  refine .trans ?_ (.wr _ _ h18 (by decide))
  split
  · split
    · exact hset _ rfl
    · refine .trans ?_ (Dev.moves_autoLoad hv.jobs _)
      refine .trans (.trans (hset _ ?core) (.wr _ _ h16 (by decide))) (Dev.moves_carrierCause hn hv.carrier 11 _)
      case core => rfl
  · exact hset _ rfl
  · exact hset _ rfl
  · exact .refl m d

/-- A passing frame, from its record on. -/
theorem Dev.moves_verdictPasses (k : CKey) (r : CarrierRx) : ∃ e, Dev.Moves m d e ∧
    Dev.Moves m (e.verified n k.epoch r.fc) (d.verdictPasses n k r) := by
  exact ⟨_, .when (fun y => (Dev.moves_fev hv.carrier y).trans (Dev.moves_carrierCause hn hv.carrier 20 _)) d,
    (Dev.moves_flagsRx hn hv.carrier hv.defects hv.side r.oh _).trans ((Dev.moves_runTfb hn hv.carrier hv.defects hv.side true _).trans
      ((Dev.moves_mortarRx hv.jobs hn hv.carrier hv.defects _ _).trans (Dev.moves_gateRelease hv.carrier hn hv.counts _ _ _ _)))⟩

/-- A failing frame, once it is counted and TFR is to be sent. -/
theorem Dev.moves_verdictFails (causes : List Nat) (r : CarrierRx) : ∃ f, Dev.Moves m
    ((d.count 64 (0x2500 + n) 0x20 1).setCarrier n { d.carrier n with tfr := true, fails := f }) (d.verdictFails n causes r) := by
  exact ⟨_, (Dev.Moves.foldl _ (fun c _ y => Dev.moves_carrierCause hn hv.carrier c y) _).trans
    ((Dev.moves_runTfb hn hv.carrier hv.defects hv.side false _).trans (Dev.moves_gateRelease hv.carrier hn hv.counts _ _ _ _))⟩

end Verdict

section Verdicts

variable {n : Nat} {r : CarrierRx} {rest : List CarrierRx} {k : CKey} {d : Dev}

/-- A keyed frame whose key is held, whose tag verified, whose counter is fresh and whose overhead agrees passes. -/
theorem Dev.carrierVerdict_passes (hrx : (d.carrier n).rx = r :: rest) (hun : r.unkeyed = false) (hkey : r.epoch.bind (d.carrier n).rxOf = some k)
    (htag : r.tagOk = true) (hfresh : k.replayed r.fc = false) (hepoch : beAt 0 1 r.oh % 64 = k.epoch % 64)
    (hclient : beAt 10 1 r.oh = d.clientType n) (hmap : d.mappingAgrees n = true) (hinj : d.inject = none) :
    d.carrierVerdict n = (d.setCarrier n { d.carrier n with rx := rest }).verdictPasses n k r := by
  unfold Dev.carrierVerdict
  simp only [hrx, hun, hkey, Dev.armed, hinj, htag, hfresh, hepoch, hclient, hmap, Option.isSome_none, bne_self_eq_false, Bool.not_true, Bool.or_self,
    Bool.false_eq_true, if_false]

/-- An unkeyed frame fails the verdict of a RUNNING carrier. -/
theorem Dev.carrierVerdict_unkeyed (hrx : (d.carrier n).rx = r :: rest) (hun : r.unkeyed = true) (hrun : d.rd (0x2500 + n) 0x10 = 3) :
    d.carrierVerdict n = (d.setCarrier n { d.carrier n with rx := rest }).verdictFails n [19] r := by
  unfold Dev.carrierVerdict
  simp only [hrx, hun, hrun, if_true]

/-- The counter of a frame that passes stands in RX_FC. -/
theorem Dev.rd_verdictPasses (hn : n < 256) : (d.verdictPasses n k r).rd (0x2500 + n) 0x18 = r.fc := by
  obtain ⟨e, -, hrest⟩ := Dev.moves_verdictPasses (d := d) hn (verdict_besideRecord hn) k r
  rw [Dev.rd_besideRecord hn hrest (by decide) (by decide)]
  exact Dev.rd_wr_self _ _ _ _

theorem Dev.moves_pair_verdictPasses (hn : n < 256) : Dev.Moves (pairScope n) d (d.verdictPasses n k r) := by
  obtain ⟨e, hbegin, hrest⟩ := Dev.moves_verdictPasses (d := d) hn (verdict_pairScope hn) k r
  exact hbegin.trans ((Dev.moves_verified hn (verdict_pairScope hn) (pairScope_carrier n _) (pairScope_carrier n _) _ _).trans hrest)

/-- A frame that fails is counted, and TFR is to be sent. -/
theorem Dev.rd_verdictFails (hn : n < 256) (causes : List Nat) :
    (d.verdictFails n causes r).rd (0x2500 + n) 0x20 = satAdd 64 (d.rd (0x2500 + n) 0x20) 1 ∧
      ((d.verdictFails n causes r).carrier n).tfr = true ∧ ((d.verdictFails n causes r).carrier n).rx = (d.carrier n).rx := by
  obtain ⟨f, hrest⟩ := Dev.moves_verdictFails (d := d) hn (verdict_besideRecord hn) causes r
  refine ⟨?_, ?_, ?_⟩
  · rw [Dev.rd_besideRecord hn hrest (by decide) (by decide), Dev.count_eq]
    exact Dev.rd_wr_self _ _ _ _
  · rw [Dev.tfr_eq hrest, Dev.carrier_setCarrier, if_pos rfl]
  · rw [Dev.rx_eq hrest, Dev.carrier_setCarrier, if_pos rfl]

theorem Dev.shifts_pair_verdictFails (hn : n < 256) (causes : List Nat) : Dev.Shifts (pairScope n) d (d.verdictFails n causes r) := by
  obtain ⟨f, hrest⟩ := Dev.moves_verdictFails (d := d) hn (verdict_pairScope hn) causes r
  rw [Dev.count_eq] at hrest
  exact ((Dev.Moves.wr d _ (pairScope_carrier n _) (by decide)).toShifts.trans (.setCarrier _ n _ rfl)).trans hrest.toShifts

end Verdicts

/-- A keyed frame that waits passes its verdict. -/
theorem completes_carrierVerdict_passes {n : Nat} {r : CarrierRx} {rest : List CarrierRx} {k : CKey} {s : State} (hn : n < 256)
    (hruns : s.dev.runs (sliceDom (dSliceOf n)) = true)
    (hverdict : s.dev.carrierVerdict n = (s.dev.setCarrier n { s.dev.carrier n with rx := rest }).verdictPasses n k r) :
    Completes (.carrierVerdict n) s fun d => (d.carrier n).rx = rest ∧ d.rd (0x2500 + n) 0x18 = r.fc ∧
      s.dev.keeps (fun i j => pairReg n i j || i = 0x3050 + quadOf n || only 0x8000 0xA i j)
        { d with carriers := s.dev.carriers, keys := s.dev.keys, sides := s.dev.sides, counters := s.dev.counters } := by
  refine completes_actIf (f := Dev.ifRuns (sliceDom (dSliceOf n)) (Dev.carrierVerdict n)) rfl (by simpa using hn) ?_
  unfold Dev.ifRuns
  rw [if_pos hruns, hverdict]
  have hmove := Dev.moves_pair_verdictPasses (d := s.dev.setCarrier n { s.dev.carrier n with rx := rest }) (k := k) (r := r) hn
  refine ⟨?_, Dev.rd_verdictPasses hn, ?_⟩
  · rw [Dev.rx_eq hmove, Dev.carrier_setCarrier, if_pos rfl]
  · exact Dev.Shifts.keeps (m := pairScope n) (.trans (.setCarrier s.dev n _ rfl) hmove.toShifts) fun _ _ h => h

/-- An unkeyed frame that waits fails the verdict of a RUNNING carrier. -/
theorem completes_carrierVerdict_fails {n : Nat} {r : CarrierRx} {rest : List CarrierRx} {s : State} (hn : n < 256)
    (hruns : s.dev.runs (sliceDom (dSliceOf n)) = true) (hrx : (s.dev.carrier n).rx = r :: rest) (hun : r.unkeyed = true)
    (hrun : s.dev.rd (0x2500 + n) 0x10 = 3) :
    Completes (.carrierVerdict n) s fun d => (d.carrier n).rx = rest ∧ d.rd (0x2500 + n) 0x20 = satAdd 64 (s.dev.rd (0x2500 + n) 0x20) 1 ∧
      (d.carrier n).tfr = true ∧ s.dev.keeps (fun i j => pairReg n i j || i = 0x3050 + quadOf n || only 0x8000 0xA i j)
        { d with carriers := s.dev.carriers, keys := s.dev.keys, sides := s.dev.sides, counters := s.dev.counters } := by
  refine completes_actIf (f := Dev.ifRuns (sliceDom (dSliceOf n)) (Dev.carrierVerdict n)) rfl (by simpa using hn) ?_
  unfold Dev.ifRuns
  rw [if_pos hruns, Dev.carrierVerdict_unkeyed hrx hun hrun]
  obtain ⟨hcount, htfr, hwait⟩ := Dev.rd_verdictFails (d := s.dev.setCarrier n { s.dev.carrier n with rx := rest }) (r := r) hn [19]
  refine ⟨?_, hcount, htfr, ?_⟩
  · rw [hwait, Dev.carrier_setCarrier, if_pos rfl]
  · exact Dev.Shifts.keeps (m := pairScope n) (.trans (.setCarrier s.dev n _ rfl) (Dev.shifts_pair_verdictFails hn [19])) fun _ _ h => h

end Sys2Proof.Machine

namespace Sys2Proof.Machine

/-! ## What a carrier brings to its next frame (R168, R186, R193, R194) -/

section Ready

variable {m : Scope} {n : Nat} {d : Dev} (hn : n < 256) (hc : m.Carrier n)
include hn hc

theorem Dev.moves_syncClient (hd : m.Defects n) (d : Dev) : Dev.Moves m d (d.syncClient n) := by
  unfold Dev.syncClient
  exact .ite (.refl m d) ((Dev.moves_defectBit hd 7 _ d).trans (.when (Dev.moves_carrierCause hn hc 9) _))

omit hn in
theorem Dev.moves_takeClient (l : List ClientItem) (d : Dev) : Dev.Moves m d (d.takeClient n l) := by
  have hcore : ∀ (x : Carrier) (ct : Nat), (x.take ct l).core = x.core := fun x ct => by
    unfold Carrier.take
    dsimp only
    split
    · rfl
    · split <;> rfl
  unfold Dev.takeClient
  exact .ite (.setCarrier d hc.opened (hcore _ _)) (.refl m d)

omit hc in
theorem Dev.moves_countTx (hk : m.Counts) (mapped : Bool) (u : ClientUse) (d : Dev) : Dev.Moves m d (d.countTx n mapped u) := by
  have hbegin := (Dev.Moves.times (Dev.moves_received hk hn false 0) u.begins d).trans (Dev.moves_cntBy hk 1 n 6 u.octetsIn _)
  unfold Dev.countTx
  exact .ite (.refl m d) (.ite ((hbegin.trans (Dev.Moves.times (Dev.moves_forwarded hk n false 0) _ _)).trans (Dev.moves_cntBy hk _ _ _ _ _))
    (hbegin.trans (Dev.Moves.times (Dev.moves_droppedDefect hk n false) _ _)))

/-- Carrier `n` with what its client has brought since the last frame. -/
def Dev.brought (n : Nat) (client : List ClientItem) (u : ClientUse) (d : Dev) : Dev :=
  (((d.syncClient n).takeClient n client).countTx n ((d.syncClient n).maps n) u).echo (256 + n) (fun ls => .retransmitClient (256 + n) ls client)

theorem Dev.moves_brought (hd : m.Defects n) (hk : m.Counts) (client : List ClientItem) (u : ClientUse) :
    Dev.Moves m d (d.brought n client u) :=
  (Dev.moves_syncClient hn hc hd d).trans ((Dev.moves_takeClient hc client _).trans ((Dev.moves_countTx hn hk _ u _).trans
    (Dev.moves_echo _ _ (fun _ => rfl) _)))

end Ready

/-- The registers that bringing a carrier to its next frame may change: DEFECTS, CAUSE and FEV, those of its planisher's jobs, CONDITIONS. -/
def txScope (n : Nat) : Scope :=
  { reg := fun i j => (i = 0x2500 + n && (j = 0x11 || j = 0x12 || j = 0x26)) || i = 0x3050 + quadOf n || only 0x8000 0xA i j,
    carriers := true, keys := true, counters := true, fresh := true }

/-- What the frame sent needs of a scope. -/
structure Scope.Tx (m : Scope) (n : Nat) : Prop where
  carrier : m.Carrier n
  defects : m.Defects n
  jobs : m.Jobs n
  counts : m.Counts

theorem tx_txScope (n : Nat) : (txScope n).Tx n where
  carrier := ⟨rfl, fun j hj => by rcases hj with rfl | rfl <;> simp [txScope]⟩
  defects := by simp [Scope.Defects, txScope]
  jobs := ⟨rfl, fun j _ => by simp [txScope]⟩
  counts := ⟨rfl, by simp [txScope, only]⟩

theorem tx_of_reg {m : Scope} {n : Nat} (hreg : ∀ i j, (pairScope n).reg i j = true → m.reg i j = true) (hcarriers : m.carriers = true)
    (hkeys : m.keys = true) (hcounters : m.counters = true) : m.Tx n where
  carrier := ⟨hcarriers, fun j _ => hreg _ _ (pairScope_carrier n j)⟩
  defects := hreg _ _ (pairScope_carrier n 0x11)
  jobs := ⟨hkeys, fun j _ => hreg _ _ (by simp [pairScope])⟩
  counts := ⟨hcounters, hreg _ _ (by simp [pairScope, only])⟩

section TxScope

variable {n : Nat} {a b : Dev} (hn : n < 256) (h : Dev.Moves (txScope n) a b)
include hn h

/-- The other registers of the carrier stay. -/
theorem Dev.rd_txScope {j : Nat} (hj : j < 256) (hne : j ≠ 0x11 ∧ j ≠ 0x12 ∧ j ≠ 0x26) : b.rd (0x2500 + n) j = a.rd (0x2500 + n) j := by
  have hq : quadOf n < 4 := by unfold quadOf; omega
  refine h.rd hj ?_
  simp only [Scope.opens, txScope, only, eventReg_carrier hn, Bool.or_eq_false_iff, Bool.and_eq_false_iff, decide_eq_false_iff_not, and_true]
  omega

/-- Whether the carrier is live stays. -/
theorem Dev.carrierLive_txScope : b.carrierLive n = a.carrierLive n := by
  have hport : ∀ j, j < 256 → b.rd (0x2000 + n) j = a.rd (0x2000 + n) j := fun j hj => h.rd hj (by
    have hq : quadOf n < 4 := by unfold quadOf; omega
    simp only [Scope.opens, txScope, only, eventReg_port (show n < 512 by omega), Bool.or_eq_false_iff, Bool.and_eq_false_iff, decide_eq_false_iff_not,
      and_true]
    omega)
  unfold Dev.carrierLive Dev.txOn Dev.formed Dev.mode Dev.sideIdle
  rw [Nat.mod_eq_of_lt hn, hport 1 (by decide), hport 6 (by decide), h.forming_eq rfl, h.exiting_eq rfl]

/-- So does its far-end loopback. -/
theorem Dev.farLoop_txScope : b.farLoop n = a.farLoop n := by
  have hq : quadOf n < 4 := by unfold quadOf; omega
  unfold Dev.farLoop Dev.loopOf
  rw [if_pos hn, if_pos hn, h.rd (by omega) ?_]
  simp only [Scope.opens, txScope, only, eventReg, within, Bool.or_eq_false_iff, Bool.and_eq_false_iff, decide_eq_false_iff_not]
  omega

end TxScope

section ReadyTx

variable {m : Scope} {n : Nat} {d : Dev} (hn : n < 256) (hm : m.Tx n) (hstay : d.rd (0x2500 + n) 0x10 ≠ 3 ∨ (d.carrier n).want = false)
include hn hm hstay

/-- Where no changeover is due, a carrier is brought to its next frame without one. -/
theorem Dev.moves_readyTx (client : List ClientItem) (u : ClientUse) : Dev.Moves m d (d.readyTx n client u) := by
  have hown : Dev.Moves (txScope n) d (d.brought n client u) :=
    Dev.moves_brought hn (tx_txScope n).carrier (tx_txScope n).defects (tx_txScope n).counts client u
  have hswitch : (d.brought n client u).trySwitch n = d.brought n client u := by
    unfold Dev.trySwitch
    dsimp only
    rw [Dev.rd_txScope hn hown (by decide) (by decide), Dev.want_eq hown]
    rcases hstay with h | h <;> simp [h]
  refine (Dev.moves_brought hn hm.carrier hm.defects hm.counts client u).trans ?_
  show Dev.Moves m _ (if (d.brought n client u).carrierLive n then ((d.brought n client u).trySwitch n).autoLoad n else d.brought n client u)
  rw [hswitch]
  exact .ite (Dev.moves_autoLoad hm.jobs _) (.refl m _)

end ReadyTx

/-! ## The frame put out (R163, R165, R170, R482) -/

section Sent

variable {m : Scope} {n : Nat} {f : Bytes × Bytes × Bytes} {d : Dev}

theorem Dev.moves_clearFrame (hf : m.fresh = true) (d : Dev) : Dev.Moves m d (d.clearFrame n).2 := by
  unfold Dev.clearFrame
  dsimp only
  split
  · exact .refl m d
  · exact .drawn d _ hf

theorem Dev.moves_keyedFrame (hc : m.Carrier n) (k : CKey) (adj : Int) (d : Dev) : Dev.Moves m d (d.keyedFrame n k adj).2 := by
  have hturn : Dev.Moves m d (if d.mapping n = 0 then d else d.jcTurn n (if d.sendsAis n then 0 else adj)) := by
    refine .ite (.refl m d) ?_
    unfold Dev.jcTurn
    exact .ite (.setCarrier d hc.opened rfl) (.refl m d)
  have hmapped : ∀ (v : Nat) (store : List Bool) (y : Dev), Dev.Moves m y (y.setCarrier n { y.carrier n with v := v, store := store }) :=
    fun _ _ y => .setCarrier y hc.opened rfl
  unfold Dev.keyedFrame
  exact hturn.trans (.when (hmapped _ _) _)

/-- A frame put out and TX_FC and the counter made to follow, with nothing that a counter brings about. -/
def Dev.sent (n : Nat) (f : Bytes × Bytes × Bytes) (d : Dev) : Dev := (d.stripe n f).afterTx n false

theorem Dev.emits_sent : (d.sent n f).emits = (if d.farLoop n then [] else [.carrier n (d.laneForms n (d.lanesOf n f))]) ++ d.emits := by
  unfold Dev.sent Dev.stripe
  cases h : d.farLoop n <;> rfl

theorem Dev.carrier_stripe : (d.stripe n f).carrier n = { d.carrier n with parity := (d.lanesOf n f).map bip, tfr := false } :=
  (Dev.carrier_setCarrier n n _ _).trans (if_pos rfl)

theorem Dev.sent_eq : d.sent n f = ((d.stripe n f).wr (0x2500 + n) 0x17 ((d.stripe n f).carrier n).fc).setCarrier n
    { (d.stripe n f).carrier n with fc := (((d.stripe n f).carrier n).fc + 1) % 2 ^ 48 } := rfl

/-- TX_FC holds the counter of the frame, and the carrier counts on. -/
theorem Dev.rd_sent : (d.sent n f).rd (0x2500 + n) 0x17 = (d.carrier n).fc ∧ ((d.sent n f).carrier n).fc = ((d.carrier n).fc + 1) % 2 ^ 48 ∧
    ((d.sent n f).carrier n).txCur = (d.carrier n).txCur := by
  rw [Dev.sent_eq, Dev.carrier_setCarrier, if_pos rfl, Dev.carrier_stripe]
  exact ⟨Dev.rd_wr_self _ _ _ _, rfl, rfl⟩

theorem Dev.shifts_sent (hm : m.carriers = true) (hreg : m.reg (0x2500 + n) 0x17 = true) : Dev.Shifts m d (d.sent n f) := by
  have hemit : Dev.Shifts m d (when (!d.farLoop n) (Dev.emit (.carrier n (d.laneForms n (d.lanesOf n f)))) d) := by
    cases d.farLoop n
    · exact .of_rest rfl rfl
    · exact .refl m d
  rw [Dev.sent_eq]
  exact ((hemit.trans (.setCarrier _ n _ hm)).trans (Dev.Moves.wr _ _ hreg (by decide)).toShifts).trans (.setCarrier _ n _ hm)

/-- Short of the last counter, and of the counters that act, a keyed frame brings nothing else about. -/
theorem Dev.sent_keyed (hlast : (d.carrier n).fc < 2 ^ 48 - 1) (hthreshold : (d.carrier n).fc ≠ d.rd (0x2500 + n) 0xE)
    (hat : (d.carrier n).fc ≠ d.rd (0x2500 + n) 0xF) : (d.stripe n f).afterTx n true = d.sent n f := by
  have hfc : ((d.stripe n f).carrier n).fc = (d.carrier n).fc := by rw [Dev.carrier_stripe]
  have hrd : ∀ j, (d.stripe n f).rd (0x2500 + n) j = d.rd (0x2500 + n) j := fun j => Dev.rd_of_dict (by
    unfold Dev.stripe
    cases d.farLoop n <;> rfl) _ _
  unfold Dev.sent Dev.afterTx
  simp only [hfc, hrd, hthreshold, hat, decide_false, Bool.and_false, when_false, Bool.not_true, Bool.not_false, Bool.false_eq_true, if_false, if_true,
    show (d.carrier n).fc ≠ 2 ^ 48 - 1 by omega]

end Sent

/-- The frame of carrier `n` that something put out is. -/
def Emit.ofCarrier (n : Nat) : Emit → Option (List Bytes)
  | .carrier m f => if m = n then some f else none
  | _ => none

theorem Emit.ofCarrier_of_not {n : Nat} {e : Emit} (h : e.isCarrier = false) : e.ofCarrier n = none := by
  cases e with
  | carrier => cases h
  | _ => rfl

/-- The carrier frames put out are those put out between operations that put out none. -/
theorem Dev.carriersSince_eq {n : Nat} {a y z b : Dev} {l : List Emit} (hbefore : Dev.Puts a y) (hput : z.emits = l ++ y.emits) (hafter : Dev.Puts z b) :
    a.carriersSince n b = l.filterMap (Emit.ofCarrier n) := by
  obtain ⟨before, hy, hqy⟩ := hbefore
  obtain ⟨after, hb, hqb⟩ := hafter
  have hnone : ∀ k : List Emit, (∀ e ∈ k, e.isCarrier = false) → k.filterMap (Emit.ofCarrier n) = [] := fun k hk =>
    List.filterMap_eq_nil_iff.2 fun e he => Emit.ofCarrier_of_not (hk e he)
  have hall : b.emits = (after ++ (l ++ before)) ++ a.emits := by rw [hb, hput, hy]; simp only [List.append_assoc]
  have htake : b.emits.take (b.emits.length - a.emits.length) = after ++ (l ++ before) := by
    rw [hall, List.length_append, Nat.add_sub_cancel, List.take_left]
  show (b.emits.take (b.emits.length - a.emits.length)).filterMap (Emit.ofCarrier n) = _
  rw [htake, List.filterMap_append, List.filterMap_append, hnone _ hqb, hnone _ hqy, List.nil_append, List.append_nil]

/-- The replacement signal toward the system side while no carrier frame is received (R186). -/
def Dev.fills (n : Nat) (d : Dev) : Dev := if (d.side n).aligned then d else d.replaceOut n (d.clientBits n (2 * d.width n) 0)

theorem Dev.moves_fills {m : Scope} {n : Nat} (hc : m.Carrier n) (hk : m.Counts) (d : Dev) : Dev.Moves m d (d.fills n) :=
  .ite (.refl m d) (Dev.moves_replaceOut hc _ d (.inr hk))

theorem Dev.carrierTx_clear {n : Nat} {adj : Int} {b : List ClientItem} {u : ClientUse} {d : Dev} (hmode : d.mode n = pmCarrier)
    (hlive : (d.readyTx n b u).carrierLive n = true) (hkey : (d.readyTx n b u).txKey n = none) :
    d.carrierTx n adj b u = (((d.readyTx n b u).clearFrame n).2.sent n ((d.readyTx n b u).clearFrame n).1).fills n := by
  unfold Dev.carrierTx
  simp only [hmode, hlive, hkey, bne_self_eq_false, Bool.false_eq_true, if_false, Bool.not_true, Option.isSome_none]
  rfl

theorem Dev.carrierTx_keyed {n : Nat} {adj : Int} {b : List ClientItem} {u : ClientUse} {k : CKey} {d : Dev} (hmode : d.mode n = pmCarrier)
    (hlive : (d.readyTx n b u).carrierLive n = true) (hkey : (d.readyTx n b u).txKey n = some k) :
    d.carrierTx n adj b u =
      ((((d.readyTx n b u).keyedFrame n k adj).2.stripe n ((d.readyTx n b u).keyedFrame n k adj).1).afterTx n true).fills n := by
  unfold Dev.carrierTx
  simp only [hmode, hlive, hkey, bne_self_eq_false, Bool.false_eq_true, if_false, Bool.not_true, Option.isSome_some]
  rfl

section Frame

variable {n : Nat} {f : Bytes × Bytes × Bytes} {a d : Dev}

/-- What a frame sent leaves, `d` being the block once the frame is made. -/
theorem Dev.sent_fills (hn : n < 256) (h : Dev.Moves (txScope n) a d) : ((d.sent n f).fills n).rd (0x2500 + n) 0x17 = (a.carrier n).fc ∧
    (((d.sent n f).fills n).carrier n).fc = ((a.carrier n).fc + 1) % 2 ^ 48 ∧
    (((d.sent n f).fills n).carrier n).txCur = (a.carrier n).txCur ∧
    a.carriersSince n ((d.sent n f).fills n) = if a.farLoop n = true then [] else [d.laneForms n (d.lanesOf n f)] := by
  have hfills : Dev.Moves (txScope n) (d.sent n f) ((d.sent n f).fills n) := Dev.moves_fills (tx_txScope n).carrier (tx_txScope n).counts _
  obtain ⟨hrd, hfc, hcur⟩ := Dev.rd_sent (n := n) (f := f) (d := d)
  refine ⟨?_, ?_, ?_, ?_⟩
  · rw [Dev.rd_txScope hn hfills (by decide) (by decide), hrd, Dev.fc_eq h]
  · rw [Dev.fc_eq hfills, hfc, Dev.fc_eq h]
  · rw [Dev.txCur_eq hfills, hcur, Dev.txCur_eq h]
  · rw [Dev.carriersSince_eq h.puts Dev.emits_sent hfills.puts, Dev.farLoop_txScope hn h]
    split
    · rfl
    · simp [Emit.ofCarrier]

theorem Dev.shifts_sent_fills {m : Scope} (hm : m.Tx n) (h17 : m.reg (0x2500 + n) 0x17 = true) (h : Dev.Moves m a d) :
    Dev.Shifts m a ((d.sent n f).fills n) :=
  (h.toShifts.trans (Dev.shifts_sent hm.carrier.opened h17)).trans (Dev.moves_fills hm.carrier hm.counts _).toShifts

end Frame

/-- A frame sent while its carrier is not RUNNING is one in the clear. -/
theorem completes_carrierFrameTx_clear {n : Nat} {adj : Int} {b : List ClientItem} {u : ClientUse} {s : State} (hn : n < 256)
    (hlive : s.dev.carrierLive n = true) (hruns : s.dev.runs (sliceDom (eSliceOf n)) = true) (hstate : s.dev.rd (0x2500 + n) 0x10 ≠ 3) :
    Completes (.carrierFrameTx n adj b u) s fun d => d.rd (0x2500 + n) 0x17 = (s.dev.carrier n).fc ∧
      (d.carrier n).fc = ((s.dev.carrier n).fc + 1) % 2 ^ 48 ∧
      (∀ y r, y = s.dev.readyTx n b u → r = y.clearFrame n → s.dev.carriersSince n d =
        (if s.dev.farLoop n = true then [] else [r.2.laneForms n (r.2.lanesOf n r.1)])) ∧
      s.dev.keeps (fun i j => pairReg n i j || i = 0x3050 + quadOf n || only 0x8000 0xA i j)
        { d with carriers := s.dev.carriers, fresh := s.dev.fresh, keys := s.dev.keys, counters := s.dev.counters } := by
  refine completes_actIf (f := Dev.ifRuns (sliceDom (eSliceOf n)) (Dev.carrierTx n adj b u)) rfl (by simpa using hn) ?_
  have hready : ∀ {m : Scope}, m.Tx n → Dev.Moves m s.dev (s.dev.readyTx n b u) := fun hm => Dev.moves_readyTx hn hm (.inl hstate) b u
  have hmode : s.dev.mode n = pmCarrier := of_decide_eq_true (Bool.and_eq_true_iff.1 hlive).1
  have hlive' := (Dev.carrierLive_txScope hn (hready (tx_txScope n))).trans hlive
  have hkey : (s.dev.readyTx n b u).txKey n = none := by
    unfold Dev.txKey
    rw [Dev.rd_txScope hn (hready (tx_txScope n)) (by decide) (by decide), if_neg hstate]
  unfold Dev.ifRuns
  rw [if_pos hruns, Dev.carrierTx_clear hmode hlive' hkey]
  obtain ⟨hrd, hfc, -, hsince⟩ := Dev.sent_fills (f := ((s.dev.readyTx n b u).clearFrame n).1) hn
    ((hready (tx_txScope n)).trans (Dev.moves_clearFrame rfl _))
  refine ⟨hrd, hfc, ?_, ?_⟩
  · rintro y r rfl rfl
    exact hsince
  · have htx : Scope.Tx { reg := (pairScope n).reg, carriers := true, keys := true, counters := true, fresh := true } n :=
      tx_of_reg (fun _ _ h => h) rfl rfl rfl
    exact (Dev.shifts_sent_fills htx (pairScope_carrier n _) ((hready htx).trans (Dev.moves_clearFrame rfl _))).keeps fun _ _ h => h

/-- A frame sent while its carrier is RUNNING is one enciphered under its current key. -/
theorem completes_carrierFrameTx_keyed {n : Nat} {adj : Int} {b : List ClientItem} {u : ClientUse} {k : CKey} {s : State} (hn : n < 256)
    (hlive : s.dev.carrierLive n = true) (hruns : s.dev.runs (sliceDom (eSliceOf n)) = true) (hstate : s.dev.rd (0x2500 + n) 0x10 = 3)
    (hcur : (s.dev.carrier n).txCur = some k) (hwant : (s.dev.carrier n).want = false) (hlast : (s.dev.carrier n).fc < 2 ^ 48 - 1)
    (hthreshold : (s.dev.carrier n).fc ≠ s.dev.rd (0x2500 + n) 0xE) (hat : (s.dev.carrier n).fc ≠ s.dev.rd (0x2500 + n) 0xF) :
    Completes (.carrierFrameTx n adj b u) s fun d => d.rd (0x2500 + n) 0x17 = (s.dev.carrier n).fc ∧ (d.carrier n).fc = (s.dev.carrier n).fc + 1 ∧
      (d.carrier n).txCur = some k ∧
      (∀ y r, y = s.dev.readyTx n b u → r = y.keyedFrame n k adj → s.dev.carriersSince n d =
        (if s.dev.farLoop n = true then [] else [r.2.laneForms n (r.2.lanesOf n r.1)])) ∧
      s.dev.keeps (fun i j => pairReg n i j || only 0x8000 0xA i j || i = 0x3050 + quadOf n)
        { d with carriers := s.dev.carriers, counters := s.dev.counters, keys := s.dev.keys } := by
  refine completes_actIf (f := Dev.ifRuns (sliceDom (eSliceOf n)) (Dev.carrierTx n adj b u)) rfl (by simpa using hn) ?_
  have hready : ∀ {m : Scope}, m.Tx n → Dev.Moves m s.dev (s.dev.readyTx n b u) := fun hm => Dev.moves_readyTx hn hm (.inr hwant) b u
  have hmode : s.dev.mode n = pmCarrier := of_decide_eq_true (Bool.and_eq_true_iff.1 hlive).1
  have hlive' := (Dev.carrierLive_txScope hn (hready (tx_txScope n))).trans hlive
  have hkey : (s.dev.readyTx n b u).txKey n = some k := by
    unfold Dev.txKey
    rw [Dev.rd_txScope hn (hready (tx_txScope n)) (by decide) (by decide), if_pos hstate, Dev.txCur_eq (hready (tx_txScope n)), hcur]
  have hframe := (hready (tx_txScope n)).trans (Dev.moves_keyedFrame (tx_txScope n).carrier k adj _)
  unfold Dev.ifRuns
  rw [if_pos hruns, Dev.carrierTx_keyed hmode hlive' hkey, Dev.sent_keyed]
  · obtain ⟨hrd, hfc, htx, hsince⟩ := Dev.sent_fills (f := ((s.dev.readyTx n b u).keyedFrame n k adj).1) hn hframe
    refine ⟨hrd, hfc.trans (Nat.mod_eq_of_lt (by omega)), htx.trans hcur, ?_, ?_⟩
    · rintro y r rfl rfl
      exact hsince
    · have htx : Scope.Tx { reg := (pairScope n).reg, carriers := true, keys := true, counters := true } n := tx_of_reg (fun _ _ h => h) rfl rfl rfl
      refine (Dev.shifts_sent_fills htx (pairScope_carrier n _)
        ((hready htx).trans (Dev.moves_keyedFrame htx.carrier k adj _))).keeps fun i j h => ?_
      rw [Bool.or_right_comm]
      exact h
  · rw [Dev.fc_eq hframe]
    exact hlast
  · rw [Dev.fc_eq hframe, Dev.rd_txScope hn hframe (by decide) (by decide)]
    exact hthreshold
  · rw [Dev.fc_eq hframe, Dev.rd_txScope hn hframe (by decide) (by decide)]
    exact hat

/-- Settles O21: a lane word, a frame sent, a frame received and its verdict, each by the branch that its hypotheses leave. -/
theorem carrierLanesFramesAndVerdicts : Obligations.CarrierLanesFramesAndVerdicts := by
  unfold Obligations.CarrierLanesFramesAndVerdicts
  refine ⟨fun l n pos m mfi par a b skew s hl hside hline hstate hcw hframe hb hfaw hno hm hw hfind hlen _ => ?candidate,
    fun l n pos m k mfi par a b skew s hl hside hline hstate hcw hframe hb hfaw hno hm hw hfind hk hfit _ => ?confirmed,
    fun n adj b u s hn hlive hruns hstate => completes_carrierFrameTx_clear hn hlive hruns hstate,
    fun n adj b u k s hn hlive hruns hstate hcur hwant hlast hthreshold hat =>
      completes_carrierFrameTx_keyed hn hlive hruns hstate hcur hwant hlast hthreshold hat,
    fun n b u s hn hlive hal hlen htag => completes_carrierFrameRx_unkeyed hn hlive hal hlen htag,
    fun n r rest k s hn hruns hrx hun hkey htag hfresh hepoch hclient hmap hinj =>
      completes_carrierVerdict_passes hn hruns (Dev.carrierVerdict_passes hrx hun hkey htag hfresh hepoch hclient hmap hinj),
    fun n r rest s hn hruns hrx hun hrun _ => completes_carrierVerdict_fails hn hruns hrx hun hrun⟩
  case candidate =>
    subst hb
    exact completes_laneWordRx_candidate hl hside hline hstate hcw hframe ⟨hfaw, hno, hm, hw⟩ hfind hlen
  case confirmed =>
    subst hb
    exact completes_laneWordRx_confirmed hl hside hline hstate hcw hframe ⟨hfaw, hno, hm, hw⟩ hfind hk hfit

end Sys2Proof.Machine

namespace Sys2Proof.Machine

/-! ## Cause registers (R159, R207, R262, R342, R365) -/

section Causes

variable {b : CauseBlock}

/-- The cause registers of a block are no registers of events, and none of them is POWER_STATE. -/
theorem eventReg_causeAt (hb : causeOk b = true) (j : Nat) : eventReg (causeAt b).1 j = false := by
  simp only [eventReg, within, Bool.or_eq_false_iff, Bool.and_eq_false_iff, decide_eq_false_iff_not]
  cases b <;> simp only [causeOk, decide_eq_true_eq] at hb <;> simp only [causeAt] <;> omega

/-- CAUSE and CAUSE_ENABLE stand at subindices of one byte, neither that of POWER_STATE. -/
theorem causeAt_sub (b : CauseBlock) :
    ((causeAt b).2.1 < 256 ∧ (causeAt b).2.1 ≠ 2) ∧ (causeAt b).2.2.2 < 256 ∧ (causeAt b).2.2.2 ≠ 2 := by
  cases b <;> simp [causeAt]

/-- The events of a block's causes are among the 400 (R468). -/
theorem causeEvent_lt (hb : causeOk b = true) (i : Nat) : causeEvent b i < 400 := by
  cases b <;> simp only [causeOk, decide_eq_true_eq] at hb <;> simp only [causeEvent, pairEvent, quadEvent]
  case buffer => split <;> omega
  all_goals omega

theorem lt_of_mem_causeEvents {bits e : Nat} (hb : causeOk b = true) (he : e ∈ causeEvents b bits) : e < 400 := by
  obtain ⟨i, -, rfl⟩ := List.mem_map.1 (List.mem_eraseDups.1 he)
  exact causeEvent_lt hb i

theorem Dev.Touches.causeHeld_eq {a d : Dev} (h : Dev.Touches eventReg a d) (hb : causeOk b = true) : d.causeHeld b = a.causeHeld b := by
  cases b with
  | calendar s =>
    have hs : s < 64 := of_decide_eq_true hb
    have hfence : eventReg (0x2600 + s) 1 = false := by
      simp only [eventReg, within, Bool.or_eq_false_iff, Bool.and_eq_false_iff, decide_eq_false_iff_not]; omega
    have hpartner : d.rd (0x6000 + s) 5 = a.rd (0x6000 + s) 5 := h.rd (by decide) (eventReg_causeAt hb 5)
    simp only [Dev.causeHeld, Dev.isFenced, h.rd (by decide) hfence, hpartner]
  | _ => rfl

/-- CAUSE_CLEAR of a block that is not held writes CAUSE, then raises the events of what occurs again. -/
theorem effCauseClear_free {again v : Nat} {r : Role} {d : Dev} (hfree : d.causeHeld b = false) : effCauseClear b again r v d =
    (0, (causeEvents b (andNot (again &&& causeBits b) (andNot (d.rd (causeAt b).1 (causeAt b).2.1) v) &&& d.causeEnabled b)).foldl
      (fun y e => y.raise e)
      (d.wr (causeAt b).1 (causeAt b).2.1 (andNot (d.rd (causeAt b).1 (causeAt b).2.1) v ||| (again &&& causeBits b)))) := by
  unfold effCauseClear unless'
  rw [hfree]
  rfl

/-- A write of CAUSE_ENABLE of a block that is not held stores it, then raises the events of the causes it enables. -/
theorem effCauseEnable_free {v : Nat} {r : Role} {d : Dev} (hfree : d.causeHeld b = false) : effCauseEnable b r v d =
    (0, (causeEvents b (v &&& d.rd (causeAt b).1 (causeAt b).2.1)).foldl (fun y e => y.raise e)
      (d.wr (causeAt b).1 (causeAt b).2.2.2 (v ||| causeAlways b))) := by
  unfold effCauseEnable unless'
  rw [hfree]
  rfl

end Causes

/-- Events raised one after the other touch registers of events alone. -/
theorem Dev.touches_raises {p : Nat → Nat → Bool} (hp : ∀ i j, eventReg i j = true → p i j = true) {l : List Nat} (hl : ∀ e ∈ l, e < 400)
    (d : Dev) : Dev.Touches p d (l.foldl (fun y e => y.raise e) d) :=
  .foldl _ l (fun e he y => Dev.touches_raise hp e (hp _ _ (eventReg_group (hl e he) (.inl rfl))) (hp _ _ (eventReg_group (hl e he) (.inr rfl))) y) d

/-- A heard write whose owner writes one register, and then raises events. -/
theorem Dev.write_storesRaising {eff : Eff} {i j x y v : Nat} {l : List Nat} {w : Wr} {d : Dev} (hh : d.hears i j w = true) (hy : y < 256)
    (hy2 : y ≠ 2) (hxy : eventReg x y = false) (hl : ∀ e ∈ l, e < 400)
    (he : eff (d.roleOf w.path) w.value (d.atOwner w) = (0, l.foldl (fun z e => z.raise e) ((d.atOwner w).wr x y v))) :
    (d.write eff i j w).answer.abort = 0 ∧ (d.write eff i j w).rd x y = v ∧ d.keeps (only x y) (d.write eff i j w) := by
  have hp : ∀ i' j', eventReg i' j' = true → (only x y i' j' || eventReg i' j') = true := fun _ _ h => by rw [h, Bool.or_true]
  rw [Dev.write_accepts hh he]
  refine ⟨by rw [Dev.respond_answer], ?_, ?_⟩
  · rw [Dev.rd_respond_zero, (Dev.touches_raises (fun _ _ h => h) hl _).rd hy hxy, Dev.rd_wr_self]
  · have hstored : Dev.Touches (fun i' j' => only x y i' j' || eventReg i' j') d ((d.atOwner w).wr x y v) :=
      ((d.touches_atOwner w).mono hp).trans (.write _ x y v (by simp [only]) hy fun h => absurd h hy2)
    exact ((hstored.trans (Dev.touches_raises hp hl _)).trans (Dev.touches_respond (fun h0 => absurd rfl h0) _ _ _ _ _ _ _)).keeps

/-- Settles O19: the owner writes CAUSE or CAUSE_ENABLE alone, and the events it raises touch registers of events, of which neither is one. -/
theorem causesAreClearedAndEnabledBitByBit : Obligations.CausesAreClearedAndEnabledBitByBit := by
  unfold Obligations.CausesAreClearedAndEnabledBitByBit
  refine ⟨fun b again w s hb hh hheld => ?clear, fun b w s hb hh hheld => ?enable⟩
  case clear =>
    obtain ⟨⟨hj, hj2⟩, -⟩ := causeAt_sub b
    have howner := s.dev.touches_atOwner w
    have hfree : (s.dev.atOwner w).causeHeld b = false := (howner.causeHeld_eq hb).trans hheld
    refine completes_actIf (f := Dev.write (effCauseClear b again) (causeAt b).1 (causeAt b).2.2.1 w) rfl hb ?_
    rw [← howner.rd hj (eventReg_causeAt hb _)]
    exact Dev.write_storesRaising hh hj hj2 (eventReg_causeAt hb _) (fun _ he => lt_of_mem_causeEvents hb he) (effCauseClear_free hfree)
  case enable =>
    obtain ⟨-, hj, hj2⟩ := causeAt_sub b
    have hfree : (s.dev.atOwner w).causeHeld b = false := ((s.dev.touches_atOwner w).causeHeld_eq hb).trans hheld
    refine completes_actIf (f := Dev.write (effCauseEnable b) (causeAt b).1 (causeAt b).2.2.2 w) rfl hb ?_
    exact Dev.write_storesRaising hh hj hj2 (eventReg_causeAt hb _) (fun _ he => lt_of_mem_causeEvents hb he) (effCauseEnable_free hfree)

end Sys2Proof.Machine

namespace Sys2Proof.Machine

/-! ## The verdict of a frame drawn for its port -/

/-- A frame drawn for system side 261 and not yet in its staging store, its last four bytes awaiting the verdict (R146, R323). -/
def frameDrawn : Drawn := ⟨{ aFrame true 5 2 true with wait := .fcs }, 0, false, false⟩

/-- Its entry in D-slice 8, under an SA of a channel that does not validate. -/
def drawnHeld : Held := { aHeld 5 2 with frame := frameDrawn.frame }

/-- The frame ahead of it, whole in the staging store of the side (R348). -/
def frameStaged : Staged := ⟨{ aFrame true 5 2 false with no := 0 }, 64, true, none, false⟩

/-- Pair 5 with these frames on their way to its system port. -/
def drawnAwaits : State := ⟨[], (((passPair 5).setStaged 261 [frameStaged]).setInE 8 [frameDrawn]).setInD 8 [drawnHeld]⟩

theorem Dev.keeps.inE {p : Nat → Nat → Bool} {a b c : Dev} (h : a.keeps p c) (hc : c.eFlight = b.eFlight) (s : Nat) : b.inE s = a.inE s := by
  obtain ⟨-, hsame⟩ := h
  have he : c.eFlight = a.eFlight := by rw [hsame]
  rw [Dev.inE, Dev.inE, ← hc, he]

theorem wait_drawnAwaits : (drawnAwaits.dev.inE 8).map (·.frame.wait) = [.fcs] := by decide +kernel

/-- The verdict reaches the frame where it stands, ahead of its staging store (R143, R146). -/
theorem wait_drawnAwaits_verdict :
    ((Dev.ifRuns (sliceDom 8) (Dev.verdict 8 100) (drawnAwaits.dev.at 100)).inE 8).map (·.frame.wait) = [.none] := by decide +kernel

/-- Refutes O18: its clause on a channel that does not validate keeps the frames drawn for their ports. A frame that the scheduler has
drawn while its port still sends another stands among them when its verdict is formed, and then waits no more. -/
theorem not_framesLeaveFlightProtectedOrClear : ¬ Obligations.FramesLeaveFlightProtectedOrClear := by
  unfold Obligations.FramesLeaveFlightProtectedOrClear
  rintro ⟨-, -, hunchecked, -⟩
  obtain ⟨-, -, -, hkeeps⟩ := (hunchecked 8 100 16 drawnHeld [] drawnAwaits (by decide) (by decide +kernel) rfl (by decide +kernel)
    (by decide +kernel) rfl rfl (by decide +kernel) (.inl (by decide +kernel)) (by decide +kernel) rfl).of_act
    (f := fun d => Dev.ifRuns (sliceDom 8) (Dev.verdict 8 100) (d.at 100)) rfl
  have hwait := congrArg (List.map (·.frame.wait)) (hkeeps.inE (b := Dev.ifRuns (sliceDom 8) (Dev.verdict 8 100) (drawnAwaits.dev.at 100)) rfl 8)
  rw [wait_drawnAwaits_verdict, wait_drawnAwaits] at hwait
  cases hwait

end Sys2Proof.Machine

namespace Sys2Proof.Machine

/-! ## LOS and LOF declared and cleared (R185, R187, R207) -/

section Declared

variable {n : Nat} {d : Dev}

/-- STATE_CHANGE noted and the sides' Local Fault made to follow leave what stands in CAUSE of carrier `n`. -/
theorem Dev.bit_tracking_cause (hn : n < 256) {i : Nat} (f : Dev → Dev) (h : bit i ((f d).rd (0x2500 + n) 0x12) = true) :
    bit i ((tracking [n] f d).rd (0x2500 + n) 0x12) = true := by
  unfold tracking
  simp only [List.foldl]
  rw [(Dev.touches_syncPairLf (fun _ _ => false) n _).rd (by decide) rfl]
  split
  · exact h
  · rw [Dev.rd_raise _ (by simp only [pairEvent]; omega) _ _ (by decide) (eventReg_carrier hn _)]
    split <;> simp only [causeAt, Dev.wrBit_eq]
    · rw [Dev.rd_wr_self]
      exact bit_setBit_mono h
    · rwa [Dev.rd_wr_ne _ _ (by omega)]

/-- CAUSE of carrier `n` keeps what stands in it while the state of its line side follows. -/
theorem Dev.bit_evalSide_cause (hn : n < 256) {i : Nat} (h : bit i (d.rd (0x2500 + n) 0x12) = true) :
    bit i ((d.evalSide n).rd (0x2500 + n) 0x12) = true := by
  have hside : ∀ {j : Nat} (v : Nat) (y : Dev), j < 256 → (y.wr (0x2000 + n) j v).rd (0x2500 + n) 0x12 = y.rd (0x2500 + n) 0x12 := fun v y hj =>
    Dev.rd_wr_ne _ _ (by omega)
  have hset : ∀ (x : Side) (y : Dev), (y.setSide n x).rd (0x2500 + n) 0x12 = y.rd (0x2500 + n) 0x12 := fun _ _ => rfl
  unfold Dev.evalSide
  rw [Nat.mod_eq_of_lt hn]
  refine Dev.bit_tracking_cause hn _ ?_
  simp only [Dev.setSideState, hn, if_true]
  cases decide (d.sideTarget n = stUp) <;> cases (decide (d.sideTarget n = stDefect) && d.sideState n != stDefect) <;>
    simpa only [when_true, when_false, hset, Dev.count_eq, hside _ _ (by decide : 0x18 < 256), hside _ _ (by decide : 0x20 < 256)] using h

/-- A cause of carrier `n` stands in CAUSE. -/
theorem Dev.bit_carrierCause (hn : n < 256) (i : Nat) : bit i ((d.cause (.carrier n) i).rd (0x2500 + n) 0x12) = true := by
  have hset : bit i ((d.wr (0x2500 + n) 0x12 (setBit i (d.rd (0x2500 + n) 0x12))).rd (0x2500 + n) 0x12) = true := by
    rw [Dev.rd_wr_self, bit_setBit_self]
  unfold Dev.cause
  dsimp only [causeAt]
  split
  · rwa [Dev.rd_raise _ (by simp only [causeEvent, pairEvent]; omega) _ _ (by decide) (eventReg_carrier hn _)]
  · exact hset

/-- DEFECTS of carrier `n` with one bit made `v`. -/
theorem Dev.defect_setDefect (hn : n < 256) (b c : Nat) (v : Bool) : (d.setDefect n b v).defect n c = if c = b then v else d.defect n c := by
  have heval : ∀ y : Dev, (y.evalSide n).defect n c = y.defect n c := fun y => by
    unfold Dev.defect
    rw [Dev.rd_evalSide (by decide) (by simp [sideReg, causeReg]) (eventReg_carrier hn _)]
  have hcause : ∀ (p : Bool) (y : Dev), (when p (Dev.cause (.carrier n) (b + 1)) y).defect n c = y.defect n c := fun p y =>
    Dev.defect_eq hn (.when (Dev.moves_carrierCause hn (carrier_besideDefects n) _) y)
  unfold Dev.setDefect
  split
  · next h =>
    split
    · next hc => rw [hc, h]
    · rfl
  · rw [heval, hcause]
    split
    · next hc => rw [hc, Dev.defect_wrBit_self]
    · next hc => exact Dev.defect_wrBit_ne hc v

/-- A declaration of LOS, LOF, AIS, RDI or TFB is its cause. -/
theorem Dev.bit_setDefect_cause (hn : n < 256) {b : Nat} (hb : b < 5) (h : d.defect n b = false) :
    bit (b + 1) ((d.setDefect n b true).rd (0x2500 + n) 0x12) = true := by
  unfold Dev.setDefect
  rw [if_neg (by rw [h]; decide), show (true && decide (b < 5)) = true by simpa using hb, when_true]
  exact Dev.bit_evalSide_cause hn (Dev.bit_carrierCause hn _)

/-- Of AIS, RDI and TFB none stands any longer, and the other defects are as they were. -/
theorem Dev.defect_clearTrio (hn : n < 256) (c : Nat) :
    (d.clearTrio n).defect n c = if c = 2 ∨ c = 3 ∨ c = 4 then false else d.defect n c := by
  have hset : ∀ (x : Carrier) (y : Dev), (y.setCarrier n x).defect n c = y.defect n c := fun _ _ => rfl
  unfold Dev.clearTrio
  simp only [hset, List.foldl, Dev.defect_setDefect hn]
  by_cases hc : c = 2 ∨ c = 3 ∨ c = 4
  · rw [if_pos hc]
    rcases hc with rfl | rfl | rfl <;> rfl
  · obtain ⟨h2, h3, h4⟩ : c ≠ 2 ∧ c ≠ 3 ∧ c ≠ 4 := by omega
    simp only [h2, h3, h4, or_self, if_false]

theorem Dev.moves_clearTrio {m : Scope} (hn : n < 256) (hc : m.Carrier n) (hd : m.Defects n) (hs : m.Side n) :
    Dev.Moves m d (d.clearTrio n) :=
  (Dev.Moves.foldl [2, 3, 4] (fun b _ y => Dev.moves_setDefect hn hc hd hs b false y) d).thenCarrier hc.opened
    (fun x => { x with ais := 0, rdi := 0, tfb := 0 }) fun _ => rfl

/-- LOS, or LOF while OOF stands, is declared on a live carrier. -/
theorem Dev.declare_true {b : Nat} (hlive : d.carrierLive n = true) (hoof : b = 1 → d.defect n 5 = true) :
    d.declare n b true = (d.clearTrio n).setDefect n b true := by
  unfold Dev.declare
  rw [if_neg ?_, if_pos rfl]
  simp only [hlive, Bool.not_true, Bool.false_or, Bool.and_eq_true, decide_eq_true_eq, bne_iff_ne, ne_eq, not_and, not_not]
  exact hoof

/-- LOS, or LOF once OOF is gone, clears. -/
theorem Dev.declare_false {b : Nat} (hlive : d.carrierLive n = true) (hoof : b = 1 → d.defect n 5 = false) :
    d.declare n b false = d.setDefect n b false := by
  unfold Dev.declare
  rw [if_neg ?_, if_neg (by decide)]
  simp only [hlive, Bool.not_true, Bool.false_or, Bool.and_eq_true, decide_eq_true_eq, bne_iff_ne, ne_eq, not_and, not_not]
  exact hoof

/-- What a defect declared or cleared may change: the registers of the pair, its carrier's record where `carriers`, its sides. -/
def defectScope (n : Nat) (carriers : Bool) : Scope := { reg := pairReg n, sides := true, carriers := carriers }

theorem defects_defectScope (n : Nat) (carriers : Bool) : (defectScope n carriers).Defects n := by simp [Scope.Defects, defectScope, pairReg]

theorem side_defectScope (hn : n < 256) (carriers : Bool) : (defectScope n carriers).Side n :=
  ⟨rfl, fun i j h => by simpa [defectScope, Nat.mod_eq_of_lt hn] using pairReg_of_sideReg (by omega) h⟩

theorem carrier_defectScope (n : Nat) : (defectScope n true).Carrier n := ⟨rfl, fun _ _ => by simp [defectScope, pairReg]⟩

/-- A defect that clears is no cause, and leaves the carrier's record. -/
theorem Dev.moves_setDefect_false {m : Scope} (hd : m.Defects n) (hs : m.Side n) (b : Nat) : Dev.Moves m d (d.setDefect n b false) := by
  unfold Dev.setDefect
  exact .ite (.refl m d) ((Dev.moves_defectBit hd b false d).trans (Dev.moves_evalSide hs.reg hs.opened _))

/-- LOS (`b` 0) or LOF (`b` 1) declared where it does not stand. -/
theorem completes_declared {c : Instr} {b : Nat} {s : State} (hn : n < 256) (he : exec c s = actIf (n < 256) (Dev.declare n b true) s) (hb : b < 2)
    (hlive : s.dev.carrierLive n = true) (hoof : b = 1 → s.dev.defect n 5 = true) (hclear : s.dev.defect n b = false) :
    Completes c s fun d => d.defect n b = true ∧ d.defect n 2 = false ∧ d.defect n 3 = false ∧ d.defect n 4 = false ∧
      bit (b + 1) (d.rd (0x2500 + n) 0x12) = true ∧ s.dev.keeps (pairReg n) { d with carriers := s.dev.carriers, sides := s.dev.sides } := by
  refine completes_actIf he (by simpa using hn) ?_
  rw [Dev.declare_true hlive hoof]
  have htrio : ∀ k, k = 2 ∨ k = 3 ∨ k = 4 → (((s.dev.clearTrio n).setDefect n b true).defect n k) = false := fun k hk => by
    rw [Dev.defect_setDefect hn, if_neg (by omega), Dev.defect_clearTrio hn, if_pos hk]
  refine ⟨by rw [Dev.defect_setDefect hn, if_pos rfl], htrio 2 (by simp), htrio 3 (by simp), htrio 4 (by simp), ?_, ?_⟩
  · exact Dev.bit_setDefect_cause hn (by omega) (by rw [Dev.defect_clearTrio hn, if_neg (by omega), hclear])
  · have hc := carrier_defectScope n
    have hd := defects_defectScope n true
    have hs := side_defectScope hn true
    exact ((Dev.moves_clearTrio hn hc hd hs).trans (Dev.moves_setDefect hn hc hd hs b true _)).toShifts.keeps fun _ _ h => h

/-- LOS or LOF cleared. -/
theorem completes_declarationEnds {c : Instr} {b : Nat} {s : State} (hn : n < 256) (he : exec c s = actIf (n < 256) (Dev.declare n b false) s)
    (hlive : s.dev.carrierLive n = true) (hoof : b = 1 → s.dev.defect n 5 = false) :
    Completes c s fun d => d.defect n b = false ∧ s.dev.keeps (pairReg n) { d with sides := s.dev.sides } := by
  refine completes_actIf he (by simpa using hn) ?_
  rw [Dev.declare_false hlive hoof]
  exact ⟨by rw [Dev.defect_setDefect hn, if_pos rfl],
    (Dev.moves_setDefect_false (defects_defectScope n false) (side_defectScope hn false) b).toShifts.keeps fun _ _ h => h⟩

end Declared

/-- Settles O20: a declaration clears AIS, RDI and TFB and sets its own bit and cause, a clearing its bit; the line side's state follows. -/
theorem carrierDefectsAreDeclaredAndCleared : Obligations.CarrierDefectsAreDeclaredAndCleared := by
  unfold Obligations.CarrierDefectsAreDeclaredAndCleared
  refine ⟨fun n s hn hlive hlos => ?losDeclared, fun n s hn hlive _ => ?losCleared, fun n s hn hlive hoof hlof => ?lofDeclared,
    fun n s hn hlive hoof _ => ?lofCleared⟩
  case losDeclared => exact completes_declared hn rfl (by decide) hlive (fun h => absurd h (by decide)) hlos
  case losCleared => exact completes_declarationEnds hn rfl hlive fun h => absurd h (by decide)
  case lofDeclared => exact completes_declared hn rfl (by decide) hlive (fun _ => hoof) hlof
  case lofCleared => exact completes_declarationEnds hn rfl hlive fun _ => hoof

end Sys2Proof.Machine

namespace Sys2Proof.Machine

/-! ## The time unit beside what events touch -/

/-- Touching registers does not look at the time unit. -/
theorem Dev.Touches.withTime {p : Nat → Nat → Bool} {a b : Dev} (h : Dev.Touches p a b) (x : TimeUnit) :
    Dev.Touches p { a with time := x } { b with time := x } := by
  induction h with
  | refl => exact .refl
  | wr i j v _ hp hj hdom ih => exact ih.wr i j v hp hj hdom
  | out _ hc ih =>
    refine ih.out ?_
    rw [hc]

theorem Dev.Touches.time_eq {p : Nat → Nat → Bool} {a b : Dev} (h : Dev.Touches p a b) : b.time = a.time := by rw [h.same]

/-- What touches registers beside a time unit that was replaced keeps everything but the time unit. -/
theorem Dev.Touches.keeps_time {p : Nat → Nat → Bool} {a b : Dev} {x : TimeUnit}
    (h : Dev.Touches (fun i j => p i j || eventReg i j) { a with time := x } b) : a.keeps p { b with time := a.time } := by
  obtain ⟨hrd, hrest⟩ := h.keeps
  exact ⟨hrd, by rw [hrest]⟩

/-! ## The schedule queue (R389 to R391) -/

section Schedule

variable {d : Dev}

/-- The registers of the schedule queue, and those of events. -/
def schedReg (i j : Nat) : Bool := i = 0x7020 || eventReg i j

/-- A queue replaced: its registers follow, and E37 may be raised. -/
theorem Dev.touches_setQueue (l : List SchedEntry) (d : Dev) :
    ∃ e, Dev.Touches schedReg { d with time := { d.time with queue := l, e37 := e } } (d.setQueue l) := by
  have hw : ∀ (j v : Nat) (y : Dev), j < 256 → Dev.Touches schedReg y (y.wr 0x7020 j v) := fun j v y hj =>
    .write y _ j v (by simp [schedReg]) hj fun _ => by decide
  refine ⟨_, ((hw 1 _ _ (by decide)).trans ((hw 2 _ _ (by decide)).trans (hw 6 _ _ (by decide)))).trans (.when ?_)⟩
  exact Dev.touches_raise (fun i j h => by simp [schedReg, h]) 37 (by decide) (by decide) _

theorem mem_schedInsert (e : SchedEntry) (l : List SchedEntry) : e ∈ schedInsert e l := by
  induction l with
  | nil => simp [schedInsert]
  | cons x l ih =>
    unfold schedInsert
    split
    · simp
    · simp [ih]

/-- An owner's entries taken out: none is left in the queue or among those handed over (R390). -/
theorem Dev.touches_unschedule (p : Owner → Bool) (d : Dev) : ∃ x : TimeUnit, Dev.Touches schedReg { d with time := x } (d.unschedule p) ∧
    (x.queue ++ x.handed).all (fun e => !p e.owner) = true := by
  have hnone : ∀ l l' : List SchedEntry, (∀ e ∈ l, p e.owner = false) →
      (l ++ l'.filter (fun e => !p e.owner)).all (fun e => !p e.owner) = true := fun l l' hl => by
    simp only [List.all_append, List.all_filter, Bool.and_eq_true, List.all_eq_true]
    exact ⟨fun e he => by rw [hl e he]; rfl, fun e _ => by cases p e.owner <;> rfl⟩
  unfold Dev.unschedule
  split
  · obtain ⟨e37, hq⟩ := Dev.touches_setQueue (d.time.queue.filter (fun e => !p e.owner)) d
    refine ⟨_, hq.withTime _, ?_⟩
    rw [hq.time_eq]
    exact hnone _ _ fun e he => by simpa using (List.mem_filter.1 he).2
  · next hany =>
    exact ⟨_, .refl, hnone _ _ fun e he => by simpa using fun hp => hany (List.any_eq_true.2 ⟨e, he, hp⟩)⟩

/-- An action submitted while the time unit is ON and its queue has room: entered in the queue (R389). -/
theorem Dev.schedule_enters (o : Owner) (target : Nat) (hon : d.isOn 141 = true) (hroom : d.time.queue.length < 4096) :
    ∃ (x : TimeUnit) (z : Dev), d.schedule o target = (0, z) ∧ Dev.Touches schedReg { d with time := x } z ∧
      ⟨target, o, d.time.submitted⟩ ∈ x.queue := by
  unfold Dev.schedule
  simp only [hon, Nat.not_le.2 hroom, Bool.not_true, Bool.false_eq_true, decide_false, Bool.and_false, if_false]
  obtain ⟨e37, hq⟩ := Dev.touches_setQueue (schedInsert ⟨target, o, d.time.submitted⟩ (d.time.queue.filter (fun e => !sameOwner o e.owner)))
    { d with time := { d.time with handed := d.time.handed.filter (fun e => !sameOwner o e.owner), submitted := d.time.submitted + 1 } }
  exact ⟨_, _, rfl, hq, mem_schedInsert _ _⟩

/-- A heard write whose owner replaces the time unit, with the registers of the schedule queue, and stores a value. -/
theorem Dev.write_reschedules {eff : Eff} {i j v : Nat} {w : Wr} {z : Dev} {x : TimeUnit} (hh : d.hears i j w = true) (hj : j < 256)
    (hi : i ≠ 0x1188) (hz : Dev.Touches schedReg { d.atOwner w with time := x } z)
    (he : eff (d.roleOf w.path) w.value (d.atOwner w) = (0, z.wr i j v)) :
    (d.write eff i j w).answer.abort = 0 ∧ (d.write eff i j w).rd i j = v ∧ (d.write eff i j w).time = x ∧
      d.keeps (fun i' j' => only i j i' j' || i' = 0x7020) { d.write eff i j w with time := d.time } := by
  rw [Dev.write_accepts hh he]
  have hreg : ∀ i' j', schedReg i' j' = true → (only i j i' j' || decide (i' = 0x7020) || eventReg i' j') = true := fun i' j' h => by
    rw [Bool.or_assoc, show (decide (i' = 0x7020) || eventReg i' j') = true from h, Bool.or_true]
  have hall : Dev.Touches (fun i' j' => only i j i' j' || i' = 0x7020 || eventReg i' j') { d with time := x }
      ((z.wr i j v).respond w.path i j 0 0 0 0) :=
    ((((d.touches_atOwner w).withTime x).mono fun i' j' h => hreg i' j' (by simp [schedReg, h])).trans (hz.mono hreg)).trans
      ((Dev.Touches.write z i j v (by simp [only]) hj fun _ => hi).trans (Dev.touches_respond (fun h0 => absurd rfl h0) _ _ _ _ _ _ _))
  exact ⟨by rw [Dev.respond_answer], by rw [Dev.rd_respond_zero, Dev.rd_wr_self], hall.time_eq, hall.keeps_time⟩

end Schedule

end Sys2Proof.Machine

namespace Sys2Proof.Machine

/-! ## A carrier's derivations at its planisher (R193, R219) -/

section Derivations

variable {n : Nat} {d : Dev}

/-- The registers that follow the jobs of the planisher of pair `n`. -/
def planisherReg (n i j : Nat) : Bool := i = 0x3050 + quadOf n && (j = 1 || j = 2 || j = 6)

/-- What a job put in the planisher's queue may change. -/
def planisherScope (n : Nat) : Scope := { reg := planisherReg n, keys := true }

theorem jobs_planisherScope (n : Nat) : (planisherScope n).Jobs n :=
  ⟨rfl, fun j hj => by rcases hj with rfl | rfl | rfl <;> simp [planisherScope, planisherReg]⟩

/-- Job `j` derives a key for direction `dir` of carrier `n`. -/
def Job.derives (n dir : Nat) (j : Job) : Bool := j.code = 0x80 && j.target = n && j.ctxA = dir

/-- The derivation submitted for epoch `e` and a direction of carrier `n`, in an unreserved entry. -/
def Dev.derivation (d : Dev) (n e : Nat) (tx : Bool) : Job :=
  { code := 0x80, win := none, role := .boot, core := 0, slot := d.rd (0x2500 + n) 5, target := n, ctxA := d.direction n tx, ctxB := e, param := 0,
    data := [], dataAddr := 0, own := false, started := false, pos := 0, derived := 0, skipped := 0, stop := false, out := [] }

theorem Dev.derives_derivation (e : Nat) (tx : Bool) : (d.derivation n e tx).derives n (d.direction n tx) = true := by
  simp [Job.derives, Dev.derivation]

/-- A job put in the queue stands behind the jobs that were there. -/
theorem Dev.jobs_enqueueJob (p : Nat) (j : Job) : ((d.enqueueJob p j).pl p).jobs = (d.pl p).jobs ++ [j] := by
  have hpl : (d.enqueueJob p j).pl p = { d.pl p with queue := (d.pl p).queue ++ [j] } := Tbl.get_set_self _ _ _ _
  rw [hpl, Planisher.jobs, Planisher.jobs, List.append_assoc]

/-- An entry for a derivation while no job of the planisher holds a reserved one and the others leave room (R219). -/
theorem Dev.entryFor_unreserved {p : Nat} (hown : ∀ j ∈ (d.pl p).jobs, j.own = false)
    (hroom : (d.pl p).jobs.length + d.quota p 0 + d.quota p 1 + d.quota p 2 < 64) : d.entryFor p 3 = some false := by
  have hmine : ∀ c, (d.pl p).jobs.filter (fun j => j.own && j.claimant = c) = [] := fun c =>
    List.filter_eq_nil_iff.2 fun j hj => by simp [hown j hj]
  have hfree : (d.pl p).jobs.filter (fun j => !j.own) = (d.pl p).jobs := List.filter_eq_self.2 fun j hj => by simp [hown j hj]
  have hnone : d.quota p 3 = 0 := rfl
  unfold Dev.entryFor
  simp only [hmine, hfree, hnone, List.length_nil, Nat.zero_sub, Nat.add_zero, Nat.lt_irrefl, decide_false, Bool.false_and,
    Bool.false_eq_true, if_false]
  rw [if_pos]
  simp only [Bool.and_eq_true, decide_eq_true_eq]
  omega

/-- A derivation that is not yet under way is put in the planisher's queue. -/
theorem Dev.submitDerive_enqueues {e : Nat} {tx : Bool} (hnew : d.derivePending n (d.direction n tx) = false) (hv : d.vaultNormal = true)
    (hentry : d.entryFor (quadOf n) 3 = some false) : d.submitDerive n e tx = some (d.enqueueJob (quadOf n) (d.derivation n e tx)) := by
  unfold Dev.submitDerive
  simp only [hnew, hv, hentry, Bool.not_true, Bool.false_eq_true, if_false]
  rfl

theorem eventReg_planisher {n : Nat} (hn : n < 256) (j : Nat) : eventReg (0x3050 + quadOf n) j = false := by
  have hq : quadOf n < 4 := by unfold quadOf; omega
  simp only [eventReg, within, Bool.or_eq_false_iff, Bool.and_eq_false_iff, decide_eq_false_iff_not]
  omega

/-! What a derivation put in the queue leaves: the carrier's role, the reserved entries and the state of the vault. -/

section Planisher

variable {a b : Dev} (h : Dev.Shifts (planisherScope n) a b)
include h

theorem Dev.Shifts.rd_planisher {i j : Nat} (hj : j < 256) (hi : planisherReg n i j = false) (he : eventReg i j = false) : b.rd i j = a.rd i j :=
  h.rd hj (by simp [Scope.opens, planisherScope, hi, he])

theorem Dev.Shifts.direction_eq (hn : n < 256) (tx : Bool) : b.direction n tx = a.direction n tx := by
  unfold Dev.direction
  rw [h.rd_planisher (by decide) (by simp [planisherReg]) (eventReg_carrier hn _)]

theorem Dev.Shifts.quota_eq (hn : n < 256) {c : Nat} (hc : c < 3) : b.quota (quadOf n) c = a.quota (quadOf n) c := by
  unfold Dev.quota
  rw [h.rd_planisher (by omega) (by simp [planisherReg]; omega) (eventReg_planisher hn _)]

/-- What the claimants have reserved in all, likewise. -/
theorem Dev.Shifts.quotas_eq (hn : n < 256) : b.quota (quadOf n) 0 + b.quota (quadOf n) 1 + b.quota (quadOf n) 2 =
    a.quota (quadOf n) 0 + a.quota (quadOf n) 1 + a.quota (quadOf n) 2 := by
  rw [h.quota_eq hn (by decide), h.quota_eq hn (by decide), h.quota_eq hn (by decide)]

theorem Dev.Shifts.vaultNormal_eq : b.vaultNormal = a.vaultNormal := by
  unfold Dev.vaultNormal
  rw [h.rd_planisher (by decide) (by simp [planisherReg]; omega) (by decide)]

end Planisher

/-- A carrier's two directions differ (R169). -/
theorem Dev.direction_ne (d : Dev) (n : Nat) : d.direction n true ≠ d.direction n false := by
  unfold Dev.direction
  by_cases h : d.rd (0x2500 + n) 4 = 0 <;> simp [h]

/-- A derivation in the planisher's queue is one under way. -/
theorem Dev.derivePending_of_mem {j : Job} {dir : Nat} (hj : j ∈ (d.pl (quadOf n)).jobs) (hd : j.derives n dir = true) :
    d.derivePending n dir = true := List.any_eq_true.2 ⟨j, hj, hd⟩

/-- Both directions' derivations of carrier `n`, submitted on an idle planisher, wait in its queue. -/
theorem Dev.submitAll_both (hn : n < 256) (hv : d.vaultNormal = true) (hidle : (d.pl (quadOf n)).jobs = [])
    (hroom : d.quota (quadOf n) 0 + d.quota (quadOf n) 1 + d.quota (quadOf n) 2 < 63) (e f : Nat) :
    ∃ z, Dev.submitAll n [(e, true), (f, false)] d = some z ∧ Dev.Moves (planisherScope n) d z ∧
      z.derivePending n (d.direction n true) = true ∧ z.derivePending n (d.direction n false) = true := by
  have hfirst : d.submitDerive n e true = some (d.enqueueJob (quadOf n) (d.derivation n e true)) :=
    Dev.submitDerive_enqueues (by simp [Dev.derivePending, hidle]) hv
      (Dev.entryFor_unreserved (by simp [hidle]) (by rw [hidle, List.length_nil]; omega))
  have hmove := Dev.moves_submitDerive (jobs_planisherScope n) hfirst
  have hjobs := d.jobs_enqueueJob (quadOf n) (d.derivation n e true)
  generalize d.enqueueJob (quadOf n) (d.derivation n e true) = y at hfirst hmove hjobs
  rw [hidle, List.nil_append] at hjobs
  have hnew : y.derivePending n (y.direction n false) = false := by
    rw [hmove.direction_eq hn]
    simp [Dev.derivePending, hjobs, Dev.derivation, d.direction_ne n]
  have hsecond : y.submitDerive n f false = some (y.enqueueJob (quadOf n) (y.derivation n f false)) :=
    Dev.submitDerive_enqueues hnew (hmove.vaultNormal_eq.trans hv) (Dev.entryFor_unreserved (by simp [hjobs, Dev.derivation])
      (by have hquotas := hmove.quotas_eq hn; rw [hjobs, List.length_singleton]; omega))
  have hboth : ((y.enqueueJob (quadOf n) (y.derivation n f false)).pl (quadOf n)).jobs = [d.derivation n e true, y.derivation n f false] := by
    rw [Dev.jobs_enqueueJob, hjobs, List.singleton_append]
  refine ⟨_, by simp only [Dev.submitAll, hfirst, hsecond], hmove.trans (Dev.moves_submitDerive (jobs_planisherScope n) hsecond),
    Dev.derivePending_of_mem (by rw [hboth]; simp) (Dev.derives_derivation e true), ?_⟩
  rw [← hmove.direction_eq hn]
  exact Dev.derivePending_of_mem (by rw [hboth]; simp) (Dev.derives_derivation f false)

end Derivations

end Sys2Proof.Machine

namespace Sys2Proof.Machine

/-! ## What the owner of a carrier's objects meets -/

section Owner

variable {p : Nat → Nat → Bool} {a b : Dev}

theorem Dev.Touches.carrier_eq (h : Dev.Touches p a b) (n : Nat) : b.carrier n = a.carrier n := by rw [h.same]; rfl

theorem Dev.Touches.pl_eq (h : Dev.Touches p a b) (q : Nat) : b.pl q = a.pl q := by rw [h.same]; rfl

theorem Dev.Touches.rd_carrier {n j : Nat} (h : Dev.Touches eventReg a b) (hn : n < 256) (hj : j < 256) :
    b.rd (0x2500 + n) j = a.rd (0x2500 + n) j := h.rd hj (eventReg_carrier hn j)

end Owner

/-! ## LOAD_NEXT and SWITCH_NOW (R193, R194) -/

section Changeovers

variable {n : Nat} {w : Wr} {d : Dev}

/-- Both next keys are to be derived. -/
theorem Dev.nextKeys_both {k r : CKey} (htx : (d.carrier n).txCur = some k) (hrx : (d.carrier n).rxCur = some r)
    (htxn : (d.carrier n).txNext = none) (hrxn : (d.carrier n).rxNext = none) : d.nextKeys n = [(k.epoch + 1, true), (r.epoch + 1, false)] := by
  unfold Dev.nextKeys
  simp only [htx, hrx, htxn, hrxn]
  rfl

theorem effLoadNext_submits {k r : CKey} {z : Dev} {role : Role} {v : Nat} (htx : (d.carrier n).txCur = some k) (hrx : (d.carrier n).rxCur = some r)
    (htxn : (d.carrier n).txNext = none) (hrxn : (d.carrier n).rxNext = none) (hk : k.epoch < 0xFFFFFF) (hr : r.epoch < 0xFFFFFF)
    (hv : d.vaultNormal = true) (hsub : Dev.submitAll n [(k.epoch + 1, true), (r.epoch + 1, false)] d = some z) :
    effLoadNext n role v d = (0, z) := by
  unfold effLoadNext
  have hk1 : ¬ 0xFFFFFF < k.epoch + 1 := by omega
  have hr1 : ¬ 0xFFFFFF < r.epoch + 1 := by omega
  simp only [Dev.nextKeys_both htx hrx htxn hrxn, htx, htxn, hv, hsub, List.any_cons, List.any_nil, hk1, hr1, decide_false, Bool.or_self,
    Bool.false_eq_true, if_false, Option.isSome_none, Option.isNone_some, Bool.false_and, Bool.not_true]

theorem Dev.write_loadNext {k r : CKey} (hn : n < 256) (hh : d.hears (0x2500 + n) 0x1A w = true) (htx : (d.carrier n).txCur = some k)
    (hrx : (d.carrier n).rxCur = some r) (htxn : (d.carrier n).txNext = none) (hrxn : (d.carrier n).rxNext = none) (hk : k.epoch < 0xFFFFFF)
    (hr : r.epoch < 0xFFFFFF) (hv : d.vaultNormal = true) (hidle : (d.pl (quadOf n)).jobs = [])
    (hroom : d.quota (quadOf n) 0 + d.quota (quadOf n) 1 + d.quota (quadOf n) 2 < 63) :
    ∃ z, d.write (effLoadNext n) (0x2500 + n) 0x1A w = z.respond w.path (0x2500 + n) 0x1A 0 0 0 0 ∧ Dev.Shifts (planisherScope n) d z ∧
      z.derivePending n (d.direction n true) = true ∧ z.derivePending n (d.direction n false) = true := by
  have howner := d.touches_atOwner w
  have hshift : Dev.Shifts (planisherScope n) d (d.atOwner w) := Dev.shifts_atOwner w
  obtain ⟨z, hsub, hmove, hpt, hpf⟩ := Dev.submitAll_both hn (hshift.vaultNormal_eq.trans hv) ((congrArg _ (howner.pl_eq _)).trans hidle)
    ((hshift.quotas_eq hn).trans_lt hroom) (k.epoch + 1) (r.epoch + 1)
  rw [hshift.direction_eq hn] at hpt hpf
  rw [← howner.carrier_eq n] at htx hrx htxn hrxn
  exact ⟨z, Dev.write_accepts hh (effLoadNext_submits htx hrx htxn hrxn hk hr (hshift.vaultNormal_eq.trans hv) hsub), hshift.trans hmove.toShifts,
    hpt, hpf⟩

/-- A changeover that is allowed is requested at once. -/
theorem effSwitchNow_requests {role : Role} {v : Nat} (hrun : d.rd (0x2500 + n) 0x10 = 3) (hallowed : d.switchAllowed n = true) :
    effSwitchNow n role v d = (0, d.setCarrier n { d.carrier n with want := true }) := by
  unfold effSwitchNow Dev.requestSwitch
  simp only [hrun, hallowed, decide_true, Bool.and_self, if_true]

theorem Dev.Touches.switchAllowed_eq {a b : Dev} (h : Dev.Touches eventReg a b) (hn : n < 256) : b.switchAllowed n = a.switchAllowed n := by
  unfold Dev.switchAllowed
  rw [h.carrier_eq, h.rd_carrier hn (by decide)]

/-! ## SWITCH_AT_TIME (R194, R389, R390) -/

theorem Dev.Touches.badTarget_eq {a b : Dev} (h : Dev.Touches eventReg a b) (v : Nat) : b.badTarget v = a.badTarget v := by
  unfold Dev.badTarget Dev.compact
  rw [h.isOn_ne 141 (by decide), h.time_eq]

theorem effSwitchAtTime_enters {role : Role} {v : Nat} {z : Dev} (hv : v ≠ 0) (hok : d.badTarget v = false)
    (hsched : d.schedule (.carrier n) (compactOf v) = (0, z)) : effSwitchAtTime n role v d = (0, z.wr (0x2500 + n) 0x1C v) := by
  unfold effSwitchAtTime
  rw [if_neg hv, hok, if_neg (by decide), hsched]
  rfl

theorem effSwitchAtTime_cancels {role : Role} :
    effSwitchAtTime n role 0 d = (0, (d.unschedule (sameOwner (.carrier n))).wr (0x2500 + n) 0x1C 0) := rfl

end Changeovers

/-- Settles O23: each write comes to its owner, whose condition holds; LOAD_NEXT puts a derivation for each direction in its planisher's queue,
and SWITCH_AT_TIME replaces the carrier's entries of the schedule queue. -/
theorem carrierChangeoversAreAskedFor : Obligations.CarrierChangeoversAreAskedFor := by
  unfold Obligations.CarrierChangeoversAreAskedFor
  refine ⟨fun n w k r s hn hh htx hrx htxn hrxn hk hr hv hidle hroom => ?loadNext, fun n w s hn hh hrun hallowed => ?switchNow,
    fun n w s hn hh hv hok hon hroom => ?switchAt, fun n w s hn hh hv => ?cancel, fun n w s hn hh hoff => ?epochHigh⟩
  case loadNext =>
    refine completes_actIf (f := Dev.write (effLoadNext n) (0x2500 + n) 0x1A w) rfl (by simpa using hn) ?_
    obtain ⟨z, hz, hshift, hpt, hpf⟩ := Dev.write_loadNext hn hh htx hrx htxn hrxn hk hr hv hidle hroom
    have hpend : ∀ dir, (z.respond w.path (0x2500 + n) 0x1A 0 0 0 0).derivePending n dir = z.derivePending n dir := fun dir => by
      rw [Dev.respond_same]
      rfl
    rw [hz]
    exact ⟨by rw [Dev.respond_answer], (hpend _).trans hpt, (hpend _).trans hpf, (hshift.respond _ _ _).keeps fun _ _ h => h⟩
  case switchNow =>
    refine completes_actIf (f := Dev.write (effSwitchNow n) (0x2500 + n) 0x1B w) rfl (by simpa using hn) ?_
    have howner := s.dev.touches_atOwner w
    rw [Dev.write_accepts hh (effSwitchNow_requests ((howner.rd_carrier hn (by decide)).trans hrun) ((howner.switchAllowed_eq hn).trans hallowed))]
    refine ⟨by rw [Dev.respond_answer], ?_, ?_⟩
    · rw [Dev.respond_same]
      exact congrArg Carrier.want ((Dev.carrier_setCarrier n n _ _).trans (if_pos rfl))
    · exact (((Dev.shifts_atOwner (m := { reg := fun _ _ => false, carriers := true }) w).trans (.setCarrier _ n _ rfl)).respond _ _ _).keeps
        fun _ _ h => h
  case switchAt =>
    refine completes_actIf (f := Dev.write (effSwitchAtTime n) (0x2500 + n) 0x1C w) rfl (by simpa using hn) ?_
    have howner := s.dev.touches_atOwner w
    have htime := howner.time_eq
    obtain ⟨x, z, hsched, hz, hmem⟩ := Dev.schedule_enters (d := s.dev.atOwner w) (.carrier n) (compactOf w.value)
      ((howner.isOn_ne 141 (by decide)).trans hon) (by rwa [htime])
    obtain ⟨hans, hrd, hx, hkeeps⟩ := Dev.write_reschedules hh (by decide) (by omega) hz
      (effSwitchAtTime_enters hv ((howner.badTarget_eq _).trans hok) hsched)
    rw [htime] at hmem
    exact ⟨hans, hrd, by rwa [hx], hkeeps⟩
  case cancel =>
    refine completes_actIf (f := Dev.write (effSwitchAtTime n) (0x2500 + n) 0x1C w) rfl (by simpa using hn) ?_
    obtain ⟨x, hz, hnone⟩ := Dev.touches_unschedule (sameOwner (.carrier n)) (s.dev.atOwner w)
    obtain ⟨hans, hrd, hx, hkeeps⟩ := Dev.write_reschedules hh (by decide) (by omega) hz (by rw [hv]; exact effSwitchAtTime_cancels)
    exact ⟨hans, hrd, by rwa [hx], hkeeps⟩
  case epochHigh =>
    refine completes_actIf (f := Dev.write (effEpochHighClear n) (0x2500 + n) 0x1F w) rfl (by simpa using hn) ?_
    refine Dev.write_storesAt hh (by decide) (by omega) ?_
    unfold effEpochHighClear
    rw [(s.dev.touches_atOwner w).mode (by omega), hoff]
    rfl

end Sys2Proof.Machine

namespace Sys2Proof.Machine

/-! ## A derivation for a slot that KDF_SLOT does not name (R193, R210) -/

/-- The derivation that planisher 0 executes for carrier 0, from slot 4. -/
def derivesFromOther : Job := { aJob 0x80 none 0 4 with ctxB := 1 }

/-- Carrier 0 with its root in slot 3, which KDF_SLOT names, while a derivation for it from slot 4 ends: that slot is loaded and cached, and
its USAGE is CHANNEL. -/
def otherSlotDerives : State :=
  ⟨[], ((((((carrierPair 0).wr 0x2500 5 3).wr 0x3013 1 1).wr 0x3013 2 1).wr 0x3014 1 2).wr 0x3014 2 1).setPl 0
    { Planisher.init with exec := some derivesFromOther, cache := [(4, 5)] }⟩

/-- Refutes O22: its clause on a derivation asks that the slot named by KDF_SLOT is a root for carriers, and not that the job's slot is one. A
job whose slot has another USAGE ends without a key (R210, R224). -/
theorem not_carriersStartKeyAndRun : ¬ Obligations.CarriersStartKeyAndRun := by
  unfold Obligations.CarriersStartKeyAndRun
  rintro ⟨-, -, hkey, -⟩
  obtain ⟨hcur, -⟩ := (hkey 0 5 derivesFromOther otherSlotDerives (by decide) (by decide +kernel) rfl rfl rfl (by decide) (by decide +kernel)
    (by decide +kernel) (by decide +kernel) (by decide +kernel) (by decide +kernel)).of_act (f := Dev.carrierKeyLoaded 0) rfl
  have hnone : (((otherSlotDerives.dev.carrierKeyLoaded 0).carrier 0).txCur).isSome = false := by decide +kernel
  rw [hcur] at hnone
  cases hnone

end Sys2Proof.Machine

namespace Sys2Proof.Machine

/-! ## A SWAP that waits beside one at the wrap (R43, R355) -/

/-- Slice 0 in slot 0 with SWAP_PENDING 1, while a write of SWAP waits for its domain. -/
def swapsBesideWait : State :=
  ⟨[], { allOn.wr 0x6000 3 1 |>.wr 0x1210 1 2 with wakeWaits := [⟨0, 0x6000, 2, wOf 0x6000 2 1, false, none⟩] }⟩

/-- Refutes O38: its clause on the wrap has SWAP no longer in progress, and does not ask that no write of SWAP waits for the slice's domain,
which is one in progress as well. -/
theorem not_calendarsVisitSwapAndEdit : ¬ Obligations.CalendarsVisitSwapAndEdit := by
  unfold Obligations.CalendarsVisitSwapAndEdit
  rintro ⟨-, -, -, -, -, hwrap, -⟩
  obtain ⟨-, -, -, hpend, -⟩ := (hwrap 0 swapsBesideWait (by decide) (by decide +kernel) (by decide +kernel) (by decide +kernel)
    (by decide +kernel) (by decide +kernel)).of_act (f := Dev.ifRuns (sliceDom 0) (Dev.swapAtWrap 0)) rfl
  exact absurd hpend (by decide +kernel)

end Sys2Proof.Machine

namespace Sys2Proof.Machine

/-! ## A job for a planisher beyond the five (R219, R222) -/

/-- Window 0 with a ROOT_LOAD job whose PLANISHER reads 0x50B4. The registers of that planisher number are those of performance block 4: the
reservations of FIRM, HOST and BATCH stand at PC_SATURATED, which is clear, and the two registers after it, of which the last reserves seven
blocks of eight entries. Performance counter 0 counts accesses and is one short of its limit. -/
def submitsBeyond : State :=
  ⟨[], (((((((dapUp.wr 0x3060 1 3).wr 0x3060 2 0x50B4).wr 0x3060 3 5).wr 0x3015 1 3).wr 0x8104 1 1).wr 0x8104 0x10 0xFF0110).wr 0x8104 0x90
    (2 ^ 48 - 2)).wr 0x8104 5 0x7F⟩

/-- Refutes O24: its clause on submission does not ask that PLANISHER is below 5 for a ROOT_LOAD job. Here the access that writes JOB sets the
first bit of PC_SATURATED, which reserves the eighth block, so that no entry is left and SUBMIT is answered BUSY. -/
theorem not_jobsAreSubmittedRunAndCancelled : ¬ Obligations.JobsAreSubmittedRunAndCancelled := by
  unfold Obligations.JobsAreSubmittedRunAndCancelled
  rintro ⟨hsubmit, -⟩
  obtain ⟨habort, -⟩ := (hsubmit 3 0 0 .host submitsBeyond (by decide) (by decide) (by decide) (by decide) (by decide +kernel) (by decide +kernel)
    (by decide +kernel) (by decide +kernel) (by decide +kernel) (by decide +kernel) (by decide +kernel) (by decide +kernel)).of_act
      (f := Dev.submitAs 3 0 .host 0) rfl
  exact absurd habort (by decide +kernel)

end Sys2Proof.Machine

namespace Sys2Proof.Machine

/-! ## Keeping beside parts that were replaced first -/

section Beside

variable {p : Nat → Nat → Bool} {a a' b : Dev}

/-- `a` with what `Dev.keeps` lets change as in `x`. -/
def Dev.seen (a x : Dev) : Dev :=
  { a with dict := x.dict, answer := x.answer, now := x.now, pulses := x.pulses, bar0 := x.bar0, emits := x.emits, msix := x.msix,
           dap := x.dap, power := x.power }

/-- What keeps a block `a'` keeps the block `a` as well, where `f` puts back the parts in which the two differ. -/
theorem Dev.keeps.beside (f : Dev → Dev) (h : a'.keeps p b) (hd : a'.dict = a.dict) (hf : ∀ x, f (a'.seen x) = a.seen x) :
    a.keeps p (f b) := by
  obtain ⟨hrd, hb⟩ := h
  have hfb : f b = a.seen b := (congrArg f hb).trans (hf b)
  rw [hfb]
  exact ⟨fun i j hj hp he => (hrd i j hj hp he).trans (Dev.rd_of_dict hd i j), rfl⟩

theorem Dev.Shifts.withKeys {m : Scope} (a : Dev) (x : Keys) (hm : m.keys = true) : Dev.Shifts m a { a with keys := x } :=
  .of_rest rfl (by simp [Dev.outside, hm])

theorem Dev.Shifts.of_eventTouches {m : Scope} (h : Dev.Touches eventReg a b) : Dev.Shifts m a b := .of_touches (h.mono m.opens_eventReg)

/-- The registers between the event groups and the performance blocks are no events' (R464, R465). -/
theorem eventReg_between {i : Nat} (j : Nat) (hlo : 0x1500 ≤ i) (hhi : i < 0x8100) : eventReg i j = false := by
  simp only [eventReg, within, Bool.or_eq_false_iff, Bool.and_eq_false_iff, decide_eq_false_iff_not]
  omega

/-- Raising one of the 400 events touches the registers of events. -/
theorem Dev.touches_event {e : Nat} (he : e < 400) (hp : ∀ i j, eventReg i j = true → p i j = true) (d : Dev) :
    Dev.Touches p d (d.raise e) :=
  Dev.touches_raise hp e (hp _ _ (eventReg_group he (.inl rfl))) (hp _ _ (eventReg_group he (.inr rfl))) d

/-- Where parts that no register and no event is are replaced alike before and after, the same was touched. -/
theorem Dev.Touches.map {f : Dev → Dev} (h : Dev.Touches p a b) (hdict : ∀ d, (f d).dict = d.dict)
    (hwr : ∀ d i j v, f (d.wr i j v) = (f d).wr i j v)
    (hout : ∀ {b c : Dev}, c = { b with answer := c.answer, now := c.now, pulses := c.pulses, bar0 := c.bar0, emits := c.emits, msix := c.msix,
                                        dap := c.dap, power := { b.power with warm := c.power.warm } } →
      f c = { f b with answer := (f c).answer, now := (f c).now, pulses := (f c).pulses, bar0 := (f c).bar0, emits := (f c).emits,
                       msix := (f c).msix, dap := (f c).dap, power := { (f b).power with warm := (f c).power.warm } }) :
    Dev.Touches p (f a) (f b) := by
  induction h with
  | refl => exact .refl
  | @wr b i j v _ hp hj hdom ih =>
    rw [hwr]
    exact ih.wr i j v hp hj fun hi hj => (Dev.rd_of_dict (hdict b) _ _).trans (hdom hi hj)
  | out _ hc ih => exact ih.out (hout hc)

end Beside

end Sys2Proof.Machine

namespace Sys2Proof.Machine

/-! ## The schedule queue hands its head (R375, R391) -/

section Handing

variable {d : Dev}

/-- What a queue replaced writes: SCHED_USED, SCHED_HIGH and SCHED_NEXT, before E37 (R391). -/
theorem Dev.rd_setQueue {i j : Nat} (l : List SchedEntry) (d : Dev) (hj : j < 256) (he : eventReg i j = false) :
    ∃ high next, (d.setQueue l).rd i j = (((d.wr 0x7020 1 l.length).wr 0x7020 2 high).wr 0x7020 6 next).rd i j := by
  unfold Dev.setQueue
  extract_lets n was hit t d1 d2
  have htouch : Dev.Touches eventReg d2 (when hit (Dev.raise 37) d2) := .when (Dev.touches_event (by decide) (fun _ _ h => h) _)
  have hdict : ∃ high next, d2.dict = (((d.wr 0x7020 1 l.length).wr 0x7020 2 high).wr 0x7020 6 next).dict := ⟨_, _, rfl⟩
  obtain ⟨high, next, hdict⟩ := hdict
  exact ⟨high, next, (htouch.rd hj he).trans (Dev.rd_of_dict hdict i j)⟩

/-- SCHED_USED follows the queue (R391). -/
theorem Dev.rd_setQueue_used (l : List SchedEntry) (d : Dev) : (d.setQueue l).rd 0x7020 1 = l.length := by
  obtain ⟨_, _, h⟩ := Dev.rd_setQueue (i := 0x7020) (j := 1) l d (by decide) (by decide)
  rw [h, Dev.rd_wr_ne _ _ (by decide), Dev.rd_wr_ne _ _ (by decide), Dev.rd_wr_self]

/-- SCHED_FIRED does not follow the queue. -/
theorem Dev.rd_setQueue_fired (l : List SchedEntry) (d : Dev) : (d.setQueue l).rd 0x7020 3 = d.rd 0x7020 3 := by
  obtain ⟨_, _, h⟩ := Dev.rd_setQueue (i := 0x7020) (j := 3) l d (by decide) (by decide)
  rw [h, Dev.rd_wr_ne _ _ (by decide), Dev.rd_wr_ne _ _ (by decide), Dev.rd_wr_ne _ _ (by decide)]

/-- SCHED_FIRED counted, and where `late` SCHED_LATE with E38 (R391). -/
def Dev.noteFired (late : Bool) (d : Dev) : Dev :=
  when late (fun y => (y.count 64 0x7020 4 1).raise 38) (d.count 64 0x7020 3 1)

/-- SCHED_LATE counted with E38 touches no other register of the schedule queue. -/
theorem Dev.touches_late (late : Bool) (d : Dev) :
    Dev.Touches (fun i j => only 0x7020 4 i j || eventReg i j) d (when late (fun y => (y.count 64 0x7020 4 1).raise 38) d) :=
  .when ((Dev.Touches.write d _ _ _ (by decide) (by decide) (by decide)).trans (Dev.touches_event (e := 38) (by decide) (fun i j h => by simp [h]) _))

theorem Dev.touches_noteFired (late : Bool) (d : Dev) : Dev.Touches schedReg d (d.noteFired late) := by
  refine (Dev.Touches.write d 0x7020 3 _ (by decide) (by decide) (by decide)).trans ((Dev.touches_late late _).mono fun i j h => ?_)
  simp only [schedReg, only, Bool.or_eq_true, Bool.and_eq_true, decide_eq_true_eq] at h ⊢
  exact h.imp (fun h4 => h4.1) id

theorem Dev.rd_noteFired_used (late : Bool) (d : Dev) : (d.noteFired late).rd 0x7020 1 = d.rd 0x7020 1 :=
  ((Dev.touches_late late _).rd (by decide) (by decide)).trans (Dev.rd_wr_ne _ _ (by decide))

theorem Dev.rd_noteFired_fired (late : Bool) (d : Dev) : (d.noteFired late).rd 0x7020 3 = satAdd 64 (d.rd 0x7020 3) 1 :=
  ((Dev.touches_late late _).rd (by decide) (by decide)).trans (Dev.rd_wr_self ..)

/-- Entry `e` added to those handed to their blocks. -/
def Dev.withHanded (e : SchedEntry) (d : Dev) : Dev := { d with time := { d.time with handed := d.time.handed ++ [e] } }

/-- The head of the queue is handed to its block where its target is reached or lies within 1 s. -/
theorem Dev.scheduleFire_eq {e : SchedEntry} {rest : List SchedEntry} (hrun : d.timeRuns = true) (hq : d.time.queue = e :: rest)
    (hnear : reached d.compact e.target = true ∨ (e.target + 2 ^ 64 - d.compact) % 2 ^ 64 ≤ 1000000000) :
    ∃ late, d.scheduleFire = ((d.withHanded e).setQueue rest).noteFired late := by
  have hgo : (!d.timeRuns || (!reached d.compact e.target && decide (1000000000 < (e.target + 2 ^ 64 - d.compact) % 2 ^ 64))) = false := by
    rcases hnear with h | h
    · simp [hrun, h]
    · simpa [hrun] using fun _ => h
  unfold Dev.scheduleFire
  rw [hq]
  dsimp only
  rw [hgo, if_neg (by decide)]
  exact ⟨_, rfl⟩

theorem Dev.scheduleFire_hands {e : SchedEntry} {rest : List SchedEntry} (hrun : d.timeRuns = true) (hq : d.time.queue = e :: rest)
    (hnear : reached d.compact e.target = true ∨ (e.target + 2 ^ 64 - d.compact) % 2 ^ 64 ≤ 1000000000) :
    ∃ x : TimeUnit, Dev.Touches schedReg { d with time := x } d.scheduleFire ∧ x.queue = rest ∧ x.handed = d.time.handed ++ [e] ∧
      d.scheduleFire.rd 0x7020 1 = rest.length ∧ d.scheduleFire.rd 0x7020 3 = satAdd 64 (d.rd 0x7020 3) 1 := by
  obtain ⟨late, hfire⟩ := Dev.scheduleFire_eq hrun hq hnear
  obtain ⟨e37, hqueue⟩ := Dev.touches_setQueue rest (d.withHanded e)
  refine ⟨{ (d.withHanded e).time with queue := rest, e37 := e37 }, ?_, rfl, rfl, ?_, ?_⟩
  · rw [hfire]
    exact hqueue.trans (Dev.touches_noteFired late _)
  · rw [hfire, Dev.rd_noteFired_used, Dev.rd_setQueue_used]
  · rw [hfire, Dev.rd_noteFired_fired, Dev.rd_setQueue_fired]
    rfl

end Handing

/-! ## A handed action fires (R375, R376) -/

section Firing

variable {a b d : Dev} {t : Nat}

/-- Whether a handed action is due does not follow events: its quadrant's time and clock are no event's. -/
theorem Dev.Touches.due_eq (h : Dev.Touches eventReg a b) (q t : Nat) (e : SchedEntry) : b.due q t e = a.due q t e := by
  have hon : b.isOn (bufDom q) = a.isOn (bufDom q) := h.isOn_ne _ (eventReg_powerState (by unfold bufDom; omega))
  have hclock : b.clocked q = a.clocked q := by
    unfold Dev.clocked
    by_cases hq : 4 ≤ q
    · simp [hq]
    · rw [h.rd (by decide) (by simp [eventReg, within]; omega)]
  have hpll : bufDom q / 34 = q := by unfold bufDom; omega
  have hfollow : b.follower = a.follower := by unfold Dev.follower; rw [h.time_eq]
  simp only [Dev.due, Dev.runs, Dev.quadTime, hon, hpll, hclock, hfollow]

/-- The block as CCLK cycle `t` comes, without the handed action `e`. -/
def Dev.withoutHanded (e : SchedEntry) (d : Dev) : Dev := { d with time := { d.time with handed := d.time.handed.erase e } }

/-- The first handed action that is due leaves the list, and its owner takes it. -/
theorem Dev.scheduledAction_fires {e : SchedEntry} (h : firstOf (fun e => d.due e.owner.quad t e) d.time.handed = some e) :
    ∃ y, Dev.Touches eventReg d y ∧ y.now = t ∧ (d.at t).scheduledAction t = (y.withoutHanded e).fireOwner e.owner t := by
  have hat : Dev.Touches eventReg d (d.at t) := Dev.touches_at (fun _ _ h => h) t d
  refine ⟨d.at t, hat, rfl, ?_⟩
  have hfirst : firstOf (fun e => (d.at t).due e.owner.quad t e) (d.at t).time.handed = some e := by
    simpa only [hat.due_eq, hat.time_eq] using h
  unfold Dev.scheduledAction
  rw [hfirst]
  rfl

theorem Dev.Touches.withoutHanded (h : Dev.Touches eventReg a b) (e : SchedEntry) :
    Dev.Touches eventReg (a.withoutHanded e) (b.withoutHanded e) := by
  unfold Dev.withoutHanded
  rw [h.time_eq]
  exact h.withTime _

/-- What a cause of carrier `n` may change among the registers is CAUSE. -/
theorem Dev.touches_carrierCause {n : Nat} (hn : n < 256) (i : Nat) (d : Dev) :
    Dev.Touches (fun x y => only (0x2500 + n) 0x12 x y || eventReg x y) d (d.cause (.carrier n) i) := by
  have he : causeEvent (.carrier n) i < 400 := by simp only [causeEvent, pairEvent]; omega
  refine Dev.touches_cause (fun _ _ h => by simp [h]) _ i (by simp [causeAt, only]) (by simp [causeAt]) (by simp [causeAt]) ?_ ?_ d
  · simp [eventReg_group he (.inl rfl)]
  · simp [eventReg_group he (.inr rfl)]

/-- A carrier asked to change over wants it; CAUSE may change besides (R194). -/
theorem Dev.touches_requestSwitch {n : Nat} (hn : n < 256) (d : Dev) :
    Dev.Touches (fun x y => only (0x2500 + n) 0x12 x y || eventReg x y) (d.setCarrier n { d.carrier n with want := true }) (d.requestSwitch n) :=
  .ite .refl (Dev.touches_carrierCause hn 12 _)

end Firing

/-! ## A gate list takes over (R333, R334) -/

section Takeover

variable {a b d : Dev} {g t : Nat}

/-- The registers of the gates of side `g`, CAUSE of the buffer block of its quadrant, and those of events. -/
def gateReg (g i j : Nat) : Bool := (i = 0x5800 + g || only (0x5000 + 64 * quadOf (g % 256)) 0xC3 i j) || eventReg i j

theorem gateReg_eventReg (g i j : Nat) (h : eventReg i j = true) : gateReg g i j = true := by simp [gateReg, h]

theorem Dev.Touches.withGates {p : Nat → Nat → Bool} (h : Dev.Touches p a b) (x : Tbl Gate) :
    Dev.Touches p { a with gates := x } { b with gates := x } :=
  h.map (f := fun z => { z with gates := x }) (fun _ => rfl) (fun _ _ _ _ => rfl) fun hc => by rw [hc]

theorem Dev.Touches.gate_eq {p : Nat → Nat → Bool} (h : Dev.Touches p a b) (s : Nat) : b.gate s = a.gate s := by rw [h.same]; rfl

theorem Dev.gate_setGate (s : Nat) (x : Gate) (d : Dev) : (d.setGate s x).gate s = x := Tbl.get_set_self _ _ _ _

theorem Dev.touches_gateWrite (j v : Nat) (hj : j < 256) (d : Dev) : Dev.Touches (gateReg g) d (d.wr (0x5800 + g) j v) :=
  .write d _ j v (by simp [gateReg]) hj (by omega)

/-- A cause 18 or 19 of the buffer block of the side's quadrant. -/
theorem Dev.touches_gateCause {i : Nat} (hi : 16 ≤ i) (d : Dev) :
    Dev.Touches (gateReg g) d (d.cause (.buffer (quadOf (g % 256))) i) := by
  have he : causeEvent (.buffer (quadOf (g % 256))) i < 400 := by
    simp only [causeEvent, quadEvent, quadOf, Nat.not_lt.2 hi, if_false]; omega
  exact Dev.touches_cause (gateReg_eventReg g) _ i (by simp [causeAt, gateReg, only]) (by simp [causeAt]) (by simp [causeAt])
    (gateReg_eventReg g _ _ (eventReg_group he (.inl rfl))) (gateReg_eventReg g _ _ (eventReg_group he (.inr rfl))) d

/-- The gates made to follow their list: their states change, and OVERRUN may be counted with its cause (R331, R335). -/
theorem Dev.touches_gateSync (g t : Nat) (d : Dev) :
    ∃ st, Dev.Touches (gateReg g) (d.setGate g { d.gate g with now := st }) (d.gateSync g t) := by
  refine ⟨(d.gateView g (d.quadTime (quadOf (g % 256)) t)).2, ?_⟩
  unfold Dev.gateSync
  simp only
  split
  · exact .ite ((Dev.touches_gateWrite _ _ (by decide) _).trans (Dev.touches_gateCause (by decide) _)) .refl
  · exact .refl

/-- The registers of the operational list of side `g` written, in place of those of a submitted one (R331, R333). -/
def Dev.showOper (g : Nat) (l : GateList) (k : Nat) (d : Dev) : Dev :=
  (List.range 8).foldl (fun x c => x.wr (0x5800 + g) (0x20 + c) (l.longest c))
    ((((((d.wr (0x5800 + g) 0xB l.entries.length).wr (0x5800 + g) 0xC l.cycle).wr (0x5800 + g) 0xD l.ext).wr (0x5800 + g) 0xE
      (time96Of (l.base * 2 ^ 32))).wr (0x5800 + g) 0xF (time96Of (k * 2 ^ 32))).wr (0x5800 + g) 9 0)

theorem Dev.touches_showOper (l : GateList) (k : Nat) (d : Dev) : Dev.Touches (gateReg g) d (d.showOper g l k) :=
  .trans ((((((Dev.touches_gateWrite _ _ (by decide) _).trans (Dev.touches_gateWrite _ _ (by decide) _)).trans
    (Dev.touches_gateWrite _ _ (by decide) _)).trans (Dev.touches_gateWrite _ _ (by decide) _)).trans
    (Dev.touches_gateWrite _ _ (by decide) _)).trans (Dev.touches_gateWrite _ _ (by decide) _))
    (.foldl _ _ (fun c hc y => Dev.touches_gateWrite _ _ (by simp only [List.mem_range] at hc; omega) y) _)

theorem Dev.takeover_eq {l : GateList} {k : Nat} (hsub : (d.gate g).submitted = some (l, k)) :
    d.takeover g t = (((d.setGate g { d.gate g with submitted := none, oper := some l }).showOper g l k).cause
      (.buffer (quadOf (g % 256))) 18).gateSync g t := by
  unfold Dev.takeover
  dsimp only
  rw [hsub]
  rfl

/-- The submitted list becomes operational; the registers of the side's gates follow. -/
theorem Dev.touches_takeover {l : GateList} {k : Nat} (hsub : (d.gate g).submitted = some (l, k)) :
    ∃ (x : Tbl Gate) (st : Nat), Dev.Touches (gateReg g) { d with gates := x } (d.takeover g t) ∧
      Tbl.get (fun _ => Gate.init) x g = ⟨none, some l, st⟩ := by
  rw [Dev.takeover_eq hsub]
  have hcause := (Dev.touches_showOper l k (d.setGate g { d.gate g with submitted := none, oper := some l })).trans
    (Dev.touches_gateCause (g := g) (i := 18) (by decide) _)
  have hgate := (hcause.gate_eq g).trans (Dev.gate_setGate g _ d)
  obtain ⟨st, hsync⟩ := Dev.touches_gateSync g t (((d.setGate g { d.gate g with submitted := none, oper := some l }).showOper g l k).cause
    (.buffer (quadOf (g % 256))) 18)
  rw [hgate] at hsync
  exact ⟨_, st, (hcause.withGates _).trans hsync, Tbl.get_set_self _ _ _ _⟩

end Takeover

section Owners

variable {e : SchedEntry} {t : Nat}

/-- The first handed action that is due leaves the list, and its owner takes it in a block that is otherwise as it was, but for events. -/
theorem completes_scheduledAction {s : State} {P : Dev → Prop} (h : firstOf (fun e => s.dev.due e.owner.quad t e) s.dev.time.handed = some e)
    (hP : ∀ y, Dev.Touches eventReg (s.dev.withoutHanded e) y → y.now = t → P (y.fireOwner e.owner t)) :
    Completes (.scheduledAction t) s P := by
  refine completes_act (f := fun d => (d.at t).scheduledAction t) rfl ?_
  obtain ⟨y, hy, hnow, hfire⟩ := Dev.scheduledAction_fires h
  rw [hfire]
  exact hP _ (hy.withoutHanded e) hnow

/-- A trigger of a scheduled changeover stands last at the changeover port of its quadrant (R241, R245). -/
theorem Dev.trigger_getLast (c an n : Nat) (d : Dev) :
    (Tbl.get (fun _ => []) (d.trigger ⟨true, c, an, n⟩).keys.triggers (c / 8192)).getLast? = some ⟨true, c, an, n⟩ := by
  simp [Dev.trigger, Tbl.get_set_self]

end Owners

/-- Settles O41, by the entry that leaves the queue or the list of those handed, and what its owner then does. -/
theorem scheduledActionsAreHandedAndFire : Obligations.ScheduledActionsAreHandedAndFire := by
  unfold Obligations.ScheduledActionsAreHandedAndFire
  refine ⟨fun e rest s hrun hq hnear => ?_, fun t c an x m s hfirst => completes_scheduledAction hfirst fun y hy hnow => ?_,
    fun t n x m s hn hfirst => completes_scheduledAction hfirst fun y hy _ => ?_,
    fun t g x k m l s hfirst hsub => completes_scheduledAction hfirst fun y hy _ => ?_⟩
  · refine completes_act (f := Dev.scheduleFire) rfl ?_
    obtain ⟨x, htouch, hqueue, hhanded, hused, hfired⟩ := Dev.scheduleFire_hands hrun hq hnear
    refine ⟨?_, ?_, hused, hfired, htouch.keeps_time⟩
    · rw [htouch.time_eq, hqueue]
    · rw [htouch.time_eq, hhanded]
  · have hkeys : Dev.Shifts { reg := fun _ _ => false, keys := true } (s.dev.withoutHanded ⟨x, .channel c an, m⟩)
        (y.trigger ⟨true, c, an, y.now⟩) := (Dev.Shifts.of_eventTouches hy).trans (Dev.Shifts.withKeys _ _ rfl)
    refine ⟨congrArg TimeUnit.handed hy.time_eq, ?_,
      (hkeys.keeps fun _ _ h => h).beside (fun z => { z with time := s.dev.time }) rfl fun _ => rfl⟩
    subst hnow
    exact Dev.trigger_getLast ..
  · have hwant := Dev.touches_requestSwitch hn y
    have hshift : Dev.Shifts { reg := only (0x2500 + n) 0x12, carriers := true } (s.dev.withoutHanded ⟨x, .carrier n, m⟩) (y.requestSwitch n) :=
      ((Dev.Shifts.of_eventTouches hy).trans (.setCarrier _ n _ rfl)).trans (.of_touches hwant)
    refine ⟨congrArg TimeUnit.handed (hwant.time_eq.trans hy.time_eq), ?_,
      (hshift.keeps fun _ _ h => h).beside (fun z => { z with time := s.dev.time }) rfl fun _ => rfl⟩
    have hcarrier := (hwant.carrier_eq n).trans (Dev.carrier_setCarrier n n _ y)
    rw [if_pos rfl] at hcarrier
    exact congrArg Carrier.want hcarrier
  · obtain ⟨z, st, htake, hget⟩ := Dev.touches_takeover (t := t) ((congrArg Gate.submitted (hy.gate_eq g)).trans hsub)
    have hkeep : Dev.Touches (gateReg g) { s.dev.withoutHanded ⟨x, .gate g, m⟩ with gates := z } (y.takeover g t) :=
      ((hy.withGates z).mono (gateReg_eventReg g)).trans htake
    have hgate : (y.takeover g t).gate g = ⟨none, some l, st⟩ := (htake.gate_eq g).trans hget
    exact ⟨congrArg TimeUnit.handed hkeep.time_eq, congrArg Gate.oper hgate, congrArg Gate.submitted hgate,
      hkeep.keeps.beside (fun z => { z with time := s.dev.time, gates := s.dev.gates }) rfl fun _ => rfl⟩

end Sys2Proof.Machine

namespace Sys2Proof.Machine

/-! ## SA entries and notifications (R230, R231, R234) -/

section SaEntries

variable {p : Nat → Nat → Bool} {a b d : Dev} {q s : Nat} {m : Scope}

theorem Dev.Touches.withKeys (h : Dev.Touches p a b) (x : Keys) : Dev.Touches p { a with keys := x } { b with keys := x } :=
  h.map (f := fun z => { z with keys := x }) (fun _ => rfl) (fun _ _ _ _ => rfl) fun hc => by rw [hc]

theorem Dev.Touches.keys_eq (h : Dev.Touches p a b) : b.keys = a.keys := by rw [h.same]

theorem Dev.sa_of_keys (h : b.keys = a.keys) (s : Nat) : b.sa s = a.sa s := by unfold Dev.sa; rw [h]

theorem Dev.Touches.sa_eq (h : Dev.Touches p a b) (s : Nat) : b.sa s = a.sa s := Dev.sa_of_keys h.keys_eq s

theorem Dev.Touches.chan_eq (h : Dev.Touches p a b) (c : Nat) : b.chan c = a.chan c := by rw [h.same]; rfl

/-- An SA that does not read ZEROISED is in a quadrant that is not. -/
theorem Dev.not_zeroed_of_state (h : (d.sa s).state ≠ saZeroised) : d.keys.zeroed.contains (s / 16384) = false := by
  by_contra hz
  rw [Bool.not_eq_false] at hz
  exact h (by simp only [Dev.sa, hz, if_true])

/-- An SA in one of states `l`, ZEROISED not among them, is in a quadrant that is not zeroised. -/
theorem Dev.not_zeroed_of_among {l : List Nat} (h : l.contains (d.sa s).state = true) (hl : l.contains saZeroised = false) :
    d.keys.zeroed.contains (s / 16384) = false :=
  Dev.not_zeroed_of_state fun he => by
    rw [he, hl] at h
    cases h

/-- An SA of a quadrant that is not zeroised reads as it was written. -/
theorem Dev.sa_setSa (hz : d.keys.zeroed.contains (s / 16384) = false) (x : Sa) : (d.setSa s x).sa s = x := by
  simp only [Dev.sa, Dev.setSa, hz, Tbl.get_set_self]
  rfl

theorem Dev.sa_setSa_ne {s s' : Nat} (hs : s ≠ s') (x : Sa) (d : Dev) : (d.setSa s' x).sa s = d.sa s := by
  simp only [Dev.sa, Dev.setSa, Tbl.get_set_ne _ _ _ hs]

theorem Dev.Shifts.setSa (d : Dev) (s : Nat) (x : Sa) (hm : m.keys = true) : Dev.Shifts m d (d.setSa s x) := .withKeys d _ hm

/-- NOTE_COUNT and NOTES_LOST of quadrant `q`, and the registers of events. -/
def noteReg (q i j : Nat) : Bool := (i = 0x3110 + q && (j = 4 || j = 5)) || eventReg i j

theorem noteReg_eventReg (q i j : Nat) (h : eventReg i j = true) : noteReg q i j = true := by simp [noteReg, h]

/-- The block with other notification queues and pending automatic changes. -/
def Dev.withAlerts (n : Tbl (List Nat)) (u : Tbl (Nat × Bool)) (d : Dev) : Dev := { d with keys := { d.keys with notes := n, auto := u } }

/-- The queue of quadrant `q` replaced, NOTE_COUNT following. -/
theorem Dev.touches_setNotes (q : Nat) (l : List Nat) (d : Dev) :
    Dev.Touches (noteReg q) (d.withAlerts (Tbl.set (fun _ => []) d.keys.notes q l) d.keys.auto) (d.setNotes q l) :=
  .write _ (0x3110 + q) 4 _ (by simp [noteReg]) (by decide) (by simp)

/-- A notification changes the queue of its quadrant, NOTE_COUNT, NOTES_LOST and events, nothing else. -/
theorem Dev.touches_note (hq : q < 4) (k i an c : Nat) (d : Dev) :
    ∃ n, Dev.Touches (noteReg q) (d.withAlerts n d.keys.auto) (d.note q k i an c) := by
  have hraise : ∀ y : Dev, Dev.Touches (noteReg q) y (y.raise (quadEvent q 1)) :=
    Dev.touches_event (by simp only [quadEvent]; omega) (noteReg_eventReg q)
  unfold Dev.note
  simp only
  split
  · exact ⟨d.keys.notes, (Dev.Touches.write d (0x3110 + q) 5 _ (by simp [noteReg]) (by decide) (by simp)).trans (hraise _)⟩
  · exact ⟨_, (Dev.touches_setNotes q _ d).trans (.when (hraise _))⟩

/-- PN_THRESHOLD of an SA does nothing, or marks the SA and notifies, and may have an automatic change wait (R238, R244). -/
theorem Dev.threshold_cases (hs : s < 65536) (holds : Bool) (d : Dev) : d.threshold s holds = d ∨
    ∃ n u, Dev.Touches (noteReg (s / 16384)) ((d.setSa s { d.sa s with thHit := true }).withAlerts n u) (d.threshold s holds) := by
  unfold Dev.threshold
  simp only
  split
  · refine .inr ?_
    obtain ⟨n, hn⟩ := Dev.touches_note (q := s / 16384) (by omega) 1 (s % 16384) (d.sa s).an (s / 16384 * 8192 + (d.sa s).channel)
      (d.setSa s { d.sa s with thHit := true })
    split
    · rw [hn.keys_eq]
      exact ⟨n, _, hn.withKeys _⟩
    · exact ⟨n, _, hn⟩
  · exact .inl rfl

/-- What PN_THRESHOLD keeps of an SA of a quadrant that is not zeroised. -/
theorem Dev.sa_threshold (hs : s < 65536) (hz : d.keys.zeroed.contains (s / 16384) = false) (holds : Bool) :
    ∃ hit, (d.threshold s holds).sa s = { d.sa s with thHit := hit } := by
  rcases Dev.threshold_cases hs holds d with h | ⟨n, u, h⟩
  · exact ⟨_, by rw [h]⟩
  · exact ⟨true, (h.sa_eq s).trans (Dev.sa_setSa hz _)⟩

theorem Dev.Shifts.threshold (hs : s < 65536) (holds : Bool) (d : Dev) (hm : m.keys = true)
    (hreg : ∀ i j, noteReg (s / 16384) i j = true → m.opens i j = true) : Dev.Shifts m d (d.threshold s holds) := by
  rcases Dev.threshold_cases hs holds d with h | ⟨n, u, h⟩
  · rw [h]
    exact .refl m d
  · exact (Dev.Shifts.withKeys d _ hm).trans (.of_touches (h.mono hreg))

end SaEntries

/-! ## SA-store operations (R232, R233) -/

section SaStore

variable {d y z : Dev} {win code s v0 v1 v2 v3 v4 : Nat} {p : Path} {m : Scope}

/-- The SA that SA-store window `win` names. -/
def Dev.saNamed (d : Dev) (win : Nat) : Nat := win / 4 * 16384 + d.rd (0x3100 + win) 2

/-- The registers of an SA-store window are no registers of events. -/
theorem eventReg_saWindow (hwin : win < 16) (j : Nat) : eventReg (0x3100 + win) j = false := eventReg_between j (by omega) (by omega)

theorem Dev.saOp_configure (hrange : configRangeOk v0 v1 v2 v3 = true) (hv : d.vaultNormal = true) (he : (d.sa s).state = saEmpty) :
    d.saOp win 2 s v0 v1 v2 v3 v4 = (0, d.setSa s (configured v0 v1 v2 v3 v4)) := by
  simp [Dev.saOp, hrange, hv, he]

theorem Dev.saOp_setThreshold (h : (d.sa s).state ≠ saZeroised) :
    d.saOp win 3 s v0 v1 v2 v3 v4 = (0, d.setSa s { d.sa s with thresh := v3, thHit := (d.sa s).thHit && !d.saLevel2 s }) := by
  simp only [Dev.saOp, h, if_false]

theorem Dev.saOp_setPn_tx (hrx : (d.sa s).rx = false) (hr : (d.sa s).state = saReady) :
    d.saOp win 4 s v0 v1 v2 v3 v4 = (0, d.setSa s { d.sa s with nextPn := v1 }) := by
  simp [Dev.saOp, hrx, hr]

/-- The RX SA whose L and N are raised to what they must at least be for lowest PN `v`. -/
def Sa.raised (x : Sa) (v : Nat) : Sa := { x with lowPn := max x.lowPn v, nextPn := max x.nextPn (max x.lowPn v) }

theorem Dev.saOp_setPn_rx (hrx : (d.sa s).rx = true) (hr : [saReady, saActive, saRetiring].contains (d.sa s).state = true) :
    ∃ ask holds, d.saOp win 4 s v0 v1 v2 v3 v4 = (0, when ask (Dev.threshold s holds) (d.setSa s ((d.sa s).raised v2))) := by
  have hstate : ((decide ((d.sa s).state = saReady) || decide ((d.sa s).state = saActive)) || decide ((d.sa s).state = saRetiring)) = true := by
    simpa [or_assoc] using hr
  refine ⟨(d.sa s).nextPn < ((d.sa s).raised v2).nextPn, (d.sa s).thresh < ((d.sa s).raised v2).nextPn, ?_⟩
  simp only [Dev.saOp, Sa.raised, hrx, hstate, if_true]

theorem Dev.saOp_erase (hr : [saEmpty, saReady, saRetiring, saExhausted].contains (d.sa s).state = true) :
    d.saOp win 5 s v0 v1 v2 v3 v4 = (0, (d.eccClear (Machine.slotKey 16 s)).setSa s Sa.init) := by
  have hstate : (((decide ((d.sa s).state = saEmpty) || decide ((d.sa s).state = saReady)) || decide ((d.sa s).state = saRetiring)) ||
      decide ((d.sa s).state = saExhausted)) = true := by
    simpa [or_assoc] using hr
  simp only [Dev.saOp, hstate, if_true]

/-- STATUS of the window set to RESULT OK, and the write of its CMD answered. -/
def Dev.saDone (win : Nat) (p : Path) (z : Dev) : Dev := (z.wr (0x3100 + win) 8 0).respond p (0x3100 + win) 1 0 0 0 0

/-- What the end of an SA-store operation changes. -/
theorem Dev.touches_saDone (win : Nat) (p : Path) (z : Dev) :
    Dev.Touches (fun i j => only (0x3100 + win) 8 i j || eventReg i j) z (z.saDone win p) :=
  (Dev.Touches.write z (0x3100 + win) 8 0 (by simp [only]) (by decide) (by simp)).trans
    (Dev.touches_respond (fun h => absurd rfl h) _ _ _ _ _ _ _)

theorem Dev.saDone_answer (win : Nat) (p : Path) (z : Dev) : (z.saDone win p).answer.abort = 0 := by rw [Dev.saDone, Dev.respond_answer]

theorem Dev.saDone_result (win : Nat) (p : Path) (z : Dev) : (z.saDone win p).rd (0x3100 + win) 8 = 0 := by
  rw [Dev.saDone, Dev.rd_respond_zero, Dev.rd_wr_self]

theorem Dev.rd_saDone {j : Nat} (hj : j ≠ 8) (z : Dev) : (z.saDone win p).rd (0x3100 + win) j = z.rd (0x3100 + win) j := by
  rw [Dev.saDone, Dev.rd_respond_zero, Dev.rd_wr_ne _ _ (by simp [hj])]

/-- A CMD of a code that the window has, with an index of its quadrant, runs the operation on the SA named. -/
theorem effSaCmd_runs (hcode : 1 ≤ code ∧ code ≤ 5) (hi : d.rd (0x3100 + win) 2 ≤ 16383) (r : Role) :
    effSaCmd win r code d = (0, ((d.saOp win code (d.saNamed win) (d.rd (0x3100 + win) 3) (d.rd (0x3100 + win) 4) (d.rd (0x3100 + win) 5)
        (d.rd (0x3100 + win) 6) (d.rd (0x3100 + win) 7)).2).wr (0x3100 + win) 8 ((d.saOp win code (d.saNamed win) (d.rd (0x3100 + win) 3)
        (d.rd (0x3100 + win) 4) (d.rd (0x3100 + win) 5) (d.rd (0x3100 + win) 6) (d.rd (0x3100 + win) 7)).1 * 256)) := by
  have h0 : (decide (code = 0) || decide (5 < code)) = false := by simp; omega
  simp only [effSaCmd, h0, Nat.not_lt.2 hi, if_false, Bool.false_eq_true]
  rfl

/-- An SA-store operation that ends with RESULT OK: the command completes with the block after it, STATUS and the answer. -/
theorem completes_saCmd {c : Instr} {s : State} {P : Dev → Prop}
    (he : exec c s = actIf (win < 16) (Dev.write (effSaCmd win) (0x3100 + win) 1 (cmdWr p code)) s) (hwin : win < 16)
    (hh : s.dev.hears (0x3100 + win) 1 (cmdWr p code) = true) (hcode : 1 ≤ code ∧ code ≤ 5) (hi : s.dev.rd (0x3100 + win) 2 ≤ 16383)
    (hop : ∀ y, Dev.Touches eventReg s.dev y → ∃ z, y.saOp win code (s.dev.saNamed win) (s.dev.rd (0x3100 + win) 3)
      (s.dev.rd (0x3100 + win) 4) (s.dev.rd (0x3100 + win) 5) (s.dev.rd (0x3100 + win) 6) (s.dev.rd (0x3100 + win) 7) = (0, z) ∧
      P (z.saDone win p)) : Completes c s P := by
  refine completes_actIf he (by simpa using hwin) ?_
  have hy := s.dev.touches_atOwner (cmdWr p code)
  have hrd : ∀ j, j < 256 → (s.dev.atOwner (cmdWr p code)).rd (0x3100 + win) j = s.dev.rd (0x3100 + win) j := fun j hj =>
    hy.rd hj (eventReg_saWindow hwin j)
  obtain ⟨z, hz, hP⟩ := hop _ hy
  have heff := effSaCmd_runs hcode ((hrd 2 (by decide)).trans_le hi) (s.dev.roleOf p)
  simp only [Dev.saNamed, hrd 2 (by decide), hrd 3 (by decide), hrd 4 (by decide), hrd 5 (by decide), hrd 6 (by decide), hrd 7 (by decide)]
    at heff hz
  rw [hz, Nat.zero_mul] at heff
  have hw : s.dev.write (effSaCmd win) (0x3100 + win) 1 (cmdWr p code) = z.saDone win p := Dev.write_accepts hh heff
  rw [hw]
  exact hP

/-- The fields of one register after one another: each field written reads as written. -/
theorem Dev.rd_foldl_wr {i j k n : Nat} (hk : k < n) (g : Nat → Nat) (d : Dev) :
    ((List.range n).foldl (fun y k => y.wr i (j + k) (g k)) d).rd i (j + k) = g k := by
  induction n with
  | zero => exact absurd hk (by omega)
  | succ n ih =>
    rw [List.range_succ, List.foldl_append, List.foldl_cons, List.foldl_nil]
    by_cases hn : k = n
    · rw [hn, Dev.rd_wr_self]
    · rw [Dev.rd_wr_ne _ _ (by omega), ih (by omega)]

/-- The block with view `v` in the view words of window `win`. -/
def Dev.showSa (win v : Nat) (d : Dev) : Dev :=
  (List.range 5).foldl (fun y k => y.wr (0x3100 + win) (3 + k) (fld (64 * k + 63) (64 * k) v)) d

theorem Dev.touches_showSa (win v : Nat) (d : Dev) : Dev.Touches (fun i j => i = 0x3100 + win && within 3 6 j) d (d.showSa win v) := by
  refine .foldl _ _ (fun k hk y => ?_) d
  have hk : k < 5 := by simpa using hk
  exact .write y _ _ _ (by simp [within]; omega) (by omega) (by omega)

/-- An operation that changes the key stores alone leaves, once it has ended, everything but STATUS and the key stores. -/
theorem Dev.saDone_keeps (win : Nat) (p : Path) (h : Dev.Shifts { reg := only (0x3100 + win) 8, keys := true } d z) :
    d.keeps (fun i j => only (0x3100 + win) 8 i j) { z.saDone win p with keys := d.keys } :=
  (h.trans (.of_touches (Dev.touches_saDone win p z))).keeps fun _ _ h => h

theorem Dev.sa_saDone (win : Nat) (p : Path) (z : Dev) (s : Nat) : (z.saDone win p).sa s = z.sa s := (Dev.touches_saDone win p z).sa_eq s

theorem Dev.Touches.vaultNormal_eq (h : Dev.Touches eventReg d y) : y.vaultNormal = d.vaultNormal := by
  unfold Dev.vaultNormal
  rw [h.rd (by decide) (by decide)]

/-- The SA that a window names is one of the quadrant of the window. -/
theorem Dev.saNamed_lt (hwin : win < 16) (hi : d.rd (0x3100 + win) 2 ≤ 16383) :
    d.saNamed win < 65536 ∧ d.saNamed win / 16384 = win / 4 := by
  unfold Dev.saNamed
  omega

/-- An SA set by an operation reads as set once the operation has ended. -/
theorem Dev.sa_setSa_saDone (hz : y.keys.zeroed.contains (s / 16384) = false) (x : Sa) : ((y.setSa s x).saDone win p).sa s = x := by
  rw [Dev.sa_saDone, Dev.sa_setSa hz]

/-- STATUS of a window is one of its fields 3 to 8. -/
theorem only_status_or_event (win i j : Nat) (h : (only (0x3100 + win) 8 i j || eventReg i j) = true) :
    (i = 0x3100 + win && within 3 6 j || eventReg i j) = true := by
  rcases Bool.or_eq_true_iff.1 h with h | h
  · simp only [only, Bool.and_eq_true, decide_eq_true_eq] at h
    obtain ⟨rfl, rfl⟩ := h
    simp [within]
  · simp [h]

theorem Dev.Touches.eccClear {q : Nat → Nat → Bool} (h : Dev.Touches q d y) (k : Nat) : Dev.Touches q (d.eccClear k) (y.eccClear k) :=
  h.map (f := Dev.eccClear k) (fun _ => rfl) (fun _ _ _ _ => rfl) fun hc => by rw [hc]; rfl

/-- An RX SA whose PNs are raised, with its threshold where one is asked for, reads as raised but for THRESHOLD_HIT. -/
theorem Dev.sa_raise (hs : s < 65536) (hz : y.keys.zeroed.contains (s / 16384) = false) (x : Sa) (ask holds : Bool) :
    ∃ hit, (when ask (Dev.threshold s holds) (y.setSa s x)).sa s = { x with thHit := hit } := by
  cases ask
  · exact ⟨x.thHit, Dev.sa_setSa hz x⟩
  · obtain ⟨hit, h⟩ := Dev.sa_threshold (d := y.setSa s x) hs hz holds
    exact ⟨hit, by rw [when_true, h, Dev.sa_setSa hz]⟩

/-- What SET_PN of an RX SA of SA-store window `win` may change (R233, R238). -/
def raiseScope (win : Nat) : Scope :=
  { reg := fun i j => only (0x3100 + win) 8 i j || (i = 0x3110 + win / 4 && (j = 4 || j = 5)), keys := true }

theorem raiseScope_noteReg (win i j : Nat) (h : noteReg (win / 4) i j = true) : (raiseScope win).opens i j = true := by
  simp only [noteReg, Scope.opens, raiseScope, Bool.or_eq_true] at h ⊢
  exact h.imp .inr id

theorem raiseScope_status (win i j : Nat) (h : (only (0x3100 + win) 8 i j || eventReg i j) = true) : (raiseScope win).opens i j = true := by
  simp only [Scope.opens, raiseScope, Bool.or_eq_true] at h ⊢
  exact h.imp .inl id

/-- Raising the PNs of an RX SA changes the key stores, and where a threshold is passed NOTE_COUNT and NOTES_LOST. -/
theorem Dev.shifts_raise (hs : s < 65536) (hquad : s / 16384 = win / 4) (x : Sa) (ask holds : Bool) (y : Dev) :
    Dev.Shifts (raiseScope win) y (when ask (Dev.threshold s holds) (y.setSa s x)) := by
  cases ask
  · exact .setSa y s x rfl
  · exact (Dev.Shifts.setSa y s x rfl).trans (.threshold hs holds _ rfl (hquad ▸ raiseScope_noteReg win))

end SaStore

/-- Settles O27, by the operation that each CMD runs on the SA named, and its end. -/
theorem saStoreOperationsActOnTheirSa : Obligations.SaStoreOperationsActOnTheirSa := by
  unfold Obligations.SaStoreOperationsActOnTheirSa
  refine ⟨fun win p s hwin hh hi hrange hv hst => ?_, fun win p s hwin hh hi => ?_, fun win p s hwin hh hi hst => ?_,
    fun win p s hwin hh hi hrx hst => ?_, fun win p s hwin hh hi hrx hst => ?_, fun win p s hwin hh hi hst => ?_⟩
  all_goals refine completes_saCmd rfl hwin hh (by decide) hi fun y hy => ?_
  all_goals
    have hsa := hy.sa_eq (s.dev.saNamed win)
    have hset := fun x => (Dev.Shifts.of_eventTouches (m := { reg := only (0x3100 + win) 8, keys := true }) hy).trans
      (Dev.Shifts.setSa y (s.dev.saNamed win) x rfl)
  · have hempty := (congrArg Sa.state hsa).trans hst
    exact ⟨_, Dev.saOp_configure hrange (hy.vaultNormal_eq.trans hv) hempty, Dev.saDone_answer .., Dev.saDone_result ..,
      Dev.sa_setSa_saDone (Dev.not_zeroed_of_state (by rw [hempty]; decide)) _, Dev.saDone_keeps win p (hset _)⟩
  · have hshow := Dev.touches_showSa win (saView (y.sa (s.dev.saNamed win))) y
    refine ⟨_, rfl, Dev.saDone_answer .., Dev.saDone_result .., fun k hk => ?_, ?_⟩
    · rw [Dev.rd_saDone (by omega)]
      exact (Dev.rd_foldl_wr hk _ y).trans (by rw [hsa]; rfl)
    · exact (((hy.mono fun i j h => by rw [h, Bool.or_true]).trans (hshow.mono fun i j h => by rw [h, Bool.true_or])).trans
        ((Dev.touches_saDone win p _).mono (only_status_or_event win))).keeps
  · have hstate : (y.sa (s.dev.saNamed win)).state ≠ saZeroised := by rw [hsa]; exact hst
    have hsame := congrArg Sa.state hsa
    have hread := fun x => Dev.sa_setSa_saDone (win := win) (p := p) (Dev.not_zeroed_of_state hstate) x
    refine ⟨_, Dev.saOp_setThreshold hstate, Dev.saDone_answer .., Dev.saDone_result .., congrArg Sa.thresh (hread _),
      (congrArg Sa.state (hread _)).trans hsame, Dev.saDone_keeps win p (hset _)⟩
  · have hready := (congrArg Sa.state hsa).trans hst
    refine ⟨_, Dev.saOp_setPn_tx ((congrArg Sa.rx hsa).trans hrx) hready, Dev.saDone_answer .., Dev.saDone_result .., ?_,
      Dev.saDone_keeps win p (hset _)⟩
    refine (Dev.sa_setSa_saDone (Dev.not_zeroed_of_state (by rw [hready]; decide)) _).trans ?_
    rw [hsa]
    rfl
  · obtain ⟨hlt, hquad⟩ := Dev.saNamed_lt hwin hi
    have hrx' := (congrArg Sa.rx hsa).trans hrx
    have hstate : [saReady, saActive, saRetiring].contains (y.sa (s.dev.saNamed win)).state = true := by rw [hsa]; exact hst
    have hz : y.keys.zeroed.contains (s.dev.saNamed win / 16384) = false := Dev.not_zeroed_of_among hstate (by decide)
    obtain ⟨ask, holds, hop⟩ := Dev.saOp_setPn_rx hrx' hstate
    rw [hsa] at hop
    obtain ⟨hit, hread⟩ := Dev.sa_raise hlt hz ((s.dev.sa (s.dev.saNamed win)).raised (s.dev.rd (0x3100 + win) 5)) ask holds
    have hraised := (Dev.sa_saDone win p _ (s.dev.saNamed win)).trans hread
    have hshift := ((Dev.Shifts.of_eventTouches hy).trans (Dev.shifts_raise hlt hquad
      ((s.dev.sa (s.dev.saNamed win)).raised (s.dev.rd (0x3100 + win) 5)) ask holds y)).trans
      (.of_touches ((Dev.touches_saDone win p _).mono (raiseScope_status win)))
    exact ⟨_, hop, Dev.saDone_answer .., Dev.saDone_result .., congrArg Sa.lowPn hraised, congrArg Sa.nextPn hraised,
      hshift.keeps fun _ _ h => h⟩
  · have hstate : [saEmpty, saReady, saRetiring, saExhausted].contains (y.sa (s.dev.saNamed win)).state = true := by rw [hsa]; exact hst
    have hz : y.keys.zeroed.contains (s.dev.saNamed win / 16384) = false := Dev.not_zeroed_of_among hstate (by decide)
    have hecc : Dev.Touches eventReg (s.dev.eccClear (Machine.slotKey 16 (s.dev.saNamed win)))
        (y.eccClear (Machine.slotKey 16 (s.dev.saNamed win))) := hy.eccClear _
    refine ⟨_, Dev.saOp_erase hstate, Dev.saDone_answer .., Dev.saDone_result .., Dev.sa_setSa_saDone (by exact hz) _, ?_⟩
    exact (Dev.saDone_keeps win p ((Dev.Shifts.of_eventTouches hecc).trans (.setSa _ _ _ rfl))).beside
      (fun x => { x with eccBad := s.dev.eccBad }) rfl fun _ => rfl

end Sys2Proof.Machine

namespace Sys2Proof.Machine

/-! ## Writes that replace the time unit or the key stores -/

section Replacing

variable {d y z : Dev} {eff : Eff} {i j : Nat} {w : Wr} {m : Scope}

/-- A heard write whose owner replaces the time unit, with the registers of the schedule queue. -/
theorem Dev.write_retimes {x : TimeUnit} (hh : d.hears i j w = true) (hz : Dev.Touches schedReg { d.atOwner w with time := x } z)
    (he : eff (d.roleOf w.path) w.value (d.atOwner w) = (0, z)) :
    (d.write eff i j w).answer.abort = 0 ∧ (d.write eff i j w).time = x ∧
      d.keeps (fun i' _ => i' = 0x7020) { d.write eff i j w with time := d.time } := by
  rw [Dev.write_accepts hh he]
  have hall : Dev.Touches (fun i' j' => decide (i' = 0x7020) || eventReg i' j') { d with time := x } (z.respond w.path i j 0 0 0 0) :=
    ((((d.touches_atOwner w).withTime x).mono fun i' j' h => by simp [schedReg, h]).trans hz).trans
      (Dev.touches_respond (fun h0 => absurd rfl h0) _ _ _ _ _ _ _)
  exact ⟨by rw [Dev.respond_answer], hall.time_eq, hall.keeps_time⟩

theorem Dev.Touches.respond {p : Nat → Nat → Bool} (h : Dev.Touches p d y) (q : Path) (i j : Nat) : Dev.Touches p d (y.respond q i j 0 0 0 0) :=
  h.trans (Dev.touches_respond (fun h0 => absurd rfl h0) _ _ _ _ _ _ _)

theorem Dev.keys_respond (q : Path) (i j : Nat) (d : Dev) : (d.respond q i j 0 0 0 0).keys = d.keys :=
  (Dev.Touches.refl (p := eventReg).respond q i j).keys_eq

end Replacing

/-! ## Notifications and retirement (R231, R234, R246) -/

section Notifying

variable {d : Dev} {q s c a : Nat}

/-- NOTE_POP of a queue that is not empty. -/
theorem effNotePop_pops {v : Nat} {rest : List Nat} (h : d.notes q = v :: rest) (r : Role) (x : Nat) :
    effNotePop q r x d = (0, (d.setNotes q rest).wr (0x3110 + q) 3 v) := by
  simp only [effNotePop, h]

theorem Dev.ctx_setCtx (c : Nat) (x : Ctx) (d : Dev) : (d.setCtx c x).ctx c = x := Tbl.get_set_self _ _ _ _

theorem Dev.notes_of_keys {y : Dev} (h : y.keys = d.keys) (q : Nat) : y.notes q = d.notes q := by unfold Dev.notes; rw [h]

theorem Dev.notes_setNotes (q : Nat) (l : List Nat) (d : Dev) : (d.setNotes q l).notes q = l := Tbl.get_set_self _ _ _ _

/-- A RETIRING SA that retires reads EMPTY with its key erased. -/
theorem Dev.retire_empties (hs : s < 65536) (hst : (d.sa s).state = saRetiring) :
    ((d.retire s).sa s).state = saEmpty ∧ ((d.retire s).sa s).key = 0 ∧
      d.keeps (fun x j => x = 0x3110 + s / 16384 && (j = 4 || j = 5)) { d.retire s with keys := d.keys } := by
  obtain ⟨n, hn⟩ := Dev.touches_note (q := s / 16384) (by omega) 6 (s % 16384) (d.sa s).an (s / 16384 * 8192 + (d.sa s).channel)
    (d.setSa s (saErased (d.sa s)))
  have hsa : (d.retire s).sa s = saErased (d.sa s) :=
    (hn.sa_eq s).trans (Dev.sa_setSa (d := d) (Dev.not_zeroed_of_state (by rw [hst]; decide)) _)
  have hshift : Dev.Shifts { reg := fun x j => x = 0x3110 + s / 16384 && (j = 4 || j = 5), keys := true } d (d.retire s) :=
    (Dev.Shifts.withKeys d _ rfl).trans (.of_touches hn)
  exact ⟨congrArg Sa.state hsa, congrArg Sa.key hsa, hshift.keeps fun _ _ h => h⟩

/-- A RETIRING TX SA to which no frame is bound retires, where its slice is not fenced or its frozen frames are reclaimed (R231, R477). -/
theorem Dev.txRetire_retires (hrx : (d.sa s).rx = false) (hst : (d.sa s).state = saRetiring)
    (hb : d.boundIn (chPair (d.chan (s / 16384 * 8192 + (d.sa s).channel))) s = false)
    (hf : d.isFenced (eSliceOf (chPair (d.chan (s / 16384 * 8192 + (d.sa s).channel)))) = true →
      d.assay.reclaimed.contains (eSliceOf (chPair (d.chan (s / 16384 * 8192 + (d.sa s).channel)))) = true) :
    d.txRetire s = d.retire s := by
  unfold Dev.txRetire
  dsimp only
  generalize chPair (d.chan (s / 16384 * 8192 + (d.sa s).channel)) = n at hb hf ⊢
  rw [hrx, hst, hb]
  cases hfence : d.isFenced (eSliceOf n)
  · rfl
  · rw [hf hfence]
    rfl

theorem Dev.rxRetire_retires (hrx : (d.sa s).rx = true) (hst : (d.sa s).state = saRetiring) : d.rxRetire s = d.retire s := by
  simp only [Dev.rxRetire, hrx, hst]
  rfl

/-- A changeover of a TX channel of the quadrant is entered in the schedule (R243, R389). -/
theorem effSchedSubmit_schedules (hc : d.rd (0x3110 + q) 6 / 8192 = q) (hrx : chRx (d.chan (d.rd (0x3110 + q) 6)) = false) (r : Role) (v : Nat) :
    effSchedSubmit q r v d = d.schedule (.channel (d.rd (0x3110 + q) 6) (d.rd (0x3110 + q) 7)) (compactOf (d.rd (0x3110 + q) 8)) := by
  simp [effSchedSubmit, hc, hrx]

theorem completes_ifRuns {i : Instr} {st : State} {p : Bool} {k : Nat} {f : Dev → Dev} {P : Dev → Prop}
    (he : exec i st = actIf p (Dev.ifRuns k f) st) (hp : p = true) (hr : st.dev.runs k = true) (h : P (f st.dev)) : Completes i st P := by
  refine completes_actIf he hp ?_
  rw [Dev.ifRuns, if_pos hr]
  exact h

end Notifying

/-! ## The changeover of a channel (R241, R242, R245) -/

section Changeover

variable {d : Dev} {q s c a : Nat}

/-- A field replaced reads the low bits that replace it. -/
theorem fld_setFld (hi lo v x : Nat) : fld hi lo (setFld hi lo v x) = x % 2 ^ (hi + 1 - lo) := by
  have hpos : 0 < 2 ^ lo := Nat.two_pow_pos lo
  have hdiv : setFld hi lo v x = v % 2 ^ lo + 2 ^ lo * (x % 2 ^ (hi + 1 - lo) + 2 ^ (hi + 1 - lo) * (v / 2 ^ lo / 2 ^ (hi + 1 - lo))) := by
    have h1 := Nat.div_add_mod v (2 ^ lo)
    have h2 := Nat.div_add_mod (v / 2 ^ lo) (2 ^ (hi + 1 - lo))
    have h3 : v = v % 2 ^ lo + 2 ^ lo * (2 ^ (hi + 1 - lo) * (v / 2 ^ lo / 2 ^ (hi + 1 - lo))) + fld hi lo v * 2 ^ lo := by
      unfold fld
      calc v = 2 ^ lo * (2 ^ (hi + 1 - lo) * (v / 2 ^ lo / 2 ^ (hi + 1 - lo)) + v / 2 ^ lo % 2 ^ (hi + 1 - lo)) + v % 2 ^ lo := by rw [h2, h1]
        _ = _ := by ring
    have h4 : v - fld hi lo v * 2 ^ lo = v % 2 ^ lo + 2 ^ lo * (2 ^ (hi + 1 - lo) * (v / 2 ^ lo / 2 ^ (hi + 1 - lo))) := by omega
    unfold setFld
    rw [h4]
    ring
  rw [hdiv]
  unfold fld
  rw [Nat.add_mul_div_left _ _ hpos, Nat.div_eq_of_lt (Nat.mod_lt _ hpos), Nat.zero_add, Nat.add_mul_mod_self_left, Nat.mod_mod]

/-- SA `new` made ACTIVE, and where asked for SA `old` RETIRING (R242). -/
def Dev.handOver (new old : Nat) (retire : Bool) (d : Dev) : Dev :=
  when retire (fun x => x.setSa old { x.sa old with state := saRetiring }) (d.setSa new { d.sa new with state := saActive })

theorem Dev.handOver_eq (new old : Nat) (retire : Bool) (d : Dev) :
    d.handOver new old retire = { d with keys := { d.keys with sas := (d.handOver new old retire).keys.sas } } := by
  cases retire <;> rfl

/-- The new SA reads ACTIVE where its quadrant is not zeroised and it is not the one that retires. -/
theorem Dev.sa_handOver {new old : Nat} {retire : Bool} (hz : d.keys.zeroed.contains (new / 16384) = false)
    (hne : retire = true → new ≠ old) : ((d.handOver new old retire).sa new).state = saActive := by
  have hnew := congrArg Sa.state (Dev.sa_setSa hz { d.sa new with state := saActive })
  cases retire
  · exact hnew
  · exact (congrArg Sa.state (Dev.sa_setSa_ne (hne rfl) _ _)).trans hnew

/-- The SA of the AN that was active retires as channel `c` changes to AN `a`. -/
def Dev.oldRetires (c a : Nat) (d : Dev) : Bool :=
  chSaOk (d.chan c) (chAn (d.chan c)) && d.saOf c (chAn (d.chan c)) != d.saOf c a && (d.sa (d.saOf c (chAn (d.chan c)))).state = saActive

theorem Dev.ne_of_oldRetires (h : d.oldRetires c a = true) : d.saOf c a ≠ d.saOf c (chAn (d.chan c)) := by
  simp only [Dev.oldRetires, Bool.and_eq_true, bne_iff_ne, ne_eq] at h
  obtain ⟨⟨-, hne⟩, -⟩ := h
  exact Ne.symm hne

/-- Channel `c` with record `v`, and the SAs as it changes to AN `a` (R242). -/
def Dev.switchedTo (v c a : Nat) (d : Dev) : Dev :=
  (d.setChan c v).handOver (d.saOf c a) (d.saOf c (chAn (d.chan c))) (d.oldRetires c a)

theorem Dev.switchedTo_eq (v c a : Nat) (d : Dev) : d.switchedTo v c a = { d with
    chans := Tbl.set chanDflt d.chans c v, keys := { d.keys with sas := (d.switchedTo v c a).keys.sas } } := Dev.handOver_eq _ _ _ _

theorem Dev.chan_switchedTo (v c a : Nat) (d : Dev) : (d.switchedTo v c a).chan c = v := by
  rw [Dev.switchedTo_eq]
  exact Tbl.get_set_self _ _ _ _

theorem Dev.sa_switchedTo (hz : d.keys.zeroed.contains (d.saOf c a / 16384) = false) (v : Nat) :
    ((d.switchedTo v c a).sa (d.saOf c a)).state = saActive :=
  Dev.sa_handOver (d := d.setChan c v) hz Dev.ne_of_oldRetires

/-- The record of channel `c` with AN `a` active. -/
def Dev.chanOn (d : Dev) (c a : Nat) : Nat := setFld 87 86 (d.chan c) a

theorem Dev.chAn_chanOn (ha : a < 4) : chAn (d.chanOn c a) = a := (fld_setFld 87 86 (d.chan c) a).trans (Nat.mod_eq_of_lt ha)

/-- No automatic change of channel `c` waits, and its node is not suspended (R242). -/
def Dev.changedOver (c : Nat) (d : Dev) : Dev :=
  { d with keys := { d.keys with auto := Tbl.set (fun _ => (0, false)) d.keys.auto c (0, false),
                                 suspended := d.keys.suspended.filter (· != c) } }

/-- A changeover is the switch, its notification, and the channel settled. -/
theorem Dev.changeover_eq (c a : Nat) (d : Dev) :
    d.changeover c a = ((d.switchedTo (d.chanOn c a) c a).note (c / 8192) 3 (d.saOf c a % 16384) a c).changedOver c := rfl

theorem Dev.Touches.changedOver {p : Nat → Nat → Bool} {a b : Dev} (h : Dev.Touches p a b) (c : Nat) :
    Dev.Touches p (a.changedOver c) (b.changedOver c) :=
  h.map (f := Dev.changedOver c) (fun _ => rfl) (fun _ _ _ _ => rfl) fun hc => by rw [hc]; rfl

/-- What a changeover leaves, for the registers of notifications and events it may touch besides. -/
theorem Dev.touches_changeover (hc : c / 8192 < 4) (a : Nat) (d : Dev) :
    ∃ n u, Dev.Touches (noteReg (c / 8192)) (((d.switchedTo (d.chanOn c a) c a).withAlerts n u).changedOver c) (d.changeover c a) := by
  obtain ⟨n, hn⟩ := Dev.touches_note hc 3 (d.saOf c a % 16384) a c (d.switchedTo (d.chanOn c a) c a)
  rw [Dev.changeover_eq]
  exact ⟨n, _, hn.changedOver c⟩

/-- The channel and its new SA after a changeover, and what it keeps. -/
theorem Dev.changeover_activates (hc : c / 8192 < 4) (ha : a < 4) (hmay : d.mayChange c a = true) :
    chAn ((d.changeover c a).chan c) = a ∧ ((d.changeover c a).sa (d.saOf c a)).state = saActive ∧
      (d.changeover c a).keys.triggers = d.keys.triggers ∧
      d.keeps (fun i j => i = 0x3110 + c / 8192 && (j = 4 || j = 5)) { d.changeover c a with keys := d.keys, chans := d.chans } := by
  have hready : (d.sa (d.saOf c a)).state = saReady := by
    simp only [Dev.mayChange, Bool.and_eq_true, decide_eq_true_eq] at hmay
    obtain ⟨⟨⟨⟨-, hready⟩, -⟩, -⟩, -⟩ := hmay
    exact hready
  have hactive := Dev.sa_switchedTo (Dev.not_zeroed_of_state (d := d) (by rw [hready]; decide)) (d.chanOn c a)
  obtain ⟨n, u, hn⟩ := Dev.touches_changeover hc a d
  have hchan := Dev.chan_switchedTo (d.chanOn c a) c a d
  generalize hv : d.chanOn c a = v at hn hactive hchan
  refine ⟨?_, (congrArg Sa.state (hn.sa_eq _)).trans hactive, ?_, ?_⟩
  · exact (congrArg chAn ((hn.chan_eq c).trans hchan)).trans (hv ▸ Dev.chAn_chanOn ha)
  · rw [Dev.switchedTo_eq] at hn
    have htriggers := congrArg Keys.triggers hn.keys_eq
    exact htriggers
  · rw [Dev.switchedTo_eq] at hn
    exact hn.keeps.beside (fun x => { x with keys := d.keys, chans := d.chans }) rfl fun _ => rfl

/-- The block with triggers `l` at the changeover port of quadrant `q`. -/
def Dev.withTriggers (q : Nat) (l : List Trigger) (d : Dev) : Dev :=
  { d with keys := { d.keys with triggers := Tbl.set (fun _ => []) d.keys.triggers q l } }

theorem Dev.triggers_withTriggers (q : Nat) (l : List Trigger) (d : Dev) :
    Tbl.get (fun _ => []) (d.withTriggers q l).keys.triggers q = l := Tbl.get_set_self _ _ _ _

/-- A scheduled trigger of an AN that is not active and may become so is served by the changeover. -/
theorem Dev.serve_scheduled {x : Nat} (han : chAn (d.chan c) ≠ a) (hmay : d.mayChange c a = true) :
    d.serve ⟨true, c, a, x⟩ = d.changeover c a := by
  unfold Dev.serve
  simp only [Bool.not_true, Bool.false_and, Bool.false_eq_true, if_false, han, hmay, if_true]

/-- A port with one scheduled trigger serves it and has none left. -/
theorem Dev.servePort_one {x : Nat} (hl : Tbl.get (fun _ => []) d.keys.triggers q = [⟨true, c, a, x⟩]) :
    d.servePort q = (d.withTriggers q []).serve ⟨true, c, a, x⟩ := by
  have herase : ([⟨true, c, a, x⟩] : List Trigger).erase ⟨true, c, a, x⟩ = [] := by simp
  have hserve : d.servePort q = (d.withTriggers q ([⟨true, c, a, x⟩].erase ⟨true, c, a, x⟩)).serve ⟨true, c, a, x⟩ := by
    unfold Dev.servePort
    rw [hl]
    rfl
  rw [hserve, herase]

end Changeover

/-- Settles O28, by the operation behind each command: the queues of notifications, of the schedule and of the changeover port, and the
SAs that change state. -/
theorem saNotificationsSchedulesAndRetirement : Obligations.SaNotificationsSchedulesAndRetirement := by
  unfold Obligations.SaNotificationsSchedulesAndRetirement
  refine ⟨fun q v rest w s hq hh hn => ?_, fun q c w s hq hh hc hcq hrx hon hroom => ?_, fun q w s hq hh hw => ?_,
    fun q c a x s hq hrun hl hcq ha han hmay => ?_, fun i s hi hrx hst hrun hb hf => ?_, fun i s hi hrun hrx hst => ?_, fun w s hh => ?_⟩
  · refine completes_actIf (f := Dev.write (effNotePop q) (0x3110 + q) 2 w) rfl (by simpa using hq) ?_
    have howner := s.dev.touches_atOwner w
    have hnotes : (s.dev.atOwner w).notes q = v :: rest := (Dev.notes_of_keys howner.keys_eq q).trans hn
    rw [Dev.write_accepts hh (effNotePop_pops hnotes _ _)]
    have hshift : Dev.Shifts { reg := fun i j => i = 0x3110 + q && (j = 3 || j = 4), keys := true } s.dev
        (((s.dev.atOwner w).setNotes q rest).wr (0x3110 + q) 3 v) :=
      (((Dev.Shifts.of_eventTouches howner).trans (.withKeys _ _ rfl)).trans (.wr _ _ (by simp [Scope.opens]) (by decide))).trans
        (.wr _ _ (by simp [Scope.opens]) (by decide))
    refine ⟨by rw [Dev.respond_answer], by rw [Dev.rd_respond_zero, Dev.rd_wr_self], ?_, ?_, (hshift.respond _ _ _).keeps fun _ _ h => h⟩
    · exact (Dev.notes_of_keys (Dev.keys_respond ..) q).trans (Dev.notes_setNotes q rest _)
    · rw [Dev.rd_respond_zero, Dev.rd_wr_ne _ _ (by omega), Dev.setNotes, Dev.rd_wr_self]
  · refine completes_actIf (f := Dev.write (effSchedSubmit q) (0x3110 + q) 9 w) rfl (by simpa using hq) ?_
    subst hc
    have howner := s.dev.touches_atOwner w
    have hrd : ∀ j, j < 256 → (s.dev.atOwner w).rd (0x3110 + q) j = s.dev.rd (0x3110 + q) j := fun j hj =>
      howner.rd hj (eventReg_between j (by omega) (by omega))
    have heff := effSchedSubmit_schedules (d := s.dev.atOwner w) (q := q) (by rw [hrd 6 (by decide)]; exact hcq)
      (by rw [hrd 6 (by decide), howner.chan_eq]; exact hrx) (s.dev.roleOf w.path) w.value
    rw [hrd 6 (by decide), hrd 7 (by decide), hrd 8 (by decide)] at heff
    obtain ⟨x, z, hsched, hz, hmem⟩ := Dev.schedule_enters (d := s.dev.atOwner w)
      (.channel (s.dev.rd (0x3110 + q) 6) (s.dev.rd (0x3110 + q) 7)) (compactOf (s.dev.rd (0x3110 + q) 8))
      ((howner.isOn_ne 141 (by decide)).trans hon) (by rwa [howner.time_eq])
    obtain ⟨habort, htime, hkeep⟩ := Dev.write_retimes hh hz (heff.trans hsched)
    rw [howner.time_eq] at hmem
    exact ⟨habort, htime ▸ hmem, hkeep⟩
  · refine completes_actIf (f := Dev.write (effSchedCancel q) (0x3110 + q) 0xA w) rfl (by simpa using hq) ?_
    obtain ⟨x, hz, hnone⟩ := Dev.touches_unschedule (sameOwner (.channel w.value 0)) (s.dev.atOwner w)
    obtain ⟨habort, htime, hkeep⟩ := Dev.write_retimes hh hz (eff := effSchedCancel q) (by simp [effSchedCancel, hw])
    exact ⟨habort, htime ▸ hnone, hkeep⟩
  · refine completes_ifRuns (f := Dev.servePort q) rfl (by simpa using hq) hrun ?_
    rw [Dev.servePort_one hl, Dev.serve_scheduled (d := s.dev.withTriggers q []) han hmay]
    obtain ⟨hchan, hsa, htrig, hkeep⟩ := Dev.changeover_activates (d := s.dev.withTriggers q []) (c := c) (by omega) ha hmay
    refine ⟨hchan, hsa, ?_, ?_⟩
    · rw [htrig]
      exact Dev.triggers_withTriggers q [] s.dev
    · subst hcq
      exact hkeep.beside (fun z => { z with keys := s.dev.keys }) rfl fun _ => rfl
  · refine completes_ifRuns (f := Dev.txRetire i) rfl (by simpa using hi) hrun ?_
    rw [Dev.txRetire_retires hrx hst hb hf]
    exact Dev.retire_empties hi hst
  · refine completes_ifRuns (f := Dev.rxRetire i) rfl (by simpa using hi) hrun ?_
    rw [Dev.rxRetire_retires hrx hst]
    exact Dev.retire_empties hi hst
  · refine completes_act (f := Dev.write effCtxErase 0x3070 3 w) rfl ?_
    have howner := s.dev.touches_atOwner w
    rw [Dev.write_accepts hh (y := (s.dev.atOwner w).setCtx (s.dev.rd 0x3070 1) Ctx.init) (by rw [effCtxErase, howner.rd (by decide) (by decide)])]
    have hshift : Dev.Shifts { reg := fun _ _ => false, keys := true } s.dev ((s.dev.atOwner w).setCtx (s.dev.rd 0x3070 1) Ctx.init) :=
      (Dev.Shifts.of_eventTouches howner).trans (.withKeys _ _ rfl)
    refine ⟨by rw [Dev.respond_answer], ?_, (hshift.respond _ _ _).keeps fun _ _ h => h⟩
    exact (congrArg (Tbl.get (fun _ => Ctx.init) · _) (congrArg Keys.ctxs (Dev.keys_respond ..))).trans (Dev.ctx_setCtx _ _ _)

end Sys2Proof.Machine

namespace Sys2Proof.Machine

/-! ## What of a slot and of the root caches an operation leaves (R208, R212) -/

theorem Dev.pl_setPl (p q : Nat) (x : Planisher) (d : Dev) : (d.setPl p x).pl q = if q = p then x else d.pl q := Tbl.get_set _ _ _ _ _

/-- SLOT_STATE does not follow the planishers. -/
theorem Dev.rd_setPl_slot {s : Nat} (hs : s < 64) (p : Nat) (x : Planisher) (d : Dev) :
    (d.setPl p x).rd (0x3010 + s) 2 = d.rd (0x3010 + s) 2 := by
  unfold Dev.setPl
  extract_lets
  rw [Dev.rd_wr_ne _ _ (by omega), Dev.rd_wr_ne _ _ (by omega), Dev.rd_wr_ne _ _ (by omega)]
  rfl

/-- SLOT_STATE of slot `s`, the contents of the slots and the root caches are as they were. -/
structure Dev.SameRoots (s : Nat) (a b : Dev) : Prop where
  state : b.rd (0x3010 + s) 2 = a.rd (0x3010 + s) 2
  slots : b.keys.slots = a.keys.slots
  cache : ∀ p, (b.pl p).cache = (a.pl p).cache

namespace Dev.SameRoots

variable {s : Nat} {a b c d : Dev}

theorem refl (s : Nat) (a : Dev) : SameRoots s a a := ⟨rfl, rfl, fun _ => rfl⟩

theorem trans (h : SameRoots s a b) (k : SameRoots s b c) : SameRoots s a c :=
  ⟨k.state.trans h.state, k.slots.trans h.slots, fun p => (k.cache p).trans (h.cache p)⟩

theorem foldl {α : Type} {f : Dev → α → Dev} (l : List α) (hf : ∀ x ∈ l, ∀ d, SameRoots s d (f d x)) (a : Dev) :
    SameRoots s a (l.foldl f a) := by
  induction l generalizing a with
  | nil => exact .refl s a
  | cons x l ih => exact (hf x (by simp) a).trans (ih (fun y hy => hf y (by simp [hy])) _)

theorem of_touches {p : Nat → Nat → Bool} (h : Dev.Touches p a b) (hp : p (0x3010 + s) 2 = false) : SameRoots s a b :=
  ⟨h.rd (by decide) hp, by rw [h.keys_eq], fun q => by rw [h.pl_eq q]⟩

/-- Key stores replaced by ones with the same slots and planishers. -/
theorem withKeys (d : Dev) {x : Keys} (hs : x.slots = d.keys.slots) (hp : x.planishers = d.keys.planishers) :
    SameRoots s d { d with keys := x } :=
  ⟨rfl, hs, fun p => by simp only [Dev.pl, hp]⟩

theorem setCarrier (n : Nat) (x : Carrier) (d : Dev) : SameRoots s d (d.setCarrier n x) := ⟨rfl, rfl, fun _ => rfl⟩

/-- A register other than SLOT_STATE of slot `s` written. -/
theorem wr {i j : Nat} (v : Nat) (hj : j < 256 ∧ j ≠ 2) (d : Dev) : SameRoots s d (d.wr i j v) :=
  ⟨d.rd_wr_ne v (by omega), rfl, fun _ => rfl⟩

theorem raise {e : Nat} (he : e < 400) (hs : s < 64) (d : Dev) : SameRoots s d (d.raise e) :=
  .of_touches (Dev.touches_event he (fun _ _ h => h) d) (eventReg_between 2 (by omega) (by omega))

/-- A planisher replaced by one with the same root cache. -/
theorem setPl {p : Nat} {x : Planisher} (hs : s < 64) (hx : x.cache = (d.pl p).cache) : SameRoots s d (d.setPl p x) := by
  refine ⟨Dev.rd_setPl_slot hs p x d, rfl, fun q => ?_⟩
  rw [Dev.pl_setPl]
  split
  · next h => rw [h, hx]
  · rfl

theorem mkaTold (j : Job) (res : Nat) (d : Dev) : SameRoots s d (d.mkaTold j res) := by
  unfold Dev.mkaTold
  split
  · exact .refl s d
  · exact .withKeys d rfl rfl

/-- The end of a job: registers of its window, counts and an event, its SA, and a note to its binding (R224). -/
theorem endJob (hs : s < 64) (p : Nat) (j : Job) (res : Nat) (d : Dev) : SameRoots s d (d.endJob p j res) := by
  unfold Dev.endJob
  extract_lets d1 d2 d3 d4
  have h1 : SameRoots s d d1 := by
    unfold d1
    split
    · exact (wr _ (by omega) d).trans (wr _ (by omega) _)
    · exact .refl s d
  have h2 : SameRoots s d1 d2 := by
    unfold d2 when
    split_ifs
    · split
      · exact wr _ (by omega) d1
      · exact .refl s d1
    · exact .refl s d1
  have h3 : SameRoots s d2 d3 := by
    unfold d3 when
    split_ifs
    · exact .withKeys d2 rfl rfl
    · exact .refl s d2
  have h4 : SameRoots s d3 d4 := (mkaTold j res d3).trans (wr _ (by split <;> omega) _)
  have hall : SameRoots s d d4 := ((h1.trans h2).trans h3).trans h4
  split_ifs with hp
  · exact hall.trans (raise (by simp only [quadEvent]; omega) hs d4)
  · exact hall.trans (raise (by decide) hs d4)
  · exact hall.trans (raise (by decide) hs d4)

theorem endJobs (hs : s < 64) (p res : Nat) (f : Job → Bool) (d : Dev) : SameRoots s d (d.endJobs p res f) := by
  unfold Dev.endJobs
  refine trans (setPl hs ?_) (foldl _ (fun j _ y => endJob hs p j res y) _)
  rfl

theorem dropKeys (hs : s < 64) (n : Nat) (d : Dev) : SameRoots s d (d.dropKeys n) :=
  ((((endJobs hs _ _ _ d).trans (setCarrier _ _ _)).trans (wr _ (by omega) _)).trans (wr _ (by omega) _)).trans (wr _ (by omega) _)

theorem setCarrierState (hs : s < 64) {n : Nat} (hn : n < 256) (v : Nat) (d : Dev) : SameRoots s d (d.setCarrierState n v) := by
  unfold Dev.setCarrierState
  split
  · exact .refl s d
  · refine (wr v (by omega) d).trans (.of_touches (Dev.touches_carrierCause hn 0 _) ?_)
    rw [eventReg_between 2 (by omega) (by omega), Bool.or_false]
    simp [only]

/-- Carriers without a root key change no slot and no cache (R171, R212). -/
theorem unkeySlot (hs : s < 64) (slot : Nat) (d : Dev) : SameRoots s d (d.unkeySlot slot) := by
  refine .foldl _ (fun n hn y => ?_) d
  have hn := d.lt_of_mem_formedPairs (List.mem_filter.1 hn).1
  split
  · exact (dropKeys hs n y).trans (setCarrierState hs hn 4 _)
  · exact .refl s y

end Dev.SameRoots

/-! ## ERASE of a slot (R212) -/

section Erasing

variable {d y : Dev} {s : Nat}

/-- No root cache below `n` holds slot `s`. -/
def Dev.uncachedBelow (s n : Nat) (d : Dev) : Prop := ∀ p, p < n → (d.pl p).cache.all (fun e => e.1 != s) = true

theorem Dev.pl_uncache (p s q : Nat) (d : Dev) :
    (d.uncache p s).pl q = if q = p then { d.pl p with cache := (d.pl p).cache.filter (fun e => e.1 != s) } else d.pl q :=
  Dev.pl_setPl p q _ d

theorem Dev.uncachedBelow_uncache {n : Nat} (h : d.uncachedBelow s n) : (d.uncache n s).uncachedBelow s (n + 1) := by
  intro p hp
  rw [Dev.pl_uncache]
  split
  · simp [List.all_filter]
  · exact h p (by omega)

/-- Slot `s` taken out of the caches of the planishers below `n`. -/
def Dev.uncacheBelow (s n : Nat) (d : Dev) : Dev := (List.range n).foldl (fun x p => x.uncache p s) d

theorem Dev.uncacheBelow_succ (s n : Nat) (d : Dev) : d.uncacheBelow s (n + 1) = (d.uncacheBelow s n).uncache n s := by
  rw [Dev.uncacheBelow, List.range_succ, List.foldl_append]
  rfl

theorem Dev.uncachedBelow_uncacheBelow (s n : Nat) (d : Dev) : (d.uncacheBelow s n).uncachedBelow s n := by
  induction n with
  | zero => exact fun p hp => absurd hp (by omega)
  | succ n ih =>
    rw [Dev.uncacheBelow_succ]
    exact Dev.uncachedBelow_uncache ih

/-- Taking a slot out of the caches changes neither its state nor a slot's content. -/
theorem Dev.uncacheBelow_keeps (hs : s < 64) (n : Nat) (d : Dev) :
    (d.uncacheBelow s n).rd (0x3010 + s) 2 = d.rd (0x3010 + s) 2 ∧ (d.uncacheBelow s n).keys.slots = d.keys.slots := by
  induction n with
  | zero => exact ⟨rfl, rfl⟩
  | succ n ih =>
    obtain ⟨hrd, hslots⟩ := ih
    rw [Dev.uncacheBelow_succ]
    refine ⟨?_, hslots⟩
    rw [Dev.uncache, Dev.syncCached, Dev.rd_wr_ne _ _ (by omega), Dev.rd_setPl_slot hs, hrd]

/-- The content of slot `s` overwritten, and the slot EMPTY. -/
def Dev.emptySlot (s : Nat) (d : Dev) : Dev := (d.setSlotKey s none).wr (0x3010 + s) 2 0

theorem Dev.slots_emptySlot (s : Nat) (d : Dev) : (d.emptySlot s).keys.slots = Tbl.set (fun _ => none) d.keys.slots s none := rfl

/-- An ERASE with its argument, of a slot that no running job uses, while the vault is NORMAL. -/
theorem effErase_erases (hv : d.vaultNormal = true) (hu : d.slotInUse s = false) (r : Role) :
    effErase s r 0x5A45524F d = (0, ((d.emptySlot s).uncacheBelow s 5).unkeySlot s) := by
  simp only [effErase, hv, hu]
  rfl

/-- A slot that an ERASE has emptied. -/
structure Dev.Emptied (s : Nat) (d : Dev) : Prop where
  state : d.rd (0x3010 + s) 2 = 0
  content : d.slotKey s = 0
  uncached : d.uncachedBelow s 5

theorem Dev.SameRoots.emptied (h : Dev.SameRoots s d y) (he : d.Emptied s) : y.Emptied s :=
  ⟨h.state.trans he.state, by unfold Dev.slotKey; rw [h.slots]; exact he.content, fun p hp => by rw [h.cache p]; exact he.uncached p hp⟩

theorem Dev.emptied_erase (hs : s < 64) (d : Dev) : (((d.emptySlot s).uncacheBelow s 5).unkeySlot s).Emptied s := by
  refine (Dev.SameRoots.unkeySlot hs s _).emptied ⟨?_, ?_, Dev.uncachedBelow_uncacheBelow s 5 _⟩
  · rw [(Dev.uncacheBelow_keeps hs 5 _).1, Dev.emptySlot, Dev.rd_wr_self]
  · unfold Dev.slotKey
    rw [(Dev.uncacheBelow_keeps hs 5 _).2]
    rw [Dev.slots_emptySlot, Tbl.get_set_self]
    rfl

/-- Whether a running job uses a slot does not follow what an access touches. -/
theorem Dev.Touches.slotInUse_eq {p : Nat → Nat → Bool} (h : Dev.Touches p d y) (s : Nat) : y.slotInUse s = d.slotInUse s := by
  unfold Dev.slotInUse Dev.pl
  rw [h.keys_eq]

end Erasing

/-! ## The generator (R216) -/

section Generator

variable {d : Dev}

theorem Dev.healthFail_fails (h : d.rd 0x3000 6 ≠ 2) : d.healthFail.rd 0x3000 6 = 2 ∧ bit 3 (d.healthFail.rd 0x1403 1) = true ∧
    d.keeps (only 0x3000 6) d.healthFail := by
  have heq : d.healthFail = (d.wr 0x3000 6 2).raise 51 := by rw [Dev.healthFail, bne_iff_ne.2 h, when_true]
  have hraise : Dev.Touches eventReg (d.wr 0x3000 6 2) ((d.wr 0x3000 6 2).raise 51) := Dev.touches_event (by decide) (fun _ _ h => h) _
  rw [heq]
  refine ⟨(hraise.rd (by decide) (by decide)).trans (Dev.rd_wr_self ..), Dev.status_raise 51 (by decide) _, ?_⟩
  exact ((Dev.Touches.write d 0x3000 6 2 (by simp [only]) (by decide) (by decide)).trans (hraise.mono fun i j h => by rw [h, Bool.or_true])).keeps

end Generator

/-! ## ENABLE of an MKA binding (R249) -/

section Binding

variable {d y z : Dev} {b v : Nat}

/-- ENABLE, MKA_STATUS, PEERS and KEY_SERVER of binding `b`, and the registers of events. -/
def mkaReg (b i j : Nat) : Bool := (i = 0x3080 + b && (j = 1 || within 0x10 3 j)) || eventReg i j

/-- The registers of a binding are no registers of events. -/
theorem eventReg_binding (hb : b < 64) (j : Nat) : eventReg (0x3080 + b) j = false := eventReg_between j (by omega) (by omega)

/-- MKA_STATUS made `v` touches no other register of the binding. -/
theorem Dev.touches_setMka (b v : Nat) (d : Dev) : Dev.Touches (fun i j => only (0x3080 + b) 0x10 i j || eventReg i j) d (d.setMka b v) :=
  .ite .refl ((Dev.Touches.write d (0x3080 + b) 0x10 v (by simp [only]) (by decide) (by simp)).trans
    (Dev.touches_event (by decide) (fun i j h => by simp [h]) _))

theorem Dev.rd_setMka (hb : b < 64) (v : Nat) (d : Dev) : (d.setMka b v).rd (0x3080 + b) 0x10 = v := by
  unfold Dev.setMka
  split
  · assumption
  · have hraise : Dev.Touches eventReg (d.wr (0x3080 + b) 0x10 v) ((d.wr (0x3080 + b) 0x10 v).raise 56) :=
      Dev.touches_event (by decide) (fun _ _ h => h) _
    exact (hraise.rd (by decide) (eventReg_binding hb _)).trans (Dev.rd_wr_self ..)

/-- Binding `b` shown with status `v`, no peer and no key server. -/
def Dev.mkaShown (b v : Nat) (d : Dev) : Dev := (d.setMka b v).mkaShow b 0 0

theorem Dev.touches_mkaShown (b v : Nat) (d : Dev) : Dev.Touches (mkaReg b) d (d.mkaShown b v) := by
  have hset : Dev.Touches (mkaReg b) d (d.setMka b v) := (Dev.touches_setMka b v d).mono fun i j h => by
    simp only [only, mkaReg, Bool.or_eq_true, Bool.and_eq_true, decide_eq_true_eq] at h ⊢
    exact h.imp (fun ⟨hi, hj⟩ => ⟨hi, .inr (by rw [hj]; decide)⟩) id
  exact (hset.trans (.write _ _ _ _ (by simp [mkaReg, within]) (by decide) (by simp))).trans
    (.write _ _ _ _ (by simp [mkaReg, within]) (by decide) (by simp))

/-- What the registers of a binding read once it is shown. -/
theorem Dev.rd_mkaShown (hb : b < 64) (v : Nat) (d : Dev) : (d.mkaShown b v).rd (0x3080 + b) 1 = d.rd (0x3080 + b) 1 ∧
    (d.mkaShown b v).rd (0x3080 + b) 0x10 = v ∧ (d.mkaShown b v).rd (0x3080 + b) 0x11 = 0 ∧ (d.mkaShown b v).rd (0x3080 + b) 0x12 = 0 := by
  unfold Dev.mkaShown Dev.mkaShow
  refine ⟨?_, ?_, ?_, Dev.rd_wr_self ..⟩
  · rw [Dev.rd_wr_ne _ _ (by omega), Dev.rd_wr_ne _ _ (by omega)]
    exact (Dev.touches_setMka b v d).rd (by decide) (by rw [eventReg_binding hb]; simp [only])
  · rw [Dev.rd_wr_ne _ _ (by omega), Dev.rd_wr_ne _ _ (by omega), Dev.rd_setMka hb]
  · rw [Dev.rd_wr_ne _ _ (by omega), Dev.rd_wr_self]

/-- The block with other MKA bindings and rules still to be removed. -/
def Dev.withMka (x : Tbl (Option Mka)) (l : List (Nat × Nat)) (d : Dev) : Dev := { d with keys := { d.keys with mka := x, mkaGone := l } }

theorem Dev.mkaOf_withMka (k : Tbl (Option Mka)) (x : Option Mka) (l : List (Nat × Nat)) (d : Dev) :
    (d.withMka (Tbl.set (fun _ => none) k b x) l).mkaOf b = x := Tbl.get_set_self _ _ _ _

/-- ENABLE of 0: the binding's record goes, its rules are to be removed (R249, R250). -/
theorem effMkaEnable_disables (b : Nat) (r : Role) (d : Dev) :
    ∃ l, effMkaEnable b r 0 d = (0, ((d.withMka (Tbl.set (fun _ => none) d.keys.mka b none) l).wr (0x3080 + b) 1 0).mkaShown b 0) :=
  ⟨_, rfl⟩

/-- Binding `b` enabled with record `x`, a free value drawn for it. -/
def Dev.bound (b : Nat) (x : Mka) (d : Dev) : Dev :=
  ({ (d.wr (0x3080 + b) 1 1) with fresh := d.fresh + 1 } : Dev).withMka (Tbl.set (fun _ => none) d.keys.mka b (some x)) d.keys.mkaGone

theorem Dev.mkaOf_bound (b : Nat) (x : Mka) (d : Dev) : (d.bound b x).mkaOf b = some x := Dev.mkaOf_withMka ..

theorem Dev.rd_bound (b : Nat) (x : Mka) (d : Dev) : (d.bound b x).rd (0x3080 + b) 1 = 1 :=
  (Dev.rd_of_dict rfl _ _).trans (Dev.rd_wr_self (d := d) (0x3080 + b) 1 1)

/-- ENABLE of 1 of a disabled binding whose channels are managed channels of an unbound pair: it begins with its keys. -/
theorem effMkaEnable_enables (h0 : d.rd (0x3080 + b) 1 = 0) (htx : d.mkaChannel (d.mkaPair b) (d.mkaTx b) false = true)
    (hpool : (d.mkaPool b).all (fun c => d.mkaChannel (d.mkaPair b) c true) = true) (hbound : d.mkaBound (d.mkaPair b) = false) (r : Role) :
    ∃ x : Mka, x.todo = [.keys] ∧ effMkaEnable b r 1 d = (0, (d.bound b x).mkaShown b 1) := by
  simp only [effMkaEnable, h0, htx, hpool, hbound]
  exact ⟨_, rfl, rfl⟩

/-- Whether a pair is bound does not follow events. -/
theorem Dev.Touches.mkaBound_eq (h : Dev.Touches eventReg d y) (n : Nat) : y.mkaBound n = d.mkaBound n := by
  unfold Dev.mkaBound
  rw [Bool.eq_iff_iff, List.any_eq_true, List.any_eq_true]
  refine exists_congr fun b => and_congr_right fun hb => ?_
  have hb : b < 64 := List.mem_range.1 hb
  rw [h.rd (by decide) (eventReg_binding hb 1), h.rd (by decide) (eventReg_binding hb 2)]

/-- What ENABLE of binding `b` may change; where it starts, a free value is drawn besides. -/
def bindScope (b : Nat) (starts : Bool) : Scope :=
  { reg := fun i j => i = 0x3080 + b && (j = 1 || within 0x10 3 j), keys := true, fresh := starts }

theorem Dev.shifts_bound (b : Nat) (x : Mka) (d : Dev) : Dev.Shifts (bindScope b true) d (d.bound b x) :=
  (Dev.Shifts.wr d 1 (by simp [Scope.opens, bindScope]) (by decide)).trans (.of_rest rfl rfl)

/-- A write of ENABLE that leaves the binding shown with status `v`. -/
theorem Dev.write_shows {w : Wr} {starts : Bool} (hb : b < 64) (hh : d.hears (0x3080 + b) 1 w = true)
    (he : effMkaEnable b (d.roleOf w.path) w.value (d.atOwner w) = (0, z.mkaShown b v)) (hz : Dev.Shifts (bindScope b starts) d z) :
    (d.write (effMkaEnable b) (0x3080 + b) 1 w).answer.abort = 0 ∧
      (d.write (effMkaEnable b) (0x3080 + b) 1 w).rd (0x3080 + b) 1 = z.rd (0x3080 + b) 1 ∧
      (d.write (effMkaEnable b) (0x3080 + b) 1 w).rd (0x3080 + b) 0x10 = v ∧ (d.write (effMkaEnable b) (0x3080 + b) 1 w).rd (0x3080 + b) 0x11 = 0 ∧
      (d.write (effMkaEnable b) (0x3080 + b) 1 w).rd (0x3080 + b) 0x12 = 0 ∧ (d.write (effMkaEnable b) (0x3080 + b) 1 w).mkaOf b = z.mkaOf b ∧
      Dev.Shifts (bindScope b starts) d (d.write (effMkaEnable b) (0x3080 + b) 1 w) := by
  rw [Dev.write_accepts hh he]
  have hshown := (Dev.touches_mkaShown b v z).respond w.path (0x3080 + b) 1
  obtain ⟨h1, hstatus, hpeers, hserver⟩ := Dev.rd_mkaShown hb v z
  simp only [Dev.rd_respond_zero]
  refine ⟨by rw [Dev.respond_answer], h1, hstatus, hpeers, hserver, ?_, hz.trans (.of_touches hshown)⟩
  unfold Dev.mkaOf
  rw [hshown.keys_eq]

end Binding

/-- Settles O25, by what each write and each event of the generator leaves; ERASE leaves the slot emptied whatever the carriers then do. -/
theorem vaultSlotsAndGeneratorAreServed : Obligations.VaultSlotsAndGeneratorAreServed := by
  unfold Obligations.VaultSlotsAndGeneratorAreServed
  refine ⟨fun slot w s hs hh hv he => ?_, fun slot w s hs hh hv hn hu => ?_, fun ok w s hh => ?_, fun s hr => ?_, fun s hr => ?_,
    fun b w s hb hh hv => ?_, fun b w s hb hh hv h0 htx hpool hbound => ?_⟩
  case refine_4 =>
    refine completes_act (f := Dev.autoReseed) rfl ?_
    rw [Dev.autoReseed, if_pos hr]
    exact ⟨rfl, (Dev.Shifts.withKeys (m := { reg := fun _ _ => false, keys := true }) s.dev _ rfl).keeps fun _ _ h => h⟩
  case refine_5 => exact completes_act (f := Dev.healthFail) rfl (Dev.healthFail_fails hr)
  all_goals have howner := s.dev.touches_atOwner w
  · refine completes_actIf (f := Dev.write (effUsage slot) (0x3010 + slot) 1 w) rfl (by simpa using hs) ?_
    have hempty := (howner.rd (i := 0x3010 + slot) (j := 2) (by decide) (eventReg_between 2 (by omega) (by omega))).trans he
    exact Dev.write_stores hh (by decide) (by omega) (by simp [effUsage, Nat.not_le.2 hv, hempty])
  · refine completes_actIf (f := Dev.write (effErase slot) (0x3010 + slot) 4 w) rfl (by simpa using hs) ?_
    have heff := effErase_erases (howner.vaultNormal_eq.trans hn) ((howner.slotInUse_eq slot).trans hu) (s.dev.roleOf w.path)
    rw [Dev.write_accepts hh (hv ▸ heff)]
    have hdone := (Dev.SameRoots.of_touches (s := slot) (Dev.Touches.refl.respond (p := eventReg) w.path (0x3010 + slot) 4)
      (eventReg_between 2 (by omega) (by omega))).emptied (Dev.emptied_erase hs (s.dev.atOwner w))
    refine ⟨by rw [Dev.respond_answer], hdone.state, hdone.content, List.all_eq_true.2 fun p hp => hdone.uncached p (List.mem_range.1 hp)⟩
  · refine completes_act (f := Dev.write (effReseed ok) 0x3000 7 w) rfl ?_
    rw [Dev.write_accepts hh rfl]
    have hshift : Dev.Shifts { reg := only 0x3000 6, keys := true } s.dev (effReseed ok (s.dev.roleOf w.path) w.value (s.dev.atOwner w)).2 :=
      ((Dev.Shifts.of_eventTouches howner).trans (.withKeys _ _ rfl)).trans (.wr _ _ (by simp [Scope.opens, only]) (by decide))
    refine ⟨by rw [Dev.respond_answer], (Dev.rd_respond_zero ..).trans (Dev.rd_wr_self ..), ?_, (hshift.respond _ _ _).keeps fun _ _ h => h⟩
    exact congrArg Keys.requests (Dev.keys_respond ..)
  · refine completes_actIf (f := Dev.write (effMkaEnable b) (0x3080 + b) 1 w) rfl (by simpa using hb) ?_
    obtain ⟨l, heff⟩ := effMkaEnable_disables b (s.dev.roleOf w.path) (s.dev.atOwner w)
    obtain ⟨habort, henable, hstatus, hpeers, hserver, hof, hshift⟩ := Dev.write_shows (starts := false) hb hh (by rw [hv]; exact heff)
      (((Dev.Shifts.of_eventTouches howner).trans (.withKeys _ _ rfl)).trans (.wr _ _ (by simp [Scope.opens, bindScope]) (by decide)))
    exact ⟨habort, henable.trans (Dev.rd_wr_self ..), hstatus, hpeers, hserver, hof.trans (Dev.mkaOf_withMka ..),
      hshift.keeps fun _ _ h => h⟩
  · refine completes_actIf (f := Dev.write (effMkaEnable b) (0x3080 + b) 1 w) rfl (by simpa using hb) ?_
    have hrd : ∀ j, j < 256 → (s.dev.atOwner w).rd (0x3080 + b) j = s.dev.rd (0x3080 + b) j := fun j hj =>
      howner.rd hj (eventReg_binding hb j)
    have hchan : ∀ n c rx, (s.dev.atOwner w).mkaChannel n c rx = s.dev.mkaChannel n c rx := fun n c rx => by
      unfold Dev.mkaChannel
      rw [howner.chan_eq]
    obtain ⟨x, htodo, heff⟩ := effMkaEnable_enables (b := b) (d := s.dev.atOwner w) ((hrd 1 (by decide)).trans h0)
      (by rw [Dev.mkaPair, Dev.mkaTx, hchan, hrd 2 (by decide), hrd 0xD (by decide)]; exact htx)
      (by
        rw [Dev.mkaPair, Dev.mkaPool, hrd 2 (by decide), hrd 0xE (by decide), hrd 0xF (by decide), List.all_map]
        simpa only [Function.comp_def, hchan] using hpool)
      (by rw [Dev.mkaPair, hrd 2 (by decide), howner.mkaBound_eq]; exact hbound) (s.dev.roleOf w.path)
    obtain ⟨habort, henable, hstatus, -, -, hof, hshift⟩ := Dev.write_shows (starts := true) hb hh (by rw [hv]; exact heff)
      ((Dev.Shifts.of_eventTouches howner).trans (Dev.shifts_bound b x _))
    refine ⟨habort, henable.trans (Dev.rd_bound ..), hstatus, ?_, hshift.keeps fun _ _ h => h⟩
    rw [hof, Dev.mkaOf_bound]
    exact congrArg some htodo

end Sys2Proof.Machine

namespace Sys2Proof.Machine

/-! ## A walk under an EPOCH that no slot can hold (R265, R280) -/

/-- A block whose table 0 holds one entry and migrates, the EPOCH in force being 2, where R265 gives an entry's EPOCH one bit. -/
def walkInEpochTwo : State := ⟨[], ((tabled 0).wr 0x4010 9 1).setTab 0 { Tab.init with epoch := 2, seeds := some (5, 6) }⟩

/-- Refutes O30: its clause on a step of the walk does not ask that the EPOCH in force is 0 or 1. Under EPOCH 2 the entry moved reads EPOCH 0. -/
theorem not_tablesDrainMigrateAndAge : ¬ Obligations.TablesDrainMigrateAndAge := by
  unfold Obligations.TablesDrainMigrateAndAge
  intro h
  obtain ⟨-, -, -, hwalk, -⟩ := h
  obtain ⟨-, hepoch, -⟩ := (hwalk 0 (4 * hashKey 0xFFFFFFFF 0) (4 * (bucketsOf (5, 6) 0).1) ⟨0, 0, 5, 1⟩ [] walkInEpochTwo (by decide) (by decide)
    (by decide +kernel) (by decide +kernel) (by decide +kernel) (by decide +kernel) (by decide +kernel) (by decide +kernel)
    (by decide +kernel)).of_act (f := fun d => when (d.tableOn 0) (Dev.migrationStep 0) d) rfl
  exact absurd hepoch (by decide +kernel)

end Sys2Proof.Machine

namespace Sys2Proof.Machine

/-! ## A bulk write under a lease that ends (R290) -/

/-- A block with table 0 locked by HOST and a descriptor of WRITE_BUCKETS in progress on ring 0, one of its two buckets written. -/
def bulkWriteUnderLease : State := ⟨[], { dmaReady 0 with dmaRuns := [(0, ⟨2, ⟨0, 2, 0, 0, false⟩, List.replicate 512 0, 1, 0⟩)] }⟩

/-- Refutes O31: its clause on the lease's end does not ask that no write is in progress on the table. One that is ends with NOT_LOCKED, and
the descriptors in progress change, which the statement keeps. -/
theorem not_tableLocksNotesAndPlumbBlocks : ¬ Obligations.TableLocksNotesAndPlumbBlocks := by
  unfold Obligations.TableLocksNotesAndPlumbBlocks
  intro h
  obtain ⟨-, -, hlease, -⟩ := h
  obtain ⟨-, -, -, -, hrest⟩ := (hlease 0 bulkWriteUnderLease (by decide) (by decide +kernel) (by decide +kernel)).of_act
    (f := Dev.ifRuns (tabDom 0) (Dev.leaseEnds 0)) rfl
  exact absurd (congrArg Dev.dmaRuns hrest) (by decide +kernel)

end Sys2Proof.Machine

namespace Sys2Proof.Machine

/-! ## Table entries and engines beside the registers (R276, R299) -/

section TableParts

variable {p : Nat → Nat → Bool} {a b d : Dev} {k loc l : Nat} {x : Ent}

/-- The block with other table engines and other marks of uncorrectable errors. -/
def Dev.withEngines (t : Tbl Tab) (bad : List Nat) (d : Dev) : Dev := { d with tabs := t, eccBad := bad }

theorem Dev.eccClear_withEngines (t : Tbl Tab) (bad : List Nat) (sk : Nat) (d : Dev) :
    (d.withEngines t bad).eccClear sk = d.withEngines t (bad.filter (· != sk)) := rfl

theorem Dev.Touches.withEngines (h : Dev.Touches p a b) (t : Tbl Tab) (bad : List Nat) :
    Dev.Touches p (a.withEngines t bad) (b.withEngines t bad) :=
  h.map (f := Dev.withEngines t bad) (fun _ => rfl) (fun _ _ _ _ => rfl) fun hc => by rw [hc]; rfl

theorem Dev.Touches.storeEnt (h : Dev.Touches p a b) (k loc : Nat) (x : Ent) : Dev.Touches p (a.storeEnt k loc x) (b.storeEnt k loc x) :=
  h.map (f := Dev.storeEnt k loc x) (fun _ => rfl) (fun _ _ _ _ => rfl) fun hc => by rw [hc]; rfl

theorem Dev.Touches.setChan (h : Dev.Touches p a b) (c v : Nat) : Dev.Touches p (a.setChan c v) (b.setChan c v) :=
  h.map (f := Dev.setChan c v) (fun _ => rfl) (fun _ _ _ _ => rfl) fun hc => by rw [hc]; rfl

theorem Dev.Touches.ent_eq (h : Dev.Touches p a b) (k loc : Nat) : b.ent k loc = a.ent k loc := by rw [h.same]; rfl

theorem Dev.Touches.tab_eq (h : Dev.Touches p a b) (k : Nat) : b.tab k = a.tab k := by rw [h.same]; rfl

theorem Dev.Touches.eccBad_eq (h : Dev.Touches p a b) : b.eccBad = a.eccBad := by rw [h.same]

theorem Dev.Touches.injection_eq (h : Dev.Touches p a b) : b.inject = a.inject := by rw [h.same]

theorem Dev.Touches.lockedFor_eq (h : Dev.Touches p a b) (k : Nat) (r : Role) : b.lockedFor k r = a.lockedFor k r := by
  unfold Dev.lockedFor; rw [h.tab_eq]

theorem Dev.ent_storeEnt : (d.storeEnt k loc x).ent k loc = x := Tbl.get_set_self _ _ _ _

theorem Dev.ent_storeEnt_ne (hl : l ≠ loc) : (d.storeEnt k loc x).ent k l = d.ent k l :=
  Tbl.get_set_ne _ _ _ (by unfold Machine.slotKey; omega)

theorem Dev.chan_setChan (c v : Nat) (d : Dev) : (d.setChan c v).chan c = v := Tbl.get_set_self _ _ _ _

theorem Dev.chan_withEngines (t : Tbl Tab) (bad : List Nat) (c : Nat) (d : Dev) : (d.withEngines t bad).chan c = d.chan c := rfl

/-- Marking a plumb block dirty changes its table's engine alone. -/
theorem Dev.dirty_eq (k n : Nat) (d : Dev) : ∃ t, d.dirty k n = d.withEngines t d.eccBad := by
  unfold Dev.dirty
  simp only
  split
  · exact ⟨d.tabs, rfl⟩
  · exact ⟨_, rfl⟩

theorem Dev.dirty_foldl (k : Nat) (l : List Nat) (d : Dev) : ∃ t, l.foldl (fun y n => y.dirty k n) d = d.withEngines t d.eccBad := by
  induction l generalizing d with
  | nil => exact ⟨d.tabs, rfl⟩
  | cons n l ih =>
    obtain ⟨t, ht⟩ := d.dirty_eq k n
    obtain ⟨u, hu⟩ := ih (d.withEngines t d.eccBad)
    exact ⟨u, by rw [List.foldl_cons, ht, hu]; rfl⟩

end TableParts

/-! ## What a place made `x` changes (R260, R262, R280, R293) -/

section Storing

variable {p q : Nat → Nat → Bool} {a a' b c d : Dev} {k loc l : Nat} {x : Ent} {bad : List Nat}

/-- A condition of a table touches its CAUSE and the registers of events. -/
theorem Dev.touches_tableCause (hk : k < 16) (hp : ∀ i j, eventReg i j = true → p i j = true) (hc : p (0x4010 + k) 0xE = true) (i : Nat)
    (d : Dev) : Dev.Touches p d (d.cause (.table k) i) := by
  have he : causeEvent (.table k) i < 400 := by simp only [causeEvent, quadEvent]; omega
  exact Dev.touches_cause hp (.table k) i hc (show 0xE < 256 by decide) (show 0xE ≠ 2 by decide) (hp _ _ (eventReg_group he (.inl rfl)))
    (hp _ _ (eventReg_group he (.inr rfl))) d

/-- The registers of table `k` and those of its quadrant's learning and ageing. -/
def tableRegs (k i _j : Nat) : Bool := i = 0x4010 + k || i = 0x4080 + k / 4

/-- Those registers and the registers of events. -/
def tableOpen (k i j : Nat) : Bool := tableRegs k i j || eventReg i j

theorem tableOpen_eventReg (k i j : Nat) (h : eventReg i j = true) : tableOpen k i j = true := by simp [tableOpen, h]

theorem tableOpen_table (k j : Nat) : tableOpen k (0x4010 + k) j = true := by simp [tableOpen, tableRegs]

theorem Dev.touches_openCause (hk : k < 16) (i : Nat) (d : Dev) : Dev.Touches (tableOpen k) d (d.cause (.table k) i) :=
  Dev.touches_tableCause hk (tableOpen_eventReg k) (tableOpen_table k _) i d

theorem Dev.touches_openWrite {j : Nat} (hk : k < 16) (v : Nat) (hj : j < 256) (d : Dev) : Dev.Touches (tableOpen k) d (d.wr (0x4010 + k) j v) :=
  .write _ _ _ _ (tableOpen_table k j) hj fun _ => by omega

theorem Dev.touches_occupy (hk : k < 16) (up down : Bool) (d : Dev) : Dev.Touches (tableOpen k) d (d.occupy k up down) :=
  (Dev.Touches.ite .refl (Dev.touches_openWrite hk _ (by decide) _)).trans (.when (Dev.touches_openCause hk _ _))

theorem Dev.touches_stashUse (hk : k < 16) (up down : Bool) (d : Dev) : Dev.Touches (tableOpen k) d (d.stashUse k up down) :=
  (Dev.Touches.ite .refl (Dev.touches_openWrite hk _ (by decide) _)).trans (.when (Dev.touches_openCause hk _ _))

theorem Dev.touches_pendCount (k : Nat) (up down : Bool) (d : Dev) : Dev.Touches (tableOpen k) d (d.pendCount (k / 4) up down) :=
  .ite .refl (.write _ _ 6 _ (by simp [tableOpen, tableRegs]) (by decide) (by omega))

/-- `b` comes from `a` by place `loc` of table `k` made `x`, the table engines changed, the uncorrectable errors made `bad`, and what touches
registers on which `p` holds. -/
def Dev.Stores (p : Nat → Nat → Bool) (k loc : Nat) (x : Ent) (bad : List Nat) (a b : Dev) : Prop :=
  ∃ t, Dev.Touches p ((a.storeEnt k loc x).withEngines t bad) b

namespace Dev.Stores

theorem mono (hpq : ∀ i j, p i j = true → q i j = true) (h : Stores p k loc x bad a b) : Stores q k loc x bad a b := by
  obtain ⟨t, h⟩ := h
  exact ⟨t, h.mono hpq⟩

theorem after (h : Stores p k loc x bad a b) (ha : Touches p a' a) : Stores p k loc x bad a' b := by
  obtain ⟨t, h⟩ := h
  exact ⟨t, ((ha.storeEnt k loc x).withEngines t bad).trans h⟩

theorem touches (h : Stores p k loc x bad a b) (hb : Touches p b c) : Stores p k loc x bad a c := by
  obtain ⟨t, h⟩ := h
  exact ⟨t, h.trans hb⟩

/-- The marks of uncorrectable errors and the engines replaced afterwards. -/
theorem withEngines (h : Stores p k loc x bad a b) (t : Tbl Tab) (bad' : List Nat) : Stores p k loc x bad' a (b.withEngines t bad') := by
  obtain ⟨u, h⟩ := h
  exact ⟨t, h.withEngines t bad'⟩

theorem eccBad_eq (h : Stores p k loc x bad a b) : b.eccBad = bad := by
  obtain ⟨t, h⟩ := h
  exact Touches.eccBad_eq h

theorem setTab (h : Stores p k loc x bad a b) (k' : Nat) (y : Tab) : Stores p k loc x bad a (b.setTab k' y) := by
  have heq : b.setTab k' y = b.withEngines (Tbl.set (fun _ => Tab.init) b.tabs k' y) bad := by rw [← h.eccBad_eq]; rfl
  rw [heq]
  exact h.withEngines _ bad

theorem eccClear (h : Stores p k loc x bad a b) (sk : Nat) : Stores p k loc x (bad.filter (· != sk)) a (b.eccClear sk) := by
  rw [← h.eccBad_eq]
  exact h.withEngines b.tabs _

/-- The place reads as stored. -/
theorem ent_eq (h : Stores p k loc x bad a b) : b.ent k loc = x := by
  obtain ⟨t, h⟩ := h
  exact (Touches.ent_eq h k loc).trans Dev.ent_storeEnt

/-- Another place of the table reads as before. -/
theorem ent_ne (h : Stores p k loc x bad a b) (hl : l ≠ loc) : b.ent k l = a.ent k l := by
  obtain ⟨t, h⟩ := h
  exact (Touches.ent_eq h k l).trans (Dev.ent_storeEnt_ne hl)

theorem rd (h : Stores p k loc x bad a b) {i j : Nat} (hj : j < 256) (hp : p i j = false) : b.rd i j = a.rd i j := by
  obtain ⟨t, h⟩ := h
  exact Touches.rd h hj hp

/-- What storing a place keeps, the tables put back. -/
theorem keeps (h : Stores (fun i j => q i j || eventReg i j) k loc x bad a b) :
    a.keeps q { b with slots := a.slots, tabs := a.tabs, eccBad := a.eccBad, eccSoft := a.eccSoft } := by
  obtain ⟨t, h⟩ := h
  exact (Touches.keeps h).beside (fun z => { z with slots := a.slots, tabs := a.tabs, eccBad := a.eccBad, eccSoft := a.eccSoft }) rfl
    fun _ => rfl

/-- The same where no error has ended. -/
theorem keeps_errors (h : Stores (fun i j => q i j || eventReg i j) k loc x a.eccBad a b) :
    a.keeps q { b with slots := a.slots, tabs := a.tabs, eccSoft := a.eccSoft } := by
  obtain ⟨t, h⟩ := h
  exact (Touches.keeps h).beside (fun z => { z with slots := a.slots, tabs := a.tabs, eccSoft := a.eccSoft }) rfl fun _ => rfl

end Dev.Stores

theorem Dev.stores_storeEnt (p : Nat → Nat → Bool) (k loc : Nat) (x : Ent) (d : Dev) :
    Dev.Stores p k loc x d.eccBad d (d.storeEnt k loc x) := ⟨d.tabs, .refl⟩

/-- A place made `x` touches the counts of its table and quadrant, and the engine's dirty blocks. -/
theorem Dev.stores_putEnt (hk : k < 16) (loc : Nat) (x : Ent) (d : Dev) : Dev.Stores (tableOpen k) k loc x d.eccBad d (d.putEnt k loc x) := by
  unfold Dev.putEnt
  extract_lets o d1 d2 d3 d4
  have hcounts : Dev.Touches (tableOpen k) d1 d4 :=
    ((Dev.touches_occupy hk _ _ d1).trans (.when (Dev.touches_stashUse hk _ _ d2))).trans (Dev.touches_pendCount k _ _ d3)
  have hstored : Dev.Stores (tableOpen k) k loc x d.eccBad d d4 := (Dev.stores_storeEnt _ k loc x d).touches hcounts
  obtain ⟨t, ht⟩ := Dev.dirty_foldl k (d.blocksOf k loc o x) d4
  rw [ht, hstored.eccBad_eq]
  exact hstored.withEngines t _

/-- A place invalidated and a stalled migration resumed (R281, R284). -/
theorem Dev.stores_removeEnt (hk : k < 16) (loc : Nat) (d : Dev) :
    Dev.Stores (tableOpen k) k loc (d.ent k loc).gone d.eccBad d (d.removeEnt k loc) := by
  have hput := Dev.stores_putEnt hk loc (d.ent k loc).gone d
  unfold Dev.removeEnt Dev.resumeMigration Dev.dropEnt
  split
  · exact (hput.touches (Dev.touches_openWrite hk 1 (by decide) _)).setTab k _
  · exact hput

/-- What writing record `c` keeps, the tables put back. -/
theorem Dev.Touches.keeps_record {t : Tbl Tab} {c v : Nat}
    (h : Dev.Touches (fun i j => q i j || eventReg i j) ((a.setChan c v).withEngines t bad) b) :
    a.keeps q { b with chans := a.chans, tabs := a.tabs, eccBad := a.eccBad, eccSoft := a.eccSoft } :=
  h.keeps.beside (fun x => { x with chans := a.chans, tabs := a.tabs, eccBad := a.eccBad, eccSoft := a.eccSoft }) rfl fun _ => rfl

/-- A record written with its pair and direction, ACTIVE_AN kept (R285). -/
theorem Dev.writeRecord_stays {c v r : Nat} (hc : c < 32768) (hr : r = chanClean v) (hok : chanOk (c / 8192) r = true)
    (hlevel : chRx r = true → bit 83 r = false → d.level1 (chPair r) = false) (hpair : chPair r = chPair (d.chan c))
    (hrx : chRx r = chRx (d.chan c)) :
    ∃ t bad z, Dev.Touches (tableOpen (4 * (c / 8192) + 3)) ((d.setChan c (setFld 87 86 r (chAn (d.chan c)))).withEngines t bad) z ∧
      d.writeRecord c v false = (0, z) := by
  have hheld : (chRx r && !bit 83 r && d.level1 (chPair r)) = false := by
    cases h1 : chRx r
    · rfl
    · cases h2 : bit 83 r
      · rw [hlevel h1 h2]
        rfl
      · rfl
  have hmoved : (chPair r != chPair (d.chan c) || chRx r != chRx (d.chan c)) = false := by simp [hpair, hrx]
  obtain ⟨t, ht⟩ := (d.setChan c (setFld 87 86 r (chAn (d.chan c)))).dirty_eq (4 * (c / 8192) + 3) (c % 8192 / 256)
  have hwrite : d.writeRecord c v false = (0, (((d.setChan c (setFld 87 86 r (chAn (d.chan c)))).dirty (4 * (c / 8192) + 3)
      (c % 8192 / 256)).eccClear (Machine.slotKey (4 * (c / 8192) + 3) (c % 8192))).occupy (4 * (c / 8192) + 3) (!chOn (d.chan c) && chOn r)
      (chOn (d.chan c) && !chOn r)) := by
    simp only [Dev.writeRecord, ← hr, hok, hheld, hmoved, Bool.not_true, Bool.false_and, Bool.false_eq_true, if_false, when_false]
  rw [ht, Dev.eccClear_withEngines] at hwrite
  exact ⟨t, _, _, Dev.touches_occupy (by omega) _ _ _, hwrite⟩

end Storing

/-! ## Lookups (R270, R271, R273, R275) -/

section Searching

variable {p : Nat → Nat → Bool} {a b d : Dev} {k key l : Nat}

/-- Neither SEED0 nor SEED1 of table `k` is a register on which `p` holds. -/
def SparesSeeds (p : Nat → Nat → Bool) (k : Nat) : Prop := p (0x4010 + k) 4 = false ∧ p (0x4010 + k) 5 = false

namespace Dev.Touches

variable (h : Touches p a b)
include h

theorem freeIn_eq (k n : Nat) : b.freeIn k n = a.freeIn k n := by
  unfold Dev.freeIn
  simp only [h.ent_eq]

variable (hs : SparesSeeds p k)
include hs

theorem oldSeeds_eq : b.oldSeeds k = a.oldSeeds k := by
  unfold Dev.oldSeeds
  rw [h.rd (by decide) hs.1, h.rd (by decide) hs.2]

theorem seedsNow_eq : b.seedsNow k = a.seedsNow k := by
  unfold Dev.seedsNow
  rw [h.tab_eq, h.oldSeeds_eq hs]

theorem compared_eq (key : Nat) : b.compared k key = a.compared k key := by
  unfold Dev.compared Dev.places
  simp only [h.ent_eq, h.tab_eq, h.seedsNow_eq hs, h.oldSeeds_eq hs]

theorem findKey_eq (key : Nat) : b.findKey k key = a.findKey k key := by
  unfold Dev.findKey Dev.matchesOf
  simp only [h.ent_eq, h.compared_eq hs]

theorem eccAmong_eq (key : Nat) : b.eccAmong k key = a.eccAmong k key := by
  unfold Dev.eccAmong Dev.eccHard Dev.armedAt Dev.armed
  simp only [h.compared_eq hs, h.eccBad_eq, h.injection_eq]

end Dev.Touches

/-- With no injection armed, places are read as they are. -/
theorem Dev.readSlots_uninjected (hi : d.inject = none) (sks : List Nat) : d.readSlots sks = d := by
  have hnone : ∀ sk, d.armedAt sk = none := fun sk => by simp [Dev.armedAt, Dev.armed, hi]
  simp [Dev.readSlots, hnone]

/-- CAUSE of table `k` and the registers of events. -/
def tableCauseReg (k i j : Nat) : Bool := only (0x4010 + k) 0xE i j || eventReg i j

theorem tableOpen_tableCauseReg (k i j : Nat) (h : tableCauseReg k i j = true) : tableOpen k i j = true := by
  simp only [tableCauseReg, tableOpen, tableRegs, only, Bool.or_eq_true, Bool.and_eq_true, decide_eq_true_eq] at h ⊢
  tauto

/-- A comparison of places touches DUPLICATES and CAUSE (R271). -/
theorem Dev.touches_look (hk : k < 16) (key : Nat) (d : Dev) : Dev.Touches (tableOpen k) d (d.look k key).2 := by
  have hcount : Dev.Touches (tableOpen k) d ((d.count 64 (0x4010 + k) 0x14 1).cause (.table k) 6) :=
    (Dev.touches_openWrite hk _ (by decide) d).trans (Dev.touches_openCause hk 6 _)
  simp only [Dev.look]
  exact Dev.Touches.when (f := fun x => (x.count 64 (0x4010 + k) 0x14 1).cause (.table k) 6) hcount

/-- A search that finds a place and meets no uncorrectable error touches causes and counts alone (R271, R273). -/
theorem Dev.search_found (hk : k < 16) (hf : d.findKey k key = some l) (he : d.eccAmong k key = none) (hi : d.inject = none) :
    ∃ z, Dev.Touches (tableOpen k) d z ∧ d.search k key = (some l, false, z) := by
  have hsoft : ∀ locs, Dev.Touches (tableCauseReg k) d (d.softMet k locs) := fun locs =>
    .when (Dev.touches_tableCause hk (fun i j h => by simp [tableCauseReg, h]) (by simp [tableCauseReg, only]) _ _)
  have hspares : SparesSeeds (tableCauseReg k) k := by
    constructor <;> simp [tableCauseReg, only, eventReg_between (i := 0x4010 + k) _ (by omega) (by omega)]
  have hlook : ∀ locs, d.lookAt k locs = d.softMet k locs := fun locs => Dev.readSlots_uninjected ((hsoft locs).injection_eq.trans hi) _
  have hfound : ∀ locs, (d.softMet k locs).findKey k key = some l := fun locs => ((hsoft locs).findKey_eq hspares key).trans hf
  unfold Dev.search
  simp only [he, hlook]
  exact ⟨_, ((hsoft _).mono (tableOpen_tableCauseReg k)).trans (Dev.touches_look hk key _), Prod.ext (hfound _) rfl⟩

end Searching

end Sys2Proof.Machine

namespace Sys2Proof.Machine

/-! ## A command at a table window (R282, R284) -/

section TableWindow

variable {p : Nat → Nat → Bool} {a b d y z : Dev} {n l code : Nat} {path : Path}

/-- The registers of table window `n`, of its table and of its quadrant's learning and ageing. -/
def windowRegs (n i _j : Nat) : Bool := i = 0x4040 + n || i = 0x4010 + n / 4 || i = 0x4080 + n / 16

/-- Those registers and the registers of events. -/
def windowOpen (n i j : Nat) : Bool := windowRegs n i j || eventReg i j

/-- LOCATION and RELOCATIONS of window `n`, which every command starts over, and the registers of events. -/
def startReg (n i j : Nat) : Bool := (i = 0x4040 + n && (j = 0x11 || j = 0x12)) || eventReg i j

theorem windowOpen_tableOpen (n i j : Nat) (h : tableOpen (n / 4) i j = true) : windowOpen n i j = true := by
  have hq : n / 4 / 4 = n / 16 := by omega
  simp only [tableOpen, tableRegs, windowOpen, windowRegs, hq, Bool.or_eq_true, decide_eq_true_eq] at h ⊢
  tauto

theorem windowOpen_startReg (n i j : Nat) (h : startReg n i j = true) : windowOpen n i j = true := by
  simp only [startReg, windowOpen, windowRegs, Bool.or_eq_true, Bool.and_eq_true, decide_eq_true_eq] at h ⊢
  tauto

/-- The registers of a window are none of its table's. -/
theorem tableOpen_window (hn : n < 64) (j : Nat) : tableOpen (n / 4) (0x4040 + n) j = false := by
  have h1 : 0x4040 + n ≠ 0x4010 + n / 4 := by omega
  have h2 : 0x4040 + n ≠ 0x4080 + n / 4 / 4 := by omega
  simp [tableOpen, tableRegs, h1, h2, eventReg_between (i := 0x4040 + n) j (by omega) (by omega)]

theorem Dev.touches_winWrite (hn : n < 64) {j : Nat} (hj : j < 256) (v : Nat) (d : Dev) :
    Dev.Touches (windowOpen n) d (d.wr (0x4040 + n) j v) :=
  .write _ _ _ _ (by simp [windowOpen, windowRegs]) hj fun _ => by omega

theorem Dev.touches_winLoc (hn : n < 64) (o : Option Nat) (d : Dev) : Dev.Touches (windowOpen n) d (d.winLoc n o) :=
  Dev.touches_winWrite hn (by decide) _ d

theorem Dev.rd_winLoc (n l : Nat) (d : Dev) : (d.winLoc n (some l)).rd (0x4040 + n) 0x11 = l := Dev.rd_wr_self ..

/-! What a command finds where it starts is what the block held. -/

namespace Dev.Touches

variable (h : Touches (startReg n) a b)
include h

theorem rd_window (hn : n < 64) {j : Nat} (hj : j < 256) (h11 : j ≠ 0x11) (h12 : j ≠ 0x12) : b.rd (0x4040 + n) j = a.rd (0x4040 + n) j :=
  h.rd hj (by simp [startReg, h11, h12, eventReg_between (i := 0x4040 + n) j (by omega) (by omega)])

theorem words_window (hn : n < 64) {j m : Nat} (hj : j + m ≤ 0x11) :
    (List.range m).foldl (fun x i => x + b.rd (0x4040 + n) (j + i) * 2 ^ (64 * i)) 0 =
      (List.range m).foldl (fun x i => x + a.rd (0x4040 + n) (j + i) * 2 ^ (64 * i)) 0 :=
  List.foldl_ext _ _ _ fun x i hi => by
    have hi : i < m := List.mem_range.1 hi
    rw [h.rd_window hn (by omega) (by omega) (by omega)]

theorem winKey_eq (hn : n < 64) : b.winKey n = a.winKey n := h.words_window hn (by decide)

theorem winMask_eq (hn : n < 64) : b.winMask n = a.winMask n := h.words_window hn (by decide)

theorem winWords_eq (hn : n < 64) : b.winWords n = a.winWords n := h.words_window hn (by decide)

end Dev.Touches

theorem sparesSeeds_startReg (hn : n < 64) : SparesSeeds (startReg n) (n / 4) := by
  have hne : 0x4010 + n / 4 ≠ 0x4040 + n := by omega
  constructor <;> simp [startReg, hne, eventReg_between (i := 0x4010 + n / 4) _ (by omega) (by omega)]

/-- STATUS of the window set to RESULT OK, and the write of its CMD answered. -/
def Dev.windowDone (n : Nat) (path : Path) (z : Dev) : Dev := (z.winDone n 0).respond path (0x4040 + n) 1 0 0 0 0

theorem Dev.touches_windowDone (hn : n < 64) (path : Path) (z : Dev) : Dev.Touches (windowOpen n) z (z.windowDone n path) :=
  (Dev.touches_winWrite hn (by decide) _ z).respond _ _ _

theorem Dev.windowDone_answer (n : Nat) (path : Path) (z : Dev) : (z.windowDone n path).answer.abort = 0 := by
  rw [Dev.windowDone, Dev.respond_answer]

theorem Dev.windowDone_result (n : Nat) (path : Path) (z : Dev) : (z.windowDone n path).rd (0x4040 + n) 0x10 = 0 := by
  rw [Dev.windowDone, Dev.rd_respond_zero, Dev.winDone, Dev.rd_wr_self]

theorem Dev.rd_windowDone {j : Nat} (hj : j ≠ 0x10) (z : Dev) : (z.windowDone n path).rd (0x4040 + n) j = z.rd (0x4040 + n) j := by
  rw [Dev.windowDone, Dev.rd_respond_zero, Dev.winDone, Dev.rd_wr_ne _ _ (by omega)]

/-- The block as operation `code` of window `n` finds it (R276, R282). -/
def Dev.winStart (n code : Nat) (d : Dev) : Dev := when (code = 2) (fun x => x.wr (0x4040 + n) 0x12 0) (d.winLoc n none)

theorem Dev.touches_winStart (n code : Nat) (d : Dev) : Dev.Touches (startReg n) d (d.winStart n code) :=
  (Dev.Touches.write _ _ _ _ (by simp [startReg]) (by decide) fun _ => by omega).trans
    (.when (.write _ _ _ _ (by simp [startReg]) (by decide) fun _ => by omega))

/-- A heard CMD whose operation ends with RESULT OK. -/
theorem completes_tableCmd {c : Instr} {hit : Bool} {s : State} {op : Dev → Dev} {P : Dev → Prop}
    (he : exec c s = actIf (n < 64) (Dev.tableCmd n code hit path) s) (hn : n < 64) (hh : s.dev.hears (0x4040 + n) 1 ⟨path, 2, 1, code⟩ = true)
    (hcode : ∀ d, effTableCmd n hit (s.dev.roleOf path) code d = (0, op (d.winStart n code)))
    (hop : ∀ y, Dev.Touches (startReg n) s.dev y → ∃ z : Dev, op y = z.winDone n 0 ∧ P (z.windowDone n path)) : Completes c s P := by
  refine completes_actIf he (by simpa using hn) ?_
  have howner := (s.dev.touches_atOwner ⟨path, 2, 1, code⟩).mono (q := startReg n) fun i j h => by simp [startReg, h]
  obtain ⟨z, hz, hP⟩ := hop _ (howner.trans (Dev.touches_winStart n code _))
  rw [Dev.tableCmd, Dev.write_accepts hh (hcode _), hz]
  exact hP

/-- The same of an operation that the table's lock bars to other roles (R289). -/
theorem completes_unlockedCmd {c : Instr} {hit : Bool} {s : State} {op : Dev → Dev} {P : Dev → Prop}
    (he : exec c s = actIf (n < 64) (Dev.tableCmd n code hit path) s) (hn : n < 64) (hh : s.dev.hears (0x4040 + n) 1 ⟨path, 2, 1, code⟩ = true)
    (hlock : s.dev.lockedFor (n / 4) (s.dev.roleOf path) = false)
    (hcode : ∀ d, effTableCmd n hit (s.dev.roleOf path) code d = (0, if (d.winStart n code).lockedFor (n / 4) (s.dev.roleOf path)
      then (d.winStart n code).winDone n 9 else op (d.winStart n code)))
    (hop : ∀ y, Dev.Touches (startReg n) s.dev y → ∃ z : Dev, op y = z.winDone n 0 ∧ P (z.windowDone n path)) : Completes c s P := by
  refine completes_tableCmd (op := fun x => if x.lockedFor (n / 4) (s.dev.roleOf path) then x.winDone n 9 else op x) he hn hh hcode fun y hy => ?_
  obtain ⟨z, hz, hP⟩ := hop y hy
  exact ⟨z, by simp only [hy.lockedFor_eq, hlock, Bool.false_eq_true, if_false, hz], hP⟩

end TableWindow

/-! ## LOOKUP, READ_ENTRY and READ_SLOT (R284, R298) -/

section Looking

variable {d y z : Dev} {n l : Nat} {path : Path} {entry hit : Bool}

/-- Entry `x` at place `l` shown in window `n`: its place and result, and its control word where `entry`. -/
def Dev.showEnt (n l : Nat) (x : Ent) (entry : Bool) (d : Dev) : Dev :=
  when entry (fun y => y.wr (0x4040 + n) 0xD x.ctl) ((d.winLoc n (some l)).wr (0x4040 + n) 0xC x.res)

theorem Dev.touches_showEnt (hn : n < 64) (l : Nat) (x : Ent) (entry : Bool) (d : Dev) : Dev.Touches (windowOpen n) d (d.showEnt n l x entry) :=
  ((Dev.touches_winWrite hn (by decide) _ d).trans (Dev.touches_winWrite hn (by decide) _ _)).trans
    (.when (Dev.touches_winWrite hn (by decide) _ _))

theorem Dev.rd_showEnt (n l : Nat) (x : Ent) (entry : Bool) (d : Dev) :
    (d.showEnt n l x entry).rd (0x4040 + n) 0x11 = l ∧ (d.showEnt n l x entry).rd (0x4040 + n) 0xC = x.res ∧
      (entry = true → (d.showEnt n l x entry).rd (0x4040 + n) 0xD = x.ctl) := by
  cases entry <;> simp [Dev.showEnt, Dev.winLoc, Dev.rd_wr]

/-- ACTIVITY of entry `x` at place `l` cleared, but left 1 where a hit comes in that cycle (R298). -/
def Dev.clearActivity (k l : Nat) (hit : Bool) (x : Ent) (d : Dev) : Dev :=
  if hit then d.storeEnt k l { x with ctl := setBit 1 x.ctl } else d.putEnt k l { x with ctl := clrBit 1 x.ctl }

theorem Dev.stores_clearActivity {k : Nat} (hk : k < 16) (l : Nat) (hit : Bool) (x : Ent) (d : Dev) :
    Dev.Stores (tableOpen k) k l { x with ctl := putBit 1 x.ctl hit } d.eccBad d (d.clearActivity k l hit x) := by
  cases hit
  · exact Dev.stores_putEnt hk l _ d
  · exact Dev.stores_storeEnt _ k l _ d

/-- LOOKUP or READ_ENTRY of a key found without an uncorrectable error. -/
theorem Dev.opLook_found (hn : n < 64) (hf : d.findKey (n / 4) (d.winKey n) = some l) (he : d.eccAmong (n / 4) (d.winKey n) = none)
    (hi : d.inject = none) : ∃ z, Dev.Touches (windowOpen n) d z ∧
      d.opLook n entry hit = (when (entry && bit 0 (d.rd (0x4040 + n) 3)) (Dev.clearActivity (n / 4) l hit (d.ent (n / 4) l))
        (z.showEnt n l (d.ent (n / 4) l) entry)).winDone n 0 := by
  obtain ⟨z, hz, hsearch⟩ := Dev.search_found (show n / 4 < 16 by omega) hf he hi
  refine ⟨z, hz.mono (windowOpen_tableOpen n), ?_⟩
  simp only [Dev.opLook, hsearch, hz.ent_eq]
  rfl

/-- What a command that looks finds where it starts. -/
theorem Dev.Touches.found {s y : Dev} (hy : Dev.Touches (startReg n) s y) (hn : n < 64) (hf : s.findKey (n / 4) (s.winKey n) = some l)
    (he : s.eccAmong (n / 4) (s.winKey n) = none) (hi : s.inject = none) :
    y.findKey (n / 4) (y.winKey n) = some l ∧ y.eccAmong (n / 4) (y.winKey n) = none ∧ y.inject = none ∧
      y.rd (0x4040 + n) 3 = s.rd (0x4040 + n) 3 ∧ y.ent (n / 4) l = s.ent (n / 4) l := by
  have hs := sparesSeeds_startReg hn
  rw [hy.winKey_eq hn, hy.findKey_eq hs, hy.eccAmong_eq hs, hy.injection_eq]
  exact ⟨hf, he, hi, hy.rd_window hn (by decide) (by decide) (by decide), hy.ent_eq _ _⟩

/-- A LOOKUP or READ_ENTRY that changes no entry. -/
theorem Dev.opLook_shows {s : Dev} (hy : Dev.Touches (startReg n) s y) (hn : n < 64) (hf : s.findKey (n / 4) (s.winKey n) = some l)
    (he : s.eccAmong (n / 4) (s.winKey n) = none) (hi : s.inject = none) (hkeep : (entry && bit 0 (s.rd (0x4040 + n) 3)) = false) :
    ∃ z, Dev.Touches (windowOpen n) s z ∧ y.opLook n entry hit = (z.showEnt n l (s.ent (n / 4) l) entry).winDone n 0 := by
  obtain ⟨hf, he, hi, h3, hent⟩ := hy.found hn hf he hi
  obtain ⟨z, hz, hop⟩ := Dev.opLook_found (entry := entry) (hit := hit) hn hf he hi
  rw [h3, hent, hkeep, when_false] at hop
  exact ⟨z, (hy.mono (windowOpen_startReg n)).trans hz, hop⟩

/-- Words of a value written touch the objects that they are written to. -/
theorem Dev.touches_putWords {i j m : Nat} (hi : i ≠ 0x1188) (hj : j + m ≤ 256) (v : Nat) (d : Dev) :
    Dev.Touches (fun x y => x = i && within j m y) d (d.putWords i j m v) := by
  refine .foldl _ _ (fun k hk y => ?_) d
  have hk : k < m := List.mem_range.1 hk
  exact .write _ _ _ _ (by simp [within]; omega) (by omega) fun _ => hi

/-- The slot at place `l`, which holds `x`, shown in window `n`. -/
def Dev.showSlot (n l : Nat) (x : Ent) (d : Dev) : Dev :=
  (((d.wr (0x4040 + n) 0xC x.res).wr (0x4040 + n) 0xD x.ctl).putWords (0x4040 + n) 4 5 x.key).winLoc n (if x.valid then some l else none)

theorem Dev.touches_showSlot (hn : n < 64) (l : Nat) (x : Ent) (d : Dev) : Dev.Touches (windowOpen n) d (d.showSlot n l x) :=
  (((Dev.touches_winWrite hn (by decide) _ _).trans (Dev.touches_winWrite hn (by decide) _ _)).trans
    ((Dev.touches_putWords (by omega) (by decide) _ _).mono fun i j h => by simp_all [windowOpen, windowRegs])).trans
    (Dev.touches_winWrite hn (by decide) _ _)

theorem Dev.rd_showSlot (hn : n < 64) (l : Nat) (x : Ent) (d : Dev) :
    (d.showSlot n l x).rd (0x4040 + n) 0x11 = (if x.valid = true then l else 0xFFFE) ∧ (d.showSlot n l x).rd (0x4040 + n) 0xC = x.res ∧
      (d.showSlot n l x).rd (0x4040 + n) 0xD = x.ctl := by
  have hkey : ∀ j, 9 ≤ j → j < 256 → j ≠ 0x11 → (d.showSlot n l x).rd (0x4040 + n) j =
      ((d.wr (0x4040 + n) 0xC x.res).wr (0x4040 + n) 0xD x.ctl).rd (0x4040 + n) j := fun j h9 hj h11 => by
    rw [Dev.showSlot, Dev.winLoc, Dev.rd_wr_ne _ _ (by omega)]
    exact (Dev.touches_putWords (by omega) (by decide) _ _).rd hj (by simp [within]; omega)
  refine ⟨?_, ?_, ?_⟩
  · rw [Dev.showSlot, Dev.winLoc, Dev.rd_wr_self]
    split <;> rfl
  · rw [hkey _ (by decide) (by decide) (by decide), Dev.rd_wr_ne _ _ (by omega), Dev.rd_wr_self]
  · rw [hkey _ (by decide) (by decide) (by decide), Dev.rd_wr_self]

/-- READ_SLOT of a slot of a bucket without an uncorrectable error. -/
theorem Dev.opRead_shows (ht : n / 4 % 4 < 2) (hl : d.rd (0x4040 + n) 2 = l) (hlt : l < 32768)
    (hbad : d.eccBad.contains (Machine.slotKey (n / 4) l) = false) :
    d.opRead n = (d.showSlot n l (d.ent (n / 4) l)).winDone n 0 := by
  have h2 : n / 4 % 4 ≠ 2 := by omega
  have h3 : n / 4 % 4 ≠ 3 := by omega
  simp only [Dev.opRead, hl, hbad, ht, hlt, h2, h3]
  rfl

end Looking

/-! ## INSERT, UPDATE and DELETE (R277, R284, R285) -/

section Changing

variable {s d y z : Dev} {n k l : Nat} {path : Path} {x : Ent} {bad : List Nat}

/-- A place stored by an operation that window `n` began. -/
theorem Dev.Stores.inWindow (h : Dev.Stores (tableOpen (n / 4)) k l x bad y z) (hy : Dev.Touches (startReg n) s y) :
    Dev.Stores (windowOpen n) k l x bad s z := (h.mono (windowOpen_tableOpen n)).after (hy.mono (windowOpen_startReg n))

/-- An operation that stored a place and ends with RESULT OK. -/
theorem Dev.Stores.windowDone (h : Dev.Stores (windowOpen n) k l x bad s z) (hn : n < 64) (path : Path) :
    (z.windowDone n path).answer.abort = 0 ∧ (z.windowDone n path).rd (0x4040 + n) 0x10 = 0 ∧ (z.windowDone n path).ent k l = x ∧
      s.keeps (windowRegs n) { z.windowDone n path with slots := s.slots, tabs := s.tabs, eccBad := s.eccBad, eccSoft := s.eccSoft } :=
  have hdone := h.touches (Dev.touches_windowDone hn path z)
  ⟨Dev.windowDone_answer .., Dev.windowDone_result .., hdone.ent_eq, hdone.keeps⟩

/-- An entry whose first bucket has a free slot is placed there, no entry moved (R277). -/
theorem Dev.insertEnt_free (hfree : d.freeIn k (bucketsOf (d.seedsNow k) x.key).1 = some l) :
    d.insertEnt k x = (some l, 0, d.putEnt k l (d.inEpoch k x)) := by
  have hplace : d.placeFor k (d.inEpoch k x) = (some l, 0, d) := by
    have hkey : (d.inEpoch k x).key = x.key := rfl
    simp only [Dev.placeFor, hkey, hfree, Option.some_or]
  simp only [Dev.insertEnt, hplace]

theorem Dev.opInsert_places {key res ctl : Nat} (hkey : d.winKey n = key) (hres : d.rd (0x4040 + n) 0xC = res) (hctl : d.rd (0x4040 + n) 0xD = ctl)
    (hok : exactOk (n / 4) key res ctl = true) (hf : d.findKey (n / 4) key = none)
    (hfree : d.freeIn (n / 4) (bucketsOf (d.seedsNow (n / 4)) key).1 = some l) :
    d.opInsert n =
      (((d.putEnt (n / 4) l (d.inEpoch (n / 4) ⟨key, 0, res, insertCtl ctl⟩)).winLoc n (some l)).wr (0x4040 + n) 0x12 0).winDone n 0 := by
  simp only [Dev.opInsert, hkey, hres, hctl, hok, hf, Dev.insertEnt_free (x := ⟨key, 0, res, insertCtl ctl⟩) hfree]
  rfl

/-- Entry `x` of table `k` as an UPDATE leaves it (R284). -/
def Ent.updated (k res ctl : Nat) (x : Ent) : Ent := { x with res := res, ctl := updateCtl k x.ctl ctl res }

theorem Dev.opUpdate_changes {key res ctl : Nat} (hkey : d.winKey n = key) (hres : d.rd (0x4040 + n) 0xC = res) (hctl : d.rd (0x4040 + n) 0xD = ctl)
    (hok : exactOk (n / 4) key res ctl = true) (hf : d.findKey (n / 4) key = some l) (hvalid : bit 0 ctl = true) :
    d.opUpdate n =
      (((d.putEnt (n / 4) l ((d.ent (n / 4) l).updated (n / 4) res ctl)).eccClear (Machine.slotKey (n / 4) l)).winLoc n (some l)).winDone n 0 := by
  simp only [Dev.opUpdate, hkey, hres, hctl, hok, hf, hvalid]
  rfl

theorem Dev.opDelete_removes (hf : d.findKey (n / 4) (d.winKey n) = some l) :
    d.opDelete n = (((d.removeEnt (n / 4) l).eccClear (Machine.slotKey (n / 4) l)).winLoc n (some l)).winDone n 0 := by
  simp only [Dev.opDelete, hf]

/-- UPDATE of a TCAM entry that keeps R267, one of the firmware block through window 0 only. -/
theorem Dev.opTcamWrite_stores {key mask res ctl : Nat} (hkey : d.winKey n % 2 ^ 192 = key) (hmask : d.winMask n = mask)
    (hres : d.rd (0x4040 + n) 0xC = res) (hctl : d.rd (0x4040 + n) 0xD = ctl) (hl : d.rd (0x4040 + n) 2 = l) (hlt : l < 1024)
    (hfirm : l < 32 → n % 4 = 0) (hok : tcamOk (n / 16) key mask res = true) :
    d.opTcamWrite n false = ((d.putEnt (n / 4) l ⟨key, mask, res, ctl % 4⟩).eccClear (Machine.slotKey (n / 4) l)).winDone n 0 := by
  have hq : n / 4 / 4 = n / 16 := by omega
  have hblock : (decide (l < 32) && n % 4 != 0) = false := by
    by_cases h : l < 32
    · simp [hfirm h]
    · simp [h]
  simp only [Dev.opTcamWrite, hkey, hmask, hres, hctl, hl, hq, hok, hblock, Nat.not_le.2 hlt]
  rfl

/-- Where a command starts, the level of a record's port is what it was. -/
theorem Dev.Touches.level1_chPair (hy : Dev.Touches (startReg n) s y) (r : Nat) : y.level1 (chPair r) = s.level1 (chPair r) := by
  have hpair : chPair r < 256 := by
    unfold chPair fld
    omega
  have hport : startReg n (0x2000 + chPair r) 3 = false := by
    have hne : 0x2000 + chPair r ≠ 0x4040 + n := by omega
    simp [startReg, hne, eventReg_between (i := 0x2000 + chPair r) 3 (by omega) (by omega)]
  have hdevice : startReg n 0x1003 1 = false := by
    have hne : 0x1003 ≠ 0x4040 + n := by omega
    simp [startReg, hne, show eventReg 0x1003 1 = false by decide]
  unfold Dev.level1 Dev.levelDev
  rw [hy.rd (by decide) hport, hy.rd (by decide) hdevice, hy.boot_same]

/-- UPDATE of a channel record that keeps its pair and direction, without SET_AN. -/
theorem Dev.opRecord_writes {i c r : Nat} (hn : n < 64) (ht : n / 4 % 4 = 3) (hy : Dev.Touches (startReg n) s y) (hi : i = s.rd (0x4040 + n) 2)
    (hlt : i < 8192) (hc : c = n / 16 * 8192 + i) (hr : r = chanClean (s.winWords n)) (hset : bit 1 (s.rd (0x4040 + n) 3) = false)
    (hok : chanOk (n / 16) r = true) (hlevel : chRx r = true → bit 83 r = false → s.level1 (chPair r) = false)
    (hpair : chPair r = chPair (s.chan c)) (hrx : chRx r = chRx (s.chan c)) :
    ∃ t bad z, y.opRecord n = z.winDone n 0 ∧
      Dev.Touches (windowOpen n) ((s.setChan c (setFld 87 86 r (chAn (s.chan c)))).withEngines t bad) z := by
  have hquad : c / 8192 = n / 16 := by omega
  have htable : 4 * (c / 8192) + 3 = n / 4 := by omega
  obtain ⟨t, bad, z, hz, hwrite⟩ := Dev.writeRecord_stays (d := y) (c := c) (v := s.winWords n) (by omega) hr (by rw [hquad]; exact hok)
    (by rw [hy.level1_chPair]; exact hlevel) (by rw [hy.chan_eq]; exact hpair) (by rw [hy.chan_eq]; exact hrx)
  rw [htable, hy.chan_eq] at hz
  refine ⟨t, bad, z, ?_, (((hy.mono (windowOpen_startReg n)).setChan c _).withEngines t bad).trans (hz.mono (windowOpen_tableOpen n))⟩
  simp only [Dev.opRecord, hy.rd_window hn (j := 2) (by decide) (by decide) (by decide), hy.rd_window hn (j := 3) (by decide) (by decide) (by decide),
    hy.winWords_eq hn, ← hi, hset, Nat.not_le.2 hlt, if_false, ← hc, hwrite]

end Changing

/-- Settles O29: what a command touches before its operation leaves the words, the keys and the entries that the operation reads. -/
theorem tableWindowsLookAndChangeEntries : Obligations.TableWindowsLookAndChangeEntries := by
  unfold Obligations.TableWindowsLookAndChangeEntries
  refine ⟨fun n l path s hn hh ht hf he hi => ?_, fun n l path hit s hn hh ht hf he hclear hi => ?_,
    fun n l path hit s hn hh ht hf he hclear hi => ?_, fun n l path s hn hh ht hl hlt hbad => ?_,
    fun n l path s hn hh ht hlock hok hf hfree => ?_, fun n l path s hn hh ht hlock hok hf hvalid => ?_,
    fun n i path s hn hh ht hi hlt hfirm hlock hok => ?_,
    fun n i c r path s hn hh ht hi hlt hc hr hlock hset hok hlevel hpair hrx => ?_, fun n l path s hn hh ht hlock hf => ?_⟩
  all_goals have hspares := sparesSeeds_startReg hn
  · refine completes_tableCmd (code := 1) (op := fun d => d.opLook n false false) rfl hn hh
      (fun d => by simp [effTableCmd, ht, Dev.winStart]) fun y hy => ?_
    obtain ⟨z, hz, hop⟩ := Dev.opLook_shows (entry := false) (hit := false) hy hn hf he hi rfl
    obtain ⟨hloc, hres, -⟩ := Dev.rd_showEnt n l (s.dev.ent (n / 4) l) false z
    exact ⟨_, hop, Dev.windowDone_answer .., Dev.windowDone_result .., (Dev.rd_windowDone (by decide) _).trans hloc,
      (Dev.rd_windowDone (by decide) _).trans hres, ((hz.trans (Dev.touches_showEnt hn ..)).trans (Dev.touches_windowDone hn ..)).keeps⟩
  · refine completes_tableCmd (code := 6) (op := fun d => d.opLook n true hit) rfl hn hh
      (fun d => by simp [effTableCmd, ht, Dev.winStart]) fun y hy => ?_
    obtain ⟨z, hz, hop⟩ := Dev.opLook_shows (entry := true) (hit := hit) hy hn hf he hi hclear
    obtain ⟨hloc, hres, hctl⟩ := Dev.rd_showEnt n l (s.dev.ent (n / 4) l) true z
    exact ⟨_, hop, Dev.windowDone_answer .., Dev.windowDone_result .., (Dev.rd_windowDone (by decide) _).trans hloc,
      (Dev.rd_windowDone (by decide) _).trans hres, (Dev.rd_windowDone (by decide) _).trans (hctl rfl),
      ((hz.trans (Dev.touches_showEnt hn ..)).trans (Dev.touches_windowDone hn ..)).keeps⟩
  · refine completes_tableCmd (code := 6) (op := fun d => d.opLook n true hit) rfl hn hh
      (fun d => by simp [effTableCmd, ht, Dev.winStart]) fun y hy => ?_
    obtain ⟨hf, he, hi, h3, hent⟩ := hy.found hn hf he hi
    obtain ⟨z, hz, hop⟩ := Dev.opLook_found (entry := true) (hit := hit) hn hf he hi
    rw [h3, hent, hclear, Bool.and_self, when_true] at hop
    obtain ⟨-, -, hctl⟩ := Dev.rd_showEnt n l (s.dev.ent (n / 4) l) true z
    have hshown := ((hy.mono (windowOpen_startReg n)).trans hz).trans (Dev.touches_showEnt hn l (s.dev.ent (n / 4) l) true z)
    have hcleared := Dev.stores_clearActivity (show n / 4 < 16 by omega) l hit (s.dev.ent (n / 4) l) (z.showEnt n l (s.dev.ent (n / 4) l) true)
    have hctl := (hcleared.rd (by decide) (tableOpen_window hn 0xD)).trans (hctl rfl)
    rw [hshown.eccBad_eq] at hcleared
    have hdone := ((hcleared.mono (windowOpen_tableOpen n)).after hshown).touches (Dev.touches_windowDone hn path _)
    exact ⟨_, hop, Dev.windowDone_answer .., Dev.windowDone_result .., (Dev.rd_windowDone (by decide) _).trans hctl, hdone.ent_eq,
      hdone.keeps_errors⟩
  · refine completes_tableCmd (code := 5) (op := Dev.opRead n) rfl hn hh (fun d => by simp [effTableCmd, Dev.winStart]) fun y hy => ?_
    have hop := Dev.opRead_shows ht ((hy.rd_window hn (by decide) (by decide) (by decide)).trans hl.symm) hlt (by rw [hy.eccBad_eq]; exact hbad)
    rw [hy.ent_eq] at hop
    obtain ⟨hloc, hres, hctl⟩ := Dev.rd_showSlot hn l (s.dev.ent (n / 4) l) y
    exact ⟨_, hop, Dev.windowDone_answer .., Dev.windowDone_result .., (Dev.rd_windowDone (by decide) _).trans hloc,
      (Dev.rd_windowDone (by decide) _).trans hres, (Dev.rd_windowDone (by decide) _).trans hctl,
      (((hy.mono (windowOpen_startReg n)).trans (Dev.touches_showSlot hn ..)).trans (Dev.touches_windowDone hn ..)).keeps⟩
  · refine completes_unlockedCmd (code := 2) (op := Dev.opInsert n) rfl hn hh hlock
      (fun d => by simp [effTableCmd, Nat.not_le.2 ht, Dev.winStart]) fun y hy => ?_
    have hop := Dev.opInsert_places (l := l) (hy.winKey_eq hn) (hy.rd_window hn (by decide) (by decide) (by decide))
      (hy.rd_window hn (by decide) (by decide) (by decide)) hok ((hy.findKey_eq hspares _).trans hf)
      (by rw [hy.freeIn_eq, hy.seedsNow_eq hspares]; exact hfree)
    have hput := ((Dev.stores_putEnt (show n / 4 < 16 by omega) l (y.inEpoch (n / 4) ⟨s.dev.winKey n, 0, s.dev.rd (0x4040 + n) 0xC,
      insertCtl (s.dev.rd (0x4040 + n) 0xD)⟩) y).inWindow hy).touches
      ((Dev.touches_winLoc hn (some l) _).trans (Dev.touches_winWrite hn (j := 0x12) (by decide) 0 _))
    obtain ⟨habort, hresult, hent, hkeeps⟩ := hput.windowDone hn path
    refine ⟨_, hop, habort, hresult, ?_, ?_, hent.trans ?_, hkeeps⟩
    · rw [Dev.rd_windowDone (by decide), Dev.rd_wr_ne _ _ (by omega), Dev.rd_winLoc]
    · rw [Dev.rd_windowDone (by decide), Dev.rd_wr_self]
    · rw [Dev.inEpoch, hy.tab_eq]
  · refine completes_unlockedCmd (code := 3) (op := Dev.opUpdate n) rfl hn hh hlock
      (fun d => by simp [effTableCmd, ht, Dev.winStart]) fun y hy => ?_
    have hop := Dev.opUpdate_changes (l := l) (hy.winKey_eq hn) (hy.rd_window hn (by decide) (by decide) (by decide))
      (hy.rd_window hn (by decide) (by decide) (by decide)) hok ((hy.findKey_eq hspares _).trans hf) hvalid
    rw [hy.ent_eq] at hop
    have hput := (((Dev.stores_putEnt (show n / 4 < 16 by omega) l ((s.dev.ent (n / 4) l).updated (n / 4) (s.dev.rd (0x4040 + n) 0xC)
      (s.dev.rd (0x4040 + n) 0xD)) y).inWindow hy).eccClear (slotKey (n / 4) l)).touches (Dev.touches_winLoc hn (some l) _)
    obtain ⟨habort, hresult, hent, hkeeps⟩ := hput.windowDone hn path
    exact ⟨_, hop, habort, hresult, (Dev.rd_windowDone (by decide) _).trans (Dev.rd_winLoc ..), hent, hkeeps⟩
  · refine completes_unlockedCmd (code := 3) (op := Dev.opTcamWrite n false) rfl hn hh hlock
      (fun d => by simp [effTableCmd, ht, Dev.winStart]) fun y hy => ?_
    have hop := Dev.opTcamWrite_stores (l := i) (by rw [hy.winKey_eq hn]) (hy.winMask_eq hn)
      (hy.rd_window hn (by decide) (by decide) (by decide)) (hy.rd_window hn (by decide) (by decide) (by decide))
      ((hy.rd_window hn (by decide) (by decide) (by decide)).trans hi.symm) hlt hfirm hok
    have hput := ((Dev.stores_putEnt (show n / 4 < 16 by omega) i ⟨s.dev.winKey n % 2 ^ 192, s.dev.winMask n, s.dev.rd (0x4040 + n) 0xC,
      s.dev.rd (0x4040 + n) 0xD % 4⟩ y).inWindow hy).eccClear (slotKey (n / 4) i)
    exact ⟨_, hop, hput.windowDone hn path⟩
  · refine completes_unlockedCmd (code := 3) (op := Dev.opRecord n) rfl hn hh hlock
      (fun d => by simp [effTableCmd, ht, Dev.winStart]) fun y hy => ?_
    obtain ⟨t, bad, z, hop, hput⟩ := Dev.opRecord_writes hn ht hy hi hlt hc hr hset hok hlevel hpair hrx
    have hdone := hput.trans (Dev.touches_windowDone hn path z)
    refine ⟨z, hop, Dev.windowDone_answer .., Dev.windowDone_result .., ?_, hdone.keeps_record⟩
    rw [hdone.chan_eq, Dev.chan_withEngines, Dev.chan_setChan]
  · refine completes_unlockedCmd (code := 4) (op := Dev.opDelete n) rfl hn hh hlock
      (fun d => by simp [effTableCmd, ht, Dev.winStart]; omega) fun y hy => ?_
    have hop := Dev.opDelete_removes (l := l) (n := n) (d := y) (by rw [hy.winKey_eq hn, hy.findKey_eq hspares]; exact hf)
    have hput := (((Dev.stores_removeEnt (show n / 4 < 16 by omega) l y).inWindow hy).eccClear (slotKey (n / 4) l)).touches
      (Dev.touches_winLoc hn (some l) _)
    obtain ⟨habort, hresult, hent, hkeeps⟩ := hput.windowDone hn path
    rw [hy.ent_eq] at hent
    exact ⟨_, hop, habort, hresult, (Dev.rd_windowDone (by decide) _).trans (Dev.rd_winLoc ..), hent, hkeeps⟩

end Sys2Proof.Machine

namespace Sys2Proof.Machine

/-! ## Tables filled by several stores -/

section Restocking

variable {p : Nat → Nat → Bool} {a b c d : Dev} {k loc : Nat} {x : Ent} {bad : List Nat}

/-- `a` with the entries of the tables, their engines and the marks of their errors as in `x`. -/
def Dev.restocked (a x : Dev) : Dev := { a with slots := x.slots, tabs := x.tabs, eccBad := x.eccBad, eccSoft := x.eccSoft }

/-- `b` comes from `a` by changes of those parts and by what touches registers on which `p` holds. -/
def Dev.Restocks (p : Nat → Nat → Bool) (a b : Dev) : Prop := ∃ x, Dev.Touches p (a.restocked x) b

theorem Dev.Restocks.refl (p : Nat → Nat → Bool) (a : Dev) : Dev.Restocks p a a := ⟨a, .refl⟩

theorem Dev.Restocks.trans (h : Dev.Restocks p a b) (k : Dev.Restocks p b c) : Dev.Restocks p a c := by
  obtain ⟨x, h⟩ := h
  obtain ⟨y, k⟩ := k
  exact ⟨y, (h.map (f := fun z => z.restocked y) (fun _ => rfl) (fun _ _ _ _ => rfl) fun hc => by rw [hc]; rfl).trans k⟩

theorem Dev.Stores.restocks (h : Dev.Stores p k loc x bad a b) : Dev.Restocks p a b := by
  obtain ⟨t, h⟩ := h
  exact ⟨(a.storeEnt k loc x).withEngines t bad, h⟩

end Restocking

/-! ## The table-DMA engine (R286) -/

section Engine

variable {p : Nat → Nat → Bool} {a d s z : Dev} {op t n : Nat} {g : DmaDesc} {b : List Byte} {j : DmaJob} {rest : List (Nat × DmaJob)}

/-- A read operation of table DMA. -/
def isDmaRead (op : Nat) : Prop := op = 1 ∨ op = 3 ∨ op = 5 ∨ op = 7

/-- A descriptor of table-DMA ring `t` whose turn it is: nothing is in progress, and its table answers. -/
structure Dev.DmaFront (t : Nat) (g : DmaDesc) (d : Dev) : Prop where
  avail : (d.ring (128 + t)).avail = true
  up : d.endpointUp = true
  idle : d.dmaRuns = []
  table : g.table < 16
  aligned : g.addr % 64 = 0
  answers : d.answersOff (tabDom (g.table / 4)) = false

/-- A unit read of a table that answers does not wait. -/
theorem Dev.dmaWaits_read (ha : d.answersOff (tabDom (j.desc.table / 4)) = false) (hop : isDmaRead j.op) : d.dmaWaits j = false := by
  have hlive : d.pstate (tabDom (j.desc.table / 4)) ≠ psToOn := fun h => by
    simp only [Dev.answersOff, Dev.isLive, h] at ha
    exact absurd ha (by decide)
  have hread : (decide (j.op % 2 = 0) || decide (j.op = 9)) = false := by
    rcases hop with h | h | h | h <;> rw [h] <;> rfl
  simp [Dev.dmaWaits, hlive, hread]

/-- A unit of a table whose domain runs does not wait. -/
theorem Dev.dmaWaits_runs (hr : d.runs (tabDom (j.desc.table / 4)) = true) : d.dmaWaits j = false := by
  simp only [Dev.runs, Dev.isOn, Bool.and_eq_true, decide_eq_true_eq] at hr
  obtain ⟨hon, hclock⟩ := hr
  simp [Dev.dmaWaits, hon, hclock, psOn, psToOn, psRetain]

/-- A descriptor in range, of an operation that its table has, begins. -/
theorem Dev.dmaRefusal_none (hf : d.DmaFront t g) (hfits : dmaFits op g.table = true) (hcount : 0 < g.count)
    (hrange : g.first + g.count ≤ (dmaUnits op g.table).1) (hbar : d.dmaBar op g.table = none)
    (hlen : isDmaRead op ∨ (dmaUnits op g.table).2 * g.count ≤ b.length) : d.dmaRefusal op g (some b) = none := by
  have hnamed : (decide (16 ≤ g.table) || !dmaFits op g.table || g.addr % 64 != 0 || decide (g.count = 0) ||
      decide ((dmaUnits op g.table).1 < g.first + g.count)) = false := by
    simp [hfits, hf.aligned, Nat.not_le.2 hf.table, Nat.not_lt.2 hrange, hcount.ne']
  have hwhole : ((decide (op % 2 = 0) || decide (op = 9)) && decide (b.length < (dmaUnits op g.table).2 * g.count)) = false := by
    rcases hlen with hop | hlen
    · rcases hop with h | h | h | h <;> rw [h] <;> rfl
    · simp [Nat.not_lt.2 hlen]
  simp only [Dev.dmaRefusal, hnamed, hbar, hwhole, Bool.false_eq_true, if_false]

/-- The block with other descriptors in progress. -/
def Dev.withDma (l : List (Nat × DmaJob)) (d : Dev) : Dev := { d with dmaRuns := l }

/-- One unit of the descriptor whose turn it is. -/
theorem Dev.dmaServe_unit (hd : d.dmaRuns = (t, j) :: rest) (hw : d.dmaWaits j = false) (hb : d.dmaBar j.op j.desc.table = none)
    (hu : (d.withDma rest).dmaNext j = (n, z)) :
    d.dmaServe = if j.desc.count ≤ j.next + 1 then z.dmaEnd t j.desc (dmaResult j.op (j.refused + n)) (j.refused + n)
      else z.withDma (z.dmaRuns ++ [(t, { j with next := j.next + 1, refused := j.refused + n })]) := by
  have hbar : Dev.dmaBar { d with dmaRuns := rest } j.op j.desc.table = none := hb
  have hnext : Dev.dmaNext j { d with dmaRuns := rest } = (n, z) := hu
  simp only [Dev.dmaServe, hd, List.takeWhile_cons, hw, Bool.false_eq_true, if_false, List.foldl_nil, List.length_nil, List.drop_zero,
    List.nil_append, hbar, hnext]
  rfl

/-- The first unit of a descriptor that begins, none of it refused. -/
theorem Dev.dma_begins (hf : d.DmaFront t g) (hr : d.dmaRefusal op g (some b) = none) (hw : d.dmaWaits ⟨op, g, b, 0, 0⟩ = false)
    (hbar : d.dmaBar op g.table = none) (hu : d.dmaNext ⟨op, g, b, 0, 0⟩ = (0, z)) :
    d.dma op t g (some b) = if g.count ≤ 1 then z.dmaEnd t g 0 0 else z.withDma (z.dmaRuns ++ [(t, ⟨op, g, b, 1, 0⟩)]) := by
  have hdrain : d.dmaDrain t d.dmaLeft = d := by rw [Dev.dmaLeft, hf.idle]; rfl
  have hself : (d.withDma [(t, ⟨op, g, b, 0, 0⟩)]).withDma [] = d := by rw [← hf.idle]; rfl
  have hserve : d.dma op t g (some b) = (d.withDma [(t, ⟨op, g, b, 0, 0⟩)]).dmaServe := by
    simp only [Dev.dma, hdrain, hf.avail, hf.up, hf.idle, hr]
    rfl
  rw [hserve]
  exact Dev.dmaServe_unit (d := d.withDma [(t, ⟨op, g, b, 0, 0⟩)]) rfl hw hbar (hself.symm ▸ hu)

/-- A unit of a read operation is put at its place in the host's memory. -/
theorem Dev.dmaNext_read (hop : isDmaRead j.op) (d : Dev) : d.dmaNext j = (0, d.emit (.hostWrite
    (j.desc.addr + (dmaUnits j.op j.desc.table).2 * j.next) (d.dmaRead j.op j.desc.table (j.desc.first + j.next)))) := by
  have hread : (decide (j.op % 2 = 1) && j.op != 9) = true := by
    rcases hop with h | h | h | h <;> rw [h] <;> rfl
  simp only [Dev.dmaNext, hread, if_true]

theorem exec_dmaCommand (hop : isDmaRead op) (t : Nat) (g : DmaDesc) (i : Option (List Byte)) (s : State) :
    exec (dmaCommand op t g i) s = actIf (t < 8) (Dev.dma op t g i) s := by
  rcases hop with rfl | rfl | rfl | rfl <;> rfl

/-- The first unit of a write operation acts on the table. -/
theorem Dev.dmaNext_write (hop : op = 2 ∨ op = 4 ∨ op = 6 ∨ op = 8 ∨ op = 9) (hn : (dmaUnits op g.table).2 = n) (b : List Byte) (d : Dev) :
    d.dmaNext ⟨op, g, b, 0, 0⟩ = Dev.dmaUnit op g.table g.first g.setAn (slice 0 n b) (0, d) := by
  have hwrite : (decide (op % 2 = 1) && op != 9) = false := by
    rcases hop with h | h | h | h | h <;> rw [h] <;> rfl
  simp only [Dev.dmaNext, hwrite, hn, Bool.false_eq_true, if_false, Nat.mul_zero, Nat.add_zero]

/-! The write-back of a descriptor that ends with RESULT OK. -/

/-- Ring `r` with its CONS moved on by one. -/
def Dev.consumed (r : Nat) (d : Dev) : Dev := d.setRing r { d.ring r with cons := (d.ring r).succ (d.ring r).cons }

theorem Dev.Touches.setRing (h : Dev.Touches p a d) (r : Nat) (x : Ring) : Dev.Touches p (a.setRing r x) (d.setRing r x) :=
  h.map (f := Dev.setRing r x) (fun _ => rfl) (fun _ _ _ _ => rfl) fun hc => by rw [hc]; rfl

theorem Dev.Touches.rings_eq (h : Dev.Touches p a d) : d.rings = a.rings := by rw [h.same]

theorem Dev.Touches.consumed (h : Dev.Touches p a d) (r : Nat) : Dev.Touches p (a.consumed r) (d.consumed r) := by
  unfold Dev.consumed Dev.ring
  rw [h.rings_eq]
  exact h.setRing r _

theorem Dev.chan_consumed (r c : Nat) (d : Dev) : (d.consumed r).chan c = d.chan c := rfl

theorem Dev.tab_consumed (r k : Nat) (d : Dev) : (d.consumed r).tab k = d.tab k := rfl

theorem Dev.dmaEnd_ok (t : Nat) (g : DmaDesc) (d : Dev) : d.dmaEnd t g 0 0 =
    (d.emit (.hostWrite ((d.ring (128 + t)).descAddr (128 + t) + 16) ([BitVec.ofNat 8 (1 + 4 * b2n g.setAn), 0] ++ toLE 2 0))).advanceRing
      (128 + t) := rfl

/-- A table-DMA ring advances its CONS; what follows is put out. -/
theorem Dev.advanceRing_dma (t : Nat) (d : Dev) : Dev.Touches p (d.consumed (128 + t)) (d.advanceRing (128 + t)) ∧
    Dev.Puts (d.consumed (128 + t)) (d.advanceRing (128 + t)) := by
  have h64 : ¬ 128 + t < 64 := by omega
  have h128 : ¬ 128 + t < 128 := by omega
  simp only [Dev.advanceRing, h64, h128, if_false]
  exact ⟨(Dev.Touches.when (.emit _ _)).trans (.when (Dev.touches_sendMsix p _ _)),
    Dev.Puts.trans (Dev.Puts.ite (.emit _ rfl) (.refl _)) (Dev.Puts.ite (Dev.puts_sendMsix _ _) (.refl _))⟩

theorem Dev.touches_dmaEnd (t : Nat) (g : DmaDesc) (d : Dev) : Dev.Touches p (d.consumed (128 + t)) (d.dmaEnd t g 0 0) := by
  rw [Dev.dmaEnd_ok]
  exact ((Dev.Touches.emit d _).consumed (128 + t)).trans (Dev.advanceRing_dma t _).1

/-- What was put out before stands when a descriptor has ended. -/
theorem Dev.emits_dmaEnd {e : Emit} (he : e ∈ d.emits) : e ∈ (d.dmaEnd t g 0 0).emits := by
  rw [Dev.dmaEnd_ok]
  exact (Dev.advanceRing_dma (p := eventReg) t _).2.mem (List.mem_cons_of_mem _ he)

/-- A descriptor that ends OK is written back so, and CONS of its ring advances. -/
theorem Dev.dmaEnd_written (hz : z.rings = s.rings) :
    .hostWrite ((s.ring (128 + t)).descAddr (128 + t) + 16) ([BitVec.ofNat 8 (1 + 4 * b2n g.setAn), 0] ++ toLE 2 0) ∈ (z.dmaEnd t g 0 0).emits ∧
      ((z.dmaEnd t g 0 0).ring (128 + t)).cons = (s.ring (128 + t)).succ (s.ring (128 + t)).cons := by
  have hring : z.ring (128 + t) = s.ring (128 + t) := by unfold Dev.ring; rw [hz]
  constructor
  · rw [Dev.dmaEnd_ok, hring]
    exact (Dev.advanceRing_dma (p := eventReg) t _).2.mem (List.mem_cons_self ..)
  · have hcons : (z.dmaEnd t g 0 0).ring (128 + t) = (z.consumed (128 + t)).ring (128 + t) := by
      unfold Dev.ring
      rw [(Dev.touches_dmaEnd (p := eventReg) t g z).rings_eq]
    rw [hcons, Dev.consumed, Dev.ring, Dev.setRing, Tbl.get_set_self, hring]

/-- What ends with a descriptor, its ring moved on. -/
theorem Dev.Touches.dmaEnd (h : Dev.Touches p a z) (t : Nat) (g : DmaDesc) : Dev.Touches p (a.consumed (128 + t)) (z.dmaEnd t g 0 0) :=
  (h.consumed (128 + t)).trans (Dev.touches_dmaEnd t g z)

/-- A descriptor of one unit, served at once. -/
theorem completes_dmaUnit {c : Instr} {st : State} {P : Dev → Prop} (he : exec c st = actIf (t < 8) (Dev.dma op t g (some b)) st) (ht : t < 8)
    (hf : st.dev.DmaFront t g) (hw : st.dev.dmaWaits ⟨op, g, b, 0, 0⟩ = false) (hbar : st.dev.dmaBar op g.table = none)
    (hfits : dmaFits op g.table = true) (hcount : g.count = 1) (hfirst : g.first < (dmaUnits op g.table).1)
    (hlen : isDmaRead op ∨ (dmaUnits op g.table).2 ≤ b.length) (hu : st.dev.dmaNext ⟨op, g, b, 0, 0⟩ = (0, z))
    (hP : P (z.dmaEnd t g 0 0)) : Completes c st P := by
  refine completes_actIf he (by simpa using ht) ?_
  have hrefusal := Dev.dmaRefusal_none (op := op) (b := b) hf hfits (by omega) (by omega) hbar (by rw [hcount, Nat.mul_one]; exact hlen)
  rw [Dev.dma_begins hf hrefusal hw hbar hu, if_pos hcount.le]
  exact hP

/-- A table that answers bars no operation that needs no lock. -/
theorem Dev.dmaBar_lockless (ha : d.answersOff (tabDom (g.table / 4)) = false) (hop : dmaWrites op = false) : d.dmaBar op g.table = none := by
  simp [Dev.dmaBar, ha, hop]

/-- A table that answers and that HOST has locked bars none. -/
theorem Dev.dmaBar_locked (ha : d.answersOff (tabDom (g.table / 4)) = false) (hlock : (d.tab g.table).lock.map (fun x => x.1) = some .host) :
    d.dmaBar op g.table = none := by
  simp [Dev.dmaBar, ha, hlock]

theorem not_dmaWrites_of_isDmaRead (hop : isDmaRead op) : dmaWrites op = false := by
  rcases hop with h | h | h | h <;> rw [h] <;> rfl

theorem Dev.ent_dmaEnd (k l : Nat) (z : Dev) : (z.dmaEnd t g 0 0).ent k l = z.ent k l :=
  (Dev.touches_dmaEnd (p := eventReg) t g z).ent_eq k l

theorem Dev.rings_withEngines (u : Tbl Tab) (bad : List Nat) (d : Dev) : (d.withEngines u bad).rings = d.rings := rfl

theorem Dev.rings_setChan (c v : Nat) (d : Dev) : (d.setChan c v).rings = d.rings := rfl

theorem Dev.Restocks.rings_eq (h : Dev.Restocks p a z) : z.rings = a.rings := by
  obtain ⟨x, h⟩ := h
  exact (Dev.Touches.rings_eq h).trans rfl

/-- What filling a table keeps, its descriptor ended. -/
theorem Dev.Restocks.keeps_dmaEnd {k : Nat} (h : Dev.Restocks (tableOpen k) a z) : a.keeps (tableRegs k)
    { z.dmaEnd t g 0 0 with slots := a.slots, tabs := a.tabs, eccBad := a.eccBad, eccSoft := a.eccSoft, rings := a.rings } := by
  obtain ⟨x, h⟩ := h
  exact (h.dmaEnd t g).keeps.beside
    (fun y => { y with slots := a.slots, tabs := a.tabs, eccBad := a.eccBad, eccSoft := a.eccSoft, rings := a.rings }) rfl fun _ => rfl

/-- What writing a record keeps, its descriptor ended. -/
theorem Dev.Touches.keeps_recordDma {k c v : Nat} {u : Tbl Tab} {bad : List Nat}
    (h : Dev.Touches (tableOpen k) ((a.setChan c v).withEngines u bad) z) : a.keeps (tableRegs k)
      { z.dmaEnd t g 0 0 with
        chans := a.chans, counters := a.counters, tabs := a.tabs, eccBad := a.eccBad, eccSoft := a.eccSoft, rings := a.rings } :=
  (h.dmaEnd t g).keeps.beside (fun y => { y with
    chans := a.chans, counters := a.counters, tabs := a.tabs, eccBad := a.eccBad, eccSoft := a.eccSoft, rings := a.rings }) rfl fun _ => rfl

/-- What changing a table's engine keeps, its descriptor ended. -/
theorem Dev.keeps_plumbDma {u : Tbl Tab} (hz : z = a.withEngines u a.eccBad) :
    a.keeps (fun _ _ => false) { z.dmaEnd t g 0 0 with tabs := a.tabs, rings := a.rings } := by
  have htouch : Dev.Touches eventReg (a.withEngines u a.eccBad) z := hz ▸ .refl
  exact (htouch.dmaEnd t g).keepsAll.beside (fun y => { y with tabs := a.tabs, rings := a.rings }) rfl fun _ => rfl

end Engine

/-! ## One unit of each write operation (R265, R287, R300) -/

section Units

variable {d z : Dev} {k loc n u : Nat} {b : Bytes} {e : Ent}

theorem bit_putBit_self (i v : Nat) (x : Bool) : bit i (putBit i v x) = x := by
  cases x
  · exact bit_clrBit_self i v
  · exact bit_setBit_self i v

theorem bit_putBit_ne {i v m : Nat} (h : m ≠ i) (x : Bool) : bit m (putBit i v x) = bit m v := by
  cases x
  · exact bit_clrBit_ne h
  · exact bit_setBit_ne h

/-- A slot image leaves VALID as its checks say. -/
theorem Dev.valid_imageCtl (k : Nat) (o e : Ent) (ok : Bool) (d : Dev) : bit 0 (d.imageCtl k o e ok) = ok := by
  unfold Dev.imageCtl
  rw [bit_putBit_ne (by decide), bit_putBit_ne (by decide), bit_putBit_self]

/-- A slot of an image that is not valid leaves its place invalid. -/
theorem Dev.dmaSlot_invalid (hk : k < 16) (hv : (imageSlot b).valid = false) (loc n : Nat) (d : Dev) :
    ∃ x bad z, x.valid = false ∧ Dev.Stores (tableOpen k) k loc x bad d z ∧ Dev.dmaSlot k loc b (n, d) = (n, z) := by
  refine ⟨_, _, _, ?_, (Dev.stores_putEnt hk loc { imageSlot b with ctl := d.imageCtl k (d.ent k loc) (imageSlot b) false } d).eccClear
    (Machine.slotKey k loc), ?_⟩
  · exact Dev.valid_imageCtl ..
  · simp only [Dev.dmaSlot, hv, Bool.false_and, b2n, Bool.false_eq_true, if_false, Nat.add_zero]

/-- A valid slot that keeps R263 to R265 is stored in the stash. -/
theorem Dev.dmaSlot_stash (hk : k < 16) (hloc : 0x8000 ≤ loc) (he : e = imageSlot b) (hv : e.valid = true)
    (hok : exactOk k e.key e.res e.ctl = true) (n : Nat) (d : Dev) :
    ∃ bad z, Dev.Stores (tableOpen k) k loc { e with ctl := d.imageCtl k (d.ent k loc) e true } bad d z ∧
      Dev.dmaSlot k loc b (n, d) = (n, z) := by
  subst he
  refine ⟨_, _, (Dev.stores_putEnt hk loc { imageSlot b with ctl := d.imageCtl k (d.ent k loc) (imageSlot b) true } d).eccClear
    (Machine.slotKey k loc), ?_⟩
  simp only [Dev.dmaSlot, hv, hok, hloc, decide_true, Bool.true_or, Bool.and_self, Bool.not_true, Bool.and_false, b2n, Bool.false_eq_true, if_false,
    Nat.add_zero]

/-- The slots of bucket `u` before slot `m` written from the images in `b`. -/
def Dev.dmaSlots (k u : Nat) (b : Bytes) (m : Nat) (x : Nat × Dev) : Nat × Dev :=
  (List.range m).foldl (fun y j => Dev.dmaSlot k (4 * u + j) (slice (64 * j) 64 b) y) x

theorem Dev.dmaSlots_succ (k u : Nat) (b : Bytes) (m : Nat) (x : Nat × Dev) :
    Dev.dmaSlots k u b (m + 1) x = Dev.dmaSlot k (4 * u + m) (slice (64 * m) 64 b) (Dev.dmaSlots k u b m x) := by
  rw [Dev.dmaSlots, List.range_succ, List.foldl_append]
  rfl

/-- Images of invalid slots leave their places invalid, each in its turn. -/
theorem Dev.dmaSlots_invalid (hk : k < 16) (m : Nat) (hinv : ∀ j, j < m → (imageSlot (slice (64 * j) 64 b)).valid = false) (u : Nat) (d : Dev) :
    ∃ z, Dev.Restocks (tableOpen k) d z ∧ (∀ j, j < m → (z.ent k (4 * u + j)).valid = false) ∧ Dev.dmaSlots k u b m (0, d) = (0, z) := by
  induction m with
  | zero => exact ⟨d, .refl _ d, fun j hj => absurd hj (by omega), rfl⟩
  | succ m ih =>
    obtain ⟨y, hy, hbefore, heq⟩ := ih fun j hj => hinv j (by omega)
    obtain ⟨x, bad, z, hx, hz, hslot⟩ := Dev.dmaSlot_invalid hk (hinv m (by omega)) (4 * u + m) 0 y
    refine ⟨z, hy.trans hz.restocks, fun j hj => ?_, by rw [Dev.dmaSlots_succ, heq, hslot]⟩
    by_cases hjm : j = m
    · rw [hjm, hz.ent_eq, hx]
    · rw [hz.ent_ne (by omega), hbefore j (by omega)]

theorem Dev.dmaUnit_buckets (k u : Nat) (an : Bool) (b : Bytes) (x : Nat × Dev) : Dev.dmaUnit 2 k u an b x = Dev.dmaSlots k u b 4 x := rfl

theorem Dev.dmaUnit_stash (k u : Nat) (an : Bool) (b : Bytes) (x : Nat × Dev) : Dev.dmaUnit 4 k u an b x = Dev.dmaSlot k (0x8000 + u) b x := rfl

theorem Dev.dmaUnit_entries (k u : Nat) (an : Bool) (b : Bytes) (x : Nat × Dev) : Dev.dmaUnit 6 k u an b x =
    if 32 ≤ u && tcamOk (k / 4) (imageTcam b).key (imageTcam b).mask (imageTcam b).res
    then (x.1, (x.2.putEnt k u (imageTcam b)).eccClear (Machine.slotKey k u)) else (x.1 + 1, x.2) := rfl

theorem Dev.dmaUnit_records {an : Bool} {x : Nat × Dev} (h : x.2.writeRecord (k / 4 * 8192 + u) (ofLE b) an = (0, z)) :
    Dev.dmaUnit 8 k u an b x = (x.1, z) := by
  unfold Dev.dmaUnit
  simp only [h, if_true]

/-- A TCAM entry above the firmware block that keeps R267 is stored. -/
theorem Dev.dmaUnit_tcam (hk : k < 16) (hu : 32 ≤ u) (he : e = imageTcam b) (hok : tcamOk (k / 4) e.key e.mask e.res = true) (an : Bool) (d : Dev) :
    ∃ bad z, Dev.Stores (tableOpen k) k u e bad d z ∧ Dev.dmaUnit 6 k u an b (0, d) = (0, z) := by
  subst he
  refine ⟨_, _, (Dev.stores_putEnt hk u (imageTcam b) d).eccClear (Machine.slotKey k u), ?_⟩
  rw [Dev.dmaUnit_entries, if_pos (by rw [hok]; simpa using hu)]

/-- A plumb block written reads as written. -/
theorem Dev.plumb_plumbWrite (k n v : Nat) (d : Dev) : Tbl.get (fun _ => 0) ((d.plumbWrite k n v).tab k).plumb n = v := by
  have hdirty : ∀ y : Dev, ((y.dirty k n).tab k).plumb = (y.tab k).plumb := fun y => by
    unfold Dev.dirty
    simp only
    split
    · rfl
    · rw [Dev.tab, Dev.setTab, Tbl.get_set_self]
  rw [Dev.plumbWrite, hdirty, Dev.tab, Dev.setTab, Tbl.get_set_self, Tbl.get_set_self]

theorem Dev.plumbWrite_eq (k n v : Nat) (d : Dev) : ∃ t, d.plumbWrite k n v = d.withEngines t d.eccBad := by
  obtain ⟨t, ht⟩ := (d.setTab k { d.tab k with plumb := Tbl.set (fun _ => 0) (d.tab k).plumb n v }).dirty_eq k n
  exact ⟨t, ht⟩

/-- A plumb image written sets its block. -/
theorem Dev.dmaUnit_plumb (k n : Nat) (an : Bool) (b : Bytes) (d : Dev) : ∃ t z, z = d.withEngines t d.eccBad ∧
    Tbl.get (fun _ => 0) (z.tab k).plumb n = leAt 0 4 b + leAt 4 1 b % 2 * 2 ^ 32 ∧ Dev.dmaUnit 9 k n an b (0, d) = (0, z) := by
  obtain ⟨t, ht⟩ := d.plumbWrite_eq k n (leAt 0 4 b + leAt 4 1 b % 2 * 2 ^ 32)
  exact ⟨t, _, ht, Dev.plumb_plumbWrite .., rfl⟩

end Units

/-- Settles O32: the descriptor begins at once, its unit acts on what the table holds, and its end writes it back and advances its ring. -/
theorem tableDmaMovesImages : Obligations.TableDmaMovesImages := by
  unfold Obligations.TableDmaMovesImages
  refine ⟨fun op t g b s ht hav hup hidle htab hal hans hop hfits hcount hfirst => ?_,
    fun op t g b s ht hav hup hidle htab hal hans hop hfits hcount hrange => ?_, fun t j rest s hd hb hop hnext => ?_,
    fun t g b s ht hav hup hidle htab hal hans hrun hlock hk hcount hfirst hlen hinv => ?_,
    fun t g b e s ht hav hup hidle htab hal hans hrun hlock hk hcount hfirst hlen he hvalid hok => ?_,
    fun t g b e s ht hav hup hidle htab hal hans hrun hlock hk hcount hlow hfirst hlen he hok => ?_,
    fun t g b c r s ht hav hup hidle htab hal hans hrun hlock hk hcount hset hfirst hlen hc hr hok hrx hpair hrx' => ?_,
    fun t g b s ht hav hup hidle htab hal hans hrun hcount hfirst hlen => ?_⟩
  case refine_3 =>
    have hans : s.dev.answersOff (tabDom (j.desc.table / 4)) = false := by
      by_contra h
      rw [Dev.dmaBar, if_pos (by simpa using h)] at hb
      cases hb
    rw [Dev.dmaServe_unit hd (Dev.dmaWaits_read hans hop) hb (Dev.dmaNext_read hop _), if_neg (by omega)]
    exact ⟨List.mem_cons_self .., rfl⟩
  all_goals have hf : s.dev.DmaFront t g := ⟨hav, hup, hidle, htab, hal, hans⟩
  · have hbar := Dev.dmaBar_lockless hans (not_dmaWrites_of_isDmaRead hop)
    refine completes_dmaUnit (op := op) (exec_dmaCommand hop t g (some b) s) ht hf (Dev.dmaWaits_read hans hop) hbar hfits hcount
      hfirst (.inl hop) (Dev.dmaNext_read (j := ⟨op, g, b, 0, 0⟩) hop s.dev) ?_
    obtain ⟨hwritten, hcons⟩ := Dev.dmaEnd_written (s := s.dev) (t := t) (g := g)
      (z := s.dev.emit (.hostWrite (g.addr + (dmaUnits op g.table).2 * 0) (s.dev.dmaRead op g.table (g.first + 0)))) rfl
    have htouch := (Dev.Touches.emit (p := eventReg) s.dev (.hostWrite (g.addr + (dmaUnits op g.table).2 * 0)
      (s.dev.dmaRead op g.table (g.first + 0)))).dmaEnd t g
    exact ⟨Dev.emits_dmaEnd (List.mem_cons_self ..), (congrArg Dev.dmaRuns htouch.same).trans hidle, hwritten, hcons,
      htouch.keepsAll.beside (fun y => { y with rings := s.dev.rings }) rfl fun _ => rfl⟩
  · have hbar := Dev.dmaBar_lockless hans (not_dmaWrites_of_isDmaRead hop)
    refine completes_actIf (f := Dev.dma op t g (some b)) (exec_dmaCommand hop t g (some b) s) (by simpa using ht) ?_
    rw [Dev.dma_begins hf (Dev.dmaRefusal_none hf hfits (by omega) hrange hbar (.inl hop)) (Dev.dmaWaits_read hans hop) hbar
      (Dev.dmaNext_read (j := ⟨op, g, b, 0, 0⟩) hop s.dev), if_neg (by omega)]
    refine ⟨List.mem_cons_self .., ?_, rfl, fun _ _ _ _ _ => rfl, rfl⟩
    exact congrArg (· ++ [(t, (⟨op, g, b, 1, 0⟩ : DmaJob))]) hidle
  all_goals have hwait : ∀ op, s.dev.dmaWaits ⟨op, g, b, 0, 0⟩ = false := fun op => Dev.dmaWaits_runs hrun
  · obtain ⟨z, hz, hinvalid, hunit⟩ := Dev.dmaSlots_invalid (b := slice 0 256 b) htab 4 (fun j hj => hinv j (List.mem_range.2 hj)) g.first s.dev
    obtain ⟨hwritten, hcons⟩ := Dev.dmaEnd_written (t := t) (g := g) hz.rings_eq
    refine completes_dmaUnit (op := 2) rfl ht hf (hwait 2) (Dev.dmaBar_locked hans hlock) (by simpa [dmaFits] using hk) hcount hfirst (.inr hlen)
      ((Dev.dmaNext_write (.inl rfl) rfl b _).trans ((Dev.dmaUnit_buckets ..).trans hunit)) ?_
    exact ⟨fun j hj => by rw [Dev.ent_dmaEnd, hinvalid j hj], hwritten, hcons, hz.keeps_dmaEnd⟩
  · obtain ⟨bad, z, hz, hunit⟩ := Dev.dmaSlot_stash htab (show 0x8000 ≤ 0x8000 + g.first by omega) he hvalid hok 0 s.dev
    obtain ⟨hwritten, hcons⟩ := Dev.dmaEnd_written (t := t) (g := g) hz.restocks.rings_eq
    refine completes_dmaUnit (op := 4) rfl ht hf (hwait 4) (Dev.dmaBar_locked hans hlock) (by simpa [dmaFits] using hk) hcount hfirst (.inr hlen)
      ((Dev.dmaNext_write (.inr (.inl rfl)) rfl b _).trans ((Dev.dmaUnit_stash ..).trans hunit)) ?_
    exact ⟨by rw [Dev.ent_dmaEnd, hz.ent_eq], hwritten, hcons, hz.restocks.keeps_dmaEnd⟩
  · obtain ⟨bad, z, hz, hunit⟩ := Dev.dmaUnit_tcam htab hlow he hok g.setAn s.dev
    obtain ⟨hwritten, hcons⟩ := Dev.dmaEnd_written (t := t) (g := g) hz.restocks.rings_eq
    refine completes_dmaUnit (op := 6) rfl ht hf (hwait 6) (Dev.dmaBar_locked hans hlock) (by simpa [dmaFits] using hk) hcount hfirst (.inr hlen)
      ((Dev.dmaNext_write (.inr (.inr (.inl rfl))) rfl b _).trans hunit) ?_
    exact ⟨by rw [Dev.ent_dmaEnd, hz.ent_eq], hwritten, hcons, hz.restocks.keeps_dmaEnd⟩
  · have hquad : c / 8192 = g.table / 4 := by omega
    obtain ⟨u, bad, z, hz, hwrite⟩ := Dev.writeRecord_stays (by omega) hr hok (fun h => absurd h (by rw [hrx]; decide)) hpair
      (hrx.trans hrx'.symm)
    rw [show 4 * (c / 8192) + 3 = g.table by omega] at hz
    obtain ⟨hwritten, hcons⟩ := Dev.dmaEnd_written (s := s.dev) (t := t) (g := g) 
      (by rw [hz.rings_eq, Dev.rings_withEngines, Dev.rings_setChan])
    have hunit : Dev.dmaUnit 8 g.table g.first g.setAn (slice 0 32 b) (0, s.dev) = (0, z) :=
      Dev.dmaUnit_records (by rw [hset, ← hc]; exact hwrite)
    refine completes_dmaUnit (op := 8) rfl ht hf (hwait 8) (Dev.dmaBar_locked hans hlock) (by simpa [dmaFits] using hk) hcount hfirst (.inr hlen)
      ((Dev.dmaNext_write (.inr (.inr (.inr (.inl rfl)))) rfl b _).trans hunit) ?_
    refine ⟨?_, hwritten, hcons, hz.keeps_recordDma⟩
    rw [(Dev.touches_dmaEnd (p := eventReg) t g z).chan_eq, Dev.chan_consumed, hz.chan_eq, Dev.chan_withEngines, Dev.chan_setChan]
  · obtain ⟨u, z, hz, hplumb, hunit⟩ := s.dev.dmaUnit_plumb g.table g.first g.setAn (slice 0 8 b)
    obtain ⟨hwritten, hcons⟩ := Dev.dmaEnd_written (s := s.dev) (t := t) (g := g) (z := z) (by rw [hz, Dev.rings_withEngines])
    refine completes_dmaUnit (op := 9) rfl ht hf (hwait 9) (Dev.dmaBar_lockless hans rfl) rfl hcount hfirst (.inr hlen)
      ((Dev.dmaNext_write (.inr (.inr (.inr (.inr rfl)))) rfl b _).trans hunit) ?_
    refine ⟨?_, hwritten, hcons, Dev.keeps_plumbDma hz⟩
    rw [(Dev.touches_dmaEnd (p := eventReg) t g z).tab_eq, Dev.tab_consumed, hplumb]

end Sys2Proof.Machine
